-- ==== Sys2Proof/Word.lean ====
section
/-! DEFINITION. The byte and word types of the model and the plainest arithmetic on them. -/
namespace Sys2Proof

/-- One byte of a memory, a command or a table image. -/
abbrev Byte := BitVec 8

/-- One register of the register window (R605: every register is 32 bits wide). -/
abbrev Word := BitVec 32

/-- A counter that stops at its largest value. -/
def satAdd (limit n k : Nat) : Nat := min limit (n + k)

/-- Instants on the window clock are held in twelfths of a nanosecond. -/
def tuPerNs : Nat := 12

end Sys2Proof
end

