-- ==== Sys2Proof/Syntax.lean ====
section
/-! DEFINITION. The commands the block takes: one constructor per row of the opcode table, and the data each carries.

A Balix command (R447) carries its mailbox and the 64 bytes of its ring slot. An event row carries what the board,
the partner devices or the measuring hardware supply: a frame, a measurement, the result of a test. -/
namespace Sys2Proof

/-- A 64-byte command of Table Command format; byte `i` is the byte at offset `i`. -/
structure Cmd where
  bytes : List Byte
  deriving DecidableEq, Repr

/-- The masters of the control interconnect (R488); `host` is the UCIe bridge. -/
inductive Master where
  | debug | cc0 | cc1 | dma | host
  deriving DecidableEq, Repr

/-- One access of a master to the register window: its offset and its size in bytes (R605, R606). -/
structure Access where
  off : Nat
  size : Nat
  deriving DecidableEq, Repr

/-- An access to the register block of one unit of several: one port's, or one time base's. -/
structure UnitAccess where
  unit : Nat
  acc : Access
  deriving DecidableEq, Repr

/-- An access and the master that makes it (R13). -/
structure MasterAccess where
  master : Master
  acc : Access
  deriving DecidableEq, Repr

/-- The kinds of ST 291 packet that ingress and egress tell apart (R166, R255). -/
inductive AncKind where
  | audio | payloadId | edh | timecode | other
  deriving DecidableEq, Repr

/-- One ST 291 packet on its line (R434 names its values). -/
structure AncPacket where
  kind : AncKind
  line : Nat
  did : Nat
  sdid : Nat
  udw : List Nat
  csum : Nat
  deriving DecidableEq, Repr

/-- The fields of the 64-bit line header (R15, Table Line header). -/
structure LineHdr where
  src : Nat
  td : Nat
  parity : Nat
  line : Nat
  tick : Nat
  cls : Nat
  deriving DecidableEq, Repr

/-- A line as the fabric carries it: header, picture format, active samples and packets (R202). -/
structure FabLine where
  hdr : LineHdr
  fmt : Nat
  sampling : Nat
  depth : Nat
  samples : List Nat
  anc : List AncPacket
  deriving DecidableEq, Repr

/-- A source line as it reaches ingress (R173): its line number, the tick of the frame it belongs to, which frame of
the tick, its stamp on the window clock in twelfths of a nanosecond, its samples and packets, whether its CRC or EDH
failed (R149), and for a quad-link source the skew of its links in lines (R150). Of a source on ST 2022-6 the samples are those of
its datagrams (R164). -/
structure LineIn where
  line : Nat
  tick : Nat
  second : Bool
  arrival : Nat
  samples : List Nat
  anc : List AncPacket
  crcError : Bool
  skew : Nat
  deriving DecidableEq, Repr

/-- What ingress measures of a signal over one frame (R145): the bit rate as the class code of Table Stream shares, its 1/1.001
family, the 10-bit words per line, the lines per frame, whether the field bit of the TRS changes within a frame, and the payload
ID as a format and transport when present. -/
structure Structure where
  bitRate : Nat
  family : Bool
  words : Nat
  lines : Nat
  field : Bool
  pid : Option (Nat × Nat)
  deriving DecidableEq, Repr

/-- Samples for Bramble at a block boundary: of each channel imported over a link its samples of the next block, the channels
(source, channel) that carry an ST 337 burst (R170), the rates that ingress measures of the audio of sources against the word
clock, in ppm (R169), and the errors that a fault of the main MAC adds to samples: output channel, sample of the block, error
(R298). -/
structure AudioIn where
  /-- (kind, id, channel) of Table AUD_MAP_IN entry, with the samples. -/
  feeds : List ((Nat × Nat × Nat) × List Int)
  bursts : List (Nat × Nat)
  rates : List (Nat × Int)
  errors : List (Nat × Nat × Int)
  deriving DecidableEq, Repr

/-- One evaluation's measurements (R92, R93): each candidate's frequency against the output over the last 10 s in units
of 0.001 ppm, the phase error of the candidate in use in ns, the frequency to which the loop would bring its output against
the local oscillator in parts per 10^12, and the instant on the window clock of the latest event of each candidate that is
an input or an SDI slot, in twelfths of a nanosecond, where it has had one (R87). -/
structure RefMeas where
  freqs : List Int
  phase : Int
  outPpt : Int
  events : List (Option Nat)
  deriving DecidableEq, Repr

/-- Why a candidate is disqualified (R87, R90). -/
inductive DisqCause where
  | missing | misplaced | offFrequency | timeBase | laneLost | groupLost
  deriving DecidableEq, Repr

/-- What an instance's best master clock algorithm reports (R124, R132, R465). -/
structure GmData where
  slave : Bool
  gm : BitVec 64
  cls : Nat
  acc : Nat
  steps : Nat
  portState : Nat
  masters : List Nat
  utc : Option Nat
  tlv : List Byte
  deriving DecidableEq, Repr

/-- An HBM error of Table Frame store error handling (R195): the last two are uncorrectable reads with no good copy, of a read-out and
of a row of the copy that a tile reads. -/
inductive HbmError where
  | correctable
  | oneCopy
  | controller
  | noCopy (src td : Nat)
  | noScaled (engine tile row : Nat)
  deriving DecidableEq, Repr

/-- How one plane's copy of a line reaches egress (R204, R231, R232): `flips` names words by index with the bits that arrive wrong (of
the word, and from bit 1,024 on of its word check), `errLines` slices with the first word that arrives while that slice drives its plane
error line, `missing` says that the burst did not come within its 64 cycles, and `entryBits` which bits of the crosspoint entry read
wrong, of its 64 and from 64 on of its code. -/
structure CopyFault where
  flips : List (Nat × Nat)
  errLines : List (Nat × Nat)
  missing : Bool
  entryBits : List Nat
  deriving DecidableEq, Repr

/-- An error line of a block (R378, R379): rising or falling, with its syndrome, address and subject. -/
structure FaultLine where
  rise : Bool
  syndrome : Word
  address : Word
  subject : Nat
  deriving DecidableEq, Repr

/-- The error that halts a DMA channel (R508). -/
structure DmaError where
  timeout : Bool
  write : Bool
  addr : Nat
  deriving DecidableEq, Repr

/-- Which link fault a subport reports when it goes down (Table ETH_SUB_STAT). -/
structure LinkFault where
  localFault : Bool
  remoteFault : Bool
  deriving DecidableEq, Repr

/-- The next bits that a PRBS checker compares, each correct or not, and the delay of the loop that they came through in bit periods
(R523). -/
structure PrbsBits where
  correct : List Bool
  loop : Nat
  deriving DecidableEq, Repr

/-- A finished eye scan (R526, R527): 4-byte counts of each point, the row of the data sampler's offset in each eye, and
the run time in ms. -/
structure EyeScan where
  points : List Nat
  samplerRow : List Nat
  ms : Nat
  deriving DecidableEq, Repr

/-- The end of a self-test (R396). -/
structure TestResult where
  pass : Bool
  us : Nat
  detail : BitVec 64
  deriving DecidableEq, Repr

/-- A link negotiation record (R324). `auth` is whether the share signature checks (R336). -/
structure NegRecord where
  index : Nat
  link : Nat
  tag : Word
  pairing : Bool
  crypt : Bool
  stepping : Nat
  variant : Nat
  auth : Bool
  pairId : Bool
  epoch : Nat
  share : List Byte
  deriving DecidableEq, Repr

/-- A received link frame (R333, R337, R338): its sequence number, the low 16 bits of its frame count, whether its CRC and its
authentication pass, how many link cycles ago the far end first sent it, and the sequence numbers of this end's frames for which it
asks again. -/
structure LinkFrame where
  seq : Nat
  low : Nat
  crcOk : Bool
  authOk : Bool
  cycles : Nat
  asks : List Nat
  deriving DecidableEq, Repr

/-- What a member tells of one of its sources, by its global number: its class, its domain and that domain's rate code, and its
stream share in quarters of a Gb/s (R211, R329; how members learn it the spec does not say, log 22). -/
structure RemoteSource where
  src : Nat
  classF : Bool
  td : Nat
  rate : Option Nat
  share : Nat
  deriving DecidableEq, Repr

/-- What the two ends exchange at each tick of a domain (R327); `offset` is this device's GROUP_TB less the partner's in
ns and `instant` the partner's tick instant, in cycles of the link. `departs` gives for PAIRED SDI destinations the departure instants
measured at this device less those at the partner, in steps of 0.1 ns (R369). `sources` and `imports`, the output channels
that the partner takes from this device, are what members learn of each other (R332; how the spec does not say, log 22). -/
structure AlignRecord where
  rate : Option Nat
  timeBase : Bool
  count : Nat
  instant : Nat
  offset : Int
  sources : List RemoteSource
  imports : List Nat
  departs : List (Nat × Int)
  deriving DecidableEq, Repr

/-- A tie reservation from the destination device (R226). -/
structure TieRequest where
  src : Nat
  td : Nat
  tick : Nat
  dev : Nat
  deriving DecidableEq, Repr

/-- The answer to a reservation (R226 to R228): the tick the tie takes effect and its departure port, or a refusal. -/
structure TieAnswer where
  src : Nat
  td : Nat
  result : Option (Nat × Nat)
  align : Int
  deriving DecidableEq, Repr

/-- The heartbeat paths (R344). -/
inductive PairPath where
  | dowel | link
  deriving DecidableEq, Repr

/-- What the boot ROM finds in an image's header and signature (R579): the length, whether the key's hash is the fused one,
whether the signature verifies, and the Balix version. -/
structure Image where
  hdrLen : Nat
  keyHashOk : Bool
  sigOk : Bool
  version : Word
  deriving DecidableEq, Repr

/-- The outcomes of fuse sensing, the reset-only tests and UCIe training at start-up (R576, R580). -/
structure BootTests where
  fuseOk : Bool
  rootOk : Bool
  romOk : Bool
  cc0Ok : Bool
  cc1Ok : Bool
  ucieOk : Bool
  deriving DecidableEq, Repr

/-- What the active mirrors to the standby (R361, R364): with a domain and tick what is sealed for that tick, at td 8 what a snapshot
sends. `hold` is a sealed protect, or lock where `isLock`; `xpt` ends the mirror of a bank. -/
inductive MirrorItem where
  | xpt (td tick : Nat) (entries : List (Nat × Nat × Nat))
  | protect (dst : Nat) (owner : Option Nat)
  | lock (dst : Nat) (owner : Option Nat)
  | gain (td tick : Nat) (entries : List (Nat × Nat × Nat))
  | rampLen (firstAo count len : Nat)
  | hold (isLock : Bool) (dst op sess td tick : Nat)
  | mapIn (td tick : Nat) (entries : List (List Byte))
  | mapOut (td tick : Nat) (entries : List (List Byte))
  | follow (td tick : Nat) (entries : List (List Byte))
  | ref (cmd : Cmd)
  | grain (head : BitVec 384) (count epoch : Nat)
  | config (modes : List Nat) (roles : Nat) (tolerances : List (Nat × Nat × Nat))
  | readout (src td choice : Nat)
  deriving DecidableEq, Repr

/-- A Grain record before it is chained: the header's TYPE, FLAGS, EPOCH and DEVICE, and the body from offset 64
(R428, R429). `flight` names the command whose completion waits for it (R431). -/
structure GrainRec where
  type : Nat
  flags : Nat
  epoch : Nat
  device : Nat
  body : List Byte
  flight : Option Nat
  deriving DecidableEq, Repr

/-- One sample row data segment of an ST 2110-20 packet (R159). -/
structure RtpSeg where
  line : Nat
  offset : Nat
  samples : List Nat
  deriving DecidableEq, Repr

/-- The fields of a UDP packet that classification matches (R153, R156). Addresses are 16 bytes, IPv4 in the first four. -/
structure UdpHdr where
  ipv6 : Bool
  dstIp : List Byte
  srcIp : List Byte
  dstPort : Nat
  srcPort : Nat
  vlan : Option Nat
  ssrc : Nat
  pt : Nat
  deriving DecidableEq, Repr

/-- An RTP packet of a media flow: its timestamp, extended sequence number and payload octets, the sample row data segments of
ST 2110-20, the packets of ST 2110-40, the samples of ST 2110-30 or -31, one list of channels a sample instant, and of ST 2022-6
the octets of the SDI stream with the marker of a frame's last datagram. -/
structure RtpPkt where
  ts : Nat
  seq : Nat
  octets : Nat
  segs : List RtpSeg
  anc : List AncPacket
  audio : List (List Int)
  media : List Byte
  marker : Bool
  deriving DecidableEq, Repr

/-- Where a frame goes that is no media packet (R157, R529, PORT_CONFIG HOSTFLT). -/
inductive HostClass where
  | multicast | unicastMine | broadcast | other
  deriving DecidableEq, Repr

/-- A received PTP frame: its domainNumber, whether it is an event message, whether it is an Announce and the UTC offset that one
gives, of a Delay_Req the portIdentity and the sequenceId that its Delay_Resp names, and the ST 2059-2 synchronisation metadata TLV
that it carries, if any (R131 to R133). -/
structure PtpFrame where
  domain : Nat
  event : Bool
  announce : Bool
  dreq : Option (BitVec 80 × Nat)
  utc : Option Nat
  tlv : List Byte
  deriving DecidableEq, Repr

/-- The kinds of received Ethernet frame. -/
inductive FrameKind where
  | ptp (msg : PtpFrame) (cls : HostClass)
  | pause
  | udp (hdr : UdpHdr) (pkt : RtpPkt) (cls : HostClass)
  | plain (cls : HostClass)
  deriving DecidableEq, Repr

/-- The SecTAG of a protected frame (R538): its AN and packet number, whether its ICV checks, and whether the key slot's
integrity tag does (R407). -/
structure SecTag where
  an : Nat
  pn : Nat
  icvOk : Bool
  tagIntegrity : Bool
  deriving DecidableEq, Repr

/-- A received Ethernet frame without its FCS. -/
structure EthFrame where
  sub : Nat
  sec : Option SecTag
  bytes : List Byte
  kind : FrameKind
  deriving DecidableEq, Repr

/-- The commands of the block, one per row of spec/opcode_table.json, in the table's order. -/
inductive Instr where
  /-- DEVICE_INFO (R453): Returns identity block or device index, strap, readiness, flags, epoch and versions by page. -/
  | deviceInfo (mb : Nat) (c : Cmd)
  /-- FW_STATUS (R454): Returns cluster in control, takeover count, uptime, commands in flight and open sessions. -/
  | fwStatus (mb : Nat) (c : Cmd)
  /-- SESSION_OPEN (R76): Opens a session on its mailbox with a rank and role mask and advances the generation count. -/
  | sessionOpen (mb : Nat) (c : Cmd)
  /-- SESSION_CLOSE (R80): Closes its own or another mailbox's session, settling its commands in flight. -/
  | sessionClose (mb : Nat) (c : Cmd)
  /-- NOP_ECHO (R455): Returns 16 bytes unchanged with the effective tick of the named domain's open window. -/
  | nopEcho (mb : Nat) (c : Cmd)
  /-- TD_CONFIG (R457): Configures or removes the ticks of a timing domain with its rate and reference. -/
  | tdConfig (mb : Nat) (c : Cmd)
  /-- REF_CONFIG (R458): Writes every field of one reference candidate, block or frame-pulse output item. -/
  | refConfig (mb : Nat) (c : Cmd)
  /-- REF_PRIORITY (R91): Sets the rank of every reference candidate. -/
  | refPriority (mb : Nat) (c : Cmd)
  /-- REF_STATUS (R460): Returns reference block state, pending steps or one candidate's status by page. -/
  | refStatus (mb : Nat) (c : Cmd)
  /-- REF_FORCE (R96): Overrides automatic reference choice in CANDIDATE, HOLDOVER or AUTO mode. -/
  | refForce (mb : Nat) (c : Cmd)
  /-- FP_REALIGN (R106): At its tick moves the next tick of a domain by the pending step. -/
  | fpRealign (mb : Nat) (c : Cmd)
  /-- CUTOFF_SET (R39): Sets a domain's guard from the cutoff after its effective tick. -/
  | cutoffSet (mb : Nat) (c : Cmd)
  /-- TB_CONFIG (R116): Configures a time base's servo, source and initial values, or binds PPS_OUT. -/
  | tbConfig (mb : Nat) (c : Cmd)
  /-- TB_OFFSET (R122): Feeds a host-measured offset to a time base's servo. -/
  | tbOffset (mb : Nat) (c : Cmd)
  /-- TB_STEP (R123): Steps a HOST-sourced time base by an amount or to an absolute time. -/
  | tbStep (mb : Nat) (c : Cmd)
  /-- PTP_INSTANCE (R464): Creates, replaces or removes a PTP instance bound to a time base. -/
  | ptpInstance (mb : Nat) (c : Cmd)
  /-- TB_STATUS (R465): Returns time-base state, grandmaster data or the last synchronisation metadata TLV. -/
  | tbStatus (mb : Nat) (c : Cmd)
  /-- SRC_BIND (R140): Binds or unbinds a source to lanes, packet flows or an internal generator. -/
  | srcBind (mb : Nat) (c : Cmd)
  /-- SRC_STATUS (R177): Returns a source's state, format and flags and clears its counters. -/
  | srcStatus (mb : Nat) (c : Cmd)
  /-- RX_FLOW_SET (R156): Writes one receive flow table entry from a 128-byte buffer. -/
  | rxFlowSet (mb : Nat) (c : Cmd)
  /-- RX_FLOW_CLEAR (R158): Empties one receive flow table entry. -/
  | rxFlowClear (mb : Nat) (c : Cmd)
  /-- SRC_SYNC_MODE (R171): Sets a source's class, ALIGN_OFFSET and LOSS_HOLD. -/
  | srcSyncMode (mb : Nat) (c : Cmd)
  /-- XPT_TAKE (R211): Sets one destination to a source or to dark at a tick. -/
  | xptTake (mb : Nat) (c : Cmd)
  /-- XPT_SALVO_LOAD (R220): Replaces a device-wide salvo table from a buffer. -/
  | xptSalvoLoad (mb : Nat) (c : Cmd)
  /-- XPT_SALVO_FIRE (R52): Fires a snapshot of a salvo across its domains at their effective ticks. -/
  | xptSalvoFire (mb : Nat) (c : Cmd)
  /-- XPT_PROTECT (R217): Sets, releases or force-releases a protect on a destination at a tick. -/
  | xptProtect (mb : Nat) (c : Cmd)
  /-- XPT_LOCK (R217): Sets, releases or force-releases a lock on a destination at a tick. -/
  | xptLock (mb : Nat) (c : Cmd)
  /-- XPT_QUERY (R240): Returns a destination's current and pending entry, holders and counters. -/
  | xptQuery (mb : Nat) (c : Cmd)
  /-- PLANE_CONTROL (R236): Takes a plane offline, returns it to service or prefers it. -/
  | planeControl (mb : Nat) (c : Cmd)
  /-- PLANE_STATUS (R238): Returns plane states, trust counts and bad and repeated line counts. -/
  | planeStatus (mb : Nat) (c : Cmd)
  /-- DST_BIND (R241): Binds or unbinds a destination with its lanes, format, timing and dark behaviour. -/
  | dstBind (mb : Nat) (c : Cmd)
  /-- TX_FLOW_SET (R259): Writes one transmit flow table entry from a 256-byte buffer. -/
  | txFlowSet (mb : Nat) (c : Cmd)
  /-- DST_STATUS (R268): Returns a destination's state, phase and TRO and clears its counters. -/
  | dstStatus (mb : Nat) (c : Cmd)
  /-- DST_MITRE_SET (R252): Sets a destination's mitre line or restores its default. -/
  | dstMitreSet (mb : Nat) (c : Cmd)
  /-- AUD_GAIN_SET (R280): Writes one Bramble crosspoint gain code at a tick. -/
  | audGainSet (mb : Nat) (c : Cmd)
  /-- AUD_GAIN_BLOCK (R281): Writes many crosspoint gain codes from a buffer at a tick. -/
  | audGainBlock (mb : Nat) (c : Cmd)
  /-- AUD_MAP_IN (R291): Changes the feeds of Bramble input channels at a tick. -/
  | audMapIn (mb : Nat) (c : Cmd)
  /-- AUD_MAP_OUT (R291): Changes the output channels feeding embedder slots and flow channels at a tick. -/
  | audMapOut (mb : Nat) (c : Cmd)
  /-- AUD_RAMP_SET (R285): Sets output ramp lengths, or the Bramble mode and block length. -/
  | audRampSet (mb : Nat) (c : Cmd)
  /-- AUD_STATUS (R276): Returns a crosspoint, an output's state, or writes an output's contributions to a buffer. -/
  | audStatus (mb : Nat) (c : Cmd)
  /-- AUD_FOLLOW (R294): Sets a destination's followed slots or a source's audio base at a tick. -/
  | audFollow (mb : Nat) (c : Cmd)
  /-- MQ_LAYOUT (R304): Replaces an engine's tile layout from the next frame after 1 ms. -/
  | mqLayout (mb : Nat) (c : Cmd)
  /-- MQ_VENEER (R308): Requests a fenced flip of one veneer from its effective tick. -/
  | mqVeneer (mb : Nat) (c : Cmd)
  /-- MQ_FENCE_GROUP (R308): Requests a fenced flip of up to eight veneers as one. -/
  | mqFenceGroup (mb : Nat) (c : Cmd)
  /-- MQ_OUTPUT (R303): Sets an engine's mode and output format. -/
  | mqOutput (mb : Nat) (c : Cmd)
  /-- MQ_COMPARE (R316): Starts or stops a comparator engine on two inputs. -/
  | mqCompare (mb : Nat) (c : Cmd)
  /-- MQ_STATUS (R314): Returns an engine's mode, tiles, newest buffer and veneer state. -/
  | mqStatus (mb : Nat) (c : Cmd)
  /-- DT_LINK_UP (R323): Brings a Dovetail link up through negotiation and training, or takes it down. -/
  | dtLinkUp (mb : Nat) (c : Cmd)
  /-- DT_STATUS (R327): Returns a link's state, partner, spares, alignment and counters. -/
  | dtStatus (mb : Nat) (c : Cmd)
  /-- DT_GROUP (R325): Sets the group members, master, reference domain, time base, tag and pairing links. -/
  | dtGroup (mb : Nat) (c : Cmd)
  /-- DT_TIE_RESERVE (R330): Reserves or releases a tie ahead of any take. -/
  | dtTieReserve (mb : Nat) (c : Cmd)
  /-- PAIR_CONFIG (R377): Turns pairing on or off with link, roles, tag and board skew. -/
  | pairConfig (mb : Nat) (c : Cmd)
  /-- PAIR_STATUS (R346): Returns pair state, partner state, flags and missed heartbeats. -/
  | pairStatus (mb : Nat) (c : Cmd)
  /-- PAIR_MIRROR_SET (R361): Chooses mirror categories and sets each destination's pair mode. -/
  | pairMirrorSet (mb : Nat) (c : Cmd)
  /-- PAIR_SWITCH (R373): Hands ACTIVE over to the standby or forces an isolated device ACTIVE. -/
  | pairSwitch (mb : Nat) (c : Cmd)
  /-- PAIR_RESYNC (R371): Restarts JOINING on a standby or joining device. -/
  | pairResync (mb : Nat) (c : Cmd)
  /-- FAULT_READ (R475): Returns a fault source's flags, classes, count and first syndrome. -/
  | faultRead (mb : Nat) (c : Cmd)
  /-- FAULT_ACK (R388): Clears latched sources whose cause no longer persists. -/
  | faultAck (mb : Nat) (c : Cmd)
  /-- FAULT_MAP (R389): Sets a source's class, action and interrupt enable, or FAULTN_LEVEL. -/
  | faultMap (mb : Nat) (c : Cmd)
  /-- FAULT_INJECT (R391): Latches a source as a real firing, optionally running its action. -/
  | faultInject (mb : Nat) (c : Cmd)
  /-- SELFTEST_RUN (R396): Runs a plane, HBM, key store or hash self-test or sets the scrub rate. -/
  | selftestRun (mb : Nat) (c : Cmd)
  /-- KEY_LOAD (R413): Writes a clear or wrapped key into an empty slot, active from a key tick. -/
  | keyLoad (mb : Nat) (c : Cmd)
  /-- KEY_DERIVE (R415): Derives a child key from a DERIVE parent into an empty slot. -/
  | keyDerive (mb : Nat) (c : Cmd)
  /-- KEY_INVALIDATE (R416): Revokes a slot and all its descendants at the next key tick. -/
  | keyInvalidate (mb : Nat) (c : Cmd)
  /-- KEY_INFO (R411): Returns a slot's state, attribute, parent, users, check value and drops. -/
  | keyInfo (mb : Nat) (c : Cmd)
  /-- ATTEST (R423): Builds, signs and writes an attestation structure to a host buffer. -/
  | attest (mb : Nat) (c : Cmd)
  /-- ID_CERT_READ (R425): Writes a certificate or the seal key statement to a host buffer. -/
  | idCertRead (mb : Nat) (c : Cmd)
  /-- GRAIN_CONFIG (R446): Sets Grain parameters or starts the chain with a RESUME. -/
  | grainConfig (mb : Nat) (c : Cmd)
  /-- GRAIN_WITNESS (R433): Starts or stops frame digests of a destination. -/
  | grainWitness (mb : Nat) (c : Cmd)
  /-- GRAIN_SEAL (R437): Requests a SEAL at its effective tick. -/
  | grainSeal (mb : Nat) (c : Cmd)
  /-- GRAIN_STATUS (R477): Returns Grain count and fill, optionally advancing HOST_HEAD. -/
  | grainStatus (mb : Nat) (c : Cmd)
  /-- PWR_TOLERANCE (R479): Sets the wake tolerance of one power group. -/
  | pwrTolerance (mb : Nat) (c : Cmd)
  /-- PWR_STATUS (R480): Returns a power domain's state, tolerance and wakes. -/
  | pwrStatus (mb : Nat) (c : Cmd)
  /-- PWR_PIN (R480): Pins or releases a power domain in ON. -/
  | pwrPin (mb : Nat) (c : Cmd)
  /-- LANE_CONFIG (R482): Sets a physical lane's role, polarity and hunted rates. -/
  | laneConfig (mb : Nat) (c : Cmd)
  /-- LANE_EQ (R483): Sets a lane's equaliser to adaptive or fixed codes and taps. -/
  | laneEq (mb : Nat) (c : Cmd)
  /-- LANE_BITSLIP (R483): Moves a checking lane's receive word boundary later. -/
  | laneBitslip (mb : Nat) (c : Cmd)
  /-- LANE_PRBS (R484): Places a lane in PRBS test, reports counts and injects errors, or ends the test. -/
  | lanePrbs (mb : Nat) (c : Cmd)
  /-- LANE_EYESCAN (R485): Starts a non-destructive eye scan of a receiving lane. -/
  | laneEyescan (mb : Nat) (c : Cmd)
  /-- PORT_CONFIG (R486): Sets an Ethernet port's mode, negotiation, MACsec requirement, filter, MTU and MAC. -/
  | portConfig (mb : Nat) (c : Cmd)
  /-- MACSEC_SC (R487): Creates or deletes a secure channel, installs or removes an SA, or switches transmit SA. -/
  | macsecSc (mb : Nat) (c : Cmd)
  /-- MB_DOORBELL (R58): A doorbell write stamps and makes visible new commands of a mailbox. -/
  | mbDoorbell (mb : Nat) (value : Word)
  /-- MB_ENABLE_SET (R57): Writing EN 1 enables a mailbox and resets its ring pointers. -/
  | mbEnableSet (mb : Nat)
  /-- MB_ENABLE_CLEAR (R57): Writing EN 0 disables an idle or faulted mailbox, or is refused with ERR. -/
  | mbEnableClear (mb : Nat)
  /-- MB_RING_BASE_WRITE (R57): A write of a ring base or shadow register takes effect only while EN is 0. -/
  | mbRingBaseWrite (mb off : Nat) (value : Word)
  /-- MB_CPL_HEAD (R612): The host advances its completion head, freeing completion slots. -/
  | mbCplHead (mb : Nat) (value : Word)
  /-- MB_IRQ_CTRL (R612): Sets interrupt enables, count threshold and hold-off, refusing CNT 0. -/
  | mbIrqCtrl (mb : Nat) (value : Word)
  /-- MB_RESET_DEVICE (R572): Arming and firing writes of MB_RESET with KIND 1 start a device reset by command. -/
  | mbResetDevice (mb : Nat) (value : Word)
  /-- MB_RESET_CC_ONLY (R573): Arming and firing writes of MB_RESET with KIND 2 start a CC-only reset. -/
  | mbResetCcOnly (mb : Nat) (value : Word)
  /-- MB_RESET_ARM_EXPIRY (R571): An armed reset is disarmed when 1 ms passes without the firing write. -/
  | mbResetArmExpiry
  /-- BOOT_GO (R578): Setting GO in MBX_BOOT_CTRL at stage 4 starts the image copy. -/
  | bootGo (value : Word)
  /-- TSQ_ENTRY3_READ (R136): Reading TSQ_ENTRY3 removes the oldest transmit time stamp. -/
  | tsqEntry3Read (m : Master) (q : UnitAccess)
  /-- TB_SEC_L_READ (R138): Reading TB_SEC_L latches the time base and TB_STAT into the master's snapshot. -/
  | tbSecLRead (m : Master) (q : UnitAccess)
  /-- GRAIN_LAST_SEAL0_READ (R616): Reading GRAIN_LAST_SEAL0 snapshots all sixteen seal registers for the master. -/
  | grainLastSeal0Read (r : MasterAccess)
  /-- LOW_HALF_READ (R608): Reading an _L register latches its _H half for the reading master. -/
  | lowHalfRead (m : Master) (a : Access)
  /-- CLEAR_ON_READ (R607): Reading a register with RC fields returns and clears them. -/
  | clearOnRead (m : Master) (a : Access)
  /-- DMA_START (R502): START begins an idle channel's chain at DMA_DESC. -/
  | dmaStart (m : Master) (ch : Nat)
  /-- DMA_PAUSE (R505): Setting PAUSE drains issued reads' writes and pauses the channel. -/
  | dmaPause (m : Master) (ch : Nat)
  /-- DMA_RESUME (R505): Clearing PAUSE resumes a paused channel from the exact point reached. -/
  | dmaResume (m : Master) (ch : Nat)
  /-- DMA_CONTINUE (R510): CONTINUE resumes a halted channel according to its halt cause. -/
  | dmaContinue (m : Master) (ch : Nat)
  /-- DMA_ABORT (R510): ABORT stops a channel and returns it to IDLE without a completion. -/
  | dmaAbort (m : Master) (ch : Nat)
  /-- DMA_CQ_HEAD_WRITE (R615): The consumer advances a channel's completion queue head. -/
  | dmaCqHeadWrite (m : Master) (ch : Nat) (value : Word)
  /-- PL_TEST_CTRL_WRITE (R522): Sets loopback, compare delay and test rate of a lane in test. -/
  | plTestCtrlWrite (m : Master) (lane : Nat) (value : Word)
  /-- INJ_ONE (R524): Writing INJ_ONE adds one pending injected error. -/
  | injOne (m : Master) (lane : Nat)
  /-- REGISTER_WRITE (R609): Any other register write takes effect or, when not allowed to the host, is refused and counted. -/
  | registerWrite (m : Master) (a : Access) (value : Nat)
  /-- COMMAND_FETCH (R63): Balix fetches one command or chain from the next mailbox with room, round robin. -/
  | commandFetch
  /-- COMPLETION_POST (R51): Balix posts a completion once the work has taken effect, then the tail, shadow and interrupt. -/
  | completionPost (id : Nat)
  /-- CPL_HOLDOFF_EXPIRY (R84): The hold-off time since the oldest unsignalled completion passes and CPL is raised. -/
  | cplHoldoffExpiry (mb : Nat)
  /-- TD_TICK (R32): A domain's frame tick advances its count, starts frames and applies sealed work at line 1. -/
  | tdTick (d : Nat)
  /-- TICK_CUTOFF (R206): At the cutoff Balix rechecks staged work, resolves contention, writes and seals the bank and marks it ready. -/
  | tickCutoff (d : Nat)
  /-- DOMAIN_ARMING (R207): At the arming instant a domain is armed for the tick if its bank is ready, else the bank moves. -/
  | domainArming (d : Nat)
  /-- MITRE_FLIP (R208): At its mitre line a pending destination toggles CUR in both planes. -/
  | mitreFlip (dst : Nat)
  /-- VENEER_WAIT_EXPIRY (R309): A fence still unmet at the last allowed tick ends its flip with BAD_STATE. -/
  | veneerWaitExpiry (id : Nat)
  /-- AUDIO_BLOCK_BOUNDARY (R283): At a block boundary Bramble swaps ready banks and computes and verifies the next block. -/
  | audioBlockBoundary (inp : AudioIn)
  /-- RAMP_END (R286): A ramp reaches sample L and a ramp to mute makes the crosspoint mute. -/
  | rampEnd (ai ao : Nat)
  /-- KEY_TICK (R412): At each 125 us key tick pending keys activate, revocations act and unused revoked slots empty. -/
  | keyTick
  /-- DRBG_RESEED (R409): After 2^20 requests the DRBG reseeds from the entropy source. -/
  | drbgReseed
  /-- REF_EVALUATION (R92): Every 1 ms the reference block re-evaluates its choice, comparison and SUSPECT marks. -/
  | refEvaluation (meas : RefMeas)
  /-- CANDIDATE_QUALIFY (R89): A candidate clean for its qualification time becomes qualified. -/
  | candidateQualify (cand : Nat)
  /-- CANDIDATE_DISQUALIFY (R90): A missing, misplaced or off-frequency event disqualifies a candidate. -/
  | candidateDisqualify (cand : Nat) (why : DisqCause)
  /-- PULL_END (R101): The phase pull completes and the block starts tracking. -/
  | pullEnd
  /-- LOCK_DWELL_EXPIRY (R98): The phase error has stayed within 20 ns for 4/B seconds and the block becomes LOCKED. -/
  | lockDwellExpiry
  /-- HOLDOVER_HISTORY_VALID (R99): 60 s of unbroken LOCKED make the holdover history valid. -/
  | holdoverHistoryValid
  /-- HOLDOVER_LIMIT (R98): Holdover lasting the holdover limit moves the block to LOST. -/
  | holdoverLimit
  /-- PTP_OFFSET (R120): A PTP instance delivers an offset which the servo uses, steps on or discards. -/
  | ptpOffset (inst stepcnt : Nat) (theta : Int) (gm : BitVec 64)
  /-- MASTER_TIMEOUT (R124): No accepted offset for the master timeout sends a time base to FREE_RUN_AT_LAST_RATE. -/
  | masterTimeout (base : Nat)
  /-- GRANDMASTER_CHANGE (R124): An instance loses SLAVE or changes grandmaster and its base runs at the learnt rate. -/
  | grandmasterChange (inst : Nat) (gm : GmData)
  /-- PTP_SYNC_SEND (R130): A boundary port in MASTER sends Announce and Sync while the PTP master role is held. -/
  | ptpSyncSend (inst port : Nat)
  /-- PPS_OUT_PULSE (R139): PPS_OUT pulses when its time base counts to a whole second. -/
  | ppsOutPulse
  /-- TX_TIMESTAMP (R137): A transmit stamp enters the port's queue or is dropped when it is full. -/
  | txTimestamp (port sub id : Nat)
  /-- SDI_HUNT_DWELL (R513): An unlocked input lane moves to the next rate after 2 ms. -/
  | sdiHuntDwell (lane : Nat)
  /-- SDI_LANE_LOCK (R513): Clock recovery and 4 lines of regular TRS lock an input lane. -/
  | sdiLaneLock (lane family ctle : Nat)
  /-- SDI_LOCK_LOSS (R514): A lane loses lock and hunts again, putting its source in NO_SIGNAL. -/
  | sdiLockLoss (lane : Nat)
  /-- FORMAT_VALID (R147): Two frames of identical structure make a format valid or a change recognised. -/
  | formatValid (src : Nat) (sig : Structure)
  /-- BUDGET_HOLD_RESUME (R23): When budget or ring room frees, held sources that fit resume writing in order. -/
  | budgetHoldResume
  /-- LINE_ARRIVAL (R175): A source line arrives, is judged in or out of window and written or held. -/
  | lineArrival (src : Nat) (l : LineIn)
  /-- OUT_OF_WINDOW (R176): 8 consecutive out-of-window lines flag the source OUT_OF_WINDOW. -/
  | outOfWindow (src : Nat)
  /-- LINE_RELEASE (R200): Ingress releases a class T line with its header into both planes. -/
  | lineRelease (src : Nat)
  /-- ETH_FRAME_RECEIVE (R157): A received frame is verified, classified and passed to PTP, a flow or the host. -/
  | ethFrameReceive (port : Nat) (f : EthFrame)
  /-- LINE_CLOSE (R160): A packet line closes and empty positions are concealed. -/
  | lineClose (src line : Nat)
  /-- LEG_TIMEOUT (R163): A leg without packets for its window is no longer healthy. -/
  | legTimeout (src leg : Nat)
  /-- READOUT_FRAME_START (R188): A read-out chooses to take, repeat or drop frames at its frame start. -/
  | readoutFrameStart (src td : Nat)
  /-- LOSS_HOLD_EXPIRY (R190): After LOSS_HOLD repeats the read-out delivers black. -/
  | lossHoldExpiry (src td : Nat)
  /-- READOUT_LINE_RELEASE (R187): A read-out line enters the fabric at its release instant. -/
  | readoutLineRelease (src td line : Nat)
  /-- HBM_READ_ERROR (R195): An HBM read error is corrected, reissued to the mirror or replaced. -/
  | hbmReadError (stack : Nat) (err : HbmError)
  /-- STACK_RETURN_COMPLETE (R196): A rejoining stack returns once copies finish and rings complete three frames. -/
  | stackReturnComplete (stack : Nat)
  /-- HBM_SCRUB (R398): The scrubber reads, corrects and rewrites a location. -/
  | hbmScrub (stack : Nat) (err : Option HbmError)
  /-- DST_FRAME_START (R246): At a destination frame start egress checks input suitability. -/
  | dstFrameStart (dst : Nat)
  /-- EGRESS_LINE_RECEIVE (R233): Egress merges and checks both planes' copies of a line into its replay slot. -/
  | egressLineReceive (dst : Nat) (a b : CopyFault)
  /-- EGRESS_LINE_SEND (R249): One line period after arrival egress sends the line on its lane or as packets. -/
  | egressLineSend (dst : Nat) (ancFit : Nat)
  /-- AUDIO_PACKET_SEND (R265): A transmit audio flow sends a packet each packet time. -/
  | audioPacketSend (tf : Nat)
  /-- FRAME_DIGEST (R434): A witnessed frame's digest is completed and a FRAME_DIGEST record written. -/
  | frameDigest (dst : Nat)
  /-- MQ_FRAME_START (R306): An engine frame starts, taking newest tile frames and applying pending layout or mode. -/
  | mqFrameStart (engine : Nat)
  /-- MQ_COMPARE_REPORT (R319): After the later input's last active line the comparator writes the report of the frame with
  the TICK that its headers carry, the first or the second of that tick. -/
  | mqCompareReport (engine low : Nat) (second : Bool)
  /-- FAULT_LATCH (R379): A rising error line latches or counts its source and starts its hardware action. -/
  | faultLatch (source : Nat) (line : FaultLine)
  /-- CC_FAILURE (R392): A cluster pair fails by lockstep disagreement or watchdog expiry. -/
  | ccFailure (cluster : Nat)
  /-- CC_TAKEOVER (R86): CC1 takes control, keeps sessions and settles or aborts commands in flight. -/
  | ccTakeover
  /-- IC_TIMEOUT (R496): An unanswered transaction is ended with an error after 64 us. -/
  | icTimeout (m : Master) (write space : Bool) (addr : Nat)
  /-- DMA_DESCRIPTOR_START (R502): A channel fetches and starts its next descriptor when the queue has room. -/
  | dmaDescriptorStart (ch : Nat)
  /-- DMA_BLOCK (R501): The engine moves one block of at most 4 KiB for a ready channel. -/
  | dmaBlock (ch : Nat)
  /-- DMA_DESCRIPTOR_COMPLETE (R503): A descriptor's writes leave or are acknowledged and its completion is appended. -/
  | dmaDescriptorComplete (ch : Nat)
  /-- DMA_HALT (R508): A bus error, decode error or timeout halts the channel. -/
  | dmaHalt (ch : Nat) (err : DmaError)
  /-- DMA_LOOP_SUSPECT (R509): A channel reaching its descriptor budget without LAST halts. -/
  | dmaLoopSuspect (ch : Nat)
  /-- DMA_PACE_REQUEST (R506): A paced channel's request asserts at HIGH_WM or withdraws below LOW_WM. -/
  | dmaPaceRequest (ch : Nat) (fill : Nat)
  /-- HP_TX_POLL (R533): A port examines its host transmit descriptor and sends an owned frame. -/
  | hpTxPoll (port : Nat)
  /-- ETH_SUBPORT_LINK_UP (R529): A subport comes up after negotiation and training or PCS alignment. -/
  | ethSubportLinkUp (port sub : Nat)
  /-- ETH_SUBPORT_LINK_DOWN (R531): A subport goes down and its transmit flows stop. -/
  | ethSubportLinkDown (port sub : Nat) (fault : LinkFault)
  /-- PRBS_CHECKER_LOCK (R523): The checker locks after 1,024 correct bits or loses lock on excess errors. -/
  | prbsCheckerLock (lane : Nat) (seen : PrbsBits)
  /-- EYESCAN_COMPLETE (R526): An eye scan finishes, writes its grid and completes. -/
  | eyescanComplete (lane : Nat) (scan : EyeScan)
  /-- SELFTEST_COMPLETE (R396): A self-test ends and its command completes with PASS. -/
  | selftestComplete (id : Nat) (result : TestResult)
  /-- PLANE_OFFLINE_COMPLETE (R236): Every port has moved trust and the plane enters OFFLINE. -/
  | planeOfflineComplete (plane : Nat)
  /-- PLANE_LOADED (R238): A returning plane finishes LOADING and enters SHADOW. -/
  | planeLoaded (plane : Nat)
  /-- PLANE_SHADOW_PASS (R238): A whole frame of every domain without a bad copy puts the plane IN_SERVICE. -/
  | planeShadowPass (plane : Nat)
  /-- DT_NEGOTIATION_RECORD (R324): A link partner's negotiation record is received and checked. -/
  | dtNegotiationRecord (link : Nat) (rec : NegRecord)
  /-- DT_TRAINING_RESULT (R323): A training step passes and the link moves on or comes up. -/
  | dtTrainingResult (link : Nat) (lanes : List Nat)
  /-- DT_STEP_TIMEOUT (R323): A bring-up step exceeds its limit and the link steps down or fails. -/
  | dtStepTimeout (link : Nat)
  /-- DT_LINK_FRAME (R333): A link frame is received, checked and replayed on loss. -/
  | dtLinkFrame (link : Nat) (f : LinkFrame)
  /-- DT_AUTH_FAIL_LIMIT (R338): Eight consecutive authentication failures take the link down. -/
  | dtAuthFailLimit (link : Nat)
  /-- DT_KEY_RENEWAL (R336): A derived key is renewed every 2^32 frames or a loaded key's count forces re-bring-up. -/
  | dtKeyRenewal (link : Nat) (receive : Bool)
  /-- DT_LANE_FAIL_NO_SPARE (R335): An active lane fails with no spare and the link reruns bring-up. -/
  | dtLaneFailNoSpare (link lane : Nat)
  /-- DT_LINK_DOWN (R339): Loss of lane lock marks a group link down and its traffic lost. -/
  | dtLinkDown (link : Nat)
  /-- DT_GROUP_TICK_STAMP (R326): A group tick stamp from the master is received as candidate 16. -/
  | dtGroupTickStamp (link : Nat) (cycles : Nat)
  /-- DT_ALIGN_EXCHANGE (R327): Per-tick domain data are exchanged and group alignment judged. -/
  | dtAlignExchange (link d : Nat) (rec : AlignRecord)
  /-- DT_RESERVATION (R226): A tie reservation arrives at the source device and is allotted. -/
  | dtReservation (link : Nat) (r : TieRequest)
  /-- DT_RESERVATION_CONFIRM (R227): A tie confirmation or refusal arrives at the destination device. -/
  | dtReservationConfirm (link : Nat) (r : TieAnswer)
  /-- DT_TIE_RELEASE (R229): A tie release arrives and frees the source device's departure port. -/
  | dtTieRelease (link src td tick : Nat)
  /-- DT_TIE_LINE_RELEASE (R331): The receiver releases a tie line into its arrival port, or repeats the last. -/
  | dtTieLineRelease (link src td : Nat) (l : Option FabLine)
  /-- HEARTBEAT_SEND (R344): The pairing logic sends a periodic heartbeat on each path. -/
  | heartbeatSend
  /-- HEARTBEAT_RECEIVE (R346): A heartbeat is heard or rejected and pair transitions follow. -/
  | heartbeatReceive (path : PairPath) (bytes : List Byte)
  /-- PAIRING_PATH_LOST (R347): One path silent for 1.0 ms drives the pairing path DEGRADE source. -/
  | pairingPathLost (path : PairPath)
  /-- PARTNER_LOST (R348): Both paths silent for 1.0 ms declare the partner lost. -/
  | partnerLost
  /-- PEER_NOT_ALIVE (R349): PEER_ALIVE_N high for 10 samples marks the partner not alive. -/
  | peerNotAlive (high : Nat)
  /-- CLAMP_GNT_STABLE (R355): A grant held 250 us lets the device take its arbitrated roles. -/
  | clampGntStable
  /-- CLAMP_GNT_DEASSERT (R356): Loss of grant drops every arbitrated role within 100 us. -/
  | clampGntDeassert
  /-- MIRROR_RECEIVE (R361): The standby applies a mirrored bank, category item or read-out choice. -/
  | mirrorReceive (item : MirrorItem)
  /-- MIRROR_ACK (R363): The standby's acknowledgement lets the active mark its bank ready. -/
  | mirrorAck (d tick : Nat)
  /-- MIRROR_ACK_TIMEOUT (R363): No acknowledgement in 200 us marks the bank ready and the standby out of step. -/
  | mirrorAckTimeout (d : Nat)
  /-- MIRROR_TB_OFFSET (R361): Once a second a standby time base's offset is measured and applied. -/
  | mirrorTbOffset (base stepcnt : Nat) (theta : Int)
  /-- DIVERGE_RECEIVE (R375): A frozen device stops the paired outputs named in a DIVERGE map. -/
  | divergeReceive (map : BitVec 1024)
  /-- JOIN_COMPLETE (R371): Snapshot and differences applied and domains aligned put the device in STANDBY. -/
  | joinComplete
  /-- GRAIN_RECORD (R430): A record is staged and chained, or shed or lost by fill level. -/
  | grainRecord
  /-- GRAIN_FORWARD_RECEIVE (R427): The signer appends a record forwarded by its partner and acknowledges it. -/
  | grainForwardReceive (rec : GrainRec)
  /-- GRAIN_PERIODIC_SEAL (R436): A periodic seal tick writes a SEAL. -/
  | grainPeriodicSeal
  /-- PWRFAIL_ASSERT (R549): PWRFAIL_N asserts, source 210 latches and the Grain block stops accepting new events. -/
  | pwrfailAssert
  /-- PWRFAIL_SEAL (R443): Once staged records are chained the power-fail SEAL is written and uploaded. -/
  | pwrfailSeal
  /-- PWRFAIL_DEASSERT (R444): PWRFAIL_N high for 10 ms deasserts it and a RESUME is written. -/
  | pwrfailDeassert
  /-- OSC_IN_LOSS (R557): Loss of the local oscillator latches source 115. -/
  | oscInLoss
  /-- TEMPERATURE_SAMPLE (R603): Every 1 ms the sensors are read and the thermal sources compared. -/
  | temperatureSample (readings : List Int)
  /-- THERMAL_TRIP (R604): A router-die sensor at 120 C trips the device into reset. -/
  | thermalTrip
  /-- POWER_ON_RESET (R570): The supply ramp resets the whole package. -/
  | powerOnReset (burns : List Bool)
  /-- RESET_N_ASSERT (R546): RESET_N low for 1 us resets both dies. -/
  | resetNAssert
  /-- RESET_N_RELEASE (R547): Release of RESET_N samples the straps and starts start-up. -/
  | resetNRelease (index : Nat) (pairId : Bool) (t : BootTests)
  /-- DEVICE_RESET_ROUTER_DIE (R572): After the seal upload or 2 ms the router die is reset and restarts. -/
  | deviceResetRouterDie (t : BootTests)
  /-- CC_ONLY_RESET_RELEASE (R573): After 10 us the clusters leave reset and start-up runs from step 3. -/
  | ccOnlyResetRelease (t : BootTests)
  /-- UCIE_TRAIN_TIMEOUT (R580): The UCIe link not trained in 200 ms holds start-up. -/
  | ucieTrainTimeout
  /-- IMAGE_ACCEPT (R579): The copied image is verified and accepted or refused. -/
  | imageAccept (img : Image)
  /-- READY (R582): Start-up reaches READY: BOOT_LOCK, ALIVE_N, and mailboxes may be enabled. -/
  | ready (hbm : List Bool)
  /-- PWR_DOMAIN_IDLE (R586): A domain without live service for 10 ms enters the lowest allowed state. -/
  | pwrDomainIdle (dom : Nat)
  /-- PWR_WAKE_COMPLETE (R587): A waking domain reaches ON and its waiting command takes effect. -/
  | pwrWakeComplete (dom : Nat) (us : Nat)
  /-- PWR_WAKE_TIMEOUT (R589): A wake not ended in its wake time fires source 212 and retries. -/
  | pwrWakeTimeout (dom : Nat)
  /-- INJECTED_HOLD_EXPIRY (R391): The HOLD time of an injected level source runs out and its cause stops persisting, so FAULT_ACK can clear it. -/
  | injectedHoldExpiry (source : Nat)
  /-- GRAIN_FORWARD_ACK (R427): The signer's acknowledgement of a forwarded record reaches the forwarding device, which removes the record from its staging ring. -/
  | grainForwardAck
  /-- DELAY_REQ_SEND (R131): A PTP port in SLAVE state sends Delay_Req at its logMinDelayReqInterval. -/
  | delayReqSend (inst port : Nat)
  /-- DEBUG_PORT_TRANSACTION (R489): A JTAG or debug-port transaction acts within its BOOT_LOCK limits and sets KS_STAT.DEBUG_SEEN. -/
  | debugPortTransaction (write : Bool) (a : Access) (value : Nat)
  /-- PWR_DOMAIN_ENTRY_COMPLETE (R585): A domain that is entering IDLE, RETAIN or OFF finishes its entry and takes on that state. -/
  | pwrDomainEntryComplete (dom : Nat)
  /-- MIRROR_SNAPSHOT_REQUEST (R371): A JOINING standby's request for a full snapshot reaches the active, which sends the enabled categories and then differences. -/
  | mirrorSnapshotRequest
  deriving DecidableEq, Repr

end Sys2Proof
end

