-- ==== Sys2Proof/Config.lean ====
section
/-! DEFINITION. What the spec names but does not compute: filters and packings named by their standards only, what was written into a
device at factory test, and values the spec leaves open. Each is a constant without a body, so nothing can be proved about its value;
a statement that holds of the model holds whatever they are. -/
namespace Sys2Proof.Config

/-- The 48 bytes that the entropy source of R409 gives for the seed after `seeds` others (log 8). -/
opaque entropy : Nat → List Byte

/-- The root secret of this device's fuses (R399; log 5). -/
opaque rootSecret : BitVec 256

/-- The 32-bit check of a root secret (R400, which does not give it; log 8). -/
opaque rootCheck : BitVec 256 → BitVec 32

/-- A key that a link derives (R336, which does not give the derivation): what ECDH agreed on, the share of the sending end, and the
renewals (log 8). -/
opaque linkKey : Nat → List Byte → Nat → BitVec 256

/-- Objects 0 and 1 of R425, the certificates written at factory test (log 5). -/
opaque certObject : Nat → List Byte

/-- The boot ROM's bytes (18 R491; log 5). -/
opaque bootRom : Nat → Byte

/-- The boot ROM's version, laid out as BALIX of Table DEVICE_INFO result (R453; log 5). -/
opaque romVersion : Word

/-- A byte the spec leaves undefined; applied to the free-value counter and an index (log 6). -/
opaque freeByte : Nat → Nat → Byte

/-- A word the spec leaves undefined; applied to the free-value counter (log 6). -/
opaque freeWord : Nat → Word

/-- An integer the spec leaves unstated; applied to the free-value counter and an index (log 6). -/
opaque freeInt : Nat → Nat → Int

/-- A component, at 12 bits, of a tile that is not the size of the copy it reads (R305: the coefficients of the 4-tap filter are not
given; log 9): the component, the sampling and depth, the planes of the copy, the tile's width and height, and the pixel in it. -/
opaque mqResample : Nat → Nat × Nat → List (List (List Nat)) → Nat × Nat → Nat × Nat → Nat

/-- A colour component, at 12 bits, of a pixel that has none of its own in 4:2:2 (R312: how 4:4:4 is made is not given; log 9): the
depth, the row of that component, and the pixel. -/
opaque mqChroma : Nat → List Nat → Nat → Nat

/-- A component, at 12 bits, of an RGB sample of a tile (R312: the matrix is not given for tiles; log 9): the component, the depth
and R, G and B. -/
opaque mqMatrix : Nat → Nat → List Nat → Nat

/-- What R312 does not state of a blend (log 9): whether a value between two integers becomes the upper one, and a value outside 12
bits; the component, COLOUR, the veneer's R, G, B and A, and the component below. -/
opaque mqRound : Nat → Nat → List Byte → Nat → Nat

/-- A component, at 12 bits, of a composed pixel in RGB (R312: neither the range nor the rounding is given; log 9): 0 R, 1 G, 2 B,
COLOUR, and Y, Cb and Cr. -/
opaque mqRgb : Nat → Nat → List Nat → Nat

/-- A colour sample of 4:2:2 from the dithered row of its component, by a 3-tap filter (R312: its coefficients are not given; log
9). -/
opaque mqTap : List Nat → Nat → Nat

/-- A byte of an output buffer: the packing of pixels there is not given (R314; log 9): MEMFMT, the dithered rows of the frame, and
the offset in the buffer. -/
opaque mqStored : Nat → List (List Nat) → Nat → Byte

/-- A sample from the sample-rate converter of a feed (R169: its filter is not given); applied to the feed's samples and an
index (log 9). -/
opaque srcSample : List Int → Nat → Int

/-- The CRC of a link frame (R333: neither its polynomial nor what it covers is given; log 30): the link and the frame's count. -/
opaque frameCrc : Nat → Nat → Nat

/-- The samples of a line of which some words arrived changed and passed every check (R231; the place of a sample in a word is not
given: log 119): the samples sent, and the changed bits by word. -/
opaque readBack : List Nat → List (Nat × Nat) → List Nat

/-- The line CRC of a stream of HD and faster transports (R253, named by its standard only; log 120): the words it covers. -/
opaque lineCrc : List Nat → Nat

/-- The register of a lane's PRBS generator as it starts (R521 states none; log 127): the lane. -/
opaque prbsStart : Nat → Nat

/-- The user data words of the payload ID that FMT and TRANSPORT give (R253, ST 352, named by its standard only; log 120): format,
transport and link. -/
opaque payloadId : Nat → Nat → Nat → List Nat

/-- The user data words of an EDH packet (R253, RP 165, named by its standard only; log 120): the samples it covers, line by line. -/
opaque edhWords : List (List Nat) → List Nat

/-- The user data words of an audio packet with its AES3 channel status (R254, ST 272 and ST 299, named by their standards only; log
120): transport, group, and the samples of its four slots. -/
opaque embedWords : Nat → Nat → List (Option (List Int)) → List Nat

/-- The samples that the user data words of an audio packet carry, a list for each of the four channels of its group (R168, ST 272 and ST
299, named by their standards only; log 120): transport, group and words. -/
opaque deembed : Nat → Nat → List Nat → List (List Int)

/-- The user data words of an audio control packet (R254; log 120): transport, group, and which of its slots are mapped. -/
opaque controlWords : Nat → Nat → List Bool → List Nat

/-- A bit of the professional channel status of linear PCM (R254, R265, AES3, named by its standard only; log 120): whether at 96 kHz, the
channel, and the bit of the 192. -/
opaque channelStatus : Bool → Nat → Nat → Bool

/-- A 24-bit sample at 16 bits (R265: not stated; log 9). -/
opaque audio16 : Int → Int

/-- By how many peaking codes an adaptive lane moves 10 ms after its last move (R517 gives no more than one; log 148): the lane, and the
instant. -/
opaque ctleMove : Nat → Nat → Int

/-- The RTP numbers of ancillary flows (R266 states none; log 122): destination, frame, and an index. -/
opaque ancRtp : Nat → Nat → Nat → Nat

/-- One byte of a pixel group of ST 2110-20 (R434, named by its standard only; log 8): sampling, depth and the samples of
a line. -/
opaque pgroupPack : Nat → Nat → List Nat → List Byte

end Sys2Proof.Config
end

