-- ==== Sys2Proof/Machine/Tbl.lean ====
section
/-! DEFINITION. Tables: one value per index, held as the list of the indices whose value differs from the default. -/
namespace Sys2Proof.Machine

/-- A table in canonical form: indices strictly rising, no entry equal to the default value. -/
abbrev Tbl (α : Type) := List (Nat × α)

/-- The value at index `n`; an index that is not listed holds the default `d`. -/
def Tbl.get {α : Type} (d : α) : Tbl α → Nat → α
  | [], _ => d
  | (k, v) :: t, n => if n = k then v else if n < k then d else Tbl.get d t n

/-- The entries whose index lies above `n`, in a list whose indices rise. -/
def Tbl.above {α : Type} (n : Nat) : Tbl α → Tbl α
  | [] => []
  | (k, v) :: t => if k ≤ n then Tbl.above n t else (k, v) :: t

/-- Writes the value at index `n`; writing the default removes the entry. -/
def Tbl.set {α : Type} [DecidableEq α] (d : α) : Tbl α → Nat → α → Tbl α
  | [], n, v => if v = d then [] else [(n, v)]
  | (k, w) :: t, n, v =>
    if n < k then (if v = d then (k, w) :: t else (n, v) :: (k, w) :: t)
    else if n = k then (if v = d then Tbl.above n t else (n, v) :: t)
    else (k, w) :: Tbl.set d t n v

/-- Changes the value at index `n` by a function of it. -/
def Tbl.modify {α : Type} [DecidableEq α] (d : α) (t : Tbl α) (n : Nat) (f : α → α) : Tbl α :=
  Tbl.set d t n (f (Tbl.get d t n))

/-- The canonical form: indices strictly rising above `lo`, no listed value is the default. -/
def Tbl.wfFrom {α : Type} [DecidableEq α] (d : α) : Option Nat → Tbl α → Bool
  | _, [] => true
  | lo, (k, v) :: t =>
    (match lo with
      | none => true
      | some l => decide (l < k)) && decide (v ≠ d) && Tbl.wfFrom d (some k) t

/-- The canonical form of a table. -/
def Tbl.wf {α : Type} [DecidableEq α] (d : α) (t : Tbl α) : Bool := Tbl.wfFrom d none t

/-- The memories of the block: address and byte pairs in the canonical form of a table whose default is 0. -/
abbrev Memory := Tbl Byte

/-- What an address that no one has written reads as (DESIGN CHOICE, log 3). -/
def Memory.unlisted : Byte := 0

/-- One byte of a memory. -/
def Memory.read (m : Memory) (a : Nat) : Byte := Tbl.get Memory.unlisted m a

/-- Writes one byte of a memory. -/
def Memory.write (m : Memory) (a : Nat) (b : Byte) : Memory := Tbl.set Memory.unlisted m a b

/-- `n` bytes from address `a` on. -/
def Memory.readBytes (m : Memory) : Nat → Nat → List Byte
  | _, 0 => []
  | a, n + 1 => m.read a :: Memory.readBytes m (a + 1) n

/-- Writes bytes from address `a` on. -/
def Memory.writeBytes (m : Memory) : Nat → List Byte → Memory
  | _, [] => m
  | a, b :: bs => Memory.writeBytes (m.write a b) (a + 1) bs

/-- The canonical form of a memory: addresses strictly rising, no entry equal to what an unlisted address reads as. -/
def Memory.wf (m : Memory) : Bool := Tbl.wf Memory.unlisted m

end Sys2Proof.Machine
end

