-- ==== Sys2Proof/Machine/State.lean ====
section
/-! DEFINITION. The state of the DH1024: every register, queue, buffer, counter, mode and pin the spec gives it, as
plain data, the queue of waiting commands, and the state after reset.

Instants are numbers of twelfths of a nanosecond on the window clock, stamps and cutoffs whole nanoseconds (R36). A
field that the spec does not name and the model needs is marked OWN. Each structure's defaults are its values at reset;
where the spec gives none the value is DESIGN CHOICE (log 2). -/
namespace Sys2Proof.Machine

/-- Why a step may stop with a fault. Nothing in the model raises one: the faults of the device are state (R378). -/
inductive Fault where
  /-- Reserved for an access the spec calls impossible; no meaning raises it. Safe: the model stops. -/
  | impossible
  deriving DecidableEq, Repr

/-- Why a command may be refused by the model. -/
inductive Refusal where
  /-- A row without a meaning yet, raised only by the arms of `exec`. Safe: the model stops. -/
  | notModelled (mnemonic : String)
  /-- An access to the scan, fuse-sense and debug controls (23 Table Register blocks, DEBUG/TEST), whose registers the spec
  does not give. Raised by `execDebugPortTransaction` and `execRegisterWrite`. Safe: the model stops. -/
  | debugUnit
  deriving DecidableEq, Repr

/-! ## Replies and commands in flight -/

/-- A completion's status and the 16 bytes of its RESULT (R68). -/
structure Rep where
  status : Nat := 0
  result : List Byte := []
  deriving DecidableEq, Repr

/-- Where a command in flight stands: held for a tick it was allotted (`staged`), written into a sealed bank (`sealed`),
begun and running (`begun`), or waiting for a domain to wake (`waking`, R588). -/
inductive Phase where
  | staged | sealed | begun | waking (dom : Nat)
  deriving DecidableEq, Repr

/-- A command in flight (R61): from its fetch until its completion is posted. `eff` is its effective tick, `late` whether
it completes DONE_LATE, `chain` the ids of its chain with `pos` its place, `reply` its completion once it is due (R51,
R86), `waits` the effects of its work still outstanding, `records` the Grain records that must enter the chain first (R431),
`lost` and `total` the entries that lost and that it has, `winner` the session byte of the last winner, `ticks` the
effective tick of each domain of a salvo, `data` what its result needs, `buf` its copied payload (R67),
`mute` whether its mailbox is faulted, so that no completion is written (R621). -/
structure Flight where
  id : Nat
  mb : Nat
  cmd : Cmd
  stamp : Nat
  sess : Nat
  rank : Nat
  roles : Nat := 0
  eff : Nat := 0
  late : Bool := false
  chain : List Nat := []
  phase : Phase := .begun
  reply : Option Rep := none
  records : Nat := 0
  waits : Nat := 0
  ticks : List (Nat × Nat) := []
  lost : Nat := 0
  total : Nat := 0
  winner : Nat := 0
  start : Nat := 0
  res : List Byte := []
  data : List Nat := []
  buf : List Byte := []
  mute : Bool := false
  deriving DecidableEq, Repr

/-- One entry of tick-applied work (R44). -/
inductive Entry where
  | take (dst src : Nat)
  | protect (dst op : Nat)
  | lock (dst op : Nat)
  | gain (ai ao code : Nat)
  | mapIn (ai kind id chan : Nat)
  | mapOut (slot : Nat × Nat × Nat) (ao : Nat)
  | followDst (dst slots : Nat)
  | followSrc (src base : Nat)
  | veneer (engine veneer : Nat)
  | keyOp (slot : Nat)
  | realign
  | guard (us : Nat)
  | sealAt
  deriving DecidableEq, Repr

/-- Work staged for a tick of a domain by the command `id` (R43 to R47, R50). `order` is the order of allotment, which in
one mailbox is the ring order of R82; `moved` whether R19 moved it to this tick; `fits` whether it has its allotment
(otherwise it is deferred at the cutoff); `isSealed` whether it is in a sealed bank; `skip` SKIP_HELD of a salvo, with
the destinations skipped. -/
structure Staged where
  id : Nat
  td : Nat
  tick : Nat
  rank : Nat
  mb : Nat
  sess : Nat
  order : Nat
  op : Nat := 0
  tag : Nat := 0
  lateOk : Bool := false
  chain : List Nat := []
  moved : Bool := false
  fits : Bool := true
  isSealed : Bool := false
  skip : Bool := false
  entries : List Entry := []
  skipped : List Nat := []
  deriving DecidableEq, Repr

/-- Capacity allotted at one tick of one domain (R43). -/
structure Alloted where
  td : Nat
  tick : Nat
  takes : Nat := 0
  gains : Nat := 0
  flips : Nat := 0
  keys : Nat := 0
  deriving DecidableEq, Repr

/-! ## Global registers, pins and start-up -/

/-- The fuses: the identity block's parts, the boot epoch, the root secret with its check, and the two objects of the certificate store
(15 R399, Table Identity block, R405, R425). -/
structure Fuses where
  identity : List Byte := [0x31, 0x4C, 0x4F, 0x54, 0x57, 0x41, 0x46, 0x01, 0x02, 0x01, 0x00, 0x01, 0x01, 0x00]
  variant : Nat := 1
  stepping : Nat := 0x10
  epoch : Nat := 15
  root : BitVec 256 := Config.rootSecret
  rootCheck : BitVec 32 := Config.rootCheck Config.rootSecret
  certs : List (List Byte) := [(Config.certObject 0).take 2048, (Config.certObject 1).take 2048]
  deriving DecidableEq, Repr

/-- Global registers (23 Table Global registers). -/
structure Glb where
  fuseSensed : Bool := false
  balixVer : Word := 0
  romVer : Word := 0
  accessValid : Bool := false
  accessDenied : Nat := 0
  accessAddr : Nat := 0
  temps : List Int := []
  tempTripped : Bool := false
  thermalHold : Bool := false
  readData : Tbl (List Byte) := []
  latchH : Tbl Word := []
  sealSnap : Tbl (List Word) := []
  tbSnap : Tbl (List Word) := []
  irqs : List Nat := []
  deriving DecidableEq, Repr

/-- The straps GROUP_ID and PAIR_ID as sampled (20 R547). -/
structure Straps where
  groupIdx : Nat := 0
  pairId : Bool := false
  deriving DecidableEq, Repr

/-- The pins (chapter 20). -/
structure Pins where
  resetN : Bool := false
  pwrfail : Bool := false
  oscLost : Bool := false
  peerNotAlive : Bool := false
  clampGnt : Bool := false
  alive : Bool := false
  clampReq : Bool := false
  ppsTb : Option Nat := none
  ppsWidthUs : Nat := 100000
  ppsLast : Option Nat := none
  ppsSec : Nat := 0
  ppsPulses : Nat := 0
  deriving DecidableEq, Repr

/-- One frame-pulse output (R108, R458). -/
structure FpOut where
  td : Option Nat := none
  activeLow : Bool := false
  widthUs : Nat := 10
  lastPulse : Option Nat := none
  deriving DecidableEq, Repr

/-- The kinds of reset (R570, 21 Table Resets). -/
inductive ResetKind where
  | powerOn | resetN | device | ccOnly | thermal
  deriving DecidableEq, Repr

/-- Start-up: the step reached, its holds and refusals, the image, and what only start-up sets (21 R576 to R582, 18 R491, 23
R611). `lastReset` is the last reset other than a CC-only one (R574), `ccOnly` says that start-up follows a CC-only one, `burns` which
of the epoch bits that a power-on has still to burn will read blown (R405; the first after this power-on, DESIGN CHOICE, log 43). -/
structure Startup where
  stage : Nat := 0
  stopped : Bool := false
  stop : Nat := 0
  attempts : Nat := 0
  ccOther : Bool := false
  bootAddr : Nat := 0
  bootLen : Nat := 0
  mBalix : BitVec 384 := 0
  bootLock : Bool := false
  mapSwap : Bool := false
  ready : Bool := false
  lastReset : ResetKind := .powerOn
  ccOnly : Bool := false
  upSince : Nat := 0
  burns : Option (List Bool) := some [true]
  deriving DecidableEq, Repr

/-- Resets by command and the control clusters (21 R571 to R575, 14 R392, R393, 03 R85). `armed` holds the resets armed by
command: mailbox, value written and instant (R571); `firing` the reset by command that has fired and is not carried out
yet, `sealing` that the SEAL of its REASON 4 was written; `ccIrqs` the interrupts raised to the cluster in control, each with whether that
is CC1 and the source that latched (14 R383). -/
structure Boot where
  armed : List (Nat × Nat × Nat) := []
  firing : Option (ResetKind × Nat) := none
  sealing : Bool := false
  cc1 : Bool := false
  cc0Failed : Bool := false
  cc1Failed : Bool := false
  takeovers : Nat := 0
  ccFailAt : Option Nat := none
  freeze : Bool := false
  dataStop : Bool := false
  ccIrqs : List (Bool × Nat) := []
  deriving DecidableEq, Repr

/-- One mailbox (R55 to R58, R76, R77, R84, R613, R621). -/
structure Mailbox where
  cmdBase : Nat := 0
  cplBase : Nat := 0
  shadow : Nat := 0
  en : Bool := false
  cmdTail : Nat := 0
  cmdHead : Nat := 0
  cplTail : Nat := 0
  cplHead : Nat := 0
  stamps : List (Nat × Nat) := []
  tkoEn : Bool := false
  errEn : Bool := false
  cplEn : Bool := false
  cnt : Nat := 1
  holdoff : Nat := 1
  cause : Nat := 0
  takeover : Bool := false
  err : Bool := false
  cpl : Bool := false
  isOpen : Bool := false
  roles : Nat := 0
  rank : Nat := 0
  gen : Nat := 0
  faulted : Bool := false
  sinceIrq : Nat := 0
  oldest : Option Nat := none
  deriving DecidableEq, Repr

/-- A salvo table (R220). -/
structure Salvo where
  loaded : Bool := false
  entries : List (Nat × Nat) := []
  deriving DecidableEq, Repr

/-- Balix: commands in flight, staged work, the protects to release at the next tick of a domain (R81), salvo tables,
configuration digest (03, 02, 08, 15 R424), and the OWN counters of ids, allotments and free values, with `tookId` the
id counter at the last takeover and `tookWait` that its TAKEOVER is still to be set (R86). -/
structure Bx where
  flights : List Flight := []
  staged : List Staged := []
  alloted : List Alloted := []
  lastMb : Nat := 15
  nextId : Nat := 0
  nextOrder : Nat := 0
  tookId : Nat := 0
  digest : BitVec 384 := 0
  free : Nat := 0
  releases : List (Nat × Nat) := []
  tookWait : Bool := false
  salvos : Tbl Salvo := []
  deriving DecidableEq, Repr

/-! ## Reference block, timing domains, time bases -/

/-- The states of the reference block (04 R97). -/
inductive RefState where
  | freeRun | acquiring | locked | holdover | lost
  deriving DecidableEq, Repr

/-- The REF_FORCE mode in force (R96, R459). -/
inductive RefForce where
  | auto | candidate (c : Nat) | holdover
  deriving DecidableEq, Repr

/-- One reference candidate (04 R87 to R95, R100, R458). `rate` and `bw` are none while at the value of reset; `event` is the
instant of its latest event, none until one comes after reset or after a loss, `gap` its distance from the one before it (0
before there are two), and `moved` what pulls had moved the output when it was seen; `partners` the candidates against which it is
SUSPECT, each with the instant since which the two have measured close. -/
structure Cand where
  rate : Option Nat := none
  lane : Option Nat := none
  qual : Nat := 20
  bw : Option Nat := none
  rank : Nat := 15
  qualified : Bool := false
  suspect : Bool := false
  partners : List (Nat × Option Nat) := []
  event : Option Nat := none
  gap : Nat := 0
  moved : Int := 0
  cleanSince : Option Nat := none
  qualSince : Option Nat := none
  freq : Int := 0
  deriving DecidableEq, Repr

/-- The reference block (chapter 04). `pullDelta` is what the pull under way has to move from `pullFrom` on, in twelfths of a
nanosecond (R101), `outMove` what pulls had moved the window clock until then, `hist` the output frequencies of the
evaluations in LOCKED, latest first (R99). -/
structure Rf where
  state : RefState := .freeRun
  cand : Option Nat := none
  force : RefForce := .auto
  histValid : Bool := false
  histPpt : Int := 0
  lockedSince : Option Nat := none
  holdSince : Option Nat := none
  dwellSince : Option Nat := none
  pullEnd : Option Nat := none
  pullDelta : Int := 0
  pullFrom : Nat := 0
  outMove : Int := 0
  phase : Int := 0
  outPpt : Int := 0
  lastEval : Option Nat := none
  hist : List Int := []
  thresh : Nat := 5
  slope : Nat := 100
  hold : Nat := 86400
  cands : Tbl Cand := []
  fp : Tbl FpOut := []
  deriving DecidableEq, Repr

/-- One timing domain with its bank (chapter 02, 04 R103 to R107, 08 R206, R207). `fallen` holds the ticks that have fallen,
latest first, each with its instant and its guard in microseconds; `waitAck` and `auWait` are when the mirror of the fabric and of the Bramble
bank for `bankTick` were sent while it is not acknowledged (R363), `auReady` the instant from which that Bramble bank may be ready
(R375), `absorb` is the shift of
the time base that the FP_REALIGN of `realignAt` takes up, as it stood at that cutoff, and `mirrored` counts those of its commands that
came from the mirror. -/
structure Domain where
  rate : Option Nat := none
  ref : Option Nat := none
  count : Nat := 0
  started : Bool := false
  last : Nat := 0
  next : Nat := 0
  guard : Nat := 1000
  guards : List (Nat × Nat) := []
  shift : Int := 0
  pending : Option Int := none
  realignAt : Option Nat := none
  absorb : Int := 0
  mirrored : Nat := 0
  cutDone : Option Nat := none
  fallen : List (Nat × Nat × Nat) := []
  bankReady : Option Nat := none
  bankArmed : Bool := false
  bankTick : Nat := 0
  overruns : Nat := 0
  waitAck : Option Nat := none
  auWait : Option Nat := none
  auReady : Nat := 0
  armDone : Option Nat := none
  deriving DecidableEq, Repr

/-- The states of a time base (05 R115). -/
inductive TbState where
  | unconfigured | freeRunAtLast | tracking
  deriving DecidableEq, Repr

/-- One time base (05 R112 to R126). `time` is SEC, NS and FRAC as one number of 2^-32 ns; `integral` is I of R120 in
units of 2^-34 ppb. -/
structure TimeBase where
  time : Nat := 0
  rate : Int := 0
  state : TbState := .unconfigured
  stepcnt : Nat := 0
  integral : Int := 0
  source : Option Nat := none
  kp : Nat := 32768
  ki : Nat := 3277
  stepThr : Option Nat := some 10000
  timeout : Nat := 30
  nextTimeout : Option Nat := none
  lastTheta : Int := 0
  lastAt : Option Nat := none
  deriving DecidableEq, Repr

/-- A port of a PTP instance (R127 to R131). -/
structure PtpPort where
  coded : Nat
  state : Nat := 1
  lastSync : Option Nat := none
  lastDreq : Option Nat := none
  lastAnn : Option Nat := none
  syncs : Nat := 0
  announces : Nat := 0
  dreqs : Nat := 0
  deriving DecidableEq, Repr

/-- The PTP messages that an instance sends (R131, R132); a Delay_Resp names the portIdentity and the sequenceId of the Delay_Req
that it answers and the time at which that came, in seconds and nanoseconds. -/
inductive PtpKind where
  | sync | followUp | announce | delayReq | metadata
  | delayResp (asker : BitVec 80) (seq sec nanos : Nat)
  deriving DecidableEq, Repr

/-- A PTP message sent on a port: over IPv4 or IPv6, its Delay_Req multicast or unicast, with its DSCP and 802.1Q tag, the time of
its base when it left, and the UTC offset and metadata TLV that it carries (R131, R132). -/
structure PtpMsg where
  kind : PtpKind
  port : Nat
  domain : Nat
  ipv6 : Bool
  unicast : Bool
  dscp : Nat
  vlan : Option Nat
  time : Nat
  utc : Option Nat
  tlv : List Byte
  deriving DecidableEq, Repr

/-- A receive stamp that travels with an event frame to Balix (R133, R134): the coded subport, the time base, SEC and NS. -/
structure RxStamp where
  port : Nat
  base : Nat
  sec : Nat
  nanos : Nat
  deriving DecidableEq, Repr

/-- One PTP instance (05 R127 to R134, 17 R464, R465), its settings at the defaults of Table PTP instance settings. The best master
clock algorithm's outcome comes with GRANDMASTER_CHANGE (log 109); `annAt` is when its SLAVE port was last sure of its master. -/
structure Ptp where
  used : Bool := false
  boundary : Bool := false
  base : Nat := 0
  domain : Nat := 127
  logSync : Int := -3
  logAnn : Int := -2
  annTo : Nat := 3
  annAt : Option Nat := none
  logDreq : Int := -3
  transport : Nat := 0
  dscp : Nat := 46
  vlan : Nat := 0
  ports : List PtpPort := []
  slave : Bool := false
  gm : BitVec 64 := 0
  gmCls : Nat := 0
  gmAcc : Nat := 0
  steps : Nat := 0
  portState : Nat := 0
  utc : Option Nat := none
  tlv : List Byte := []
  rxFrames : Nat := 0
  sent : List PtpMsg := []
  rxStamps : List RxStamp := []
  deriving DecidableEq, Repr

/-- One entry of a time-stamp queue (R134 to R136): its kind, subport, id or message, the base and its time. -/
structure Stamp where
  words : List Word
  deriving DecidableEq, Repr

/-- One port's time-stamp queue (05 R134 to R137). -/
structure Tsq where
  entries : List Stamp := []
  overflow : Bool := false
  drops : Nat := 0
  deriving DecidableEq, Repr

/-! ## Ingress, frame store, fabric, egress -/

/-- The states of a source (06 Table Source states). -/
inductive SrcState where
  | unbound | noSignal | detecting | valid | mismatch | budgetHold | linkSkew
  deriving DecidableEq, Repr

/-- A packet line being assembled (06 R159 to R162). `past` is set when the first packet of the line two lines later has come since
its own. -/
structure OpenLine where
  line : Nat
  tick : Nat
  second : Bool
  filled : List (Nat × List Nat)
  anc : List AncPacket
  opened : Nat
  doneAt : Option Nat := none
  past : Bool := false
  deriving DecidableEq, Repr

/-- One source (chapter 06). `candidate` is the structure of the last frame with the format and transport it resolves to,
`alignPending` the offsets given with the instants from which a frame's start takes them (R171), `curFrame` the frame whose lines
arrive, `shut` the lines of class F that have closed, latest first, `used` the packets used on either leg (R162), and `dgrams` the
latest datagrams of ST 2022-6 with their sequence numbers, latest first, `anchor` the number after that of the last one with the
marker (R164). -/
structure Source where
  kind : Nat := 0
  stream : Nat := 0
  lane : Nat := 0
  lanes2 : Nat := 0
  td : Nat := 0
  expectFmt : Nat := 0
  expectTr : Nat := 0
  state : SrcState := .unbound
  fmt : Nat := 0
  transport : Nat := 0
  sampling : Nat := 0
  depth : Nat := 0
  lastFmt : Nat := 0
  candidate : Option (Structure × Nat × Nat) := none
  candFrames : Nat := 0
  pidAbsent : Bool := false
  pidMismatch : Bool := false
  audioRate : Bool := false
  crcSeen : Bool := false
  outOfWindow : Bool := false
  oowRun : Nat := 0
  cleanFrame : Bool := false
  oowLines : Nat := 0
  crcErrors : Nat := 0
  concealed : Nat := 0
  offset : Int := 0
  classF : Bool := false
  align : Int := 0
  lossHold : Nat := 50
  alignPending : List (Int × Nat) := []
  heldOrder : Option Nat := none
  legA : Option Nat := none
  legB : Option Nat := none
  waiting : List (Nat × FabLine) := []
  lastLine : Option FabLine := none
  openLines : List OpenLine := []
  prevFrame : List (Nat × List Nat) := []
  closed : Option (Nat × Bool × Nat) := none
  shut : List (Nat × Bool × Nat) := []
  used : List Nat := []
  dgrams : List (Nat × List Byte) := []
  anchor : Option Nat := none
  ancWaiting : List (Nat × Bool × AncPacket) := []
  offSum : Int := 0
  offCount : Nat := 0
  curFrame : Option (Nat × Bool) := none
  deriving DecidableEq, Repr

/-- One receive flow table entry (06 R153, R154): its image as the host wrote it and its live counters. -/
structure RxFlow where
  image : List Byte := []
  pkts : Nat := 0
  seqGaps : Nat := 0
  dups : Nat := 0
  late : Nat := 0
  malformed : Nat := 0
  lastRx : Nat := 0
  slips : Nat := 0
  lastSeq : Option Nat := none
  deriving DecidableEq, Repr

/-- One stored frame of a ring (07 R181 to R185). `on` says what of it the stacks of the pair hold: bits 0 and 1 the picture in the
first and the second, bits 2 and 3 the packets there (R179, R182). -/
structure StoredFrame where
  idx : Nat
  tick : Nat
  second : Bool
  fmt : Nat
  sampling : Nat
  depth : Nat
  lines : List FabLine
  doneAt : Nat
  slot : Nat := 0
  on : Nat := 15
  deriving DecidableEq, Repr

/-- The ring of a class F source (07 R181 to R185): two whole frames and the slot being written, or three whole frames between
writes. `wrFrame` is the frame last written, `wrOn` the stacks that have taken all of it so far, and `dropped` one abandoned (R185).
A ring given up in BUDGET_HOLD keeps what it holds (R23). -/
structure Ring where
  used : Bool := false
  pair : Nat := 0
  bytes : Nat := 0
  cls : Nat := 0
  pic : Nat × Nat × Nat := (0, 0, 0)
  slot : Nat := 0
  writing : List FabLine := []
  wrFrame : Option (Nat × Bool) := none
  wrOn : Nat := 15
  dropped : Option (Nat × Bool) := none
  frames : List StoredFrame := []
  complete : Nat := 0
  since : Nat := 0
  deriving DecidableEq, Repr

/-- A read-out of a class F source in a domain (07 R187 to R192). -/
structure Readout where
  src : Nat
  td : Nat
  port : Nat
  frame : Option StoredFrame := none
  lastTick : Option (Nat × Bool) := none
  repeats : Nat := 0
  black : Bool := false
  drops : Nat := 0
  frameStart : Nat := 0
  lastLine : Nat := 0
  badRead : Bool := false
  startTick : Nat := 0
  tail : Bool := false
  last : Option FabLine := none
  deriving DecidableEq, Repr

/-- One HBM stack (07 FS_STACK_STAT, R195, R196). `rejoinAt` is when its test passed, `scrubs` (OWN) counts locations scrubbed. -/
structure Stack where
  state : Nat := 0
  ce : Nat := 0
  ue : Nat := 0
  rejoinAt : Option Nat := none
  scrubs : Nat := 0
  deriving DecidableEq, Repr

/-- A crosspoint entry of an output port in one plane (08 R204). -/
structure XEntry where
  valid : Bool := false
  path : Nat := 0
  port : Nat := 0
  src : Nat := 0
  setBy : Nat := 0
  tick : Nat := 0
  deriving DecidableEq, Repr

/-- One output port (08 R203, R204, R206): entries 0 and 1 of plane A and of plane B. `bad` names the entries that are uncorrectable, by
plane and entry, with the bits that read wrong (R204); `trustWas` is the TRUST that bursts keep until 16 fabric cycles after the
PLANE_FAILOVER of `trustAt` (R235). -/
structure OutPort where
  a0 : XEntry := {}
  a1 : XEntry := {}
  b0 : XEntry := {}
  b1 : XEntry := {}
  cur : Bool := false
  pend : Bool := false
  trustB : Bool := false
  trustWas : Bool := false
  trustAt : Nat := 0
  bad : List (Bool × Bool × List Nat) := []
  repeats : Nat := 0
  failovers : Nat := 0
  protect : Option Nat := none
  lock : Option Nat := none
  deriving DecidableEq, Repr

/-- The states of a plane (08 Table Plane states). -/
inductive PlaneState where
  | inService | offline | testing | loading | shadow
  deriving DecidableEq, Repr

/-- One plane (08 R235 to R239). -/
structure Plane where
  state : PlaneState := .inService
  tested : Bool := false
  bad : Nat := 0
  shadowFrom : Option Nat := none
  deriving DecidableEq, Repr

/-- A frame of a witnessed destination that has been sent, for its digest (16 R434): its start, tick, which frame of the
tick, global source or 0xFFFF, whether a line was repeated, whether video was sent, and its lines. -/
structure WitFrame where
  start : Nat
  tick : Nat
  second : Bool
  src : Nat
  repeated : Bool
  video : Bool
  lines : List FabLine
  deriving DecidableEq, Repr

/-- A line framed to an SDI transport (R253), or the part of it that one link or one sub-image carries: its number, its length in twelfths of a nanosecond (R250), the fourth words of EAV and
SAV, line number words, line CRCs, packets and active samples. -/
structure SdiLine where
  line : Nat
  length : Int
  eav : Nat
  sav : Nat
  ln : List Nat
  crc : List Nat
  anc : List AncPacket
  samples : List Nat
  deriving DecidableEq, Repr

/-- An RTP packet sent (R261, R263, R265, R266): its sequence number (extended in ST 2110-20), timestamp and marker bit, and what it
carries: of a line from sample or octet `offset` on, packets, octets of an SDI stream, or the samples of each audio channel, as 32-bit
AES3 subframes in ST 2110-31. -/
structure SentPkt where
  seq : Nat
  ts : Nat
  marker : Bool := false
  line : Nat := 0
  offset : Nat := 0
  samples : List Nat := []
  anc : List AncPacket := []
  stream : List Byte := []
  audio : List (List Int) := []
  deriving DecidableEq, Repr

/-- One destination (chapter 09). `frameAt` to `frameSecond` are the start, tick and order of the frame being sent, `replay` the lines
received and not yet sent, each with the instant its word 0 arrived and whether it repeats another (R234), `line` the last line sent,
`framed` that line as framed, part by part, `carry` the octets of its ST 2022-6 stream that no datagram has taken yet, `edhOver`
what the next EDH packet covers, `audioAt` up to which instant audio has been embedded, and `stretch` by how much the last flip moved
the departure, in ns (R250, R253, R254, R263). Of the frame being witnessed `witKey` is the tick and which frame of the tick,
`witRepeat` whether a line of it was repeated. -/
structure Dest where
  kind : Nat := 0
  stream : Nat := 0
  lane : Nat := 0
  lanes2 : Nat := 0
  td : Nat := 0
  fmt : Nat := 0
  transport : Nat := 0
  dark : Nat := 0
  offset : Int := 0
  tc : Nat := 0
  tcTb : Nat := 0
  mitre : Nat := 0
  mitreOld : List (Nat × Nat) := []
  sampling : Nat := 0
  depth : Nat := 10
  state : Nat := 0
  clash : Nat := 0
  ancDropped : Nat := 0
  replayKib : Nat := 0
  frameAt : Nat := 0
  frameTick : Nat := 0
  frameSecond : Bool := false
  replay : List (Nat × FabLine × Bool) := []
  line : Nat := 0
  lastSent : Option FabLine := none
  framed : List SdiLine := []
  carry : List Byte := []
  edhOver : List (List Nat) := []
  audioAt : Nat := 0
  stretch : Int := 0
  sent : Nat := 0
  followed : Nat := 0
  witness : Bool := false
  witAnc : Bool := false
  witFrom : Nat := 0
  witMissed : Nat := 0
  witRepeat : Bool := false
  witKey : Option (Nat × Bool) := none
  witLines : List FabLine := []
  witDone : List WitFrame := []
  pairMode : Nat := 0
  diverged : Bool := false
  deriving DecidableEq, Repr

/-- One transmit flow table entry (09 R258, R260): `live` the image it sends by, taken at its last frame start or packet time, `slot`
the number of that packet time, and `out` the packets it sent last. -/
structure TxFlow where
  image : List Byte := []
  pkts : Nat := 0
  octets : Nat := 0
  late : Nat := 0
  lastTx : Nat := 0
  running : Bool := false
  live : List Byte := []
  slot : Nat := 0
  out : List SentPkt := []
  deriving DecidableEq, Repr

/-! ## Audio and Marquetry -/

/-- One crosspoint of the gain table (10 R274). -/
structure Gain where
  code : Nat := 0
  setBy : Nat := 0
  tick : Nat := 0
  deriving DecidableEq, Repr

/-- A ramp of a crosspoint (10 R286): its start in units of 1/256 of a code step, its target code, its length and the
samples gone. -/
structure Ramp where
  base : Nat
  goal : Nat
  len : Nat
  pos : Nat
  deriving DecidableEq, Repr

/-- Audio work of one command that a cutoff compiled and a block boundary has still to take up (10 R283): what R282 and the
record need, the entries that passed, and what R280 refused. -/
structure AuWork where
  id : Nat
  td : Nat
  tick : Nat
  op : Nat
  sess : Nat
  tag : Nat
  rank : Nat
  mb : Nat
  order : Nat
  cut : Nat
  entries : List Entry
  refused : Nat := 0
  first : Nat := 0xFFFFFFFF
  deriving DecidableEq, Repr

/-- Bramble (chapter 10). Gains and ramps are indexed by AO x 4096 + AI; `grid` is how far the grid of samples and blocks runs
ahead of the window clock, in twelfths of a nanosecond (R33, R103), `flows` what receive flows hold by RTP timestamp and `readTs`
the timestamp of the first sample of a flow beyond the last block taken in (R165, R293). -/
structure Au where
  khz96 : Bool := false
  blk125 : Bool := false
  gains : Tbl Gain := []
  ramps : Tbl (Option Ramp) := []
  rampLen : Tbl Nat := []
  bases : Tbl Nat := []
  inMap : Tbl (Option (Nat × Nat × Nat)) := []
  outMap : List ((Nat × Nat × Nat) × Nat) := []
  bank : Bool := false
  waiting : List AuWork := []
  overruns : Nat := 0
  mismatch : Bool := false
  verAo : Nat := 0
  verCount : Nat := 0
  verNext : Nat := 0
  sat : Tbl Nat := []
  samples : Tbl (List Int) := []
  boundary : Option Nat := none
  grid : Nat := 0
  flows : Tbl (List (Nat × List Int)) := []
  readTs : Tbl (Option Nat) := []
  usedPkts : Tbl (List Nat) := []
  embedded : Tbl (List Int) := []
  embNow : Tbl (List Int) := []
  deriving DecidableEq, Repr

/-- A veneer of an engine (11 R308 to R311). -/
structure Veneer where
  buf : Nat := 0
  visible : Bool := false
  deriving DecidableEq, Repr

/-- A line of an input of a comparator (11 R317, R318): when it came, whether it is a bad copy, and the line. -/
structure TapLine where
  came : Nat
  bad : Bool
  line : FabLine
  deriving DecidableEq, Repr

/-- The comparator of an engine (11 R316 to R319): `loop0` and `loop1` hold the lines of its inputs, of a loopback or of a fabric tap, and
`reported` the frames that have their report, latest first. -/
structure Comparator where
  running : Bool := false
  in0 : Nat := 0
  in1 : Nat := 0
  plane0 : Nat := 0
  plane1 : Nat := 0
  tol : Nat := 0
  start : Nat := 0
  seq : Nat := 0
  report : List Byte := []
  loop0 : List TapLine := []
  loop1 : List TapLine := []
  reported : List (Nat × Bool) := []
  deriving DecidableEq, Repr

/-- One Marquetry engine (chapter 11). `pendOut` holds what each MQ_OUTPUT set and `pendLayout` what each MQ_LAYOUT set, oldest first,
with the instant from which it may take effect; `busy` the output buffer and tick of the frame being written; `shown` the frame that
each tile took at the frame start, `before` the one it showed before, and `badRows` the rows of a tile's copy that no stack gave
(R195, R306); `out` MEMFMT and the rows of the frame in each output buffer (R314). -/
structure Engine where
  mode : Nat := 0
  td : Nat := 0
  fmt : Nat := 0
  depth : Nat := 0
  memFmt : Nat := 0
  divider : Nat := 1
  colour : Nat := 0
  pendOut : List (Nat × List Nat) := []
  background : Nat := 0
  tiles : List (List Byte) := []
  shown : List (Option StoredFrame) := []
  before : List (Option StoredFrame) := []
  badRows : List (Nat × Nat) := []
  pendLayout : List (Nat × Nat × List (List Byte)) := []
  newest : Option Nat := none
  writes : Nat := 0
  newestTick : Nat := 0
  frameAt : Nat := 0
  frame : Nat := 0
  busy : Option (Nat × Nat) := none
  out : Tbl (Option (Nat × List (List Nat))) := []
  cmp : Comparator := {}
  deriving DecidableEq, Repr

/-! ## Dovetail and pairing -/

/-- The states of a link (12 Table Link states). -/
inductive LinkState where
  | down | negotiate | train56 | train112 | up56 | up112 | failed
  deriving DecidableEq, Repr

/-- What this device sends to a member about ties (R226 to R229): a reservation and a release name the source, domain and tick;
a confirmation the tick at which the tie takes effect and its departure port. -/
inductive TieMsg where
  | reserve (src td tick : Nat)
  | confirm (src td tick port : Nat)
  | refuse (src td : Nat)
  | release (src td tick : Nat)
  deriving DecidableEq, Repr

/-- What this device sends over a link at a tick of one of its domains (12 R327): the domain's tick rate, its reference, its tick
count, its instant in cycles of the link, and the time of GROUP_TB. -/
structure AlignSent where
  td : Nat
  rate : Option Nat
  ref : Option Nat
  count : Nat
  instant : Nat
  tbTime : Option Nat
  deriving DecidableEq, Repr

/-- The record that an end of a link sends in NEGOTIATE (12 R324): its device index, the link number, the group tag, whether the link's
role is pairing, CRYPT, the stepping and the variant code; with derived keys, its share and the signature on it (R336). -/
structure NegSent where
  index : Nat
  link : Nat
  tag : Word
  pairing : Bool
  crypt : Bool
  stepping : Nat
  variant : Nat
  share : List Byte := []
  sig : List Byte := []
  deriving DecidableEq, Repr

/-- What a link frame carries: a group tick stamp in link cycles, an exchange of a domain, a message about a tie, a line of a tie, the
samples of an output channel, the pairing traffic, a forwarded record of the Grain log or its acknowledgement, or a request for
a frame that was lost (12 R326, R327, R331 to R333; 13; 16 R427). -/
inductive LinkBody where
  | stamp (cycles : Nat)
  | align (a : AlignSent)
  | tie (m : TieMsg)
  | line (l : FabLine)
  | audio (channel : Nat) (samples : List Int)
  | beat (bytes : List Byte)
  | item (m : MirrorItem)
  | diverge (m : BitVec 1024)
  | ack (td tick : Nat)
  | record (r : GrainRec)
  | recordAck
  | again (seq : Nat)
  deriving DecidableEq, Repr

/-- A link frame sent (12 R333, R336, R337): its sequence number, its frame count, its CRC, on an encrypted link the key and the 96-bit
nonce that protect it, what it carries, and the instant at which it was first sent. -/
structure OutFrame where
  seq : Nat
  count : Nat
  crc : Nat
  cover : Option (BitVec 256 × BitVec 96)
  body : LinkBody
  first : Nat
  deriving DecidableEq, Repr

/-- One Dovetail link (chapter 12). `upAt` is when it came up, from which its cycles count; `record` the negotiation record sent last;
`txSeq` the sequence number of the next new frame, `kept` the frames of the replay buffer, latest first, `resent` those resent last and
`asked` the numbers last asked for again; `rxCount` the full frame count of the last frame taken (R333, R337). `eph` is
the private key of this end's share and `peer` the far end's share, `txRenewed` and `rxRenewed` the renewals of the derived keys (R336). `sources` holds what the member at its far end has told of its sources, `tieMsgs` what this
device has sent there about ties. `stamp` is the last group tick stamp sent, in cycles of the link (R326), `told` the last exchange sent of each
domain (R327), `wanted` the output channels that the far end imports and `exports` their samples sent in the present block (R332). -/
structure Link where
  state : LinkState := .down
  reason : Nat := 0
  partner : Nat := 0xFF
  active : List Nat := []
  spareLanes : List Nat := []
  aligned : Nat := 0
  maxRate : Nat := 0
  crypt : Bool := false
  txSlot : Nat := 0
  rxSlot : Nat := 0
  stepStart : Nat := 0
  retried : Bool := false
  excluded : List Nat := []
  bringups : Nat := 0
  txFrames : Nat := 0
  rxFrames : Nat := 0
  rxSeq : Nat := 0
  authFails : Nat := 0
  replays : Nat := 0
  held : Nat := 0
  tbOffset : Int := 0
  sources : List RemoteSource := []
  tieMsgs : List TieMsg := []
  stamp : Option Nat := none
  told : List AlignSent := []
  wanted : List Nat := []
  exports : List (Nat × List Int) := []
  upAt : Nat := 0
  record : Option NegSent := none
  txSeq : Nat := 0
  kept : List OutFrame := []
  resent : List OutFrame := []
  asked : List Nat := []
  rxCount : Nat := 0
  eph : Nat := 0
  peer : List Byte := []
  txRenewed : Nat := 0
  rxRenewed : Nat := 0
  deriving DecidableEq, Repr

/-- A tie flow (12 R329, R330; 08 R225 to R229): among `ties` one that this device receives, `port` its arrival port; among
`depart` one that this device sends, `port` its departure port and `slot` its place there (log 79). `ending` is the tick at which its release takes effect, `last`
the last line released for it, `leaving` the tick named by its release, which is still to be sent. -/
structure Tie where
  src : Nat
  td : Nat
  dev : Nat
  port : Nat
  slot : Nat := 0
  reserved : Bool := false
  tick : Nat := 0
  confirmed : Bool := false
  align : Int := 0
  ending : Option Nat := none
  leaving : Option Nat := none
  last : Option FabLine := none
  deriving DecidableEq, Repr

/-- The Dovetail group (12 R325). -/
structure Group where
  members : Nat := 0
  master : Nat := 0
  td : Nat := 0
  tb : Nat := 0
  tag : Word := 0
  pairLinks : Nat := 0
  set : Bool := false
  deriving DecidableEq, Repr

/-- The pair states (13 R343). -/
inductive PairState where
  | off | isolated | joining | standby | active | frozen
  deriving DecidableEq, Repr

/-- The pairing logic (chapter 13). `onAt` is when pairing went on, `snapReq` that a snapshot has been asked for, `why` the
REASON of the last move to ACTIVE (R445), `handover` the command of a hand-over under way, `choices` the mirrored read-out choices and `followed` that read-outs follow them (R364,
14 R393), `sentBeats`, `sentItems`, `sentMaps` and `sentAcks` the
heartbeats, mirror items, DIVERGE maps and acknowledgements of banks (domain, tick) sent. `skews` holds for each PAIRED SDI destination what the
standby measures of its departure against the active's, without the trim, `trims` the trim of its lanes' serialiser phases, both in
steps of 0.1 ns (R369). -/
structure Pairing where
  state : PairState := .off
  link : Nat := 0xFF
  roles : Nat := 0
  tag : Word := 0
  skew : Nat := 0
  seq : Nat := 0
  lastSeq : Option Nat := none
  pState : Option Nat := none
  pFlags : Nat := 0
  pGen : Nat := 0
  heardDowel : Option Nat := none
  heardLink : Option Nat := none
  roleGen : Nat := 0
  hold : Bool := false
  skews : Tbl Int := []
  trims : Tbl Int := []
  sync : Bool := false
  aligned : Nat := 0
  conflict : Bool := false
  missed : Nat := 0
  mask : Nat := 0x3F
  onAt : Nat := 0
  snapReq : Bool := false
  handover : Option Nat := none
  partnerLost : Bool := false
  why : Nat := 0
  choices : List (Nat × Nat × Nat) := []
  followed : Bool := false
  lastBeat : Option Nat := none
  sentBeats : List (List Byte) := []
  sentItems : List MirrorItem := []
  sentMaps : List (BitVec 1024) := []
  sentAcks : List (Nat × Nat) := []
  deriving DecidableEq, Repr

/-! ## Faults, keys, Grain -/

/-- One fault source (14 R378 to R391). `mapping` is (class, action, IE), none while as Table Fault sources; `latchAt` the instant of its
latching (R386). -/
structure FaultSrc where
  latched : Bool := false
  persists : Bool := false
  escalated : Bool := false
  injected : Bool := false
  latchedClass : Nat := 0
  effClass : Nat := 0
  count : Nat := 0
  syndrome : Word := 0
  address : Word := 0
  subject : Nat := 0
  mapping : Option (Nat × Nat × Bool) := none
  holdEnd : Option Nat := none
  merged : Nat := 0
  latchAt : Nat := 0
  deriving DecidableEq, Repr

/-- The states of a key slot (15 Table Slot states). -/
inductive SlotState where
  | empty | pending | active | revoked
  deriving DecidableEq, Repr

/-- One key slot (15 R407 to R419). -/
structure Slot where
  state : SlotState := .empty
  attr : Nat := 0
  parent : Option Nat := none
  depth : Nat := 0
  origin : Nat := 0
  tag : BitVec 32 := 0
  tagFault : Bool := false
  drops : Nat := 0
  activateAt : Option Nat := none
  deriving DecidableEq, Repr

/-- The random generator, a CTR_DRBG with AES-256 (15 R409): its key, its V, its requests since its last seed, its
seeds, and whether it has been seeded since power-on. -/
structure Drbg where
  key : BitVec 256 := 0
  v : BitVec 128 := 0
  requests : Nat := 0
  seeds : Nat := 0
  live : Bool := false
  deriving DecidableEq, Repr

/-- The key store (chapter 15). `drbg` is the random generator (R409); `addrs`, `bits`, `masks` and `bootKey` are the address
permutation, the data permutation, the mask of each slot and the per-boot key that it drew, and `cells` the keys as they stand behind
them, by address (R407). `idKey`, `sealKey` and `linkKek` are the keys derived from the root (R402). `lastTick` is the last key tick in
ns. -/
structure Ks where
  slots : Tbl Slot := []
  derived : Bool := false
  debugSeen : Bool := false
  drbg : Drbg := {}
  addrs : List Nat := []
  bits : List Nat := []
  masks : List (BitVec 256) := []
  bootKey : BitVec 256 := 0
  cells : Tbl (BitVec 256) := []
  idKey : Nat := 0
  sealKey : Nat := 0
  linkKek : BitVec 256 := 0
  lastTick : Nat := 0
  deriving DecidableEq, Repr

/-- The Grain block (chapter 16). `inbox` holds the records given and not yet received into the ring, `unchained` those
staged without being chained (R427, R440), `staged` the chained bytes not yet uploaded, `fill` the bytes both occupy;
`upload` and `drain` say whether channel 7 runs for the watermark or for a SEAL (R438); `sealReqs` the GRAIN_SEAL
commands that wait for a SEAL, `sealTick` the tick and domain of the last SEAL written at one, with its COUNT and head;
`mirHead` the head mirrored here with its COUNT and EPOCH (R445). -/
structure Grain where
  tb : Nat := 0
  sealTd : Nat := 0
  interval : Nat := 1000
  highWm : Nat := 65536
  lowWm : Nat := 0
  hostAddr : Nat := 0
  hostLen : Nat := 0
  shadow : Nat := 0
  started : Bool := false
  stopped : Bool := false
  head : BitVec 384 := 0
  count : Nat := 0
  inbox : List GrainRec := []
  unchained : List GrainRec := []
  staged : List Byte := []
  fill : Nat := 0
  upload : Bool := false
  drain : Bool := false
  uploaded : Nat := 0
  hostHead : Nat := 0
  shed : Nat := 0
  shedding : Bool := false
  refusing : Bool := false
  lost : Nat := 0
  lastSeal : List Word := []
  lastPeriodic : Option Nat := none
  sealReqs : List Nat := []
  sealTick : Option (Nat × Nat × Nat × BitVec 384) := none
  mirHead : Option (BitVec 384 × Nat × Nat) := none
  acks : Nat := 0
  deriving DecidableEq, Repr

/-! ## Interconnect, DMA, lanes, ports, power -/

/-- The interconnect's error record (18 IC_ERR). -/
structure Ic where
  valid : Bool := false
  timeout : Bool := false
  write : Bool := false
  master : Nat := 0
  count : Nat := 0
  addr : Nat := 0
  cc0Closed : Bool := false
  cc1Closed : Bool := false
  deriving DecidableEq, Repr

/-- One DMA channel (18 R499 to R510). `image` is the descriptor in progress, empty when none is, with `moved` bytes of it
written; `done` the descriptors since START or CONTINUE against `budgetIn`, `seq` the completions since START, `fill` what its
pacing source holds for it. -/
structure Chan where
  state : Nat := 0
  cause : Nat := 0
  errDir : Bool := false
  req : Bool := false
  irq : Bool := false
  pause : Bool := false
  irqEn : Bool := false
  desc : Nat := 0
  cqBase : Nat := 0
  cqSize : Nat := 4
  cqTail : Nat := 0
  cqHead : Nat := 0
  budget : Nat := 0x10000
  pace : Nat := 0
  highWm : Nat := 0
  lowWm : Nat := 0
  cur : Nat := 0
  remain : Nat := 0
  errAddr : Nat := 0
  flushCnt : Nat := 0
  image : List Byte := []
  moved : Nat := 0
  done : Nat := 0
  budgetIn : Nat := 0x10000
  seq : Nat := 0
  fill : Nat := 0
  deriving DecidableEq, Repr

/-- One physical lane (19 R511 to R527, 17 R482 to R485). `ctle` is the peaking code that the lane was given or chose at `eqSince`, `taps`
the tap codes of LANE_EQ and `trained` those of training (R517 to R519). `run` counts the correct bits in a row of a PRBS checker that is not locked,
`recent` says of the last 1,024 bits of a locked one which were in error, latest first (R523), `trim` the phase of a paired lane's
serialiser in steps of 0.1 ns (R369). -/
structure Lane where
  role : Nat := 0
  pol : Nat := 0
  rates : Nat := 0
  fixedEq : Bool := false
  ctle : Nat := 0
  taps : Option (Nat × Nat × Nat) := none
  trained : Option (Nat × Nat × Nat) := none
  eqSince : Nat := 0
  locked : Bool := false
  rate : Nat := 0
  hunt : Nat := 0
  huntSince : Nat := 0
  lost : Bool := false
  test : Nat := 0
  pattern : Nat := 0
  invert : Nat := 0
  bits : Nat := 0
  errors : Nat := 0
  lock : Bool := false
  run : Nat := 0
  recent : List Bool := []
  inject : Nat := 0
  slip : Nat := 0
  testCtrl : Word := 0
  eyeDwell : Option Nat := none
  trim : Int := 0
  sent : List Nat := []
  deriving DecidableEq, Repr

/-- One Ethernet port (17 R486, 19 R529 to R534). `stampReqs` are the host's requests for transmit stamps still to be met: subport
and identifier (R134, R135). -/
structure Port where
  mode : Nat := 0
  an : Bool := false
  macsecReq : Nat := 0
  hostFlt : Nat := 0
  mtu : Nat := 0
  mac : List Byte := []
  txHead : Nat := 0
  rxTail : Nat := 0
  hpDrops : Nat := 0
  vectorAt : Option Nat := none
  discarded : Nat := 0
  sent : List (List Byte) := []
  stampReqs : List (Nat × Nat) := []
  deriving DecidableEq, Repr

/-- One secure association (17 R487, 19 R536, R537). -/
structure Sa where
  an : Nat
  slot : Nat
  pn : Nat
  ssci : Nat
  salt : List Byte
  deriving DecidableEq, Repr

/-- One secure channel (17 R487, 19 R535 to R540). -/
structure Sc where
  used : Bool := false
  sci : List Byte := []
  xpn : Bool := false
  flags : Nat := 0
  window : Nat := 0
  sas : List Sa := []
  an : Option Nat := none
  warn : Bool := false
  exhausted : Bool := false
  deriving DecidableEq, Repr

/-- One subport (19 ETH_SUB_STAT, ETH_MACSEC_STAT). -/
structure Subport where
  up : Bool := false
  anDone : Bool := false
  trained : Bool := false
  localFault : Bool := false
  remoteFault : Bool := false
  linkDowns : Nat := 0
  icvFail : Nat := 0
  replay : Nat := 0
  noSa : Nat := 0
  tx : Sc := {}
  rx : Sc := {}
  deriving DecidableEq, Repr

/-- One power domain (21 R583 to R589). -/
structure PwrDomain where
  state : Nat := 0
  pinned : Bool := false
  waking : Bool := false
  failed : Bool := false
  wakeAt : Nat := 0
  wakeFrom : Nat := 0
  second : Bool := false
  wakes : Nat := 0
  lastWake : Nat := 0
  idleSince : Option Nat := none
  entering : Option Nat := none
  deriving DecidableEq, Repr

/-! ## The whole machine -/

/-- The state of the block. -/
structure State where
  /-- The commands waiting, first in first out. -/
  pending : List Instr := []
  clk : Nat := 0
  clkFrac : Int := 0
  cycles : Nat := 0
  fuses : Fuses := {}
  straps : Straps := {}
  startup : Startup := {}
  glb : Glb := {}
  pins : Pins := {}
  boot : Boot := {}
  mb : Tbl Mailbox := []
  bx : Bx := {}
  rf : Rf := {}
  td : Tbl Domain := []
  tb : Tbl TimeBase := []
  ptp : Tbl Ptp := []
  tsq : Tbl Tsq := []
  sr : Tbl Source := []
  rx : Tbl RxFlow := []
  rings : Tbl Ring := []
  readouts : List Readout := []
  hbmStacks : Tbl Stack := []
  scrubRate : Nat := 1
  xp : Tbl OutPort := []
  planeA : Plane := {}
  planeB : Plane := {}
  repeated : Nat := 0
  inPorts : Tbl (Option FabLine) := []
  de : Tbl Dest := []
  tx : Tbl TxFlow := []
  au : Au := {}
  mq : Tbl Engine := []
  veneers : Tbl Veneer := []
  dt : Tbl Link := []
  ties : List Tie := []
  depart : List Tie := []
  group : Group := {}
  linkKeys : Tbl (List Byte) := []
  pr : Pairing := {}
  fc : Tbl FaultSrc := []
  faultnLevel : Nat := 2
  ks : Ks := {}
  gr : Grain := {}
  ic : Ic := {}
  dma : Tbl Chan := []
  dmaLast : Nat := 15
  hostMem : Memory := []
  hbm : Memory := []
  hbm2 : Memory := []
  sram : Memory := []
  hostBad : List (Nat × Nat) := []
  ln : Tbl Lane := []
  ep : Tbl Port := []
  sub : Tbl Subport := []
  pw : Tbl PwrDomain := []
  tol : Tbl Nat := []
  deriving DecidableEq, Repr

/-- The machine right after the supply ramp: RESET_N held low, start-up stage 0, nothing configured (21 R566, R570). -/
def State.reset : State := {}

end Sys2Proof.Machine
end

