-- ==== Sys2Proof/Machine/Operands.lean ====
section
/-! DEFINITION. The operand forms: the fields of a command and of a buffer, replies, and the checks that refuse a command
with the offset of its first offending byte. -/
namespace Sys2Proof

/-! ## Bytes and numbers -/

/-- The number that little-endian bytes hold (00 Tables). -/
def leNat : List Byte → Nat
  | [] => 0
  | b :: bs => b.toNat + 256 * leNat bs

/-- The number that big-endian bytes hold (network byte order, R153). -/
def beNat (bs : List Byte) : Nat := leNat bs.reverse

/-- A number as `n` little-endian bytes. -/
def leBytes : Nat → Nat → List Byte
  | 0, _ => []
  | n + 1, v => BitVec.ofNat 8 v :: leBytes n (v / 256)

/-- A number as `n` big-endian bytes. -/
def beBytes (n v : Nat) : List Byte := (leBytes n v).reverse

/-- The `n` bytes from offset `i` on, reading 0 beyond the end. -/
def slice (bs : List Byte) (i : Nat) : Nat → List Byte
  | 0 => []
  | n + 1 => bs.getD i 0 :: slice bs (i + 1) n

/-- A list cut into pieces of `n`, at most `k` of them. -/
def chunks {α : Type} (n : Nat) : Nat → List α → List (List α)
  | 0, _ => []
  | k + 1, xs => if xs.isEmpty then [] else xs.take n :: chunks n k (xs.drop n)

/-- The signed number of an `n`-byte field. -/
def toSigned (n v : Nat) : Int := if v < 2 ^ (8 * n - 1) then (v : Int) else (v : Int) - (2 ^ (8 * n) : Nat)

/-- A signed number as a field of `n` bytes, in two's complement. -/
def ofSigned (n : Nat) (v : Int) : Nat := (v % ((2 ^ (8 * n) : Nat) : Int)).toNat

/-- Bit `i` of a number. -/
def bit (v i : Nat) : Bool := v.testBit i

/-- A flag as a number. -/
def flag (b : Bool) : Nat := if b then 1 else 0

/-- Bits `hi` to `lo` of a number. -/
def bitsOf (v hi lo : Nat) : Nat := (v / 2 ^ lo) % 2 ^ (hi + 1 - lo)

/-- The numbers from `a` on, `n` of them. -/
def range (a : Nat) : Nat → List Nat
  | 0 => []
  | n + 1 => a :: range (a + 1) n

/-- The first number from `a` on, of `n`, that satisfies a test. -/
def firstFrom (p : Nat → Bool) (a : Nat) : Nat → Option Nat
  | 0 => none
  | n + 1 => if p a then some a else firstFrom p (a + 1) n

/-- How many numbers below `n` satisfy a test. -/
def countBelow (p : Nat → Bool) : Nat → Nat
  | 0 => 0
  | n + 1 => countBelow p n + (if p n then 1 else 0)

/-- The registers that an access names, in ascending order (R606). -/
def Access.words (a : Access) : List Nat := (range 0 ((a.off % 4 + a.size + 3) / 4)).map (fun i => a.off / 4 * 4 + 4 * i)

/-! ## Fields of a command -/

/-- The byte of a command at an offset. -/
def Cmd.u8 (c : Cmd) (i : Nat) : Nat := (c.bytes.getD i 0).toNat

/-- The 2-byte little-endian field at an offset. -/
def Cmd.u16 (c : Cmd) (i : Nat) : Nat := c.u8 i + 256 * c.u8 (i + 1)

/-- The 4-byte little-endian field at an offset. -/
def Cmd.u32 (c : Cmd) (i : Nat) : Nat := c.u16 i + 65536 * c.u16 (i + 2)

/-- The 6-byte little-endian field at an offset. -/
def Cmd.u48 (c : Cmd) (i : Nat) : Nat := c.u32 i + 4294967296 * c.u16 (i + 4)

/-- The 8-byte little-endian field at an offset. -/
def Cmd.u64 (c : Cmd) (i : Nat) : Nat := c.u32 i + 4294967296 * c.u32 (i + 4)

/-- The signed byte at an offset. -/
def Cmd.i8 (c : Cmd) (i : Nat) : Int := toSigned 1 (c.u8 i)

/-- The signed 4-byte field at an offset. -/
def Cmd.i32 (c : Cmd) (i : Nat) : Int := toSigned 4 (c.u32 i)

/-- The signed 8-byte field at an offset. -/
def Cmd.i64 (c : Cmd) (i : Nat) : Int := toSigned 8 (c.u64 i)

/-- The bytes of a field. -/
def Cmd.field (c : Cmd) (i n : Nat) : List Byte := slice c.bytes i n

/-- OPCODE (Table Command format). -/
def Cmd.opcode (c : Cmd) : Nat := c.u16 0

/-- TAG. -/
def Cmd.tag (c : Cmd) : Nat := c.u16 2

/-- The session byte (R66). -/
def Cmd.session (c : Cmd) : Nat := c.u8 4

/-- FLAGS. -/
def Cmd.flags (c : Cmd) : Nat := c.u8 5

/-- AT_TICK, FLAGS bit 0. -/
def Cmd.atTick (c : Cmd) : Bool := bit c.flags 0

/-- LATE_OK, FLAGS bit 1. -/
def Cmd.lateOk (c : Cmd) : Bool := bit c.flags 1

/-- CHAIN, FLAGS bit 2. -/
def Cmd.chain (c : Cmd) : Bool := bit c.flags 2

/-- PAYLOAD_PTR, FLAGS bit 3. -/
def Cmd.ptr (c : Cmd) : Bool := bit c.flags 3

/-- The timing domain byte. -/
def Cmd.td (c : Cmd) : Nat := c.u8 6

/-- The target tick. -/
def Cmd.tick (c : Cmd) : Nat := c.u64 8

/-- The same command with its opcode field set. -/
def Cmd.withOpcode (c : Cmd) (op : Nat) : Cmd := { bytes := leBytes 2 op ++ c.bytes.drop 2 }

/-- The same command with its target tick set. -/
def Cmd.withTick (c : Cmd) (n : Nat) : Cmd := { bytes := c.bytes.take 8 ++ leBytes 8 n ++ c.bytes.drop 16 }

/-- A command with an opcode, a domain, a target tick and a payload, its other header fields 0. -/
def mkCmd (op td tick : Nat) (payload : List Byte) : Cmd :=
  { bytes := leBytes 2 op ++ leBytes 4 0 ++ leBytes 2 td ++ leBytes 8 tick ++ slice payload 0 48 }

/-- The offset of the first non-zero byte of `n` bytes from offset `i` on. -/
def Cmd.firstNonZero (c : Cmd) (i n : Nat) : Option Nat := firstFrom (fun k => c.u8 k != 0) i n

/-- The address of the payload (R67). -/
def Cmd.ptrAddr (c : Cmd) : Nat := c.u64 16

/-- The length of the payload in bytes. -/
def Cmd.ptrLen (c : Cmd) : Nat := c.u32 24

end Sys2Proof

namespace Sys2Proof.Machine

/-! ## Statuses (R68) -/

/-- RESULT with given first bytes, the rest 0. -/
def resultOf (bs : List Byte) : List Byte := slice bs 0 16

/-- DONE with a result. -/
def repDone (bs : List Byte) : Rep := { status := 0x00, result := resultOf bs }

/-- DONE_LATE with a result. -/
def repLate (bs : List Byte) : Rep := { status := 0x01, result := resultOf bs }

/-- A refusal with a value in result byte 16. -/
def repByte (st b : Nat) : Rep := { status := st, result := resultOf (leBytes 1 b) }

/-- A refusal with all RESULT bytes 0. -/
def repPlain (st : Nat) : Rep := { status := st, result := resultOf [] }

/-- SUPERSEDED with the winner's session byte. -/
def repSuperseded (winner : Nat) : Rep := repByte 0x02 winner

/-- REJECTED_LATE. -/
def repRejectedLate : Rep := repPlain 0x03

/-- BAD_OPCODE. -/
def repBadOpcode : Rep := repPlain 0x10

/-- BAD_ARG with the offset of the first offending byte. -/
def repBadArg (off : Nat) : Rep := repByte 0x11 off

/-- BAD_ARG at an offset in a PAYLOAD_PTR buffer: byte 16 is 0xFF and bytes 20 to 23 hold the offset. -/
def repBadBuf (off : Nat) : Rep := { status := 0x11, result := resultOf (leBytes 4 0xFF ++ leBytes 4 off) }

/-- BAD_STATE. -/
def repBadState : Rep := repPlain 0x12

/-- NO_RESOURCE. -/
def repNoResource : Rep := repPlain 0x13

/-- PROTECTED with the protecting session's byte. -/
def repProtected (sess : Nat) : Rep := repByte 0x14 sess

/-- NOT_AUTHORITY with a detail: 1 role or rank lacking, 2 device not control authority. -/
def repNotAuthority (detail : Nat) : Rep := repByte 0x15 detail

/-- KEY_REVOKED with the slot. -/
def repKeyRevoked (slot : Nat) : Rep := { status := 0x16, result := resultOf (leBytes 2 slot) }

/-- KEY_ATTR with the slot. -/
def repKeyAttr (slot : Nat) : Rep := { status := 0x17, result := resultOf (leBytes 2 slot) }

/-- REMOTE_UNREACHABLE with the device index. -/
def repUnreachable (dev : Nat) : Rep := repByte 0x18 dev

/-- LOCKED with the locking session's byte. -/
def repLocked (sess : Nat) : Rep := repByte 0x19 sess

/-- ABORTED with a detail: 1 takeover, 2 session closed, 3 payload copy failed, 4 another chain member refused. -/
def repAborted (detail : Nat) : Rep := repByte 0x20 detail

/-- Whether a reply is DONE or DONE_LATE. -/
def Rep.ok (r : Rep) : Bool := decide (r.status ≤ 1)

/-! ## Checks in the order of a rule -/

/-- A check that refuses with a reply when its first part holds. -/
abbrev Check := Bool × Rep

/-- The reply of the first check that refuses. -/
def firstFail : List Check → Option Rep
  | [] => none
  | (b, r) :: cs => if b then some r else firstFail cs

/-- A field value that a command refuses, with the offset of its first byte. -/
def badIf (b : Bool) (off : Nat) : Check := (b, repBadArg off)

/-- Reserved bytes from `i` up to `j`, 0 or refused with the offset of the first that is not (R11). -/
def reserved (c : Cmd) (i j : Nat) : Check :=
  match c.firstNonZero i (j - i) with
  | some k => (true, repBadArg k)
  | none => (false, repBadArg 0)

/-- Reserved bits of a byte: its value must lie below `2 ^ n`. -/
def byteBelow (c : Cmd) (i n : Nat) : Check := badIf (decide (n ≤ c.u8 i)) i

/-- A field value refused in a buffer, at its offset there. -/
def badBufIf (b : Bool) (off : Nat) : Check := (b, repBadBuf off)

end Sys2Proof.Machine
end

