-- ==== Sys2Proof/Machine/Formats.lean ====
section
/-! DEFINITION. Format, rate and transport codes, rasters, stream shares and line lengths (02 R28, 06 Tables Format codes,
Transport codes and Supported formats, 01 R20, R24, 08 R202). -/
namespace Sys2Proof.Machine

/-- The lanes of a source. -/
def Source.lanes (k : Source) : List Nat :=
  match k.kind with
  | 1 => [k.lane]
  | 2 => [k.lane, k.lanes2 % 65536, k.lanes2 / 65536 % 65536, k.lanes2 / 4294967296 % 65536]
  | _ => []

/-- Bytes and pixels of a pixel group of ST 2110-20 (PRESUMED, log 25). -/
def pgroup (sampling depth : Nat) : Nat × Nat :=
  if sampling = 0 then (if depth = 8 then (4, 2) else if depth = 10 then (5, 2) else (6, 2))
  else if depth = 8 then (3, 1) else if depth = 10 then (15, 4) else (9, 2)

/-- The exact frame period of a rate code in twelfths of a nanosecond (06 Table Format codes); 0 for an undefined code. -/
def ratePeriod (r : Nat) : Nat :=
  match r with
  | 0 => 500500000
  | 1 => 500000000
  | 2 => 480000000
  | 3 => 400400000
  | 4 => 400000000
  | 5 => 240000000
  | 6 => 200200000
  | 7 => 200000000
  | _ => 0

/-- The exact rate of a rate code as a fraction of Hz (R30). -/
def rateFraction (r : Nat) : Nat × Nat :=
  match r with
  | 0 => (24000, 1001)
  | 1 => (24, 1)
  | 2 => (25, 1)
  | 3 => (30000, 1001)
  | 4 => (30, 1)
  | 5 => (50, 1)
  | 6 => (60000, 1001)
  | 7 => (60, 1)
  | _ => (1, 1)

/-- Whether the frame rate `f` equals the tick rate `t` or twice it (R28). -/
def rateFits (f t : Nat) : Bool := decide (f ≤ 7) && (f == t || ratePeriod t == 2 * ratePeriod f)

/-- Whether the frame rate is twice the tick rate (R28). -/
def rateDouble (f t : Nat) : Bool := decide (f ≤ 7) && ratePeriod t == 2 * ratePeriod f

/-- RATE of a format code. -/
def fmtRate (fmt : Nat) : Nat := fmt % 16

/-- RASTER of a format code: 1 525i, 2 625i, 3 720p, 4 1080i, 5 1080PsF, 6 1080p, 7 2160p. -/
def fmtRaster (fmt : Nat) : Nat := fmt / 16

/-- The total lines of a raster. -/
def rasterLines (r : Nat) : Nat :=
  match r with
  | 1 => 525
  | 2 => 625
  | 3 => 750
  | 4 => 1125
  | 5 => 1125
  | 6 => 1125
  | 7 => 2250
  | _ => 0

/-- The active width and active lines of a raster (07 Table Ring sizes). -/
def rasterActive (r : Nat) : Nat × Nat :=
  match r with
  | 1 => (720, 486)
  | 2 => (720, 576)
  | 3 => (1280, 720)
  | 4 => (1920, 1080)
  | 5 => (1920, 1080)
  | 6 => (1920, 1080)
  | 7 => (3840, 2160)
  | _ => (0, 0)

/-- Whether a raster is interlaced or PsF, of two fields or segments (R185). -/
def rasterTwoFields (r : Nat) : Bool := r == 1 || r == 2 || r == 4 || r == 5

/-- Whether a format is in Table Supported formats (R144). -/
def fmtSupported (fmt : Nat) : Bool :=
  let r := fmtRate fmt
  match fmtRaster fmt with
  | 1 => r == 3
  | 2 => r == 2
  | 3 => decide (r ≤ 7)
  | 4 => decide (2 ≤ r ∧ r ≤ 4)
  | 5 => decide (r ≤ 4)
  | 6 => decide (r ≤ 7)
  | 7 => decide (r ≤ 7)
  | _ => false

/-- The stream class of a format: 0 SD, 1 1.5G, 2 3G, 3 6G, 4 12G (R20, Table Supported formats). -/
def fmtClass (fmt : Nat) : Nat :=
  match fmtRaster fmt with
  | 1 => 0
  | 2 => 0
  | 6 => if fmtRate fmt ≤ 4 then 1 else 2
  | 7 => if fmtRate fmt ≤ 4 then 3 else 4
  | _ => 1

/-- Whether a transport carries a format (Table Supported formats, R144). -/
def fmtCarries (fmt tr : Nat) : Bool :=
  fmtSupported fmt &&
  (match tr with
   | 1 => decide (fmtRaster fmt ≤ 2)
   | 2 => decide (fmtClass fmt = 1)
   | 3 => decide (fmtClass fmt = 2)
   | 4 => decide (fmtClass fmt = 2)
   | 5 => decide (fmtRaster fmt = 4)
   | 6 => decide (fmtClass fmt = 3)
   | 7 => decide (fmtClass fmt = 4)
   | 8 => decide (fmtClass fmt = 4)
   | 9 => decide (fmtClass fmt = 4)
   | 10 => true
   | 11 => decide (fmtClass fmt ≤ 2)
   | 12 => true
   | _ => false)

/-- The stream share of a class in units of 0.25 Gb/s (R20, Table Stream shares). -/
def classShare (c : Nat) : Nat :=
  match c with
  | 0 => 1
  | 1 => 5
  | 2 => 10
  | 3 => 20
  | _ => 40

/-- Bits of one active frame: 2 x depth bits a pixel for 4:2:2, 3 x depth for 4:4:4 and RGB (R182). -/
def pixelBits (sampling depth : Nat) : Nat := if sampling = 0 then 2 * depth else 3 * depth

/-- Bytes of one active frame (R182). -/
def frameBytes (fmt sampling depth : Nat) : Nat :=
  let a := rasterActive (fmtRaster fmt)
  a.1 * a.2 * pixelBits sampling depth / 8

/-- Active payload bits per frame times the rate, against a share of `q` quarters of a Gb/s. -/
def payloadFits (fmt sampling depth q : Nat) : Bool :=
  let f := rateFraction (fmtRate fmt)
  decide (frameBytes fmt sampling depth * 8 * f.1 ≤ q * 250000000 * f.2)

/-- The stream class of a picture: of its format at 4:2:2 10-bit and below, else the smallest share its payload fits, none
above 10.0 Gb/s (R20). -/
def streamClass (fmt sampling depth : Nat) : Option Nat :=
  if sampling = 0 ∧ depth ≤ 10 then some (fmtClass fmt)
  else if payloadFits fmt sampling depth 1 then some 0
  else if payloadFits fmt sampling depth 5 then some 1
  else if payloadFits fmt sampling depth 10 then some 2
  else if payloadFits fmt sampling depth 20 then some 3
  else if payloadFits fmt sampling depth 40 then some 4
  else none

/-- The line length W in words: 2 more than the 1,024-bit words its active samples fill (R202). -/
def lineWords (fmt sampling depth : Nat) : Nat :=
  ((rasterActive (fmtRaster fmt)).1 * pixelBits sampling depth + 1023) / 1024 + 2

/-- The replay allocation of a destination in KiB (R24). -/
def replayKib (w : Nat) : Nat := if w ≤ 40 then 10 else if w ≤ 80 then 20 else 35

/-- The line period H in twelfths of a nanosecond, rounded down; line instants use `lineOffset`. -/
def linePeriod (fmt : Nat) : Nat := ratePeriod (fmtRate fmt) / rasterLines (fmtRaster fmt)

/-- The start of line `l` (counted from 1) after the start of its frame (R174). -/
def lineOffset (fmt l : Nat) : Nat := (l - 1) * ratePeriod (fmtRate fmt) / rasterLines (fmtRaster fmt)

/-- h of R174: H / 2 rounded to the nearest nanosecond, in twelfths. -/
def halfLine (fmt : Nat) : Nat :=
  12 * ((ratePeriod (fmtRate fmt) + 12 * rasterLines (fmtRaster fmt)) / (24 * rasterLines (fmtRaster fmt)))

/-- The first active line of a raster (PRESUMED, log 18). -/
def firstActive (raster : Nat) : Nat :=
  match raster with
  | 1 => 21
  | 2 => 23
  | 3 => 26
  | 4 => 21
  | 5 => 21
  | 6 => 42
  | _ => 83

/-- Whether a line of a raster is active (PRESUMED, log 18). -/
def activeLine (raster l : Nat) : Bool :=
  match raster with
  | 1 => decide ((21 ≤ l ∧ l ≤ 263) ∨ 283 ≤ l)
  | 2 => decide ((23 ≤ l ∧ l ≤ 310) ∨ (336 ≤ l ∧ l ≤ 623))
  | 3 => decide (26 ≤ l ∧ l ≤ 745)
  | 4 => decide ((21 ≤ l ∧ l ≤ 560) ∨ (584 ≤ l ∧ l ≤ 1123))
  | 5 => decide ((21 ≤ l ∧ l ≤ 560) ∨ (584 ≤ l ∧ l ≤ 1123))
  | 6 => decide (42 ≤ l ∧ l ≤ 1121)
  | _ => decide (83 ≤ l ∧ l ≤ 2242)

/-- The row of the picture that an active line carries, counted from 0: the lines of two fields interleave (PRESUMED, log
18). -/
def pictureRow (raster l : Nat) : Nat :=
  match raster with
  | 1 => if l ≤ 263 then 2 * (l - 21) + 1 else 2 * (l - 283)
  | 2 => if l ≤ 310 then 2 * (l - 23) else 2 * (l - 336) + 1
  | 4 => if l ≤ 560 then 2 * (l - 21) else 2 * (l - 584) + 1
  | 5 => if l ≤ 560 then 2 * (l - 21) else 2 * (l - 584) + 1
  | _ => l - firstActive raster

/-- DIDs of the audio packets of group `g`, and of its control packets (ST 272, ST 299; PRESUMED, log 120). -/
def audioDids (fmt g : Nat) : Nat × Nat :=
  if fmtClass fmt = 0 then (([0xFF, 0xFD, 0xFB, 0xF9] : List Nat).getD g 0xFF, 0xEF - g % 4)
  else if g < 4 then (0xE7 - g, 0xE3 - g) else (0xA7 - (g - 4) % 4, 0xA3 - (g - 4) % 4)

/-- The active line after an active line of a raster, and whether it lies in the next frame (PRESUMED, log 18). -/
def nextActive (raster l : Nat) : Nat × Bool :=
  let second := match raster with
    | 1 => 283
    | 2 => 336
    | 4 => 584
    | 5 => 584
    | _ => 0
  if l < rasterLines raster ∧ activeLine raster (l + 1) = true then (l + 1, false)
  else if l < second then (second, false)
  else (firstActive raster, true)

/-- The line two lines after an active line among those that have packets, the active ones, and whether it lies in the next frame
(DEDUCED, log 139). -/
def twoLater (raster l : Nat) : Nat × Bool :=
  let a := nextActive raster l
  let b := nextActive raster a.1
  (b.1, a.2 || b.2)

/-- Black at a depth (R151): the samples of one line. -/
def blackLine (fmt sampling depth : Nat) : List Nat :=
  let y := if depth = 8 then 0x10 else 0x40 * 2 ^ (depth - 10)
  let c := if depth = 8 then 0x80 else 0x200 * 2 ^ (depth - 10)
  let w := (rasterActive (fmtRaster fmt)).1
  let px := if sampling = 0 then [c, y] else if sampling = 1 then [c, y, c] else [y, y, y]
  (List.replicate w px).flatten

end Sys2Proof.Machine
end

