-- ==== Sys2Proof/Machine/Crypto.lean ====
section
/-! DEFINITION. The algorithms that chapter 15 names by their standards (PRESUMED from those standards, log 8): SHA-2 (FIPS 180-4), HMAC
(FIPS 198-1), HKDF (RFC 5869), the counter-mode KDF of SP 800-108, AES-256 (FIPS 197), key wrap (RFC 3394), AES-CMAC (RFC 4493), CTR_DRBG
(SP 800-90A), and ECDSA over P-384 (FIPS 186-5, RFC 6979). -/
namespace Sys2Proof.Machine

/-! ## SHA-2 -/

/-- The constants of SHA-384, of which SHA-256 takes the upper halves of the first 64 (FIPS 180-4). -/
def shaWords : List Nat :=
  [0x428A2F98D728AE22, 0x7137449123EF65CD, 0xB5C0FBCFEC4D3B2F, 0xE9B5DBA58189DBBC, 0x3956C25BF348B538,
    0x59F111F1B605D019, 0x923F82A4AF194F9B, 0xAB1C5ED5DA6D8118, 0xD807AA98A3030242, 0x12835B0145706FBE,
    0x243185BE4EE4B28C, 0x550C7DC3D5FFB4E2, 0x72BE5D74F27B896F, 0x80DEB1FE3B1696B1, 0x9BDC06A725C71235,
    0xC19BF174CF692694, 0xE49B69C19EF14AD2, 0xEFBE4786384F25E3, 0x0FC19DC68B8CD5B5, 0x240CA1CC77AC9C65]
  ++ [0x2DE92C6F592B0275, 0x4A7484AA6EA6E483, 0x5CB0A9DCBD41FBD4, 0x76F988DA831153B5, 0x983E5152EE66DFAB,
    0xA831C66D2DB43210, 0xB00327C898FB213F, 0xBF597FC7BEEF0EE4, 0xC6E00BF33DA88FC2, 0xD5A79147930AA725,
    0x06CA6351E003826F, 0x142929670A0E6E70, 0x27B70A8546D22FFC, 0x2E1B21385C26C926, 0x4D2C6DFC5AC42AED,
    0x53380D139D95B3DF, 0x650A73548BAF63DE, 0x766A0ABB3C77B2A8, 0x81C2C92E47EDAEE6, 0x92722C851482353B]
  ++ [0xA2BFE8A14CF10364, 0xA81A664BBC423001, 0xC24B8B70D0F89791, 0xC76C51A30654BE30, 0xD192E819D6EF5218,
    0xD69906245565A910, 0xF40E35855771202A, 0x106AA07032BBD1B8, 0x19A4C116B8D2D0C8, 0x1E376C085141AB53,
    0x2748774CDF8EEB99, 0x34B0BCB5E19B48A8, 0x391C0CB3C5C95A63, 0x4ED8AA4AE3418ACB, 0x5B9CCA4F7763E373,
    0x682E6FF3D6B2B8A3, 0x748F82EE5DEFB2FC, 0x78A5636F43172F60, 0x84C87814A1F0AB72, 0x8CC702081A6439EC]
  ++ [0x90BEFFFA23631E28, 0xA4506CEBDE82BDE9, 0xBEF9A3F7B2C67915, 0xC67178F2E372532B, 0xCA273ECEEA26619C,
    0xD186B8C721C0C207, 0xEADA7DD6CDE0EB1E, 0xF57D4F7FEE6ED178, 0x06F067AA72176FBA, 0x0A637DC5A2C898A6,
    0x113F9804BEF90DAE, 0x1B710B35131C471B, 0x28DB77F523047D84, 0x32CAAB7B40C72493, 0x3C9EBE0A15C9BEBC,
    0x431D67C49C100D4C, 0x4CC5D4BECB3E42B6, 0x597F299CFC657E2A, 0x5FCB6FAB3AD6FAEC, 0x6C44198C4A475817]

/-- The S-box (FIPS 197). -/
def aesBox : List Nat :=
  [99, 124, 119, 123, 242, 107, 111, 197, 48, 1, 103, 43, 254, 215, 171, 118,
    202, 130, 201, 125, 250, 89, 71, 240, 173, 212, 162, 175, 156, 164, 114, 192,
    183, 253, 147, 38, 54, 63, 247, 204, 52, 165, 229, 241, 113, 216, 49, 21,
    4, 199, 35, 195, 24, 150, 5, 154, 7, 18, 128, 226, 235, 39, 178, 117]
  ++ [9, 131, 44, 26, 27, 110, 90, 160, 82, 59, 214, 179, 41, 227, 47, 132,
    83, 209, 0, 237, 32, 252, 177, 91, 106, 203, 190, 57, 74, 76, 88, 207,
    208, 239, 170, 251, 67, 77, 51, 133, 69, 249, 2, 127, 80, 60, 159, 168,
    81, 163, 64, 143, 146, 157, 56, 245, 188, 182, 218, 33, 16, 255, 243, 210]
  ++ [205, 12, 19, 236, 95, 151, 68, 23, 196, 167, 126, 61, 100, 93, 25, 115,
    96, 129, 79, 220, 34, 42, 144, 136, 70, 238, 184, 20, 222, 94, 11, 219,
    224, 50, 58, 10, 73, 6, 36, 92, 194, 211, 172, 98, 145, 149, 228, 121,
    231, 200, 55, 109, 141, 213, 78, 169, 108, 86, 244, 234, 101, 122, 174, 8]
  ++ [186, 120, 37, 46, 28, 166, 180, 198, 232, 221, 116, 31, 75, 189, 139, 138,
    112, 62, 181, 102, 72, 3, 246, 14, 97, 53, 87, 185, 134, 193, 29, 158,
    225, 248, 152, 17, 105, 217, 142, 148, 155, 30, 135, 233, 206, 85, 40, 223,
    140, 161, 137, 13, 191, 230, 66, 104, 65, 153, 45, 15, 176, 84, 187, 22]

/-- Where SHA-384 starts (FIPS 180-4). -/
def sha384Start : List Nat :=
  [0xCBBB9D5DC1059ED8, 0x629A292A367CD507, 0x9159015A3070DD17, 0x152FECD8F70E5939,
    0x67332667FFC00B31, 0x8EB44A8768581511, 0xDB0C2E0D64F98FA7, 0x47B5481DBEFA4FA4]

/-- Where SHA-256 starts (FIPS 180-4). -/
def sha256Start : List Nat :=
  [0x6A09E667, 0xBB67AE85, 0x3C6EF372, 0xA54FF53A, 0x510E527F, 0x9B05688C, 0x1F83D9AB, 0x5BE0CD19]

/-- A SHA-2 function: the width of its words, its constants, where it starts, and the three amounts of each of its four sums, the last of
the small ones being a shift. -/
structure Sha2 where
  width : Nat
  words : List Nat
  start : List Nat
  big0 : Nat × Nat × Nat
  big1 : Nat × Nat × Nat
  small0 : Nat × Nat × Nat
  small1 : Nat × Nat × Nat

/-- SHA-384. -/
def sha384Kind : Sha2 := ⟨64, shaWords, sha384Start, (28, 34, 39), (14, 18, 41), (1, 8, 7), (19, 61, 6)⟩

/-- SHA-256. -/
def sha256Kind : Sha2 :=
  ⟨32, (shaWords.take 64).map (fun w => w / 4294967296), sha256Start, (2, 13, 22), (6, 11, 25), (7, 18, 3), (17, 19, 10)⟩

/-- A word turned right by `n` bits. -/
def Sha2.turn (p : Sha2) (n x : Nat) : Nat := (x >>> n) ||| (x <<< (p.width - n)) % 2 ^ p.width

/-- A sum of three turned words. -/
def Sha2.big (p : Sha2) (r : Nat × Nat × Nat) (x : Nat) : Nat := p.turn r.1 x ^^^ p.turn r.2.1 x ^^^ p.turn r.2.2 x

/-- A sum of two turned words and a shifted one. -/
def Sha2.small (p : Sha2) (r : Nat × Nat × Nat) (x : Nat) : Nat := p.turn r.1 x ^^^ p.turn r.2.1 x ^^^ (x >>> r.2.2)

/-- The message schedule, `k` words more, from its words so far, latest first. -/
def Sha2.schedule (p : Sha2) : Nat → List Nat → List Nat
  | 0, w => w.reverse
  | k + 1, w =>
    Sha2.schedule p k
      ((p.small p.small1 (w.getD 1 0) + w.getD 6 0 + p.small p.small0 (w.getD 14 0) + w.getD 15 0) % 2 ^ p.width :: w)

/-- One round on the words a to h, for a constant and a word of the schedule. -/
def Sha2.round (p : Sha2) (v : List Nat) (q : Nat × Nat) : List Nat :=
  match v with
  | [a, b, c, d, e, f, g, h] =>
    let t := h + p.big p.big1 e + ((e &&& f) ^^^ ((2 ^ p.width - 1 - e) &&& g)) + q.1 + q.2
    let u := p.big p.big0 a + ((a &&& b) ^^^ (a &&& c) ^^^ (b &&& c))
    [(t + u) % 2 ^ p.width, a, b, c, (d + t) % 2 ^ p.width, e, f, g]
  | _ => v

/-- One block of 16 words. -/
def Sha2.block (p : Sha2) (v : List Nat) (b : List Byte) : List Nat :=
  let w := (chunks (p.width / 8) 16 b).map beNat
  let r := (p.words.zip (p.schedule (p.words.length - 16) w.reverse)).foldl p.round v
  (v.zip r).map (fun q => (q.1 + q.2) % 2 ^ p.width)

/-- The digest's eight words. -/
def Sha2.digest (p : Sha2) (msg : List Byte) : List Nat :=
  let size := 2 * p.width
  let lenBytes := p.width / 4
  let pad := (size - (msg.length + 1 + lenBytes) % size) % size
  let all := msg ++ [0x80] ++ List.replicate pad 0 ++ beBytes lenBytes (8 * msg.length)
  (chunks size (all.length / size) all).foldl p.block p.start

/-- SHA-384 of a byte string, as 48 bytes. -/
@[irreducible] def sha384Bytes (msg : List Byte) : List Byte := ((sha384Kind.digest msg).take 6).flatMap (beBytes 8)

/-- SHA-384 of a byte string. -/
def sha384 (msg : List Byte) : BitVec 384 := BitVec.ofNat 384 (beNat (sha384Bytes msg))

/-- SHA-256 of a byte string. -/
@[irreducible] def sha256 (msg : List Byte) : BitVec 256 := BitVec.ofNat 256 (beNat ((sha256Kind.digest msg).flatMap (beBytes 4)))

/-! ## HMAC and the key derivations -/

/-- The exclusive or of two byte strings, as far as both go. -/
def xorBytes (a b : List Byte) : List Byte := (a.zip b).map (fun q => q.1 ^^^ q.2)

/-- HMAC-SHA-384. -/
def hmac384 (key msg : List Byte) : List Byte :=
  let k := slice (if 128 < key.length then sha384Bytes key else key) 0 128
  sha384Bytes (xorBytes k (List.replicate 128 0x5C) ++ sha384Bytes (xorBytes k (List.replicate 128 0x36) ++ msg))

/-- The blocks of HKDF's expansion from `i` on, after the block `last`. -/
def hkdfBlocks (prk info : List Byte) : Nat → Nat → List Byte → List Byte
  | 0, _, _ => []
  | k + 1, i, last =>
    let t := hmac384 prk (last ++ info ++ leBytes 1 i)
    t ++ hkdfBlocks prk info k (i + 1) t

/-- `n` bytes of HKDF-SHA-384 (R402). -/
def hkdf384 (ikm salt info : List Byte) (n : Nat) : List Byte :=
  (hkdfBlocks (hmac384 salt ikm) info ((n + 47) / 48) 1 []).take n

/-- The ASCII bytes of a label. -/
def ascii (label : String) : List Byte := label.toList.map (fun c => BitVec.ofNat 8 c.toNat)

/-- 256 bits of the counter-mode KDF of SP 800-108 with HMAC-SHA-384, its counter and its length of 32 bits (R414). -/
def counterKdf (key label context : List Byte) : List Byte :=
  (hmac384 key (beBytes 4 1 ++ label ++ [0] ++ context ++ beBytes 4 256)).take 32

/-! ## AES-256 -/

/-- Doubles an element of the field of AES. -/
def aesDouble (x : Nat) : Nat := if x < 128 then 2 * x else (2 * x) ^^^ 0x11B

/-- The product of two elements of the field of AES, the second of four bits. -/
def aesTimes (x k : Nat) : Nat :=
  let d := aesDouble x
  let q := aesDouble d
  (if bit k 0 then x else 0) ^^^ (if bit k 1 then d else 0) ^^^ (if bit k 2 then q else 0)
    ^^^ (if bit k 3 then aesDouble q else 0)

/-- The S-box of AES. -/
def aesSub (x : Nat) : Nat := aesBox.getD x 0

/-- The inverse of the S-box. -/
def aesUnsub (x : Nat) : Nat := aesBox.findIdx (fun v => v == x)

/-- The exclusive or of two blocks of numbers. -/
def xorNats (a b : List Nat) : List Nat := (a.zip b).map (fun q => q.1 ^^^ q.2)

/-- The words of the key schedule, `k` more, from those so far, latest first. -/
def aesWords : Nat → List (List Nat) → List (List Nat)
  | 0, w => w.reverse
  | k + 1, w =>
    let i := w.length
    let t := w.headD []
    let t := if i % 8 = 0 then xorNats ((t.drop 1 ++ t.take 1).map aesSub) [2 ^ (i / 8 - 1), 0, 0, 0]
      else if i % 8 = 4 then t.map aesSub
      else t
    aesWords k (xorNats (w.getD 7 []) t :: w)

/-- The 15 round keys of a key of 32 bytes. -/
def aesRounds (key : List Byte) : List (List Nat) :=
  (chunks 4 15 (aesWords 52 (chunks 4 8 (key.map BitVec.toNat)).reverse)).map List.flatten

/-- The bytes of a block after its rows have been shifted, `d` places a row. -/
def aesShift (d : Nat) (v : List Nat) : List Nat := (range 0 16).map (fun i => v.getD ((i + 4 * d * (i % 4)) % 16) 0)

/-- The columns of a block mixed with the given factors. -/
def aesMix (k : List Nat) (v : List Nat) : List Nat :=
  (range 0 16).map (fun i => (range 0 4).foldl (fun a j =>
    a ^^^ aesTimes (v.getD (i / 4 * 4 + j) 0) (k.getD ((j + 4 - i % 4) % 4) 0)) 0)

/-- AES-256 of a block of 16 bytes. -/
def aesEncrypt (key block : List Byte) : List Byte :=
  let ks := aesRounds key
  let v := xorNats (block.map BitVec.toNat) (ks.headD [])
  let v := ((ks.drop 1).take 13).foldl (fun a k => xorNats (aesMix [2, 3, 1, 1] (aesShift 1 (a.map aesSub))) k) v
  (xorNats (aesShift 1 (v.map aesSub)) (ks.getLastD [])).map (BitVec.ofNat 8)

/-- The inverse of AES-256. -/
def aesDecrypt (key block : List Byte) : List Byte :=
  let ks := (aesRounds key).reverse
  let v := xorNats (block.map BitVec.toNat) (ks.headD [])
  let v := ((ks.drop 1).take 13).foldl (fun a k =>
    aesMix [14, 11, 13, 9] (xorNats ((aesShift 3 a).map aesUnsub) k)) v
  (xorNats ((aesShift 3 v).map aesUnsub) (ks.getLastD [])).map (BitVec.ofNat 8)

/-- The steps of the wrapping of four 8-byte blocks, each with its count and block (RFC 3394). -/
def wrapSteps : List (Nat × Nat) := (range 0 6).flatMap (fun j => (range 0 4).map (fun i => (4 * j + i + 1, i)))

/-- The value that a wrapped key begins with (RFC 3394). -/
def wrapCheck : List Byte := List.replicate 8 0xA6

/-- A key of 32 bytes wrapped under another (RFC 3394). -/
def wrapKey (kek key : List Byte) : List Byte :=
  let r := wrapSteps.foldl (fun (q : List Byte × List (List Byte)) t =>
    let b := aesEncrypt kek (q.1 ++ q.2.getD t.2 [])
    (xorBytes (b.take 8) (beBytes 8 t.1), q.2.set t.2 (b.drop 8))) (wrapCheck, chunks 8 4 key)
  r.1 ++ r.2.flatten

/-- The key that 40 bytes hold wrapped under another; none where the integrity check fails (RFC 3394; R413). -/
def unwrapBytes (kek bs : List Byte) : Option (List Byte) :=
  let r := wrapSteps.reverse.foldl (fun (q : List Byte × List (List Byte)) t =>
    let b := aesDecrypt kek (xorBytes q.1 (beBytes 8 t.1) ++ q.2.getD t.2 [])
    (b.take 8, q.2.set t.2 (b.drop 8))) (bs.take 8, chunks 8 4 (bs.drop 8))
  if r.1 = wrapCheck then some r.2.flatten else none

/-- Doubles a block in the field of CMAC. -/
def cmacDouble (x : Nat) : Nat := if x < 2 ^ 127 then 2 * x else ((2 * x) ^^^ 0x87) % 2 ^ 128

/-- AES-CMAC of a message of at least one byte (RFC 4493). -/
def aesCmac (key msg : List Byte) : List Byte :=
  let k1 := cmacDouble (beNat (aesEncrypt key (List.replicate 16 0)))
  let n := (msg.length + 15) / 16
  let tail := msg.drop (16 * (n - 1))
  let last := if tail.length = 16 then xorBytes tail (beBytes 16 k1)
    else xorBytes (slice (tail ++ [0x80]) 0 16) (beBytes 16 (cmacDouble k1))
  ((chunks 16 (n - 1) msg) ++ [last]).foldl (fun x b => aesEncrypt key (xorBytes x b)) (List.replicate 16 0)

/-! ## CTR_DRBG -/

/-- The blocks that a generator makes from `v` + 1 on. -/
def drbgBlocks (key : List Byte) (v : Nat) (n : Nat) : List Byte :=
  (range 1 n).flatMap (fun i => aesEncrypt key (beBytes 16 ((v + i) % 2 ^ 128)))

/-- CTR_DRBG with AES-256: the update of its key and V with 48 bytes. -/
def Drbg.update (d : Drbg) (bs : List Byte) : Drbg :=
  let t := xorBytes (drbgBlocks (leBytes 32 d.key.toNat) d.v.toNat 3) bs
  { d with key := BitVec.ofNat 256 (leNat (t.take 32)), v := BitVec.ofNat 128 (beNat (t.drop 32)) }

/-- The generator seeded afresh with 48 bytes of entropy, without a derivation function (R409; PRESUMED, log 8). -/
def Drbg.seeded (d : Drbg) (entropy : List Byte) : Drbg := { d.update entropy with requests := 0, seeds := d.seeds + 1, live := true }

/-- The generator reseeds after this many requests (R409). -/
def reseedAfter : Nat := 1048576

/-- One request for `n` blocks of 16 bytes, and the generator after it; the first since power-on seeds it (R409). -/
@[irreducible] def Drbg.draw (d : Drbg) (n : Nat) : List Byte × Drbg :=
  let d := if !d.live || decide (reseedAfter ≤ d.requests) then d.seeded (Config.entropy d.seeds) else d
  let v := BitVec.ofNat 128 (d.v.toNat + n)
  (drbgBlocks (leBytes 32 d.key.toNat) d.v.toNat n,
    { ({ d with v := v } : Drbg).update (List.replicate 48 0) with requests := d.requests + 1 })

/-! ## P-384 -/

/-- The prime of the field of P-384. -/
def p384 : Nat := 2 ^ 384 - 2 ^ 128 - 2 ^ 96 + 2 ^ 32 - 1

/-- The order of the group of P-384. -/
def n384 : Nat := 0xffffffffffffffffffffffffffffffffffffffffffffffffc7634d81f4372ddf581a0db248b0a77aecec196accc52973

/-- The generator of P-384. -/
def g384 : Nat × Nat :=
  (0xaa87ca22be8b05378eb1c71ef320ad746e1d3b628ba79b9859f741e082542a385502f25dbf55296c3a545e3872760ab7,
   0x3617de4a96262c6f5d9e98bf9292dc29f8f41dbd289a147ce9da3113b5f0b8c00a60b1ce1d7e819d7a431d7c90ea0e5f)

/-- A power modulo `m`, for exponents of `k` bits. -/
def powMod (m b e : Nat) : Nat → Nat
  | 0 => 1
  | k + 1 =>
    let r := powMod m b (e / 2) k
    let q := r * r % m
    if e % 2 = 1 then q * b % m else q

/-- The inverse modulo a prime of at most 384 bits. -/
def invMod (m a : Nat) : Nat := powMod m a (m - 2) 384

/-- The difference of two elements of the field. -/
def sub384 (a b : Nat) : Nat := (a + p384 - b % p384) % p384

/-- Twice a point (x, y, z) in Jacobian coordinates; z is 0 at infinity. -/
def ecDouble (p : Nat × Nat × Nat) : Nat × Nat × Nat :=
  let d := p.2.2 * p.2.2 % p384
  let g := p.2.1 * p.2.1 % p384
  let b := p.1 * g % p384
  let a := 3 * sub384 p.1 d * (p.1 + d) % p384
  let x := sub384 (a * a) (8 * b)
  (x, sub384 (a * sub384 (4 * b) x) (8 * g * g), 2 * p.2.1 * p.2.2 % p384)

/-- The sum of two points in Jacobian coordinates. -/
def ecAdd (p q : Nat × Nat × Nat) : Nat × Nat × Nat :=
  if p.2.2 = 0 then q
  else if q.2.2 = 0 then p
  else
    let zp := p.2.2 * p.2.2 % p384
    let zq := q.2.2 * q.2.2 % p384
    let up := p.1 * zq % p384
    let uq := q.1 * zp % p384
    let sp := p.2.1 * zq * q.2.2 % p384
    let sq := q.2.1 * zp * p.2.2 % p384
    let h := sub384 uq up
    let r := sub384 sq sp
    if h = 0 then (if r = 0 then ecDouble p else (1, 1, 0))
    else
      let hh := h * h % p384
      let hhh := hh * h % p384
      let v := up * hh % p384
      let x := sub384 (sub384 (r * r) hhh) (2 * v)
      (x, sub384 (r * sub384 v x) (sp * hhh), p.2.2 * q.2.2 * h % p384)

/-- A multiple of a point, by the lower `k` bits of a number. -/
def ecTimes (p : Nat × Nat × Nat) (d : Nat) : Nat → Nat × Nat × Nat
  | 0 => (1, 1, 0)
  | k + 1 =>
    let q := ecDouble (ecTimes p (d / 2) k)
    if d % 2 = 1 then ecAdd q p else q

/-- The coordinates of a point that is not at infinity. -/
def ecAffine (p : Nat × Nat × Nat) : Nat × Nat :=
  let i := invMod p384 p.2.2
  (p.1 * (i * i % p384) % p384, p.2.1 * (i * i % p384 * i % p384) % p384)

/-- The public point of a private key. -/
def ecPoint (d : Nat) : Nat × Nat := ecAffine (ecTimes (g384.1, g384.2, 1) d 384)

/-- The 97 bytes of the uncompressed public point of a private key. -/
@[irreducible] def publicPoint (d : Nat) : List Byte := [0x04] ++ beBytes 48 (ecPoint d).1 ++ beBytes 48 (ecPoint d).2

/-- A private key from 56 bytes, by extra random bits (FIPS 186-5; R402). -/
def privateKey (bs : List Byte) : Nat := beNat bs % (n384 - 1) + 1

/-- The first r and s that a nonce of RFC 6979 gives, from the state of its generator, by at most `fuel` candidates. -/
def signFrom (d z : Nat) : Nat → List Byte → List Byte → Nat × Nat
  | 0, _, _ => (0, 0)
  | fuel + 1, key, v =>
    let v := hmac384 key v
    let k := beNat v
    let r := (ecPoint k).1 % n384
    let s := invMod n384 k * ((z + r * d) % n384) % n384
    if 1 ≤ k ∧ k < n384 ∧ r ≠ 0 ∧ s ≠ 0 then (r, s)
    else
      let key := hmac384 key (v ++ [0x00])
      signFrom d z fuel key (hmac384 key v)

/-- The signature of R403 under a private key: r, then s, each 48 bytes, big-endian. The generator of RFC 6979 needs another candidate
less than once in 2^190 times; the fuel stands for its loop. -/
@[irreducible] def ecdsaSign (d : Nat) (msg : List Byte) : List Byte :=
  let z := beNat (sha384Bytes msg)
  let seed := beBytes 48 d ++ beBytes 48 (z % n384)
  let key := hmac384 (List.replicate 48 0x00) (List.replicate 48 0x01 ++ [0x00] ++ seed)
  let v := hmac384 key (List.replicate 48 0x01)
  let key := hmac384 key (v ++ [0x01] ++ seed)
  let r := signFrom d z 64 key (hmac384 key v)
  beBytes 48 r.1 ++ beBytes 48 r.2

/-- A signature of 96 bytes checks under a public point. -/
@[irreducible] def ecdsaChecks (point : Nat × Nat) (msg sig : List Byte) : Bool :=
  let r := beNat (slice sig 0 48)
  let s := beNat (slice sig 48 48)
  let w := invMod n384 s
  let z := beNat (sha384Bytes msg)
  let q := ecAdd (ecTimes (g384.1, g384.2, 1) (z * w % n384) 384) (ecTimes (point.1, point.2, 1) (r * w % n384) 384)
  decide (1 ≤ r ∧ r < n384 ∧ 1 ≤ s ∧ s < n384) && q.2.2 != 0 && (ecAffine q).1 % n384 == r

end Sys2Proof.Machine
end

