-- ==== Sys2Proof/Machine/Ops.lean ====
section
/-! DEFINITION. The named operations over the state: one reader and one writer for every table, time, interrupts, the
control authority, and the giving of a record to the Grain block. -/
namespace Sys2Proof.Machine

/-! ## Tables of the state -/

/-- The mailbox with a number. -/
def State.mbox (s : State) (i : Nat) : Mailbox := Tbl.get ({} : Mailbox) s.mb i

/-- Writes the mailbox with a number. -/
def State.setMbox (s : State) (i : Nat) (v : Mailbox) : State := { s with mb := Tbl.set ({} : Mailbox) s.mb i v }

/-- Changes the mailbox with a number. -/
def State.updMbox (s : State) (i : Nat) (f : Mailbox → Mailbox) : State := s.setMbox i (f (s.mbox i))

/-- The timing domain with a number. -/
def State.dom (s : State) (i : Nat) : Domain := Tbl.get ({} : Domain) s.td i

/-- Writes the timing domain with a number. -/
def State.setDom (s : State) (i : Nat) (v : Domain) : State := { s with td := Tbl.set ({} : Domain) s.td i v }

/-- Changes the timing domain with a number. -/
def State.updDom (s : State) (i : Nat) (f : Domain → Domain) : State := s.setDom i (f (s.dom i))

/-- The time base with a number. -/
def State.base (s : State) (i : Nat) : TimeBase := Tbl.get ({} : TimeBase) s.tb i

/-- Writes the time base with a number. -/
def State.setBase (s : State) (i : Nat) (v : TimeBase) : State := { s with tb := Tbl.set ({} : TimeBase) s.tb i v }

/-- Changes the time base with a number. -/
def State.updBase (s : State) (i : Nat) (f : TimeBase → TimeBase) : State := s.setBase i (f (s.base i))

/-- The PTP instance with a number. -/
def State.inst (s : State) (i : Nat) : Ptp := Tbl.get ({} : Ptp) s.ptp i

/-- Writes the PTP instance with a number. -/
def State.setInst (s : State) (i : Nat) (v : Ptp) : State := { s with ptp := Tbl.set ({} : Ptp) s.ptp i v }

/-- Changes the PTP instance with a number. -/
def State.updInst (s : State) (i : Nat) (f : Ptp → Ptp) : State := s.setInst i (f (s.inst i))

/-- The time-stamp queue of a port with a number. -/
def State.queue (s : State) (i : Nat) : Tsq := Tbl.get ({} : Tsq) s.tsq i

/-- Writes the time-stamp queue of a port with a number. -/
def State.setQueue (s : State) (i : Nat) (v : Tsq) : State := { s with tsq := Tbl.set ({} : Tsq) s.tsq i v }

/-- Changes the time-stamp queue of a port with a number. -/
def State.updQueue (s : State) (i : Nat) (f : Tsq → Tsq) : State := s.setQueue i (f (s.queue i))

/-- The source with a number. -/
def State.source (s : State) (i : Nat) : Source := Tbl.get ({} : Source) s.sr i

/-- Writes the source with a number. -/
def State.setSource (s : State) (i : Nat) (v : Source) : State := { s with sr := Tbl.set ({} : Source) s.sr i v }

/-- Changes the source with a number. -/
def State.updSource (s : State) (i : Nat) (f : Source → Source) : State := s.setSource i (f (s.source i))

/-- The receive flow table entry with a number. -/
def State.rxFlow (s : State) (i : Nat) : RxFlow := Tbl.get ({} : RxFlow) s.rx i

/-- Writes the receive flow table entry with a number. -/
def State.setRxFlow (s : State) (i : Nat) (v : RxFlow) : State := { s with rx := Tbl.set ({} : RxFlow) s.rx i v }

/-- Changes the receive flow table entry with a number. -/
def State.updRxFlow (s : State) (i : Nat) (f : RxFlow → RxFlow) : State := s.setRxFlow i (f (s.rxFlow i))

/-- The frame store ring of a source with a number. -/
def State.ring (s : State) (i : Nat) : Ring := Tbl.get ({} : Ring) s.rings i

/-- Writes the frame store ring of a source with a number. -/
def State.setRing (s : State) (i : Nat) (v : Ring) : State := { s with rings := Tbl.set ({} : Ring) s.rings i v }

/-- Changes the frame store ring of a source with a number. -/
def State.updRing (s : State) (i : Nat) (f : Ring → Ring) : State := s.setRing i (f (s.ring i))

/-- The HBM stack with a number. -/
def State.stack (s : State) (i : Nat) : Stack := Tbl.get ({} : Stack) s.hbmStacks i

/-- Writes the HBM stack with a number. -/
def State.setStack (s : State) (i : Nat) (v : Stack) : State := { s with hbmStacks := Tbl.set ({} : Stack) s.hbmStacks i v }

/-- Changes the HBM stack with a number. -/
def State.updStack (s : State) (i : Nat) (f : Stack → Stack) : State := s.setStack i (f (s.stack i))

/-- The output port with a number. -/
def State.out (s : State) (i : Nat) : OutPort := Tbl.get ({} : OutPort) s.xp i

/-- Writes the output port with a number. -/
def State.setOut (s : State) (i : Nat) (v : OutPort) : State := { s with xp := Tbl.set ({} : OutPort) s.xp i v }

/-- Changes the output port with a number. -/
def State.updOut (s : State) (i : Nat) (f : OutPort → OutPort) : State := s.setOut i (f (s.out i))

/-- The destination with a number. -/
def State.dest (s : State) (i : Nat) : Dest := Tbl.get ({} : Dest) s.de i

/-- Writes the destination with a number. -/
def State.setDest (s : State) (i : Nat) (v : Dest) : State := { s with de := Tbl.set ({} : Dest) s.de i v }

/-- Changes the destination with a number. -/
def State.updDest (s : State) (i : Nat) (f : Dest → Dest) : State := s.setDest i (f (s.dest i))

/-- The transmit flow table entry with a number. -/
def State.txFlow (s : State) (i : Nat) : TxFlow := Tbl.get ({} : TxFlow) s.tx i

/-- Writes the transmit flow table entry with a number. -/
def State.setTxFlow (s : State) (i : Nat) (v : TxFlow) : State := { s with tx := Tbl.set ({} : TxFlow) s.tx i v }

/-- Changes the transmit flow table entry with a number. -/
def State.updTxFlow (s : State) (i : Nat) (f : TxFlow → TxFlow) : State := s.setTxFlow i (f (s.txFlow i))

/-- The Marquetry engine with a number. -/
def State.engine (s : State) (i : Nat) : Engine := Tbl.get ({} : Engine) s.mq i

/-- Writes the Marquetry engine with a number. -/
def State.setEngine (s : State) (i : Nat) (v : Engine) : State := { s with mq := Tbl.set ({} : Engine) s.mq i v }

/-- Changes the Marquetry engine with a number. -/
def State.updEngine (s : State) (i : Nat) (f : Engine → Engine) : State := s.setEngine i (f (s.engine i))

/-- The stack pair that holds an address of the HBM window: the lower half of the Marquetry window and of the staging window lies in
pair 0, the upper in pair 1 (R180, which names no half: DESIGN CHOICE, log 116). -/
def hbmPair (a : Nat) : Nat :=
  if a < 0x1100000000 then (if a < 0x1060000000 then 0 else 1) else (if a < 0x1130000000 then 0 else 1)

/-- A stack takes the writes of its pair: mirrored, the survivor, or rejoining (R25, R179, R196). -/
def Stack.takesWrites (k : Stack) : Bool := k.state == 0 || k.state == 2

/-- A stack serves reads (R25, R179, R196). -/
def Stack.serves (k : Stack) : Bool := k.state == 0

/-- Reads of an address go to the second stack of its pair: they alternate in 4 KiB blocks while both serve, and stay on the
survivor otherwise (R179, R25, R196; which block is whose is DESIGN CHOICE, log 116). -/
def State.onSecond (s : State) (a : Nat) : Bool :=
  let p := hbmPair a
  if (s.stack p).serves && (s.stack (p + 2)).serves then a / 4096 % 2 == 1 else !(s.stack p).serves

/-- The byte of the frame in the output buffer that holds an address (R314); none in other memory, or where no frame was written. -/
def State.outBuffer (s : State) (a : Nat) : Option Byte :=
  let m := (a - 0x1000000000) / 0x18000000
  let o := (a - 0x1000000000) % 0x18000000
  if 0x1000000000 ≤ a ∧ a < 0x10C0000000 ∧ 0x10000000 ≤ o ∧ o < 0x16000000 then
    (Tbl.get none (s.engine m).out ((o - 0x10000000) / 0x2000000)).map (fun f => Config.mqStored f.1 f.2 (o % 0x2000000))
  else none

/-- One byte of the HBM window as the frame store reads it; of a lost pair's regions, which are unusable, a free value (R195). -/
def State.hbmByte (s : State) (a : Nat) : Byte :=
  if (s.stack (hbmPair a)).state = 3 then Config.freeByte s.bx.free a
  else match s.outBuffer a with
  | some b => b
  | none => if s.onSecond a then s.hbm2.read a else s.hbm.read a

/-- Bytes of the HBM window. -/
def State.hbmRead (s : State) (a n : Nat) : List Byte := (List.range n).map (fun i => s.hbmByte (a + i))

/-- Writes one byte of the HBM window: to each stack of its pair that takes writes (R179). -/
def State.hbmPut (s : State) (a : Nat) (b : Byte) : State :=
  let p := hbmPair a
  { s with
    hbm := if (s.stack p).takesWrites then s.hbm.write a b else s.hbm
    hbm2 := if (s.stack (p + 2)).takesWrites then s.hbm2.write a b else s.hbm2 }

/-- Writes bytes of the HBM window. -/
def State.hbmWrite (s : State) : Nat → List Byte → State
  | _, [] => s
  | a, b :: bs => State.hbmWrite (s.hbmPut a b) (a + 1) bs

/-- A copy of the entries of one pair in a memory, over another memory's entries of the other pair. -/
def copyPair (p : Nat) (old new : Memory) : Memory :=
  (new.filter (fun e => hbmPair e.1 == p)).foldl (fun m e => m.write e.1 e.2) (old.filter (fun e => hbmPair e.1 != p))

/-- The frame store copies a pair's regions to a returning stack (R196). -/
def State.copyTo (s : State) (st : Nat) : State :=
  if st < 2 then { s with hbm := copyPair st s.hbm s.hbm2 } else { s with hbm2 := copyPair (st - 2) s.hbm2 s.hbm }

/-- The veneer (engine x 4 + veneer) with a number. -/
def State.veneer (s : State) (i : Nat) : Veneer := Tbl.get ({} : Veneer) s.veneers i

/-- Writes the veneer (engine x 4 + veneer) with a number. -/
def State.setVeneer (s : State) (i : Nat) (v : Veneer) : State := { s with veneers := Tbl.set ({} : Veneer) s.veneers i v }

/-- Changes the veneer (engine x 4 + veneer) with a number. -/
def State.updVeneer (s : State) (i : Nat) (f : Veneer → Veneer) : State := s.setVeneer i (f (s.veneer i))

/-- The Dovetail link with a number. -/
def State.link (s : State) (i : Nat) : Link := Tbl.get ({} : Link) s.dt i

/-- Writes the Dovetail link with a number. -/
def State.setLink (s : State) (i : Nat) (v : Link) : State := { s with dt := Tbl.set ({} : Link) s.dt i v }

/-- Changes the Dovetail link with a number. -/
def State.updLink (s : State) (i : Nat) (f : Link → Link) : State := s.setLink i (f (s.link i))

/-- The fault source with a number. -/
def State.fault (s : State) (i : Nat) : FaultSrc := Tbl.get ({} : FaultSrc) s.fc i

/-- Writes the fault source with a number. -/
def State.setFault (s : State) (i : Nat) (v : FaultSrc) : State := { s with fc := Tbl.set ({} : FaultSrc) s.fc i v }

/-- Changes the fault source with a number. -/
def State.updFault (s : State) (i : Nat) (f : FaultSrc → FaultSrc) : State := s.setFault i (f (s.fault i))

/-- The DMA channel with a number. -/
def State.chan (s : State) (i : Nat) : Chan := Tbl.get ({} : Chan) s.dma i

/-- Writes the DMA channel with a number. -/
def State.setChan (s : State) (i : Nat) (v : Chan) : State := { s with dma := Tbl.set ({} : Chan) s.dma i v }

/-- Changes the DMA channel with a number. -/
def State.updChan (s : State) (i : Nat) (f : Chan → Chan) : State := s.setChan i (f (s.chan i))

/-- The physical lane with a number. -/
def State.lane (s : State) (i : Nat) : Lane := Tbl.get ({} : Lane) s.ln i

/-- Writes the physical lane with a number. -/
def State.setLane (s : State) (i : Nat) (v : Lane) : State := { s with ln := Tbl.set ({} : Lane) s.ln i v }

/-- Changes the physical lane with a number. -/
def State.updLane (s : State) (i : Nat) (f : Lane → Lane) : State := s.setLane i (f (s.lane i))

/-- The lane of an SDI lane number: SLn is physical lane 128 + n (R512). -/
def State.sdiLane (s : State) (n : Nat) : Lane := s.lane (128 + n)

/-- The Ethernet port with a number. -/
def State.port (s : State) (i : Nat) : Port := Tbl.get ({} : Port) s.ep i

/-- Writes the Ethernet port with a number. -/
def State.setPort (s : State) (i : Nat) (v : Port) : State := { s with ep := Tbl.set ({} : Port) s.ep i v }

/-- Changes the Ethernet port with a number. -/
def State.updPort (s : State) (i : Nat) (f : Port → Port) : State := s.setPort i (f (s.port i))

/-- The subport (port x 8 + subport) with a number. -/
def State.subport (s : State) (i : Nat) : Subport := Tbl.get ({} : Subport) s.sub i

/-- Writes the subport (port x 8 + subport) with a number. -/
def State.setSubport (s : State) (i : Nat) (v : Subport) : State := { s with sub := Tbl.set ({} : Subport) s.sub i v }

/-- Changes the subport (port x 8 + subport) with a number. -/
def State.updSubport (s : State) (i : Nat) (f : Subport → Subport) : State := s.setSubport i (f (s.subport i))

/-- The power domain with a number. -/
def State.pdom (s : State) (i : Nat) : PwrDomain := Tbl.get ({} : PwrDomain) s.pw i

/-- Writes the power domain with a number. -/
def State.setPdom (s : State) (i : Nat) (v : PwrDomain) : State := { s with pw := Tbl.set ({} : PwrDomain) s.pw i v }

/-- Changes the power domain with a number. -/
def State.updPdom (s : State) (i : Nat) (f : PwrDomain → PwrDomain) : State := s.setPdom i (f (s.pdom i))

/-- The reference candidate with a number. -/
def State.cand (s : State) (i : Nat) : Cand := Tbl.get ({} : Cand) s.rf.cands i

/-- Writes the reference candidate with a number. -/
def State.setCand (s : State) (i : Nat) (v : Cand) : State :=
  { s with rf := { s.rf with cands := Tbl.set ({} : Cand) s.rf.cands i v } }

/-- Changes the reference candidate with a number. -/
def State.updCand (s : State) (i : Nat) (f : Cand → Cand) : State := s.setCand i (f (s.cand i))

/-- The frame-pulse output with a number. -/
def State.fpOut (s : State) (i : Nat) : FpOut := Tbl.get ({} : FpOut) s.rf.fp i

/-- Writes the frame-pulse output with a number. -/
def State.setFpOut (s : State) (i : Nat) (v : FpOut) : State :=
  { s with rf := { s.rf with fp := Tbl.set ({} : FpOut) s.rf.fp i v } }

/-- Changes the frame-pulse output with a number. -/
def State.updFpOut (s : State) (i : Nat) (f : FpOut → FpOut) : State := s.setFpOut i (f (s.fpOut i))

/-- The key slot with a number. -/
def State.slot (s : State) (i : Nat) : Slot := Tbl.get ({} : Slot) s.ks.slots i

/-- Writes the key slot with a number. -/
def State.setSlot (s : State) (i : Nat) (v : Slot) : State :=
  { s with ks := { s.ks with slots := Tbl.set ({} : Slot) s.ks.slots i v } }

/-- Changes the key slot with a number. -/
def State.updSlot (s : State) (i : Nat) (f : Slot → Slot) : State := s.setSlot i (f (s.slot i))

/-- PARENT as KEY_INFO and KEY_EVENT show it. -/
def Slot.parentCode (k : Slot) : Nat := k.parent.getD 0xFFFF

/-- The address at which the key of a slot stands (R407). -/
def Ks.place (k : Ks) (n : Nat) : Nat := k.addrs.getD n n

/-- The number that some bits make, the lowest first. -/
def fromBits (bs : List Bool) : Nat := bs.foldr (fun b v => flag b + 2 * v) 0

/-- A key behind a permutation of its bits: bit `i` is bit `p i` of the key (R407). -/
def permute (p : List Nat) (v : BitVec 256) : BitVec 256 :=
  BitVec.ofNat 256 (fromBits ((range 0 256).map (fun i => v.getLsbD (p.getD i i))))

/-- A key in front of a permutation of its bits. -/
def unpermute (p : List Nat) (v : BitVec 256) : BitVec 256 :=
  BitVec.ofNat 256 (fromBits ((range 0 256).map (fun j => v.getLsbD (if p.contains j then p.findIdx (fun x => x == j) else j))))

/-- The key of a slot, from behind its mask and both permutations (R407). -/
def Ks.keyOf (k : Ks) (n : Nat) : BitVec 256 := unpermute k.bits (Tbl.get 0 k.cells (k.place n)) ^^^ k.masks.getD n 0

/-- The cells after the key of a slot has been written behind its mask and both permutations (R407). -/
def Ks.withKey (k : Ks) (n : Nat) (key : BitVec 256) : Ks :=
  { k with cells := Tbl.set 0 k.cells (k.place n) (permute k.bits (key ^^^ k.masks.getD n 0)) }

/-- The integrity tag of a slot: the first four bytes of the AES-CMAC under the per-boot key over its key, its attribute and its parent
(R407; which 32 bits and in what layout DESIGN CHOICE, log 8). -/
def Ks.tagOf (k : Ks) (n : Nat) (v : Slot) : BitVec 32 :=
  BitVec.ofNat 32 (beNat ((aesCmac (leBytes 32 k.bootKey.toNat)
    (leBytes 32 (k.keyOf n).toNat ++ leBytes 1 v.attr ++ leBytes 2 v.parentCode)).take 4))

/-- The key of a slot (R407). -/
def State.slotKey (s : State) (n : Nat) : BitVec 256 := s.ks.keyOf n

/-- Writes a slot with its key and its tag (R407). -/
def State.writeSlot (s : State) (n : Nat) (v : Slot) (key : BitVec 256) : State :=
  let k := s.ks.withKey n key
  ({ s with ks := k } : State).setSlot n { v with tag := k.tagOf n v }

/-- Erases the key of a slot (R416). -/
def State.eraseKey (s : State) (n : Nat) : State :=
  { s with ks := { s.ks with cells := Tbl.set 0 s.ks.cells (s.ks.place n) 0 } }

/-- A slot is EMPTY again, and holds no key. -/
def State.emptySlot (s : State) (n : Nat) : State := (s.eraseKey n).setSlot n {}

/-- An internal link slot: 2k of the transmit and 2k + 1 of the receive direction of a link, unwrapped (15 R404). -/
def State.linkKey (s : State) (n : Nat) : BitVec 256 :=
  match unwrapBytes (leBytes 32 s.ks.linkKek.toNat) (Tbl.get [] s.linkKeys n) with
  | some bs => BitVec.ofNat 256 (leNat bs)
  | none => 0

/-- Writes an internal link slot, wrapped under the link key-encryption key (15 R404). -/
def State.setLinkKey (s : State) (n : Nat) (k : BitVec 256) : State :=
  { s with linkKeys := Tbl.set [] s.linkKeys n (wrapKey (leBytes 32 s.ks.linkKek.toNat) (leBytes 32 k.toNat)) }

/-- The salvo table with a number. -/
def State.salvo (s : State) (i : Nat) : Salvo := Tbl.get ({} : Salvo) s.bx.salvos i

/-- Writes the salvo table with a number. -/
def State.setSalvo (s : State) (i : Nat) (v : Salvo) : State :=
  { s with bx := { s.bx with salvos := Tbl.set ({} : Salvo) s.bx.salvos i v } }

/-- Changes the salvo table with a number. -/
def State.updSalvo (s : State) (i : Nat) (f : Salvo → Salvo) : State := s.setSalvo i (f (s.salvo i))

/-- A plane, B when the flag is set. -/
def State.plane (s : State) (b : Bool) : Plane := if b then s.planeB else s.planeA

/-- Writes a plane. -/
def State.setPlane (s : State) (b : Bool) (p : Plane) : State :=
  if b then { s with planeB := p } else { s with planeA := p }

/-! ## Entries of an output port -/

/-- An entry of an output port: plane B when `pb`, entry 1 when `one`. -/
def OutPort.entry (o : OutPort) (pb one : Bool) : XEntry :=
  if pb then (if one then o.b1 else o.b0) else (if one then o.a1 else o.a0)

/-- The entry in use of a plane, bank "now". -/
def OutPort.now (o : OutPort) (pb : Bool) : XEntry := o.entry pb o.cur

/-- The other entry, bank "next". -/
def OutPort.next (o : OutPort) (pb : Bool) : XEntry := o.entry pb (!o.cur)

/-! ## MACsec transmission -/

/-- The highest packet number of a secure channel, and the number past which it warns (R537). -/
def pnLimits (xpn : Bool) : Nat × Nat :=
  if xpn then (18446744073709551615, 13835058055282163712) else (4294967295, 3221225472)

/-- `n` frames leave a subport: all of them without a transmit channel; else as many as the SA in use has packet numbers
for, and none without an SA or with a REVOKED slot, which counts them in DROPS (R418, R537). -/
def State.macsecTake (s : State) (i n : Nat) : State × Nat :=
  let c := (s.subport i).tx
  if !c.used then (s, n)
  else match c.sas.find? (fun a => some a.an == c.an) with
    | none => (s, 0)
    | some a =>
      let k := s.slot a.slot
      if k.state = .revoked then (s.setSlot a.slot { k with drops := min 4294967295 (k.drops + n) }, 0)
      else
        let l := pnLimits c.xpn
        let m := min n (l.1 + 1 - a.pn)
        (s.updSubport i (fun p => { p with tx := { c with
          sas := c.sas.map (fun b => if b.an = a.an then { b with pn := a.pn + m } else b)
          warn := c.warn || decide (l.2 < a.pn + m - 1 ∧ 0 < m)
          exhausted := c.exhausted || decide (l.1 < a.pn + m) } }), m)

/-! ## Time -/

/-- Instants of the window clock are twelfths of a nanosecond: `n` ns. -/
def tuNs (n : Nat) : Nat := 12 * n

/-- `n` us as an instant difference. -/
def tuUs (n : Nat) : Nat := 12000 * n

/-- `n` ms as an instant difference. -/
def tuMs (n : Nat) : Nat := 12000000 * n

/-- The window clock as the 64-bit count of nanoseconds of R36. -/
def State.nowNs (s : State) : Nat := s.clk / 12

/-- Whether at least `d` has passed since an instant. -/
def State.passed (s : State) (t d : Nat) : Bool := decide (t + d ≤ s.clk)

/-- A whole second of a time base in units of 2^-32 ns. -/
def tbSecond : Nat := 1000000000 * 4294967296

/-- SEC of a time base (R112). -/
def TimeBase.sec (b : TimeBase) : Nat := b.time / tbSecond % 281474976710656

/-- NS of a time base (R112). -/
def TimeBase.nanos (b : TimeBase) : Nat := b.time / 4294967296 % 1000000000

/-- FRAC of a time base (R112). -/
def TimeBase.frac (b : TimeBase) : Nat := b.time % 4294967296

/-- Whether a time base is configured (R115). -/
def TimeBase.configured (b : TimeBase) : Bool := decide (b.state ≠ .unconfigured)

/-- The free-value counter after one more value is drawn (log 6). -/
def State.drawFree (s : State) : State := { s with bx := { s.bx with free := s.bx.free + 1 } }

/-! ## Lanes that come up (19 R517 to R519) -/

/-- Tap codes that training arrives at, within the bounds of R518: free values. -/
def freeTaps (free l : Nat) : Nat × Nat × Nat :=
  let pre := (Config.freeInt free (4 * l + 1)).toNat % 16
  let main := 24 + (Config.freeInt free (4 * l + 2)).toNat % (40 - pre)
  (pre, main, (Config.freeInt free (4 * l + 3)).toNat % min 32 (64 - pre - main))

/-- Lanes come up: one that is adaptive chooses its peaking code, and training, where there is one, replaces the transmit taps; which code
and taps is left to the line, so they are free values (R517, R519; log 148). -/
def State.adapt (s : State) (ls : List Nat) (train : Bool) : State :=
  State.drawFree (ls.foldl (fun t l => t.updLane l (fun k => { k with
    ctle := if k.fixedEq then k.ctle else (Config.freeInt s.bx.free (4 * l)).toNat % 16
    eqSince := s.clk
    trained := if train then some (freeTaps s.bx.free l) else none })) s)

/-- Lanes whose bring-up begins have the taps that they were given (R519). -/
def State.untrain (s : State) (ls : List Nat) : State :=
  ls.foldl (fun t l => t.updLane l (fun k => { k with trained := none })) s

/-! ## Messages to the host -/

/-- Raises an interrupt message over UCIe on a vector (R84, R383, R498, R534). -/
def State.raiseVector (s : State) (v : Nat) : State := { s with glb := { s.glb with irqs := s.glb.irqs ++ [v] } }

/-- Sets MB_IRQ_STAT.ERR with a cause and raises the mailbox's interrupt when ERR_EN is set (R57, R84). -/
def State.setErr (s : State) (n cause : Nat) : State :=
  let m := s.mbox n
  let t := s.setMbox n { m with err := true, cause := cause }
  if m.errEn then t.raiseVector n else t

/-! ## Identity -/

/-- The identity block of Table Identity block: 14 fused bytes, then VARIANT and STEPPING. -/
def State.identityBlock (s : State) : List Byte :=
  slice s.fuses.identity 0 14 ++ leBytes 1 s.fuses.variant ++ leBytes 1 s.fuses.stepping

/-- The seal key statement, object 2 of Table Certificate objects (Table Seal key statement). -/
def State.sealStatement (s : State) : List Byte :=
  let b := [0x53, 0x45, 0x41, 0x4C] ++ leBytes 2 1 ++ leBytes 2 224 ++ s.identityBlock
    ++ publicPoint s.ks.sealKey ++ List.replicate 7 0
  b ++ ecdsaSign s.ks.idKey b

/-! ## Sessions and roles -/

/-- The session byte that MB_STATE shows: the generation count and the mailbox number (R66, R613). -/
def State.sessionByte (s : State) (n : Nat) : Nat := 16 * (s.mbox n).gen + n

/-- The number of open sessions. -/
def State.openSessions (s : State) : Nat := countBelow (fun n => (s.mbox n).isOpen) 16

/-- The commands of a mailbox in flight (R61). -/
def State.inflightOf (s : State) (n : Nat) : Nat := (s.bx.flights.filter (fun f => f.mb == n)).length

/-- The commands in flight across the device (R61). -/
def State.inflight (s : State) : Nat := s.bx.flights.length

/-- The id of the next command that enters: the next of the counter, and above every id in flight or staged. -/
def State.newId (s : State) : Nat :=
  (s.bx.flights.map (fun f => f.id) ++ s.bx.staged.map (fun w => w.id)).foldl (fun m i => max m (i + 1)) s.bx.nextId

/-- The flight with an id. -/
def State.flight? (s : State) (id : Nat) : Option Flight := s.bx.flights.find? (fun f => f.id == id)

/-- Changes the flight with an id. -/
def State.updFlight (s : State) (id : Nat) (f : Flight → Flight) : State :=
  { s with bx := { s.bx with flights := s.bx.flights.map (fun x => if x.id == id then f x else x) } }

/-- Gives a flight its completion: it is due and waits to be posted (R51, R86). A completion once decided stays. -/
def State.settle (s : State) (id : Nat) (r : Rep) : State :=
  s.updFlight id (fun f => if f.reply.isSome then f else { f with reply := some r })

/-- What a register shows of a block that start-up brings up: 0, as its table gives for reset, until the device is READY, and through a
CC-only reset what it showed (R577, R582; DESIGN CHOICE, log 150). -/
def State.broughtUp (s : State) (n : Nat) : Nat := if s.startup.ready || s.startup.ccOnly then n else 0

/-- The device holds the arbitrated roles: always while pairing is OFF, otherwise while HOLD is set (R342, R343). -/
def State.holdsRoles (s : State) : Bool := decide (s.pr.state = .off) || s.pr.hold

/-- The device is its pair's control authority (R79, R343): role bit 0 of PAIR_CONFIG, or always while pairing is OFF. -/
def State.authority (s : State) : Bool := decide (s.pr.state = .off) || (s.pr.hold && bit s.pr.roles 0)

/-- The device is the Grain signer (R426): role bit 1 of PAIR_CONFIG, or always while pairing is OFF. -/
def State.signer (s : State) : Bool := decide (s.pr.state = .off) || (s.pr.hold && bit s.pr.roles 1)

/-- The device holds the PTP master role (R130): role bit 2 of PAIR_CONFIG, or always while pairing is OFF. -/
def State.ptpMaster (s : State) : Bool := decide (s.pr.state = .off) || (s.pr.hold && bit s.pr.roles 2)

/-! ## Records for the Grain log (R428, R429) -/

/-- The time of a base at an instant at or before now: the base's time less what the window clock has counted since
(DEDUCED, log 10). -/
def State.tbTimeAt (s : State) (n inst : Nat) : Nat :=
  (s.base n).time - (s.clk - inst) * 4294967296 / 12

/-- The stamp of Table Record stamp: time in the Grain time base at an instant, then domain and tick when given. -/
def State.grainStamp (s : State) (inst : Nat) (tick : Option (Nat × Nat)) : List Byte :=
  let t := s.tbTimeAt s.gr.tb inst
  leBytes 6 (t / tbSecond) ++ leBytes 4 (t / 4294967296 % 1000000000)
    ++ (match tick with
        | some (d, n) => leBytes 2 d ++ leBytes 4 n
        | none => leBytes 2 0xFF ++ leBytes 4 0)

/-- FLAGS of a record's header: the epoch is saturated, the Grain time base is not TRACKING (R428). -/
def State.grainFlags (s : State) : Nat :=
  flag (decide (4096 ≤ s.fuses.epoch)) + 2 * flag (decide ((s.base s.gr.tb).state ≠ .tracking))

/-- Adds to the records a flight's completion waits for (R431). -/
def State.holdFor (s : State) : Option Nat → State
  | none => s
  | some id => s.updFlight id (fun f => { f with records := f.records + 1 })

/-- Gives one record to the Grain block: its type, the instant and tick of its stamp, its body after the stamp, and the
command that waits for it. A FROZEN device stages nothing (R427). After PWRFAIL_N asserted no record of a later event is
accepted, and it counts as lost (R443, R444). Before the Grain block starts there is nothing to give it to (R440). -/
def State.giveRecord (s : State) (type inst : Nat) (tick : Option (Nat × Nat)) (body : List Byte)
    (id : Option Nat) : State :=
  if s.pr.state = .frozen ∨ !(s.startup.ready || s.startup.ccOnly) then s
  else if s.pins.pwrfail then { s with gr := { s.gr with lost := s.gr.lost + 1 } }
  else
    let dev := s.straps.groupIdx + 4 * flag s.straps.pairId
    let r : GrainRec := ⟨type, s.grainFlags, s.fuses.epoch, dev, s.grainStamp inst tick ++ body, id⟩
    State.holdFor { s with gr := { s.gr with inbox := s.gr.inbox ++ [r] } } id

/-- Pads a byte string with zeros to a multiple of 8 (R428). -/
def pad8 (bs : List Byte) : List Byte := bs ++ List.replicate ((8 - bs.length % 8) % 8) 0

/-- The body of a REF_EVENT record after its stamp (R111, Table Record types). -/
def refBody (event from' goal cand dom : Nat) (step : Int) : List Byte :=
  leBytes 4 (event + 256 * from' + 65536 * goal + 16777216 * cand) ++ leBytes 4 dom ++ leBytes 4 (ofSigned 4 step)
    ++ leBytes 4 0

/-- A REF_EVENT record of an event of this instant (R111, R429). -/
def State.refEvent (s : State) (event from' goal cand dom : Nat) (step : Int) : State :=
  s.giveRecord 0x10 s.clk none (refBody event from' goal cand dom step) none

/-- The REF_EVENT record of an FP_REALIGN of a domain, stamped with its effective tick and that tick's instant as
tick-applied work is (R111, R429). -/
def State.realignEvent (s : State) (d n inst : Nat) : State :=
  s.giveRecord 0x10 inst (some (d, n))
    (refBody 5 0 0 0xFF d (Int.tdiv ((s.dom d).pending.getD 0) 12)) none

/-- A TIME_EVENT record (R126): event 0 step, 1 state change, 2 change of grandmaster; the amount in 2^-16 ns, a longer one modulo
2^64 (DESIGN CHOICE, log 133). DESIGN CHOICE
(log 113): the clockIdentity in GM stands most significant byte first, as IEEE 1588 writes it. -/
def State.timeEvent (s : State) (tb event state stepcnt : Nat) (amount : Int) (gm : Nat) : State :=
  s.giveRecord 0x11 s.clk none
    (leBytes 4 (tb + 256 * event + 65536 * state + 16777216 * stepcnt) ++ leBytes 4 0
      ++ leBytes 8 (ofSigned 8 amount) ++ beBytes 8 gm) none

/-- A FAULT_EVENT record for a change of STATE of a source (5), destination (6) or link (7) (R178, R269, R340). -/
def State.stateEvent (s : State) (event subject state : Nat) : State :=
  s.giveRecord 0x22 s.clk none
    (leBytes 2 0xFFFF ++ leBytes 2 event ++ leBytes 2 subject ++ leBytes 2 state ++ leBytes 8 0) none

end Sys2Proof.Machine
end

