-- ==== Sys2Proof/Machine/Burst.lean ====
section
/-! DEFINITION. The burst of words that carries a line through the fabric and its checks (01 R15, 08 R202, R204, R231 to R234).

A plane delivers the words that entered it, each changed in the bits that a `CopyFault` names. A CRC is affine in what it covers, so
whether a check still holds depends on the changed bits alone: only they are computed here. -/
namespace Sys2Proof.Machine

/-! ## Words (R15, R202) -/

/-- The 64 bits of a line header (Table Line header); its bits 7 to 0 are reserved and 0. -/
def hdrImage (h : LineHdr) : Nat :=
  2 ^ 52 * (h.src % 4096) + 2 ^ 49 * (h.td % 8) + 2 ^ 48 * (h.parity % 2) + 2 ^ 35 * (h.line % 8192)
    + 2 ^ 11 * (h.tick % 16777216) + 2 ^ 8 * (h.cls % 8)

/-- The header that 64 bits spell. -/
def hdrOf (v : Nat) : LineHdr where
  src := v / 2 ^ 52 % 4096
  td := v / 2 ^ 49 % 8
  parity := v / 2 ^ 48 % 2
  line := v / 2 ^ 35 % 8192
  tick := v / 2 ^ 11 % 16777216
  cls := v / 2 ^ 8 % 8

/-- The slice that an input port enters (R202). -/
def sliceOf (port : Nat) : Nat := port % 16

/-- The words of a line: W of R202. -/
def burstWords (l : FabLine) : Nat := lineWords l.fmt l.sampling l.depth

/-- The checksum word of a line with a line checksum (R231): the checksum in bits 31 to 0, W in bits 38 to 32, the rest 0. -/
def checksumWord (crc w : Nat) : Nat := crc % 2 ^ 32 + 2 ^ 32 * (w % 128)

/-! ## CRC-32C (R231; its bit and byte order PRESUMED, log 119) -/

/-- One bit of CRC-32C. -/
def crcBit (c : Nat) : Nat := if c % 2 = 1 then (c / 2) ^^^ 0x82F63B78 else c / 2

/-- One byte of CRC-32C. -/
def crcByte (c b : Nat) : Nat := (range 0 8).foldl (fun k _ => crcBit k) (c ^^^ b)

/-- By what changed bytes change a CRC-32C. -/
def crcDelta (bs : List Nat) : Nat := bs.foldl crcByte 0

/-- The 128 bytes of a word. -/
def wordBytes (m : Nat) : List Nat := (range 0 128).map (fun i => m / 256 ^ i % 256)

/-- The bits of word `i` that a copy carries wrong: of the word, and above them of its word check. -/
def copyMask (f : CopyFault) (i : Nat) : Nat := ((f.flips.find? (fun q => q.1 == i)).map (fun q => q.2)).getD 0

/-- A word fails its word check, which covers the word, its index and LINE (R231). -/
def wordFails (m : Nat) : Bool := crcDelta (wordBytes (m % 2 ^ 1024) ++ [0, 0, 0]) != m / 2 ^ 1024 % 2 ^ 32

/-- The line checksum of a burst whose words are wrong by `mask` no longer agrees with the one its checksum word carries (R231,
R233). -/
def sumFails (w : Nat) (mask : Nat → Nat) : Bool :=
  crcDelta ((range 0 (w - 1)).flatMap (fun i => wordBytes (mask i % 2 ^ 1024))) != mask (w - 1) % 2 ^ 32

/-! ## Crosspoint entries (R204) -/

/-- What SEC-DED makes of an entry of which bits are wrong, of its 64 and its 8 of code: 0 good, 1 corrected, 2 uncorrectable (three
or more as two: PRESUMED, log 119). -/
def entryRead (bits : List Nat) : Nat := min 2 (bits.eraseDups.filter (fun b => decide (b < 72))).length

/-- The current entry of an output port in a plane is uncorrectable. -/
def OutPort.uncorr (o : OutPort) (pb : Bool) : Bool := o.bad.any (fun q => q.1 == pb && q.2.1 == o.cur)

/-- The bits of an entry that read wrong while it is uncorrectable. -/
def OutPort.wrongBits (o : OutPort) (pb one : Bool) : List Nat :=
  ((o.bad.find? (fun q => q.1 == pb && q.2.1 == one)).map (fun q => q.2.2)).getD []

/-- An entry of a port is written afresh in a plane: it is good. -/
def OutPort.mend (o : OutPort) (pb one : Bool) : OutPort := { o with bad := o.bad.filter (fun q => !(q.1 == pb && q.2.1 == one)) }

end Sys2Proof.Machine
end

