-- ==== Sys2Proof/Machine/LinkFrames.lean ====
section
/-! DEFINITION. The frames that a Dovetail link sends (12 R333, R336 to R338, 15 R418): their numbers, the nonce that protects them and the
replay buffer.

How long a link frame is and how its bytes are laid out is not in the spec. DESIGN CHOICE (log 30): everything that this device sends
over a link, a line, a message or the samples of a channel, is one frame. -/
namespace Sys2Proof.Machine

/-- A link is UP_56 or UP_112. -/
def Link.isUp (l : Link) : Bool := l.state == .up56 || l.state == .up112

/-- An instant in cycles of a link: 1.40625 GHz from the instant at which it came up (12 R333; from when they count DESIGN CHOICE, log
142). -/
def Link.cyclesAt (l : Link) (inst : Nat) : Nat := (inst - l.upAt) * 15 / 128

/-- The instant at which a link has counted its cycles to a number. -/
def Link.instantOf (l : Link) (cycles : Nat) : Nat := l.upAt + (cycles * 128 + 7) / 15

/-- 512 link cycles in twelfths of a nanosecond, for which the replay buffer keeps a frame (R333). -/
def replayHold : Nat := 4369

/-- The fields of the nonce of a link's frame with a frame count, in order, each with its width in bits: index, link, PAIR_ID, boot
epoch, bring-ups and frame count (R337). -/
def State.linkNonce (s : State) (k count : Nat) : List (Nat × Nat) :=
  [(2, s.straps.groupIdx % 4), (2, k), (1, flag s.straps.pairId), (13, s.fuses.epoch), (14, (s.link k).bringups), (64, count)]

/-- The 96 bits that the fields of a nonce make, the first field in the highest bits (R337). -/
def nonceBits (fs : List (Nat × Nat)) : BitVec 96 :=
  BitVec.ofNat 96 (fs.foldl (fun v f => v * 2 ^ f.1 + f.2 % 2 ^ f.1) 0)

/-- The key of the frames that a link sends: a derived one, or that of TX_SLOT (R336). -/
def State.txKey (s : State) (k : Nat) : BitVec 256 :=
  if (s.link k).txSlot = 0xFFFF then s.linkKey (2 * k) else s.slotKey (s.link k).txSlot

/-- The new frame with which a link sends something now. Its CRC is not given (log 30). -/
def State.newFrame (s : State) (k : Nat) (body : LinkBody) : OutFrame :=
  let l := s.link k
  { seq := l.txSeq
    count := l.txFrames
    crc := Config.frameCrc k l.txFrames
    cover := if l.crypt then some (s.txKey k, nonceBits (s.linkNonce k l.txFrames)) else none
    body := body
    first := s.clk }

/-- A link is encrypted with a loaded key that is REVOKED, in a direction (R338, R418). -/
def State.linkRevoked (s : State) (k slot : Nat) : Bool :=
  (s.link k).crypt && slot != 0xFFFF && (s.slot slot).state == .revoked

/-- The key store counts a frame that needs a REVOKED slot (R418). -/
def State.dropUnder (s : State) (slot : Nat) : State :=
  s.setSlot slot { s.slot slot with drops := min 4294967295 ((s.slot slot).drops + 1) }

/-- A link sends something: in a new frame, which the replay buffer keeps for 512 link cycles; under a REVOKED slot it is dropped and
counted; a link that is not UP sends nothing (R333, R337, R338, R418). -/
def State.sendFrame (s : State) (k : Nat) (body : LinkBody) : State :=
  let l := s.link k
  if !l.isUp then s
  else if s.linkRevoked k l.txSlot then s.dropUnder l.txSlot
  else s.setLink k { l with
    txSeq := (l.txSeq + 1) % 65536
    txFrames := l.txFrames + 1
    kept := s.newFrame k body :: l.kept.filter (fun f => decide (s.clk ≤ f.first + replayHold)) }

/-- A link sends frames of its replay buffer again, exactly as first sent (R333, R337). -/
def State.resendFrames (s : State) (k : Nat) (seqs : List Nat) : State :=
  s.updLink k (fun l => { l with
    resent := (l.kept.filter (fun f => seqs.contains f.seq && decide (s.clk ≤ f.first + replayHold))).reverse })

/-- The pairing link no longer carries the exchange: no domain is pair-aligned (13 R365). -/
def State.unpaired (s : State) (k : Nat) : State :=
  if s.pr.link = k then { s with pr := { s.pr with aligned := 0 } } else s

/-- Sets bit `d` of a mask to a flag. -/
def setBit (m d : Nat) (b : Bool) : Nat := if bit m d = b then m else if b then m + 2 ^ d else m - 2 ^ d

/-- A domain loses its ticks, its time base or its rate: it is aligned with no device until the next exchange (R327, R365). -/
def State.unalign (s : State) (d : Nat) : State :=
  { s with
    dt := s.dt.map (fun p => (p.1, { p.2 with aligned := setBit p.2.aligned d false }))
    pr := { s.pr with aligned := setBit s.pr.aligned d false } }

end Sys2Proof.Machine
end

