-- ==== Sys2Proof/Machine/Roles.lean ====
section
/-! DEFINITION. The pairing logic's shared operations: heartbeats, changes of state, roles taken and dropped (chapter 13). -/
namespace Sys2Proof.Machine

/-- The code of a pair state (Table Pair states). -/
def PairState.code : PairState → Nat
  | .off => 0
  | .isolated => 1
  | .joining => 2
  | .standby => 3
  | .active => 4
  | .frozen => 5

/-- One bit step of CRC-32C, reflected (PRESUMED, log 11: the polynomial of the named check). -/
def crcStep : Nat → BitVec 32 → BitVec 32
  | 0, c => c
  | n + 1, c => crcStep n (if c.getLsbD 0 then (c >>> 1) ^^^ 0x82F63B78#32 else c >>> 1)

/-- CRC-32C over a byte string (R231, R345). -/
def crc32c (bs : List Byte) : BitVec 32 :=
  (bs.foldl (fun c b => crcStep 8 (c ^^^ (b.setWidth 32))) 0xFFFFFFFF#32) ^^^ 0xFFFFFFFF#32

/-- Whether a heard instant lies within the last 1.0 ms (R347, R348). -/
def State.heardNow (s : State) : Option Nat → Bool
  | some t => decide (s.clk < t + tuMs 1)
  | none => false

/-- FLAGS of Table Heartbeat: ALIVE, GNT, HOLD, CONTROL_LOST, SYNC, PAIR_ID. -/
def State.beatFlags (s : State) : Nat :=
  flag s.pins.alive + 2 * flag s.pins.clampGnt + 4 * flag s.pr.hold + 8 * flag (decide (s.pr.state = .frozen))
    + 16 * flag s.pr.sync + 32 * flag s.straps.pairId

/-- The 32 bytes of a heartbeat (Table Heartbeat). -/
def State.beat (s : State) (type : Nat) : List Byte :=
  let b := leBytes 4 (type + 256 * s.beatFlags + 65536 * s.pr.state.code)
    ++ leBytes 4 s.pr.tag.toNat ++ leBytes 4 s.pr.seq ++ leBytes 4 (s.pr.lastSeq.getD 0)
    ++ leBytes 2 s.pr.roleGen ++ List.replicate 10 0
  b ++ leBytes 4 (crc32c b).toNat

/-- Sends a heartbeat, over DOWEL and over the pairing link (R344). -/
def State.sendBeat (s : State) (b : List Byte) : State :=
  State.sendFrame { s with pr := { s.pr with sentBeats := s.pr.sentBeats ++ [b] } } s.pr.link (.beat b)

/-- Sends an event heartbeat, which repeats the current SEQ (R344, R345). -/
def State.eventBeat (s : State) : State := if s.pr.state = .off then s else s.sendBeat (s.beat 2)

/-- CLAMP_REQ under R354: ACTIVE, ALIVE_N asserted, and PAIR_CONFIG enables a role. -/
def State.refreshClamp (s : State) : State :=
  { s with pins := { s.pins with clampReq := decide (s.pr.state = .active) && s.pins.alive && decide (s.pr.roles ≠ 0) } }

/-- A PAIR_EVENT record: 0 state change, 1 path lost, 2 path restored, 3 role taken, 4 role dropped, 5 DIVERGE with its
map. PATHS is bit 0 DOWEL heard, bit 1 link heard (DEDUCED, log 12). -/
def State.pairEvent (s : State) (event from' goal : Nat) (map : List Byte) : State :=
  s.giveRecord 0x21 s.clk none
    (leBytes 4 (event + 256 * from' + 65536 * goal
        + 16777216 * (flag (s.heardNow s.pr.heardDowel) + 2 * flag (s.heardNow s.pr.heardLink)))
      ++ leBytes 2 s.pr.roleGen ++ leBytes 2 s.pr.pGen ++ leBytes 8 0 ++ map) none

/-- The pairing link is up: PAIR_CONFIG names a link and it is UP (R344, R427). -/
def State.pairUp (s : State) : Bool :=
  decide (s.pr.link < 3)
    && (decide ((s.link s.pr.link).state = .up56) || decide ((s.link s.pr.link).state = .up112))

/-- Sends an item of the mirror over the pairing link. -/
def State.sendItem (s : State) (item : MirrorItem) : State :=
  State.sendFrame { s with pr := { s.pr with sentItems := s.pr.sentItems ++ [item] } } s.pr.link (.item item)

/-- A paired device that is not the signer forwards a record of its started log to its partner while the pairing link is up (16 R427,
R440). -/
def State.forward (s : State) (r : GrainRec) : State :=
  if s.pairUp && !s.signer && s.gr.started then s.sendFrame s.pr.link (.record { r with flight := none }) else s

/-- The records that no acknowledgement has come for are forwarded in order, those sent before the pairing link went down among them
(R427; the latter DEDUCED, log 147). -/
def State.forwardAll (s : State) : State := s.gr.unchained.foldl State.forward s

/-- The active sends an item of a mirror category over the pairing link (R361, R366). -/
def State.mirror (s : State) (category : Nat) (item : MirrorItem) : State :=
  if decide (s.pr.state = .active) && bit s.pr.mask category && s.pairUp then s.sendItem item else s

/-- The tick-applied commands that need the operator role (R78, R79). -/
def isOperatorTick (op : Nat) : Bool :=
  op == 0x0501 || op == 0x0503 || op == 0x0504 || op == 0x0505 || op == 0x0701 || op == 0x0702 || op == 0x0707
    || op == 0x0802 || op == 0x0803

/-- Completes with a reply every command in flight that satisfies a test and has no completion yet, and takes its staged
work away (R80, R86, R360). -/
def State.settleWhere (s : State) (p : Flight → Bool) (r : Rep) : State :=
  let hit := fun f : Flight => p f && f.reply.isNone
  let ids := (s.bx.flights.filter hit).map (fun f => f.id)
  { s with bx := { s.bx with
      flights := s.bx.flights.map (fun f => if hit f then { f with reply := some r } else f)
      staged := s.bx.staged.filter (fun w => !ids.contains w.id) } }

/-- Returns the PENDING slot of an aborted KEY_LOAD or KEY_DERIVE to EMPTY (R413, R421). -/
def State.dropPending (s : State) (f : Flight) : State :=
  if f.cmd.opcode = 0x0C01 ∨ f.cmd.opcode = 0x0C02 then
    (if (s.slot (f.cmd.u16 16)).state = .pending then s.emptySlot (f.cmd.u16 16) else s)
  else s

/-- Refuses every command in flight that satisfies a test and has no completion yet, so that it has had no effect: its staged
work goes, and the slot that it had taken (R69). -/
def State.refuseWhere (s : State) (p : Flight → Bool) (r : Rep) : State :=
  ((s.bx.flights.filter (fun f => p f && f.reply.isNone)).foldl State.dropPending s).settleWhere p r

/-- The device stops being control authority: its accepted operator commands whose work is not sealed complete
NOT_AUTHORITY with detail 2 (R360). -/
def State.loseAuthority (s : State) : State :=
  s.settleWhere (fun f => isOperatorTick f.cmd.opcode && decide (f.phase = .staged)) (repNotAuthority 2)

/-- Drops every arbitrated role (R356), with its PAIR_EVENT record. -/
def State.dropRoles (s : State) : State :=
  if s.pr.hold then
    let had := s.authority
    let t : State := { s with pr := { s.pr with hold := false } }
    let t := t.pairEvent 4 t.pr.state.code t.pr.state.code []
    if had then t.loseAuthority else t
  else s

/-- One more than the greater of two generations, modulo 2^16 (R352). -/
def nextGen (own heard : Nat) : Nat :=
  (if (heard + 65536 - own) % 65536 < 32768 then heard + 1 else own + 1) % 65536

/-- The body of RESUME and TAKEOVER from REASON on (Table RESUME and TAKEOVER body). -/
def State.resumeBody (s : State) (reason cflags citedEpoch gen citedCount : Nat) (cited : BitVec 384) : List Byte :=
  leBytes 2 (reason + 256 * cflags) ++ leBytes 2 citedEpoch ++ leBytes 2 gen ++ leBytes 2 0
    ++ leBytes 8 citedCount ++ beBytes 48 cited.toNat ++ s.sealStatement

/-- A change of pair state (R350 to R354): leaving ACTIVE drops the arbitrated roles and stops the mirror, entering ACTIVE
raises ROLE_GEN; CLAMP_REQ follows, a PAIR_EVENT record is written and an event heartbeat sent. -/
def State.pairGo (s : State) (goal : PairState) : State :=
  if s.pr.state = goal then s
  else
    let from' := s.pr.state.code
    let t := if s.pr.state = .active then s.dropRoles else s
    let gen := if goal = .active then nextGen t.pr.roleGen t.pr.pGen else t.pr.roleGen
    let t : State := { t with pr := { t.pr with
      state := goal
      roleGen := gen
      sync := decide (goal = .standby)
      snapReq := decide (goal = .joining)
      choices := if goal = .standby ∨ (goal = .frozen ∧ t.pr.state = .standby) then t.pr.choices else []
      followed := decide (goal = .standby ∨ (goal = .frozen ∧ t.pr.state = .standby)) } }
    (t.refreshClamp.pairEvent 0 from' goal.code []).eventBeat

end Sys2Proof.Machine
end

