-- ==== Sys2Proof/Machine/Flags.lean ====
section
/-! DEFINITION. The fault flags: Table Fault sources, latching, escalation, clearing, FAULT_N, and the hardware actions
(chapter 14). -/
namespace Sys2Proof.Machine

/-- A row of Table Fault sources: whether it is a level source, its reset class and reset action. -/
structure FaultRow where
  level : Bool
  cls : Nat
  action : Nat
  deriving DecidableEq, Repr

/-- Table Fault sources; none for a reserved source. -/
def faultRow (n : Nat) : Option FaultRow :=
  if n ≤ 1 then some ⟨true, 1, 0⟩
  else if n = 2 then some ⟨true, 3, 4⟩
  else if n = 3 then some ⟨false, 0, 0⟩
  else if n = 4 then some ⟨false, 2, 0⟩
  else if n ≤ 6 then some ⟨false, 0, 0⟩
  else if n = 7 then some ⟨true, 2, 0⟩
  else if n ≤ 9 then some ⟨false, 1, 1⟩
  else if n ≤ 11 then some ⟨true, 1, 1⟩
  else if n = 12 then some ⟨true, 1, 0⟩
  else if n ≤ 20 then some ⟨false, 2, 0⟩
  else if n = 21 then some ⟨false, 0, 0⟩
  else if n = 22 then some ⟨false, 2, 0⟩
  else if n = 23 then some ⟨true, 3, 5⟩
  else if n ≤ 39 then
    (if n % 4 = 0 then some ⟨false, 0, 0⟩
     else if n % 4 = 3 then some ⟨false, 2, 0⟩
     else some ⟨true, 1, 2⟩)
  else if n ≤ 41 then some ⟨true, 3, 5⟩
  else if n ≤ 43 then none
  else if n ≤ 45 then some ⟨false, 2, 0⟩
  else if n = 46 then some ⟨false, 0, 0⟩
  else if n = 47 then some ⟨false, 2, 0⟩
  else if n ≤ 51 then none
  else if n ≤ 59 then some ⟨false, 2, 0⟩
  else if n ≤ 67 then some ⟨false, 1, 0⟩
  else if n ≤ 83 then some ⟨true, 0, 0⟩
  else if n ≤ 95 then (if n % 3 = 2 then some ⟨true, 1, 0⟩ else some ⟨true, 0, 0⟩)
  else if n ≤ 107 then
    (if n % 4 = 0 then some ⟨false, 0, 3⟩
     else if n % 4 = 2 then some ⟨true, 2, 0⟩
     else some ⟨true, 1, 0⟩)
  else if n ≤ 111 then none
  else if n = 112 then some ⟨true, 1, 0⟩
  else if n = 113 then some ⟨true, 2, 0⟩
  else if n = 114 then some ⟨false, 1, 0⟩
  else if n = 115 then some ⟨true, 3, 5⟩
  else if n ≤ 123 then some ⟨true, 0, 0⟩
  else if n = 124 then some ⟨false, 0, 0⟩
  else if n ≤ 127 then none
  else if n ≤ 129 then some ⟨true, 1, 0⟩
  else if n = 130 then some ⟨true, 2, 0⟩
  else if n ≤ 143 then none
  else if n ≤ 159 then some ⟨true, 1, 0⟩
  else if n ≤ 167 then some ⟨true, 0, 0⟩
  else if n = 168 then some ⟨false, 0, 0⟩
  else if n ≤ 175 then none
  else if n ≤ 177 then some ⟨false, 2, 0⟩
  else if n = 178 then some ⟨true, 1, 0⟩
  else if n = 179 then some ⟨false, 2, 0⟩
  else if n = 180 then some ⟨true, 0, 0⟩
  else if n ≤ 191 then none
  else if n ≤ 207 then some ⟨true, 0, 0⟩
  else if n = 208 then some ⟨true, 1, 0⟩
  else if n ≤ 210 then some ⟨true, 2, 0⟩
  else if n = 211 then some ⟨true, 3, 5⟩
  else if n = 212 then some ⟨false, 2, 0⟩
  else if n ≤ 223 then none
  else if n = 224 then some ⟨false, 0, 0⟩
  else if n = 225 then some ⟨false, 2, 0⟩
  else if n ≤ 254 then none
  else if n = 255 then some ⟨true, 3, 0⟩
  else none

/-- Sources whose row covers several items, so that a record names the item of the firing (16 Record types and bodies). -/
def faultNames (n : Nat) : Bool :=
  n == 8 || n == 9 || decide (13 ≤ n ∧ n ≤ 20) || decide (68 ≤ n ∧ n ≤ 95) || (decide (96 ≤ n ∧ n ≤ 107) && n % 4 == 0)
    || decide (144 ≤ n ∧ n ≤ 167)

/-- Sources whose class FAULT_MAP may not change (Table Fault sources, fixed). -/
def faultClassFixed (n : Nat) : Bool := n == 2 || n == 255

/-- The class mapped to a source: the reset class until FAULT_MAP changes it (R381, R389). -/
def State.faultClass (s : State) (n : Nat) : Nat :=
  match (s.fault n).mapping, faultRow n with
  | some (c, _, _), _ => c
  | none, some r => r.cls
  | none, none => 0

/-- The action mapped to a source. -/
def State.faultAction (s : State) (n : Nat) : Nat :=
  match (s.fault n).mapping, faultRow n with
  | some (_, a, _), _ => a
  | none, some r => r.action
  | none, none => 0

/-- IE of a source: 1 after reset for every source of class DEGRADE or above (R383). -/
def State.faultIe (s : State) (n : Nat) : Bool :=
  match (s.fault n).mapping, faultRow n with
  | some (_, _, i), _ => i
  | none, some r => decide (1 ≤ r.cls)
  | none, none => false

/-- The collector cycle of an instant: 8 fabric cycles, counted from power-on (R379; where they begin is DEDUCED, log 146). -/
def collectorCycle (clk : Nat) : Nat := clk / 64

/-- Whether some other source, already latched for `n` at an instant, has latched class `c`: one latched in an earlier collector cycle, or
in the same one and of a lower number (R385, R386). -/
def classLatched (t : Tbl FaultSrc) (clk n c : Nat) : Bool :=
  t.any (fun p => p.1 != n && p.2.latched && p.2.latchedClass == c
    && (p.1 < n || collectorCycle p.2.latchAt != collectorCycle clk))

/-- A source that latched in the collector cycle of source `n` and is taken after it, of class `c`, which escalates for it (R385, R386;
that its record follows is DEDUCED, log 146). -/
def escalatesFor (clk n c : Nat) (p : Nat × FaultSrc) : Bool :=
  decide (n < p.1) && p.2.latched && p.2.latchedClass == c && !p.2.escalated && decide (c < 3)
    && collectorCycle p.2.latchAt == collectorCycle clk

/-- FAULT_N: some latched source has an effective class at or above FAULTN_LEVEL, or start-up holds (R383, R580). -/
def State.faultN (s : State) : Bool :=
  s.startup.stopped || s.fc.any (fun p => p.2.latched && decide (s.faultnLevel ≤ p.2.effClass))

/-- CLASSES of Table FAULT_READ result: mapped class, effective class, action. -/
def State.faultClasses (s : State) (n : Nat) : Nat :=
  s.faultClass n + 4 * (s.fault n).effClass + 16 * s.faultAction n

/-- A FAULT_EVENT record of a fault source: 0 latch, 1 escalation, 2 clearing, 3 FAULT_MAP, 4 FAULT_INJECT. Codes 0 to 2
carry the first syndrome and address (R431). -/
def State.faultEvent (s : State) (n event subject : Nat) : State :=
  let f := s.fault n
  let syn := if event ≤ 2 then f.syndrome.toNat else 0
  let adr := if event ≤ 2 then f.address.toNat else 0
  s.giveRecord 0x22 s.clk none
    (leBytes 2 n ++ leBytes 2 (event + 256 * s.faultClasses n)
      ++ leBytes 2 (if faultNames n then subject else 0xFFFF) ++ leBytes 2 0
      ++ leBytes 4 syn ++ leBytes 4 adr) none

/-! ## Hardware actions (R384) -/

/-- 16 fabric cycles in twelfths of a nanosecond: how long after a PLANE_FAILOVER bursts that begin keep the old TRUST (R235). -/
def trustLag : Nat := 128

/-- The TRUST of a burst that begins at an output port now: B when true (R235). -/
def State.trusts (s : State) (port : Nat) : Bool :=
  let o := s.out port
  if s.clk < o.trustAt + trustLag then o.trustWas else o.trustB

/-- TRUST of an output port moves to the other plane when the bad plane is the one in TRUST, from the next burst that begins at least 16
fabric cycles on (R235). -/
def State.failover (s : State) (port : Nat) (planeB : Bool) : State :=
  let o := s.out port
  if o.trustB = planeB then
    s.setOut port { o with
      trustB := !planeB
      trustWas := s.trusts port
      trustAt := s.clk
      failovers := satAdd 65535 o.failovers 1 }
  else s

/-- Every output port: those of Table Fabric ports, and the places that ties sharing a departure port have (log 79). -/
def State.allOuts (s : State) : List Nat := range 0 2000 ++ (s.xp.map (fun p => p.1)).filter (fun p => decide (2000 ≤ p))

/-- TRUST of every output port that trusts a plane moves to the other plane (R235, sources 10 and 11). -/
def State.failoverAll (s : State) (planeB : Bool) : State :=
  s.allOuts.foldl (fun t p => t.failover p planeB) s

/-- DOVETAIL_LANE_SPARE: the lane's traffic moves to a spare of its link (R334). -/
def State.spareLane (s : State) (k lane : Nat) : State :=
  let l := s.link k
  if l.active.contains lane then
    match l.spareLanes with
    | sp :: rest =>
      s.setLink k { l with
        active := l.active.map (fun x => if x = lane then sp else x)
        spareLanes := rest
        excluded := l.excluded ++ [lane] }
    | [] => s
  else s

/-- FREEZE: nothing flips or compiles any more and the pairing logic enters FROZEN (R393, R374). -/
def State.freezeNow (s : State) : State :=
  let t := { s with boot := { s.boot with freeze := true } }
  if t.pr.state = .off then t else t.pairGo .frozen

/-- A latched source escalates, with its record and the host's vector 16 (R383, R385). -/
def State.escalate (s : State) (n : Nat) : State :=
  let t := s.updFault n (fun f => { f with escalated := true, effClass := f.latchedClass + 1 })
  let t := t.faultEvent n 1 (t.fault n).subject
  if s.faultIe n then t.raiseVector 16 else t

/-- Latches a source as R379, R380, R385 and R386 say: the first firing records syndrome, address and subject and may escalate, or let
others of its collector cycle escalate; a later one is counted and merged. Records, the interrupt of the cluster in control and the
host's vector 16 follow (R383). -/
def State.latch (s : State) (n : Nat) (syn adr : Word) (subject : Nat) : State :=
  match faultRow n with
  | none => s
  | some row =>
    let f := s.fault n
    if f.latched then
      s.setFault n { f with
        count := satAdd 65535 f.count 1
        merged := satAdd 65535 f.merged 1
        persists := f.persists || row.level }
    else
      let c := s.faultClass n
      let esc := decide (c < 3) && classLatched s.fc s.clk n c
      let f' : FaultSrc := { f with
        latched := true
        persists := row.level
        escalated := esc
        injected := false
        latchedClass := c
        effClass := if esc then c + 1 else c
        count := 1
        syndrome := syn
        address := adr
        subject := subject
        merged := 0
        latchAt := s.clk }
      let t := s.setFault n f'
      let t : State := { t with boot := { t.boot with ccIrqs := t.boot.ccIrqs ++ [(t.boot.cc1, n)] } }
      let t := t.faultEvent n 0 subject
      let t := if esc then t.faultEvent n 1 subject else t
      let t := if s.faultIe n then t.raiseVector 16 else t
      ((s.fc.filter (escalatesFor s.clk n c)).map (fun p => p.1)).foldl State.escalate t

/-- The link of this device that R322 assigns to a device. -/
def State.linkAt (s : State) (dev : Nat) : Nat := (dev + 3 - s.straps.groupIdx) % 4

/-- Takes that wait for an unconfirmed tie of a device fail with a status (R228, R230). -/
def State.failRemote (s : State) (p : Tie → Bool) (r : Rep) : State :=
  let waits := fun (w : Staged) => w.entries.any (fun e => match e with
    | .take _ src => s.ties.any (fun t => t.src == src && t.td == w.td && !t.confirmed && p t)
    | _ => false)
  let ids := (s.bx.staged.filter (fun w => !w.isSealed && waits w)).map (fun w => w.id)
  let t := ids.foldl (fun u i => u.settleWhere (fun f => f.id == i) r) s
  t.settleWhere (fun f => f.cmd.opcode == 0x0904
    && s.ties.any (fun q => !q.confirmed && p q && f.data == [q.src, q.td])) r

/-- The link carries the group reference to this device (R326). -/
def State.refLink (s : State) (k : Nat) : Bool :=
  s.group.set && !bit s.group.pairLinks k && s.group.master != s.straps.groupIdx
    && s.group.master == (s.straps.groupIdx + k + 1) % 4

/-- The group reference is lost with its link: candidate 16 is disqualified, and source 114 latches when it was in use; the
next evaluation leaves it (R87, R90, R92, R111). -/
def State.refStopped (s : State) : State :=
  let k := s.cand 16
  let t := s.updCand 16 (fun q => { q with qualified := false, qualSince := none, cleanSince := some s.clk, event := none })
  if k.qualified && s.rf.cand == some 16 then
    t.drawFree.drawFree.latch 114 (Config.freeWord t.bx.free) (Config.freeWord (t.bx.free + 1)) 0xFFFF
  else t

/-- The device stops a Dovetail link that is neither DOWN nor FAILED: its bring-up fails, its ties are lost as R339 says, and
one that was UP latches its source (R340, R384). -/
def State.stopLink (s : State) (k : Nat) : State :=
  let l := s.link k
  if l.state = .down ∨ l.state = .failed then s
  else
    let group := !bit s.group.pairLinks k
    let mine := fun (q : Tie) => group && s.linkAt q.dev == k
    let source := if s.ties.any mine || s.depart.any mine then 98 + 4 * k else 97 + 4 * k
    let t := (s.setLink k { l with
      state := .failed
      stepStart := s.clk
      reason := 5
      aligned := 0
      wanted := []
      exports := [] }).stateEvent 7 k 6
    let t := t.unpaired k
    let t := t.settleWhere (fun f => f.cmd.opcode == 0x0901 && f.cmd.u8 16 == k) (repByte 0x12 5)
    let t := t.failRemote mine (repUnreachable ((s.straps.groupIdx + k + 1) % 4))
    let t : State := { t with
      ties := t.ties.filter (fun q => !mine q)
      depart := t.depart.map (fun q => if mine q then { q with ending := some 0 } else q) }
    if l.state = .up56 ∨ l.state = .up112 then
      let t := if s.refLink k then
          t.refStopped.drawFree.drawFree.latch (99 + 4 * k) (Config.freeWord t.bx.free) (Config.freeWord (t.bx.free + 1)) 0xFFFF
        else t
      t.drawFree.drawFree.latch source (Config.freeWord t.bx.free) (Config.freeWord (t.bx.free + 1)) 0xFFFF
    else t

/-- ALIVE_RELEASE: ALIVE_N is released, every output lane, transmitter and link stops, and the arbitrated roles are
dropped (R384, R356, R354). -/
def State.aliveRelease (s : State) : State :=
  let t : State := { s with
    pins := { s.pins with alive := false }
    boot := { s.boot with dataStop := true } }
  let t := (range 0 3).foldl (fun u k => u.stopLink k) t
  let t := if t.pr.state = .off then t else t.dropRoles
  t.refreshClamp.eventBeat

/-- HBM_MIRROR_SWITCH: marks a stack degraded (R195); when the other stack of its pair already is degraded the pair is
lost and source 40 or 41 latches, whose action is ALIVE_RELEASE unless FAULT_MAP took it away. -/
def State.mirrorSwitch (s : State) (st : Nat) : State :=
  let other := (st + 2) % 4
  let a := s.stack st
  let b := s.stack other
  if a.state = 3 ∨ a.state = 1 then s
  else if b.state = 0 then s.setStack st { a with state := 1, rejoinAt := none }
  else
    let t := (s.setStack st { a with state := 3 }).setStack other { b with state := 3 }
    let fresh := !(t.fault (40 + st % 2)).latched
    let act := t.faultAction (40 + st % 2)
    let t := t.drawFree.drawFree.latch (40 + st % 2) (Config.freeWord t.bx.free) (Config.freeWord (t.bx.free + 1)) 0xFFFF
    if fresh && act == 5 then t.aliveRelease else t

/-- Carries out the hardware action of a source for its subject (R384). -/
def State.act (s : State) (n action subject : Nat) : State :=
  match action with
  | 1 =>
    if n = 8 ∨ n = 9 then s.failover subject (n == 9)
    else if n = 10 ∨ n = 11 then s.failoverAll (n == 11)
    else s
  | 2 => s.mirrorSwitch ((n - 24) / 4)
  | 3 => s.spareLane ((n - 96) / 4) (subject - (384 + 32 * ((n - 96) / 4)))
  | 4 => s.freezeNow
  | 5 => s.aliveRelease
  | _ => s

/-- A rising error line: the source latches or counts, and its action starts in the same collector cycle. Only
PLANE_FAILOVER and DOVETAIL_LANE_SPARE are carried out again by a source already latched (R379, R380). -/
def State.fire (s : State) (n : Nat) (syn adr : Word) (subject : Nat) : State :=
  let a := s.faultAction n
  let again := (s.fault n).latched
  let t := s.latch n syn adr subject
  if (faultRow n).isSome && (!again || a == 1 || a == 3) then t.act n a subject else t

/-- A source fires on an error of the device's own, whose syndrome and address the spec does not give: free values (log 39). -/
def State.strike (s : State) (n subject : Nat) : State :=
  s.drawFree.drawFree.fire n (Config.freeWord s.bx.free) (Config.freeWord (s.bx.free + 1)) subject

/-- The cause of a level source is gone; it stays latched until FAULT_ACK (R379, R388). -/
def State.fall (s : State) (n : Nat) : State :=
  if (s.fault n).persists then s.updFault n (fun f => { f with persists := false }) else s

/-- Follows the condition of a level source: fires at its rise, and lets its cause end at its fall. -/
def State.level (s : State) (n : Nat) (cond : Bool) (subject : Nat) : State :=
  if cond then (if (s.fault n).persists then s else s.strike n subject) else s.fall n

/-- The key check value of a key: the first 3 bytes of a block of zeros encrypted under it (R411). -/
def kcv (key : BitVec 256) : Nat := beNat ((aesEncrypt (leBytes 32 key.toNat) (List.replicate 16 0)).take 3)

/-- The key check value of a slot, 0 when it holds no key (R411). -/
def State.slotCheck (s : State) (n : Nat) : Nat :=
  match (s.slot n).state with
  | .pending => kcv (s.slotKey n)
  | .active => kcv (s.slotKey n)
  | .empty => 0
  | .revoked => 0

/-- A KEY_EVENT record of an event at an instant: 0 load, 1 derive, 2 revocation, 3 integrity failure (R422, R429). -/
def State.keyEvent (s : State) (n event inst : Nat) : State :=
  let k := s.slot n
  s.giveRecord 0x20 inst none
    (leBytes 2 n ++ leBytes 1 k.attr ++ leBytes 1 event ++ leBytes 2 k.parentCode ++ leBytes 1 k.depth
      ++ leBytes 1 k.origin ++ beBytes 3 (s.slotCheck n) ++ leBytes 5 0) none

/-- The integrity tag of a slot fails: it is revoked at the next key tick, and a KEY_EVENT says so (R408, R422). -/
def State.tagFails (s : State) (n : Nat) : State :=
  if (s.slot n).state = .pending ∨ (s.slot n).state = .active then
    (s.keyEvent n 3 s.clk).updSlot n (fun k => { k with tagFault := true })
  else s

/-- The key store hands the key of a slot to a cipher engine, and checks its tag (R407, R408). -/
def State.handKey (s : State) (n : Nat) : State :=
  if (s.slot n).tag = s.ks.tagOf n (s.slot n) then s else (s.strike 177 n).tagFails n

/-- The cause of a source persists: its condition holds, or the HOLD of an injection runs (R388, R391). -/
def FaultSrc.caused (f : FaultSrc) : Bool := f.persists || f.holdEnd.isSome

/-- FAULT_ACK of one source: a latched source whose cause is gone is cleared with its record and count (R388). -/
def State.ackFault (s : State) (n : Nat) : State :=
  let f := s.fault n
  if f.latched && !f.caused then
    let t := s.faultEvent n 2 f.subject
    t.setFault n { mapping := f.mapping }
  else s

end Sys2Proof.Machine
end

