-- ==== Sys2Proof/Machine/Windows.lean ====
section
/-! DEFINITION. Timing domains, tick instants, guards, cutoffs and take windows, capacities and allotments (chapter 02). -/
namespace Sys2Proof.Machine

/-- A domain has ticks once TD_CONFIG gave it a rate (R27). -/
def Domain.hasTicks (d : Domain) : Bool := d.rate.isSome

/-- The frame period of a domain in twelfths of a nanosecond. -/
def Domain.period (d : Domain) : Nat := ratePeriod (d.rate.getD 2)

/-- The number of the next tick to fall. -/
def Domain.nextTick (d : Domain) : Nat := if d.started then d.count + 1 else d.count

/-- The instant and guard of tick `n` when it has fallen since the domain's ticks began. -/
def Domain.fell (d : Domain) (n : Nat) : Option (Nat × Nat) := (d.fallen.find? (fun q => q.1 == n)).map (fun q => q.2)

/-- What a sealed FP_REALIGN moves tick `n`, in twelfths of a nanosecond: the ticks after its own (R106). -/
def Domain.moveBy (d : Domain) (n : Nat) : Int :=
  match d.realignAt with
  | some k => if k < n then d.pending.getD 0 else 0
  | none => 0

/-- The instant of tick `n`: as fallen, as scheduled for the next one, and reckoned with the nominal period and the move of a
sealed FP_REALIGN otherwise. -/
def Domain.tickAt (d : Domain) (n : Nat) : Nat :=
  match d.fell n with
  | some q => q.1
  | none =>
    if d.started && decide (n ≤ d.count) then d.last - (d.count - n) * d.period
    else if d.nextTick ≤ n then (((d.next + (n - d.nextTick) * d.period : Nat) : Int) + d.moveBy n).toNat
    else d.next - (d.nextTick - n) * d.period

/-- The guard of tick `n` in microseconds: the one it had when it fell, else the guard of the latest change in force from a
tick at or before `n` (R38, R39). -/
def Domain.guardAt (d : Domain) (n : Nat) : Nat :=
  match d.fell n with
  | some q => q.2
  | none => d.guards.foldl (fun g p => if p.1 ≤ n then p.2 else g) d.guard

/-- The latest guard given to a domain, which it keeps when its ticks change or go (R38). -/
def Domain.guardLast (d : Domain) : Nat := d.guards.foldl (fun _ p => p.2) d.guard

/-- The cutoff of tick `n`, in ns on the window clock (R37); one between two whole nanoseconds is rounded down (DESIGN
CHOICE, log 96). -/
def Domain.cutoff (d : Domain) (n : Nat) : Nat := (d.tickAt n - tuUs (d.guardAt n)) / 12

/-- Moves a tick number up while its cutoff is not after a stamp (bounded). -/
def Domain.raise (d : Domain) (stamp : Nat) : Nat → Nat → Nat
  | 0, n => n
  | k + 1, n => if d.cutoff n ≤ stamp then d.raise stamp k (n + 1) else n

/-- Moves a tick number down while the cutoff before it is after a stamp (bounded). -/
def Domain.lower (d : Domain) (stamp : Nat) : Nat → Nat → Nat
  | 0, n => n
  | k + 1, n => if 0 < n ∧ stamp < d.cutoff (n - 1) then d.lower stamp k (n - 1) else n

/-- The tick whose window holds a stamp, searched from an instant of a tick at the nominal period. -/
def Domain.windowFrom (d : Domain) (stamp n inst : Nat) : Nat :=
  let t := 12 * stamp
  let guess := if inst ≤ t then n + (t - inst) / d.period else n - (inst - t) / d.period
  d.lower stamp 4 (d.raise stamp 4 (guess - 1))

/-- The tick whose take window [cutoff of T - 1, cutoff of T) holds a stamp (R37): the first tick that has fallen with its
cutoff after the stamp, when an earlier one has fallen too; else searched from the first tick that fell, or from the next. -/
def Domain.windowTick (d : Domain) (stamp : Nat) : Nat :=
  let later := d.fallen.filter (fun q => decide (stamp < d.cutoff q.1))
  match later.getLast? with
  | some q => if later.length < d.fallen.length then q.1 else d.windowFrom stamp q.1 q.2.1
  | none => d.windowFrom stamp d.nextTick d.next

/-- The effective tick of R42: the tick of the domain's window that holds the stamp, 0 without ticks. -/
def State.effTick (s : State) (d stamp : Nat) : Nat :=
  if d < 8 ∧ (s.dom d).hasTicks then (s.dom d).windowTick stamp else 0

/-- One of two works that set one item wins (R82): the lower rank, the lower mailbox, else the later in ring order. -/
def winsOver (r1 m1 o1 r2 m2 o2 : Nat) : Bool :=
  decide (r1 < r2 ∨ (r1 = r2 ∧ (m1 < m2 ∨ (m1 = m2 ∧ o2 < o1))))

/-- One work goes before another in contention (R82). -/
def Staged.beats (v w : Staged) : Bool := v.order != w.order && winsOver v.rank v.mb v.order w.rank w.mb w.order

/-- The guard that work sets (R39). -/
def Staged.guardSet (w : Staged) : Option Nat :=
  w.entries.findSome? (fun e => match e with
    | .guard us => some us
    | _ => none)

/-- Of two works that set a guard, the one whose guard holds after both: that of the later tick, at one tick the winner of
R82. -/
def Staged.guardAfter (v w : Staged) : Staged :=
  if v.tick < w.tick || (v.tick == w.tick && !v.beats w) then w else v

/-- The cutoff that tick `n` of a domain will have: the guard changes held for ticks before `n` count (R37, R39, R82). -/
def State.cutoffOf (s : State) (d n : Nat) : Nat :=
  let held := s.bx.staged.filter (fun w => w.td == d && !w.isSealed && decide (w.tick < n) && w.guardSet.isSome)
  match held with
  | [] => (s.dom d).cutoff n
  | w :: ws => ((s.dom d).tickAt n - tuUs (((ws.foldl Staged.guardAfter w).guardSet).getD 0)) / 12

/-- The first of `k` ticks of a domain from `n` on whose cutoff is at or after an instant in ns. -/
def State.cutoffFrom (s : State) (d cut : Nat) : Nat → Nat → Nat
  | 0, n => n
  | k + 1, n => if s.cutoffOf d n < cut then s.cutoffFrom d cut k (n + 1) else n

/-- Whether the cutoff of a domain's tick has passed. -/
def State.cutPassed (s : State) (d n : Nat) : Bool :=
  decide ((s.dom d).cutoff n ≤ s.nowNs)
    || (match (s.dom d).cutDone with
        | some k => decide (n ≤ k)
        | none => false)

/-! ## Mitre lines (R48, R245, R251) -/

/-- The default mitre line of a raster and the last line that can be set (Table Mitre lines). -/
def mitreLines (raster : Nat) : Nat × Nat :=
  match raster with
  | 1 => (10, 19)
  | 2 => (6, 22)
  | 3 => (7, 25)
  | 4 => (7, 20)
  | 5 => (7, 20)
  | _ => (7, 41)

/-- The mitre line a destination was last given: the default for line 0 (R251). -/
def Dest.mitreLine (d : Dest) : Nat := if d.mitre = 0 then (mitreLines (fmtRaster d.fmt)).1 else d.mitre

/-- The mitre line in force for flips at a tick: a change applies from the tick it was given for (R252). -/
def Dest.mitreFor (d : Dest) (tick : Nat) : Nat :=
  match d.mitreOld.find? (fun q => decide (tick < q.1)) with
  | some q => q.2
  | none => d.mitreLine

/-- The start of a destination's mitre line after its tick, in twelfths of a nanosecond (R245). -/
def mitreRel (fmt line : Nat) (offset : Int) : Int := 12 * offset + (lineOffset fmt line : Int)

/-- A mitre line falls before the cutoff of the next tick (R48). -/
def r48 (period guard : Nat) (rel : Int) : Bool := decide (rel < (period : Int) - (tuUs guard : Int))

/-! ## Capacity (R43 to R47) -/

/-- What work counts as: takes, gain writes, veneer flips, key operations (R44). -/
structure Cost where
  takes : Nat := 0
  gains : Nat := 0
  flips : Nat := 0
  keys : Nat := 0
  deriving DecidableEq, Repr

/-- What one entry counts as (Table Tick-applied commands). -/
def Entry.cost : Entry → Cost
  | .take _ _ => { takes := 1 }
  | .gain _ _ _ => { gains := 1 }
  | .mapIn _ _ _ _ => { gains := 1 }
  | .mapOut _ _ => { gains := 1 }
  | .veneer _ _ => { flips := 1 }
  | .keyOp _ => { keys := 1 }
  | .protect _ _ => {}
  | .lock _ _ => {}
  | .followDst _ _ => {}
  | .followSrc _ _ => {}
  | .realign => {}
  | .guard _ => {}
  | .sealAt => {}

/-- The sum of two costs. -/
def Cost.add (a b : Cost) : Cost :=
  { takes := a.takes + b.takes, gains := a.gains + b.gains, flips := a.flips + b.flips, keys := a.keys + b.keys }

/-- What a list of entries counts as. -/
def costOf (es : List Entry) : Cost := es.foldl (fun c e => c.add e.cost) {}

/-- Whether a cost lies within the capacity of one tick (Table Compile capacity per domain per tick). -/
def Cost.within (c : Cost) : Bool :=
  decide (c.takes ≤ 1024 ∧ c.gains ≤ 262144 ∧ c.flips ≤ 8 ∧ c.keys ≤ 64)

/-- What is allotted already at a tick of a domain. -/
def State.allotedAt (s : State) (d n : Nat) : Cost :=
  match s.bx.alloted.find? (fun a => a.td == d && a.tick == n) with
  | some a => { takes := a.takes, gains := a.gains, flips := a.flips, keys := a.keys }
  | none => {}

/-- Whether a cost fits in what remains of a tick's capacity (R47). -/
def State.fits (s : State) (d n : Nat) (c : Cost) : Bool := ((s.allotedAt d n).add c).within

/-- Forgets what is allotted at the ticks of a domain, which are to be numbered afresh (R31, R43). -/
def State.forgetTicks (s : State) (d : Nat) : State :=
  let s := s.unalign d
  { s with bx := { s.bx with alloted := s.bx.alloted.filter (fun a => a.td != d) } }

/-- Allots a cost at a tick of a domain; allotments of ticks that have fallen are forgotten (R46). -/
def State.allot (s : State) (d n : Nat) (c : Cost) : State :=
  let t := (s.allotedAt d n).add c
  let rest := s.bx.alloted.filter (fun a => !(a.td == d && (a.tick == n || decide (a.tick + 2 < (s.dom d).nextTick))))
  { s with bx := { s.bx with
      alloted := rest ++ [{ td := d, tick := n, takes := t.takes, gains := t.gains, flips := t.flips, keys := t.keys }] } }

end Sys2Proof.Machine
end

