-- ==== Sys2Proof/Machine/Compose.lean ====
section
/-! DEFINITION. The pictures Marquetry composes (11 R305, R306, R312, R313): background, tiles, veneers, dither. -/
namespace Sys2Proof.Machine

/-- Table Dither matrix, row by row. -/
def ditherMatrix : List Nat :=
  [0, 32, 8, 40, 2, 34, 10, 42,
   48, 16, 56, 24, 50, 18, 58, 26,
   12, 44, 4, 36, 14, 46, 6, 38,
   60, 28, 52, 20, 62, 30, 54, 22,
   3, 35, 11, 43, 1, 33, 9, 41,
   51, 19, 59, 27, 49, 17, 57, 25,
   15, 47, 7, 39, 13, 45, 5, 37,
   63, 31, 55, 23, 61, 29, 53, 21]

/-- Row and column of the dither matrix for a pixel of frame `n` (R313). -/
def ditherPlace (n x y : Nat) : Nat × Nat :=
  match n % 4 with
  | 0 => (y % 8, x % 8)
  | 1 => (x % 8, 7 - y % 8)
  | 2 => (7 - y % 8, 7 - x % 8)
  | _ => (7 - x % 8, y % 8)

/-- The dither of R313: a 12-bit component reduced to DEPTH, carried in 10 bits. -/
def dither (depth n x y v : Nat) : Nat :=
  let p := ditherPlace n x y
  let m := ditherMatrix.getD (8 * p.1 + p.2) 0
  let k := 2 ^ (12 - depth)
  min (2 ^ depth - 1) ((v + m * k / 64) / k) * 2 ^ (10 - depth)

/-- A field of a tile entry: 0 X, 1 Y, 2 W, 3 H, 4 SRC (Table Tile entry). -/
def tileField (t : List Byte) (i : Nat) : Nat := leNat (slice t (2 * i) 2)

/-- A pixel lies in a tile. -/
def inTile (t : List Byte) (x y : Nat) : Bool :=
  decide (tileField t 0 ≤ x ∧ x < tileField t 0 + tileField t 2 ∧ tileField t 1 ≤ y ∧ y < tileField t 1 + tileField t 3)

/-! ## Stored frames and their scaled copies (R186) -/

/-- The samples of a picture row of a stored frame; black where no line brought it. -/
def StoredFrame.row (f : StoredFrame) (y : Nat) : List Nat :=
  match f.lines.find? (fun l => activeLine (fmtRaster f.fmt) l.hdr.line && pictureRow (fmtRaster f.fmt) l.hdr.line == y) with
  | some l => l.samples
  | none => blackLine f.fmt f.sampling f.depth

/-- The first place and the stride of a component in the samples of a line: 0 Y, 1 Cb, 2 Cr, or R, G, B (log 17). -/
def planeStep (sampling k : Nat) : Nat × Nat :=
  if sampling = 0 then (match k with
    | 0 => (1, 2)
    | 1 => (0, 4)
    | _ => (2, 4))
  else if sampling = 1 then (match k with
    | 0 => (1, 3)
    | 1 => (0, 3)
    | _ => (2, 3))
  else (k, 3)

/-- One component of a line. -/
def planeRow (sampling k : Nat) (row : List Nat) : List Nat :=
  let p := planeStep sampling k
  (range 0 (row.length / p.2)).map (fun i => row.getD (p.1 + i * p.2) 0)

/-- The rows of a frame that a row of its copy at 1/`d` of its width and height averages: `d` rows, of one field in an interlaced
format (R186). -/
def copyRows (raster d y : Nat) : List Nat :=
  let inter := raster == 1 || raster == 2 || raster == 4
  ((range 0 d).map (fun j => if inter then 2 * (d * (y / 2) + j) + y % 2 else d * y + j)).filter
    (fun r => decide (r < (rasterActive raster).2))

/-- The mean of samples, to the nearest integer, halves up (R186, which does not name the rounding: DESIGN CHOICE, log 117). -/
def meanOf (vs : List Nat) : Nat := (vs.foldl (· + ·) 0 + vs.length / 2) / max 1 vs.length

/-- One row of a component of the copy of a frame at 1/`d` of its width and height: each block of d x d samples averaged; 1 is the
full frame (R186). -/
def StoredFrame.copyRow (f : StoredFrame) (d k y : Nat) : List Nat :=
  let rows := (copyRows (fmtRaster f.fmt) d y).map (fun r => planeRow f.sampling k (f.row r))
  if d = 1 then rows.headD []
  else (range 0 ((rows.headD []).length / d)).map (fun x =>
    meanOf (rows.flatMap (fun r => (range 0 d).map (fun j => r.getD (d * x + j) 0))))

/-! ## Tiles (R305, R306) -/

/-- The copy that a tile of `w` by `h` reads: the smallest that is no smaller, else the full frame (R305). -/
def copyFor (fmt w h : Nat) : Nat :=
  let a := rasterActive (fmtRaster fmt)
  if w ≤ a.1 / 4 ∧ h ≤ a.2 / 4 then 4 else if w ≤ a.1 / 2 ∧ h ≤ a.2 / 2 then 2 else 1

/-- What a tile reads: the frame, the frame it read before, the rows of its copy that no stack gave, and which copy. -/
structure TileRead where
  frame : StoredFrame
  before : Option StoredFrame
  bad : List Nat
  d : Nat
  deriving DecidableEq, Repr

/-- The latest row up to `y` that a stack gave. -/
def goodRow (bad : List Nat) : Nat → Option Nat
  | 0 => if bad.contains 0 then none else some 0
  | y + 1 => if bad.contains (y + 1) then goodRow bad y else some (y + 1)

/-- One row of a component of a copy as a tile reads it: for a row that no stack gave, the last row delivered before it, in this frame
or the one read before; black where there is none (R195; log 118). -/
def TileRead.row (r : TileRead) (k y : Nat) : List Nat :=
  match goodRow r.bad y, r.before with
  | some g, _ => r.frame.copyRow r.d k g
  | none, some p => p.copyRow r.d k ((rasterActive (fmtRaster p.fmt)).2 / r.d - 1)
  | none, none => planeRow r.frame.sampling k (blackLine r.frame.fmt r.frame.sampling r.frame.depth)

/-- The three components of a copy as a tile reads it. -/
def TileRead.planes (r : TileRead) : List (List (List Nat)) :=
  (range 0 3).map (fun k => (range 0 ((rasterActive (fmtRaster r.frame.fmt)).2 / r.d)).map (fun y => r.row k y))

/-- A component, at 12 bits, of a pixel of a copy that passes unfiltered (R305, R312). -/
def TileRead.pixel (r : TileRead) (k x y : Nat) : Nat :=
  let f := r.frame
  let up := 2 ^ (12 - f.depth)
  if f.sampling = 2 then Config.mqMatrix k f.depth ((range 0 3).map (fun c => (r.row c y).getD x 0)) % 4096
  else if f.sampling = 1 ∨ k = 0 then (r.row k y).getD x 0 * up
  else if x % 2 = 0 then (r.row k y).getD (x / 2) 0 * up
  else Config.mqChroma f.depth (r.row k y) x % 4096

/-- A component, at 12 bits, of a pixel of a tile that shows a frame (R195, R305). -/
def State.tilePixel (s : State) (e i : Nat) (t : List Byte) (f : StoredFrame) (k x y : Nat) : Nat :=
  let g := s.engine e
  let w := tileField t 2
  let h := tileField t 3
  let a := rasterActive (fmtRaster f.fmt)
  let d := copyFor f.fmt w h
  let px := x - tileField t 0
  let py := y - tileField t 1
  let r : TileRead := {
    frame := f
    before := (g.before[i]?).join
    bad := (g.badRows.filter (fun b => b.1 == i)).map (fun b => b.2)
    d := d }
  if a.1 / d = w ∧ a.2 / d = h then r.pixel k px py
  else Config.mqResample k (f.sampling, f.depth) r.planes (w, h) (px, py) % 4096

/-- Black of a component at 12 bits (R151). -/
def black12 (k : Nat) : Nat := if k = 0 then 256 else 2048

/-- The frame that each tile of an engine takes at a frame start: the newest of its source complete by then (R306). -/
def State.tileFrames (s : State) (e at' : Nat) : List (Option StoredFrame) :=
  (s.engine e).tiles.map (fun t =>
    if tileField t 4 < 1024 then
      ((s.ring (tileField t 4)).frames.filter (fun f => decide (f.doneAt ≤ at'))).getLast?
    else none)

/-- A component (0 Y, 1 Cb, 2 Cr) of a pixel of the tiles and the background, at 12 bits; a tile of a ring in a lost pair is black, as
its read-outs are (R195, R306, R312). -/
def State.tilesAt (s : State) (e x y k : Nat) : Nat :=
  let g := s.engine e
  match (g.tiles.zip g.shown).zipIdx.find? (fun q => inTile q.1.1 x y && q.1.2.isSome) with
  | some ((t, some f), i) =>
    if (s.stack (s.ring (tileField t 4)).pair).state = 3 then black12 k
    else s.tilePixel e i t f k x y
  | _ => 4 * (g.background / 1024 ^ k % 1024)

/-! ## Veneers and the whole pixel (R312, R313) -/

/-- The four bytes of a pixel of the buffer that a veneer shows. -/
def State.veneerPixel (s : State) (e v x y : Nat) : List Byte :=
  let w := (rasterActive (fmtRaster (s.engine e).fmt)).1
  s.hbmRead (0x1000000000 + 0x18000000 * e + (2 * v + (s.veneer (4 * e + v)).buf) * 0x2000000 + 4 * (y * w + x)) 4

/-- The weights of R, G and B in Y, in ten-thousandths, of COLOUR's matrix (BT.709, BT.2020; PRESUMED, log 9). -/
def lumaWeights (colour : Nat) : Int × Int × Int := if colour = 0 then (2126, 7152, 722) else (2627, 6780, 593)

/-- Component `k` of C = V + (1 - A) C as a fraction (R312): V the veneer's premultiplied R, G, B, of 255, in COLOUR's matrix at limited
range, its black weighed by A as its colour is (DEDUCED, log 9), and A of 255. -/
def blendOf (k colour : Nat) (v : List Byte) (c : Nat) : Int × Nat :=
  let of := fun (i : Nat) => ((v.getD i 0).toNat : Int)
  let w := lumaWeights colour
  let y := w.1 * of 0 + w.2.1 * of 1 + w.2.2 * of 2
  let rest := (255 - of 3) * c
  match k with
  | 0 => (10000 * (256 * of 3 + rest) + 3504 * y, 2550000)
  | 1 => (2 * (10000 - w.2.2) * (2048 * of 3 + rest) + 3584 * (10000 * of 2 - y), (510 * (10000 - w.2.2)).toNat)
  | _ => (2 * (10000 - w.1) * (2048 * of 3 + rest) + 3584 * (10000 * of 0 - y), (510 * (10000 - w.1)).toNat)

/-- Component `k` of a pixel under a veneer, at 12 bits: the integer that R312 gives, one of the two beside a value between integers, and
any for a value outside 12 bits (R312 states no rounding and no limit; log 9). -/
def mqBlend (k colour : Nat) (v : List Byte) (c : Nat) : Nat :=
  let q := blendOf k colour v c
  let whole := decide (q.1 % q.2 = 0)
  let low := q.1 / q.2
  if low < 0 ∨ 4095 < low ∨ (low = 4095 ∧ whole = false) then Config.mqRound k colour v c % 4096
  else low.toNat + (if whole then 0 else Config.mqRound k colour v c % 2)

/-- A component (0 Y, 1 Cb, 2 Cr) of a pixel at 12 bits: the background or the tile, then the visible veneers in turn (R312). -/
def State.mqComponent (s : State) (e x y k : Nat) : Nat :=
  ((range 0 4).filter (fun v => (s.veneer (4 * e + v)).visible)).foldl
    (fun c v => mqBlend k (s.engine e).colour (s.veneerPixel e v x y) c) (s.tilesAt e x y k)

/-- A component of a row, dithered (R313). -/
def State.mqPlane (s : State) (e n y w k : Nat) : List Nat :=
  (range 0 w).map (fun x => dither (s.engine e).depth n x y (s.mqComponent e x y k))

/-- The samples of one active row as the internal source carries it: luma dithered, colour through the 3-tap filter (R312, R313). -/
def State.mqRow (s : State) (e n y w : Nat) : List Nat :=
  let cb := s.mqPlane e n y w 1
  let cr := s.mqPlane e n y w 2
  ((s.mqPlane e n y w 0).zipIdx).flatMap (fun q =>
    [Config.mqTap (if q.2 % 2 = 0 then cb else cr) q.2 % 1024, q.1])

/-- The R, G and B of the pixels of one row, dithered (R312, R313). -/
def State.mqRgbRow (s : State) (e n y w : Nat) : List Nat :=
  let g := s.engine e
  (range 0 w).flatMap (fun x =>
    let c := (range 0 3).map (s.mqComponent e x y)
    (range 0 3).map (fun k => dither g.depth n x y (Config.mqRgb k g.colour c % 4096)))

/-- The frame that an engine composes, as it goes into memory: MEMFMT and the dithered rows (R312 to R314). -/
def State.mqFrame (s : State) (e : Nat) : Nat × List (List Nat) :=
  let g := s.engine e
  let a := rasterActive (fmtRaster g.fmt)
  (g.memFmt, (range 0 a.2).map (fun y => if g.memFmt = 1 then s.mqRgbRow e g.frame y a.1 else s.mqRow e g.frame y a.1))

/-- The frame in work goes into its output buffer: whole at its start, and again when an error changes it (R314; DESIGN CHOICE, log
9). -/
def State.mqKeep (s : State) (e : Nat) : State :=
  match (s.engine e).busy with
  | some (b, _) => s.updEngine e (fun g => { g with out := Tbl.set none g.out b (some (s.mqFrame e)) })
  | none => s

end Sys2Proof.Machine
end

