-- ==== Sys2Proof/Machine/Wake.lean ====
section
/-! DEFINITION. The wake of power domains and which commands need which domain: Table Power domains, R585, R587, R588. -/
namespace Sys2Proof.Machine

/-- The OFF wake of a domain in us (Table Power domains). -/
def offWakeUs (n : Nat) : Nat := if (21 ≤ n ∧ n ≤ 36) ∨ 45 ≤ n then 400000 else 25000

/-- The wake time of a domain from a state in us (Table Domain states). -/
def wakeUs (n state : Nat) : Nat :=
  match state with
  | 0 => 0
  | 1 => 2
  | 2 => 150
  | _ => offWakeUs n

/-- A domain is ON: in state ON, entering no other and waking from none. -/
def PwrDomain.on (d : PwrDomain) : Bool := d.state == 0 && d.entering.isNone && !d.waking

/-- Starts the wake of a domain that is not ON; an entry under way is abandoned (R587, R588). -/
def State.startWake (s : State) (n : Nat) : State :=
  let d := s.pdom n
  if d.on || d.waking then s
  else s.setPdom n { d with
    waking := true
    failed := false
    second := false
    entering := none
    wakes := satAdd 4294967295 d.wakes 1
    wakeFrom := s.clk
    wakeAt := s.clk + tuUs (wakeUs n (max d.state (d.entering.getD 0))) }

/-- Work arrives for domains: each that is not ON starts to wake, and none of them counts as idle (R586, R587). -/
def State.wakeAll (s : State) (ns : List Nat) : State :=
  ns.foldl (fun t n => (t.startWake n).updPdom n (fun d => { d with idleSince := none })) s

/-- The first of some domains that is not ON. -/
def State.asleep (s : State) (ns : List Nat) : Option Nat := ns.find? (fun n => !(s.pdom n).on)

/-- Every wake of some domains ends before the cutoff of a tick (R587). -/
def State.wakesBy (s : State) (ns : List Nat) (d n : Nat) : Bool :=
  ns.all (fun p => (s.pdom p).on || ((s.pdom p).waking && decide ((s.pdom p).wakeAt / 12 ≤ (s.dom d).cutoff n)))

/-- The Bramble quadrants that compute `n` output channels from `base` (R583); none for no base. -/
def quadrants (base n : Nat) : List Nat :=
  if base = 0xFFFF ∨ n = 0 then []
  else (range 0 4).filterMap (fun q =>
    if base < 1024 * q + 1024 ∧ 1024 * q < base + n then some (9 + q) else none)

/-- The quadrants that feed the followed slots of a destination from a source (R294, R583). -/
def State.followQuads (s : State) (src slots : Nat) : List Nat := quadrants (Tbl.get 0xFFFF s.au.bases src) slots

/-- The crosspoint entry that an output port has in TRUST. -/
def State.trusted (s : State) (dst : Nat) : XEntry :=
  (s.out dst).now (s.out dst).trustB

/-- The domains that an entry of tick-applied work needs: the Bramble quadrants it gives live service (R583, R587). -/
def State.entryNeeds (s : State) (e : Entry) : List Nat :=
  match e with
  | .gain _ ao code => if code = 0 then [] else quadrants ao 1
  | .mapOut _ ao => quadrants ao 1
  | .followDst dst slots => s.followQuads (s.trusted dst).src slots
  | .followSrc src base => s.de.flatMap (fun p =>
      if (s.trusted p.1).valid && (s.trusted p.1).src == src then quadrants base p.2.followed else [])
  | .take dst src => s.followQuads src (s.dest dst).followed
  | .protect _ _ => []
  | .lock _ _ => []
  | .mapIn _ _ _ _ => []
  | .veneer _ _ => []
  | .keyOp _ => []
  | .realign => []
  | .guard _ => []
  | .sealAt => []

/-- The power domain of a physical lane (Table Power domains). -/
def laneDomain (l : Nat) : Nat := if l < 128 then 21 + l / 8 else if l < 384 then 37 + (l - 128) / 32 else 45 + (l - 384) / 32

/-- The domains that a command which is not tick-applied needs, or would make carry live service (R583, R587; log 36). -/
def commandNeeds (op : Nat) (c : Cmd) : List Nat :=
  match op with
  | 0x0804 => if c.u8 17 = 0 then [] else [13 + c.u8 16]
  | 0x0901 => if c.u8 17 = 0 then [] else [45 + c.u8 16] ++ (if c.u8 19 = 1 then [7] else [])
  | 0x0B05 => if c.u8 16 = 4 then [7] else if c.u8 16 = 5 then [8] else []
  | 0x0D02 => if c.u8 18 = 1 then [8] else []
  | 0x0E03 => if c.u8 17 = 1 ∧ 7 ≤ c.u8 16 then [c.u8 16] else []
  | 0x0F01 => [laneDomain (c.u16 16)]
  | 0x0F02 => [laneDomain (c.u16 16)]
  | 0x0F03 => [laneDomain (c.u16 16)]
  | 0x0F04 => [laneDomain (c.u16 16)]
  | 0x0F05 => [laneDomain (c.u16 16)]
  | 0x0F06 => [21 + c.u8 16]
  | 0x0F07 => [7]
  | _ => []

end Sys2Proof.Machine
end

