-- ==== Sys2Proof/Machine/Balix.lean ====
section
/-! DEFINITION. How Balix judges, accepts, stages and settles a command: R447, R448, R61, R62, R40 to R47, R73, R74. The
commands themselves are the `CmdSpec`s of the family files. -/
namespace Sys2Proof.Machine

/-! ## What a command is -/

/-- The role a command needs (Table Role needed). -/
inductive RoleNeed where
  | noSession | any | operator | security | engineering
  deriving DecidableEq, Repr

/-- What Balix knows of a fetched command: its id in flight, its mailbox, its bytes, its acceptance stamp in ns, the
session's byte, rank and roles, and its copied payload. -/
structure Ctx where
  id : Nat
  mb : Nat
  cmd : Cmd
  stamp : Nat
  sess : Nat
  rank : Nat
  roles : Nat
  buf : List Byte
  deriving DecidableEq, Repr

/-- How a command uses PAYLOAD_PTR (Table Payload pointers); `ok` judges the length it requires. -/
inductive PtrRule where
  | never
  | must (ok : Nat → Bool)
  | may (allowed : Cmd → Bool) (ok : Nat → Bool)

/-- When a command acts (R450): at once with its completion; later, beginning now; or at a tick, with its entries for each
domain and what its staging changes. -/
inductive Effect where
  | atOnce (act : State → Ctx → State × Rep)
  | later (start : State → Ctx → State)
  | tick (parts : State → Ctx → List (Nat × List Entry)) (onStage : State → Ctx → State)

/-- One command of chapter 17: its opcode, the role it needs, its use of PAYLOAD_PTR, its own checks in the order its rule
gives (R447 step 6), and its effect. -/
structure CmdSpec where
  opcode : Nat
  role : RoleNeed
  ptr : PtrRule
  checks : State → Ctx → List Check
  effect : Effect

/-- Whether a command is tick-applied. -/
def CmdSpec.isTick (p : CmdSpec) : Bool :=
  match p.effect with
  | .tick _ _ => true
  | .atOnce _ => false
  | .later _ => false

/-! ## Judging (R447) -/

/-- Balix is running: start-up reached READY, no FREEZE, and no takeover is under way (R393, R392). -/
def State.balixUp (s : State) : Bool := s.startup.ready && !s.boot.freeze && s.boot.ccFailAt.isNone

/-- The UCIe link is up: it trains at step 4 of start-up and stays up in a CC-only reset (R14, R573, R576, R580). -/
def State.ucieUp (s : State) : Bool := decide (4 ≤ s.startup.stage) || s.startup.ccOnly

/-- Whether host memory answers at every byte of a range: the link to it is up, and no range that gives a bus error overlaps it
(R14, R67, R621). -/
def State.hostOk (s : State) (a n : Nat) : Bool :=
  s.ucieUp && s.hostBad.all (fun r => decide (a + n ≤ r.1 ∨ r.1 + r.2 ≤ a))

/-- Whether a session's roles meet a need. -/
def RoleNeed.met : RoleNeed → Nat → Bool
  | .noSession, _ => true
  | .any, _ => true
  | .operator, r => bit r 0
  | .engineering, r => bit r 1
  | .security, r => bit r 2

/-- Whether PAYLOAD_PTR is used as Table Payload pointers allows (R448). -/
def PtrRule.flagOk (r : PtrRule) (c : Cmd) : Bool :=
  match r with
  | .never => !c.ptr
  | .must _ => c.ptr
  | .may allowed _ => !c.ptr || allowed c

/-- Whether the payload length is one the command takes. -/
def PtrRule.lenOk (r : PtrRule) (n : Nat) : Bool :=
  match r with
  | .never => true
  | .must ok => ok n
  | .may _ ok => ok n

/-- The session checks of R447 steps 3 and 4: R66, R78, R79. -/
def sessionChecks (p : CmdSpec) (s : State) (x : Ctx) : List Check :=
  if p.role = .noSession then []
  else
    [(!(s.mbox x.mb).isOpen || x.cmd.session != s.sessionByte x.mb, repBadState),
     (!p.role.met x.roles, repNotAuthority 1),
     (decide (p.role = .operator) && p.isTick && !s.authority, repNotAuthority 2)]

/-- The checks of R447 steps 2 to 5. -/
def headChecks (p : CmdSpec) (s : State) (x : Ctx) : List Check :=
  [badIf (decide (16 ≤ x.cmd.flags)) 5, badIf (x.cmd.u8 7 != 0) 7]
    ++ sessionChecks p s x
    ++ [badIf (!p.ptr.flagOk x.cmd) 5,
        badIf (x.cmd.ptr && decide (x.cmd.ptrAddr % 8 ≠ 0)) 16,
        badIf (x.cmd.ptr && decide (x.cmd.ptrLen = 0 ∨ 16777216 < x.cmd.ptrLen)) 24,
        badIf (x.cmd.ptr && !p.ptr.lenOk x.cmd.ptrLen) 24,
        (x.cmd.ptr && !s.hostOk x.cmd.ptrAddr x.cmd.ptrLen, repAborted 3)]

/-- Whether the staging ring has risen above 3 MiB, when new tick-applied operator commands are refused (R439). -/
def State.grainRefusing (s : State) : Bool := s.gr.refusing

/-- The checks of R447 step 6: the TD byte first (R27), then the command's own, and for a tick-applied command the domain
without ticks (R27, DEDUCED: after the command's own BAD_ARG checks, log 13) and R439. -/
def ownChecks (p : CmdSpec) (s : State) (x : Ctx) : List Check :=
  badIf (decide (8 ≤ x.cmd.td)) 6 :: p.checks s x
    ++ (if p.isTick then
          [(!(s.dom x.cmd.td).hasTicks, repBadState),
           (decide (p.role = .operator) && s.grainRefusing, repByte 0x13 0x10)]
        else [])

/-- The first status that refuses a command (R447 steps 2 to 6). -/
def judge (p : CmdSpec) (s : State) (x : Ctx) : Option Rep := firstFail (headChecks p s x ++ ownChecks p s x)

/-! ## Staged work -/

/-- A protect or lock after one XPT_PROTECT or XPT_LOCK of a session (R217, R218). -/
def holdAfter (h : Option Nat) (op sess : Nat) : Option Nat :=
  match op with
  | 0 => if h = some sess then none else h
  | 1 => if h.isNone then some sess else h
  | _ => none

/-- Changes the staged work of a command in a domain. -/
def State.updWork (s : State) (id d : Nat) (f : Staged → Staged) : State :=
  { s with bx := { s.bx with staged := s.bx.staged.map (fun w => if w.id = id ∧ w.td = d then f w else w) } }

/-! ## Ties that takes need (R225, R226, R229) -/

/-- A global source lies on another device. -/
def State.isRemote (s : State) (g : Nat) : Bool := decide (g < 4096 ∧ g / 1024 ≠ s.straps.groupIdx)

/-- The tie of a source in a domain to this device (R225). -/
def State.tie? (s : State) (g td : Nat) : Option Tie := s.ties.find? (fun t => t.src == g && t.td == td)

/-- Work staged or sealed in a domain takes a source. -/
def State.tieStaged (s : State) (src td : Nat) : Bool :=
  s.bx.staged.any (fun w => w.td == td && w.entries.any (fun e => match e with
    | .take _ g => g == src
    | _ => false))

/-- Changes the ties of a source in a domain. -/
def State.updTie (s : State) (src td : Nat) (f : Tie → Tie) : State :=
  { s with ties := s.ties.map (fun t => if t.src == src && t.td == td then f t else t) }

/-- Sends a message about ties to a member over the link that R322 assigns to it. -/
def State.sendTie (s : State) (dev : Nat) (m : TieMsg) : State :=
  (s.updLink (s.linkAt dev) (fun l => { l with tieMsgs := l.tieMsgs ++ [m] })).sendFrame (s.linkAt dev) (.tie m)

/-- A take of a source in a domain for tick `n` uses the tie that there is, whose release it cancels, or sends a reservation for
the tick before its own (R225, R226, R229). -/
def State.reserveTie (s : State) (d n src : Nat) : State :=
  if s.isRemote src then
    match s.tie? src d with
    | some _ => s.updTie src d (fun t => { t with leaving := none })
    | none =>
      State.sendTie { s with ties := s.ties ++ [{ src := src, td := d, dev := src / 1024, port := 0 }] }
        (src / 1024) (.reserve src d (n - 1))
  else s

/-- The ties that the staged takes of some commands need (R226, R230). -/
def State.reserveFor (s : State) (ids : List Nat) : State :=
  (s.bx.staged.filter (fun w => ids.contains w.id)).foldl (fun t w => w.entries.foldl (fun u e => match e with
    | .take _ src => u.reserveTie w.td w.tick src
    | _ => u) t) s

/-! ## Places in flight (R61, R62) -/

/-- Places of the shared pool a mailbox uses with `n` commands in flight. -/
def State.poolUse (s : State) (mb n : Nat) : Nat := if (s.mbox mb).isOpen then n - 16 else n

/-- Places of the shared pool in use. -/
def State.poolUsed (s : State) : Nat := (range 0 16).foldl (fun k n => k + s.poolUse n (s.inflightOf n)) 0

/-- The size of the shared pool. -/
def State.poolSize (s : State) : Nat := 512 - 16 * s.openSessions

/-- Completions posted and not consumed by the host (R62). -/
def State.unconsumed (s : State) (mb : Nat) : Nat := ((s.mbox mb).cplTail + 65536 - (s.mbox mb).cplHead) % 65536

/-- Whether `k` commands of a mailbox may be fetched (R61, R62). -/
def State.hasRoom (s : State) (mb k : Nat) : Bool :=
  let n := s.inflightOf mb
  let more := s.poolUse mb (n + k) - s.poolUse mb n
  decide (n + s.unconsumed mb + k ≤ 256) && decide (s.inflight + k ≤ 512)
    && (more == 0 || decide (s.poolUsed + more ≤ s.poolSize))

/-! ## Settling -/

/-- The completion of a command all whose effects are over: SUPERSEDED when every entry lost (R83), else DONE or
DONE_LATE. -/
def Flight.final (f : Flight) : Rep :=
  if f.total ≠ 0 ∧ f.lost = f.total then repSuperseded f.winner
  else if f.late then repLate f.res else repDone f.res

/-- `k` effects of a command are over; its completion is due after the last one (R51). -/
def State.effectDone (s : State) (id k : Nat) : State :=
  s.updFlight id (fun f =>
    let f := { f with waits := f.waits - k }
    if f.waits = 0 ∧ f.reply.isNone then { f with reply := some f.final } else f)

/-- `k` entries of a command lost to other work (R82, R83, R50). -/
def State.entriesLost (s : State) (id k winner : Nat) : State :=
  if k = 0 then s
  else (s.updFlight id (fun f => { f with lost := f.lost + k, winner := winner })).effectDone id k

/-- Entries of a command's work are left out without having lost: skipped (R224), or dropped with the rest applied. -/
def State.entriesSkipped (s : State) (id k : Nat) : State :=
  s.updFlight id (fun f =>
    let f := { f with waits := f.waits - k, total := f.total - k }
    if f.waits = 0 ∧ f.reply.isNone then { f with reply := some f.final } else f)

/-- Work without entries is no longer held. -/
def State.dropEmpty (s : State) : State :=
  { s with bx := { s.bx with staged := s.bx.staged.filter (fun w => !w.entries.isEmpty) } }

/-- Leaves the takes of destinations out of a command's work in a domain; a salvo all whose entries in the domain are
skipped has no tick there (R54, R224). -/
def State.skipTakes (s : State) (id d : Nat) (dsts : List Nat) : State :=
  let hit := fun (e : Entry) => match e with
    | .take dst _ => dsts.contains dst
    | _ => false
  let mine := (s.bx.staged.filter (fun w => w.id == id && w.td == d)).flatMap (fun w => w.entries)
  let n := (mine.filter hit).length
  if n = 0 then s
  else
    let t := s.updWork id d (fun w => { w with
      entries := w.entries.filter (fun e => !hit e)
      skipped := w.skipped ++ dsts })
    let t := if n = mine.length then
        t.updFlight id (fun f => { f with ticks := if f.cmd.opcode == 0x0503 then f.ticks.filter (fun q => q.1 != d)
          else f.ticks })
      else t
    (t.entriesSkipped id n).dropEmpty

/-- A command fails as a whole after its acceptance: its staged work goes and it completes with a status. -/
def State.failFlight (s : State) (id : Nat) (r : Rep) : State :=
  s.refuseWhere (fun f => f.id == id) r

/-- A part of a salvo in a bank is taken back: its destinations have no PEND any more, so that none of them flips. -/
def State.unwrite (s : State) (w : Staged) : State :=
  w.entries.foldl (fun t e => match e with
    | .take dst _ => t.updOut dst (fun o => { o with pend := false })
    | _ => t) s

/-- A command fails as a whole at the cutoff of one of its parts, and all of it goes: a part of a salvo that a cutoff of another
domain has sealed leaves the bank, so that the salvo has no effect. Only a part whose bank has been taken up goes on (R224, R230;
DEDUCED, log 99). -/
def State.failRest (s : State) (id : Nat) (r : Rep) : State :=
  let mine := s.bx.staged.filter (fun w => w.id == id && w.isSealed)
  let kept := mine.filter (fun w => (s.dom w.td).bankArmed)
  let t := (mine.filter (fun w => !(s.dom w.td).bankArmed)).foldl State.unwrite s
  let t := t.failFlight id r
  { t with bx := { t.bx with staged := kept ++ t.bx.staged } }

/-! ## Tick-applied work -/

/-- The tick a command is assigned (R40, R41): the tick, whether it is late, or a refusal. -/
def State.assign (s : State) (x : Ctx) : Except Rep (Nat × Bool) :=
  let w := (s.dom x.cmd.td).windowTick x.stamp
  if !x.cmd.atTick then .ok (w, false)
  else if w + 16777216 < x.cmd.tick then .error (repBadArg 8)
  else if w ≤ x.cmd.tick then .ok (x.cmd.tick, false)
  else if x.cmd.lateOk then .ok (w, true)
  else .error repRejectedLate

/-- The first tick of a domain from `n` on whose cutoff has not passed. -/
def State.openTick (s : State) (d n : Nat) : Nat :=
  let w := (s.dom d).windowTick s.nowNs
  let w := if s.cutPassed d w then w + 1 else w
  if n ≤ w then w else n

/-- Where work of a domain goes (R46, R47, R64): its tick, whether it has its allotment there, whether it is late; none
when it is rejected. A wake that does not end before the cutoff counts as capacity not free (R587). -/
def State.place (s : State) (d n : Nat) (c : Cost) (needs : List Nat) (lateOk : Bool) : Option (Nat × Bool × Bool) :=
  let passed := s.cutPassed d n
  if !passed && s.fits d n c && s.wakesBy needs d n then some (n, true, false)
  else if !lateOk then none
  else if passed then
    let m := s.openTick d (n + 1)
    some (m, s.fits d m c && s.wakesBy needs d m, true)
  else some (n, false, true)

/-- The domains that staged work of some commands in one domain needs. -/
def State.stagedNeeds (s : State) (ids : List Nat) (d : Nat) : List Nat :=
  (s.bx.staged.filter (fun w => ids.contains w.id && w.td == d)).flatMap (fun w => w.entries.flatMap s.entryNeeds)

/-- The tick of a domain with the earliest cutoff at or after the common cutoff of a salvo (R52). -/
def State.tickFrom (s : State) (d cut : Nat) : Nat := s.cutoffFrom d cut 8 ((s.dom d).windowTick (cut - 1) - 2)

/-- Stages the parts of one command provisionally, at tick `t0` of its own domain and the tick of R52 of any other. -/
def State.stageParts (s : State) (p : CmdSpec) (x : Ctx) (t0 : Nat) (ids : List Nat) : State :=
  match p.effect with
  | .tick parts onStage =>
    let ps := parts s x
    let cut := s.cutoffOf x.cmd.td t0
    let mk := fun (q : Nat × List Entry) =>
      ({ id := x.id
         td := q.1
         tick := if q.1 = x.cmd.td then t0 else s.tickFrom q.1 cut
         rank := x.rank
         mb := x.mb
         sess := x.sess
         order := s.bx.nextOrder
         op := p.opcode
         tag := x.cmd.tag
         lateOk := x.cmd.lateOk
         chain := ids
         skip := bit (x.cmd.u8 17) 0 && p.opcode == 0x0503
         entries := q.2 } : Staged)
    let n := ps.foldl (fun k q => k + q.2.length) 0
    let t : State := { s with bx := { s.bx with
      staged := s.bx.staged ++ ps.map mk
      nextOrder := s.bx.nextOrder + 1 } }
    let t := t.updFlight x.id (fun f => { f with waits := n, total := n, phase := .staged })
    onStage t x
  | .atOnce _ => s
  | .later _ => s

/-- Gives every domain's part of a unit its place, or none when one does not fit (R53, R74). -/
def State.placeAll (s : State) (ids : List Nat) (lateOk : Bool) : List Nat → Option (List (Nat × Nat × Bool × Bool))
  | [] => some []
  | d :: ds =>
    let mine := s.bx.staged.filter (fun w => ids.contains w.id && w.td == d)
    match mine with
    | [] => s.placeAll ids lateOk ds
    | w :: _ =>
      let c := costOf (mine.flatMap (fun v => v.entries))
      match s.place d w.tick c (s.stagedNeeds ids d) lateOk, s.placeAll ids lateOk ds with
      | some q, some rest => some ((d, q) :: rest)
      | _, _ => none

/-- Puts a unit's parts at their places and allots their capacity (R46); a command has a tick in the domains of its own parts
(R54). -/
def State.commitPlaces (s : State) (ids : List Nat) : List (Nat × Nat × Bool × Bool) → State
  | [] => s
  | (d, n, fits, late) :: rest =>
    let mine := s.bx.staged.filter (fun w => ids.contains w.id && w.td == d)
    let c := costOf (mine.flatMap (fun v => v.entries))
    let t : State := { s with bx := { s.bx with
      staged := s.bx.staged.map (fun w =>
        if ids.contains w.id && w.td == d then { w with tick := n, fits := fits } else w)
      flights := s.bx.flights.map (fun f =>
        if ids.contains f.id then
          { f with
            late := f.late || late
            eff := if f.cmd.td = d then n else f.eff
            ticks := if mine.any (fun w => w.id == f.id) then f.ticks ++ [(d, n)] else f.ticks }
        else f) } }
    (if fits then t.allot d n c else t).commitPlaces ids rest

/-- The outcome of a unit of tick-applied commands: a member refused on its own account, all refused alike, or staged. -/
inductive UnitOutcome where
  | member (id : Nat) (r : Rep)
  | all (r : Rep)
  | staged (s : State)

/-- The audio maps and followed slots after an entry that sets one of them (R290, R294, R295). -/
def State.setMaps (s : State) (e : Entry) : State :=
  match e with
  | .mapIn ai kind id chan => { s with au := { s.au with
      inMap := Tbl.set none s.au.inMap ai (if kind = 0 then none else some (kind, id, chan)) } }
  | .mapOut slot ao =>
    let rest := s.au.outMap.filter (fun p => p.1 != slot)
    { s with au := { s.au with outMap := if ao = 0xFFFF then rest else rest ++ [(slot, ao)] } }
  | .followDst dst slots => s.updDest dst (fun k => { k with followed := slots })
  | .followSrc src base => { s with au := { s.au with bases := Tbl.set 0xFFFF s.au.bases src base } }
  | .gain _ _ _ => s
  | .take _ _ => s
  | .protect _ _ => s
  | .lock _ _ => s
  | .veneer _ _ => s
  | .keyOp _ => s
  | .realign => s
  | .guard _ => s
  | .sealAt => s

/-- What an entry of an earlier member of a chain in domain `d` would leave, as far as a later member's checks look at it:
holds, audio maps, followed slots, and the tie of a remote take. A protect or lock of the same tick does not govern a take of
that tick (R74, R211, R215). -/
def State.wouldLeave (s : State) (d op sess : Nat) (e : Entry) : State :=
  let holds := op == 0x0504 || op == 0x0505
  match e with
  | .take _ src =>
    if s.isRemote src && (s.tie? src d).isNone then
      { s with ties := s.ties ++ [{ src := src, td := d, dev := src / 1024, port := 0 }] }
    else s
  | .protect dst m => if holds then s.updOut dst (fun o => { o with protect := holdAfter o.protect m sess }) else s
  | .lock dst m => if holds then s.updOut dst (fun o => { o with lock := holdAfter o.lock m sess }) else s
  | e => s.setMaps e

/-- The state against which a member with an opcode is judged: what the staged members of its chain would leave (R74). -/
def State.afterMembers (s : State) (ids : List Nat) (op : Nat) : State :=
  (s.bx.staged.filter (fun w => ids.contains w.id)).foldl (fun t w =>
    w.entries.foldl (fun u e => u.wouldLeave w.td op w.sess e) t) s

/-- Judges the members of a unit one after another, each against the state the members before it would leave (R74). -/
def State.stageAll (s : State) (t0 : Nat) (ids : List Nat) : List (CmdSpec × Ctx) → Except (Nat × Rep) State
  | [] => .ok s
  | (p, x) :: rest =>
    match judge p (s.afterMembers ids p.opcode) x with
    | some r => .error (x.id, r)
    | none => (s.stageParts p x t0 ids).stageAll t0 ids rest

/-- The entries of a salvo that are held against its session when it is accepted (R223, R224). -/
def State.heldNow (s : State) (w : Staged) : List Nat :=
  w.entries.filterMap (fun e => match e with
    | .take dst _ =>
      let o := s.out dst
      if o.lock.isSome || (o.protect.isSome && o.protect != some w.sess) then some dst else none
    | _ => none)

/-- The held entries of accepted salvos with SKIP_HELD are skipped; they stay in the capacity allotted (R224). -/
def State.skipHeld (s : State) (ids : List Nat) : State :=
  (s.bx.staged.filter (fun w => ids.contains w.id && w.skip)).foldl (fun t w => t.skipTakes w.id w.td (s.heldNow w)) s

/-- A unit of tick-applied commands, one command or a chain: judged, assigned, placed (R40 to R47, R53, R74). A chain is late
or over capacity as one, or has a target too far ahead (R40) as one, so each of its members completes with that status: none is
refused on its own account while the others are ABORTED (DESIGN CHOICE, log 100). -/
def State.tickUnit (s : State) (members : List (CmdSpec × Ctx)) : UnitOutcome :=
  match members with
  | [] => .staged s
  | (p, x) :: rest =>
    let ids := members.map (fun m => m.2.id)
    let t0 := (s.dom x.cmd.td).windowTick x.stamp
    let target := s.assign x
    let n := match target with
      | .ok q => q.1
      | .error _ => t0
    match s.stageAll n ids ((p, x) :: rest) with
    | .error e => .member e.1 e.2
    | .ok t =>
      match target with
      | .error r => .all r
      | .ok (_, late) =>
        let t := t.wakeAll ((range 0 8).flatMap (t.stagedNeeds ids))
        match t.placeAll ids x.cmd.lateOk (range 0 8) with
        | none => .all repRejectedLate
        | some places =>
          let u := t.commitPlaces ids places
          let u : State := { u with bx := { u.bx with flights := u.bx.flights.map (fun f =>
            if ids.contains f.id then
              let f := { f with
                late := f.late || late
                eff := if f.ticks.any (fun q => q.1 == f.cmd.td) then f.eff else n }
              if f.waits = 0 then { f with reply := some f.final } else f
            else f) } }
          .staged ((u.skipHeld ids).reserveFor ids)

/-! ## The end of a takeover (R86) -/

/-- Sets MB_IRQ_STAT.TAKEOVER of a mailbox and raises its interrupt when TKO_EN is set (R84, R86). -/
def State.setTakeover (s : State) (n : Nat) : State :=
  let m := s.mbox n
  let t := s.setMbox n { m with takeover := true }
  if m.tkoEn then t.raiseVector n else t

/-- A flight completes ABORTED with a detail. -/
def Flight.abortedBy (f : Flight) (detail : Nat) : Bool := f.reply == some (repAborted detail)

/-- The last ABORTED completion of a takeover has been posted: TAKEOVER is set on every mailbox with an open session (R86). -/
def State.takeoverDone (s : State) : State :=
  if s.bx.tookWait && !s.bx.flights.any (fun g => decide (g.id < s.bx.tookId) && g.abortedBy 1) then
    (range 0 16).foldl (fun u n => if (u.mbox n).isOpen then u.setTakeover n else u)
      { s with bx := { s.bx with tookWait := false } }
  else s

/-! ## Accepting -/

/-- The context of a command fetched from a mailbox. -/
def State.ctxOf (s : State) (mb : Nat) (c : Cmd) (stamp id : Nat) : Ctx :=
  let m := s.mbox mb
  { id := id
    mb := mb
    cmd := c
    stamp := stamp
    sess := s.sessionByte mb
    rank := m.rank
    roles := m.roles
    buf := if c.ptr && s.hostOk c.ptrAddr c.ptrLen && decide (c.ptrLen ≤ 16777216)
      then s.hostMem.readBytes c.ptrAddr c.ptrLen else [] }

/-- Puts a fetched command in flight (R61), with the effective tick of R42. -/
def State.enter (s : State) (mb : Nat) (c : Cmd) (stamp : Nat) (chain : List Nat) : State :=
  let f : Flight := {
    id := s.newId
    mb := mb
    cmd := c
    stamp := stamp
    sess := s.sessionByte mb
    rank := (s.mbox mb).rank
    roles := (s.mbox mb).roles
    eff := s.effTick c.td stamp
    chain := chain
    phase := .begun
    start := s.clk
    buf := (s.ctxOf mb c stamp s.newId).buf }
  { s with bx := { s.bx with flights := s.bx.flights ++ [f], nextId := s.newId + 1 } }

/-- What the active mirrors of an at-once command: the reference commands and ramp lengths (R361). -/
def State.mirrorCommand (s : State) (op : Nat) (c : Cmd) : State :=
  if op = 0x0202 ∨ op = 0x0203 ∨ op = 0x0205 then s.mirror 3 (.ref c)
  else if op = 0x0705 ∧ c.u8 16 = 0 then s.mirror 1 (.rampLen (c.u16 18) (c.u16 20) (c.u16 22))
  else s

/-- An accepted command takes effect at once or begins. -/
def State.carryOut (s : State) (p : CmdSpec) (x : Ctx) : State :=
  match p.effect with
  | .tick _ _ => s
  | .atOnce act =>
    let r := act s x
    let t := r.1.settle x.id r.2
    if r.2.ok then t.mirrorCommand p.opcode x.cmd else t
  | .later start => start s x

/-- A command that is not tick-applied has been accepted: it takes effect now, or waits for the domains it needs to wake
(R587). -/
def State.carryOrWake (s : State) (p : CmdSpec) (x : Ctx) : State :=
  let needs := commandNeeds p.opcode x.cmd
  let t := s.wakeAll needs
  match t.asleep needs with
  | some n => t.updFlight x.id (fun f => { f with phase := .waking n })
  | none => t.carryOut p x

/-- One accepted command acts, begins or is staged; a refused one completes with its status. -/
def State.acceptOne (s : State) (p : CmdSpec) (x : Ctx) : State :=
  match p.effect with
  | .tick _ _ =>
    (match s.tickUnit [(p, x)] with
     | .member _ r => s.settle x.id r
     | .all r => s.settle x.id r
     | .staged t => t)
  | .atOnce _ =>
    (match judge p s x with
     | some r => s.settle x.id r
     | none => s.carryOrWake p x)
  | .later _ =>
    (match judge p s x with
     | some r => s.settle x.id r
     | none => s.carryOrWake p x)

/-- The key slots that a command names (15 R410). -/
def namedSlots (c : Cmd) : List Nat :=
  match c.opcode with
  | 0x0C01 => c.u16 16 :: (if c.u8 19 = 1 then [c.u16 20] else [])
  | 0x0C02 => [c.u16 16, c.u16 20]
  | 0x0C03 => [c.u16 16]
  | 0x0C04 => [c.u16 16]
  | 0x0F07 => if c.u8 18 = 2 then [c.u16 28] else []
  | 0x0901 => if c.u8 17 = 1 ∧ c.u8 19 = 1 then [c.u16 20, c.u16 22] else []
  | _ => []

/-- The completion of a load or derive of a slot waits to be posted, and with it the KEY_EVENT of the slot (R422). -/
def State.eventOwed (s : State) (slot : Nat) : Bool :=
  s.bx.flights.any (fun f => (f.cmd.opcode == 0x0C01 || f.cmd.opcode == 0x0C02) && f.cmd.u16 16 == slot
    && (f.reply.getD {}).ok && f.reply.isSome)

/-- The KEY_EVENT of every slot that a command names has been written: until then Balix does not take the command (R422). -/
def State.keysLogged (s : State) (c : Cmd) : Bool := (namedSlots c).all (fun n => !s.eventOwed n)

/-- A command fetched alone: in flight from now, judged and carried out. -/
def State.fetchOne (s : State) (p : CmdSpec) (mb : Nat) (c : Cmd) (stamp : Nat) : State :=
  let id := s.newId
  let t := s.enter mb c stamp [id]
  t.acceptOne p (t.ctxOf mb c stamp id)

/-- The meaning of a Balix command row: Balix has just fetched this command from its mailbox, stamped now. Balix fetches
nothing while it does not run (R393) or has no place for the command (R61, R62), and no command that names a slot whose KEY_EVENT is
to be written first (R422). -/
def runCommand (p : CmdSpec) (mb : Nat) (c : Cmd) (s : State) : State :=
  if s.balixUp && decide (mb < 16) && s.hasRoom mb 1 && s.keysLogged (c.withOpcode p.opcode) then
    s.fetchOne p mb (c.withOpcode p.opcode) s.nowNs
  else s

end Sys2Proof.Machine
end

