-- ==== Sys2Proof/Machine/Reference.lean ====
section
/-! DEFINITION. The reference block and the timing domains' references (chapter 04): candidates, choice, states, pull,
holdover, pending steps, and the commands TD_CONFIG, REF_CONFIG, REF_PRIORITY, REF_STATUS, REF_FORCE, FP_REALIGN,
CUTOFF_SET. -/
namespace Sys2Proof.Machine

/-! ## Codes -/

/-- The code of a reference state (REF_STATUS). -/
def RefState.code : RefState → Nat
  | .freeRun => 0
  | .acquiring => 1
  | .locked => 2
  | .holdover => 3
  | .lost => 4

/-- The code of a REF_FORCE mode (R459). -/
def RefForce.code : RefForce → Nat
  | .auto => 0
  | .candidate _ => 1
  | .holdover => 2

/-- The candidate in use as a code, 0xFF for none (R460). -/
def candCode : Option Nat → Nat
  | some c => c
  | none => 0xFF

/-- The range of a candidate's loop bandwidth in mHz and its default (Table Loop bandwidth by input type). -/
def bwRange (c : Nat) : Nat × Nat × Nat :=
  if c ≤ 1 then (100, 10000, 1000)
  else if c = 2 then (1000, 100000, 10000)
  else if c = 3 then (10, 1000, 100)
  else if c ≤ 11 then (5, 500, 50)
  else if c ≤ 15 then (2000, 200000, 20000)
  else (1000, 100000, 10000)

/-- Q of a candidate in twelfths of a nanosecond (Table Reference candidates). -/
def candQ (c : Nat) : Nat := if c = 2 then 1200 else 12000

/-- The rate whose frame period a measured distance of frame starts is, within 200 ppm. -/
def rateNear (gap : Nat) : Option Nat :=
  (range 0 8).find? (fun r => decide (((gap : Int) - (ratePeriod r : Int)).natAbs * 5000 ≤ ratePeriod r))

/-- The frame rate code of a candidate whose events are frames: as REF_CONFIG set it, that of the source on a slot's lane or,
with no source there, the one measured of its frame starts (DEDUCED, log 106), that of GROUP_TD (R87, R326). -/
def State.candFrame (s : State) (c : Nat) : Option Nat :=
  if c ≤ 1 then some (((s.cand c).rate).getD 2)
  else if 12 ≤ c ∧ c ≤ 15 then
    (match (s.cand c).lane with
     | some l =>
       ((s.sr.filter (fun p => p.2.lanes.contains l && p.2.fmt != 0)).map (fun p => fmtRate p.2.fmt)).head?
         <|> rateNear (s.cand c).gap
     | none => none)
  else if c = 16 then (s.dom s.group.td).rate
  else none

/-- P of a candidate in twelfths of a nanosecond (Table Reference candidates). -/
def State.candP (s : State) (c : Nat) : Nat :=
  if c = 2 then 1200
  else if 3 ≤ c ∧ c ≤ 11 then 12000000000
  else (s.candFrame c).elim 0 ratePeriod

/-- What pulls have moved the window clock up to an instant, in twelfths of a nanosecond: a pull of Δ makes it read that much
less (R101, R104). -/
def State.movedAt (s : State) (t : Nat) : Int :=
  s.rf.outMove + (if s.rf.pullEnd.isSome then
    -(s.rf.pullDelta.sign * (min s.rf.pullDelta.natAbs ((t - s.rf.pullFrom) * s.rf.slope / 1000000000) : Nat)) else 0)

/-- The latest event of a candidate as the output stands now, with what a pull has moved the output since: of a time base its
last whole second, reckoned back at the base's own rate (Table Reference candidates, R102; DESIGN CHOICE which event, log
132). -/
def State.candEvent (s : State) (c : Nat) : Option Int :=
  if 4 ≤ c ∧ c ≤ 11 then
    let b := s.base (c - 4)
    if b.configured then some ((s.clk : Int) - ((b.time % tbSecond * 48 : Nat) : Int) / (17179869184 + b.rate)) else none
  else (s.cand c).event.map (fun ev => (ev : Int) + s.movedAt s.clk - (s.cand c).moved)

/-- Δ of an event in twelfths of a nanosecond: its distance from the nearest instant at which the window clock reads a multiple
of Q, in (-Q/2, Q/2] (R101). -/
def pullOf (ev : Int) (q : Nat) : Int := if 2 * (ev % q) ≤ q then ev % q else ev % q - q

/-- Δ of a candidate (R101). -/
def State.candDelta (s : State) (c : Nat) : Int :=
  match s.candEvent c with
  | some ev => pullOf ev (candQ c)
  | none => 0

/-- The loop bandwidth of a candidate in mHz (R100). -/
def State.candBw (s : State) (c : Nat) : Nat := ((s.cand c).bw).getD (bwRange c).2.2

/-- The rate code of a frame-pulse candidate: 25 Hz after reset (R458). -/
def State.candRate (s : State) (c : Nat) : Nat := ((s.cand c).rate).getD 2

/-! ## State changes -/

/-- Sources 112 and 113 follow HOLDOVER and LOST (R111, Table Fault sources). -/
def State.refFaults (s : State) : State :=
  (s.level 112 (decide (s.rf.state = .holdover)) 0xFFFF).level 113 (decide (s.rf.state = .lost)) 0xFFFF

/-- A change of the reference block's state, with its REF_EVENT and fault sources (R98, R111). -/
def State.refGo (s : State) (goal : RefState) : State :=
  if s.rf.state = goal then s
  else
    let t : State := { s with rf := { s.rf with
      state := goal
      lockedSince := if goal = .locked then some s.clk else none
      holdSince := if goal = .holdover then some s.clk else s.rf.holdSince } }
    (t.refEvent 0 s.rf.state.code goal.code (candCode t.rf.cand) 0xFF 0).refFaults

/-- A change of the candidate in use, with its REF_EVENT (R111). -/
def State.setCand2 (s : State) (c : Option Nat) : State :=
  if s.rf.cand = c then s
  else
    let t : State := { s with rf := { s.rf with cand := c } }
    t.refEvent 1 (candCode s.rf.cand) (candCode c) (candCode c) 0xFF 0

/-- The average output frequency of the holdover history (R99). -/
def average (l : List Int) : Int := l.foldl (· + ·) 0 / ((l.length : Nat) : Int)

/-- No candidate is chosen: HOLDOVER with a valid history, else FREE_RUN; HOLDOVER and LOST stay (R98, R94). -/
def State.refHold (s : State) : State :=
  if s.rf.state = .acquiring ∨ s.rf.state = .locked then
    let t := s.setCand2 none
    let t : State := { t with rf := { t.rf with
      pullEnd := none
      outMove := t.movedAt t.clk
      dwellSince := none
      phase := 0
      outPpt := if t.rf.histValid then t.rf.histPpt else 0 } }
    t.refGo (if t.rf.histValid then .holdover else .freeRun)
  else s.setCand2 none

/-- How long a pull takes at a slope in ns/s, both it and its time in twelfths of a nanosecond (R101). -/
def pullTime (delta : Int) (slope : Nat) : Nat := delta.natAbs * 1000000000 / slope

/-- A candidate is chosen: ACQUIRING, with the pull measured afresh from where the output stands (R98, R101, R102). -/
def State.refChoose (s : State) (c : Nat) : State :=
  if s.rf.cand = some c then s
  else
    let delta := s.candDelta c
    let t := s.setCand2 (some c)
    let t : State := { t with rf := { t.rf with
      outMove := t.movedAt t.clk
      pullFrom := t.clk
      pullDelta := delta
      pullEnd := some (t.clk + pullTime delta t.rf.slope)
      dwellSince := none } }
    t.refGo .acquiring

/-! ## Candidates -/

/-- A candidate's disqualifying conditions known to the device: a time base not TRACKING (R87, TB0 to TB7), an input or a slot
without events, a slot without a locked lane, and on the master the group reference. -/
def State.candBlocked (s : State) (c : Nat) : Bool :=
  if 4 ≤ c ∧ c ≤ 11 then decide ((s.base (c - 4)).state ≠ .tracking)
  else (s.cand c).event.isNone ||
    (if 12 ≤ c ∧ c ≤ 15 then
      (match (s.cand c).lane with
       | some l => !(s.sdiLane l).locked
       | none => true)
     else if c = 16 then decide (s.group.set = false ∨ s.group.master = s.straps.groupIdx ∨ s.group.master = 0xFF)
     else false)

/-- Whether a candidate may be chosen automatically (R92). -/
def State.choosable (s : State) (c : Nat) : Bool :=
  let k := s.cand c
  k.qualified && decide (k.rank < 15) && !k.suspect

/-- The lowest rank among the choosable candidates. -/
def State.topRank (s : State) : Option Nat :=
  firstFrom (fun r => (range 0 17).any (fun c => s.choosable c && (s.cand c).rank == r)) 0 15

/-- The choosable candidates of the lowest rank, in order of code. -/
def State.topCands (s : State) : List Nat :=
  match s.topRank with
  | some r => (range 0 17).filter (fun c => s.choosable c && (s.cand c).rank == r)
  | none => []

/-- Disqualifies a candidate (R90): it must qualify afresh. The candidate in use drives source 114, and when no other can
be chosen the block leaves it at once (R98). -/
def State.disqualify (s : State) (c : Nat) : State :=
  let t := s.updCand c (fun k => { k with qualified := false, qualSince := none, cleanSince := some s.clk })
  if (s.cand c).qualified && s.rf.cand == some c then
    let t := t.strike 114 0xFFFF
    if t.topCands.isEmpty || t.rf.force != .auto then t.refHold else t
  else t

/-- The events of a candidate are lost: the next one ends the condition (R87, R89). -/
def State.forgetEvent (s : State) (c : Nat) : State := s.updCand c (fun k => { k with event := none })

/-- An event of a candidate is seen. The first since a loss starts its qualification time; one from before the loss does not
count (R89). -/
def State.seeEvent (s : State) (c ev : Nat) : State :=
  s.updCand c (fun k =>
    match k.event with
    | some old => if old = ev then k else { k with event := some ev, gap := ev - old, moved := s.movedAt ev }
    | none =>
      if (match k.cleanSince with
          | some t => decide (t ≤ ev)
          | none => true)
      then { k with event := some ev, gap := 0, moved := s.movedAt ev, cleanSince := some ev } else k)

/-- The SDI slots to which a lane is bound. -/
def State.slotsOf (s : State) (lane : Nat) : List Nat := (range 12 4).filter (fun c => (s.cand c).lane == some lane)

/-- CANDIDATE_QUALIFY: a candidate clean for its qualification time becomes qualified (R89). -/
def execCandidateQualify (cand : Nat) (s : State) : Host.Outcome State Fault Refusal :=
  let k := s.cand cand
  if decide (cand ≤ 16) && !k.qualified && !s.candBlocked cand
      && s.passed (k.cleanSince.getD s.startup.upSince) (tuMs (100 * k.qual)) then
    .next (s.setCand cand { k with qualified := true, qualSince := some s.clk })
  else .next s

/-- Whether a cause disqualifies a candidate (Table Reference candidates, R90). -/
def disqApplies (w : DisqCause) (c : Nat) : Bool :=
  match w with
  | .missing => decide (c ≤ 3)
  | .misplaced => decide (c ≤ 3) && c != 2
  | .offFrequency => true
  | .timeBase => decide (4 ≤ c ∧ c ≤ 11)
  | .laneLost => decide (12 ≤ c ∧ c ≤ 15)
  | .groupLost => c == 16

/-- How long an input may go without an edge: two frame periods, 1 us of FREQ_IN, 1.5 s of PPS_IN (Table Reference
candidates). -/
def State.missLimit (s : State) (c : Nat) : Nat := if c ≤ 1 then 2 * s.candP c else if c = 2 then tuUs 1 else tuMs 1500

/-- The condition that a cause names holds as far as the device has seen the candidate's events. -/
def State.disqHolds (s : State) (w : DisqCause) (c : Nat) : Bool :=
  match w with
  | .missing => (match (s.cand c).event with
      | some e => s.passed e (s.missLimit c)
      | none => true)
  | .misplaced => true
  | .offFrequency => true
  | .timeBase => true
  | .laneLost => true
  | .groupLost => true

/-- A cause ends the candidate's events until the next one. -/
def endsEvents (w : DisqCause) : Bool :=
  match w with
  | .missing => true
  | .misplaced => false
  | .offFrequency => false
  | .timeBase => false
  | .laneLost => true
  | .groupLost => true

/-- CANDIDATE_DISQUALIFY (R87, R90). -/
def execCandidateDisqualify (cand : Nat) (why : DisqCause) (s : State) : Host.Outcome State Fault Refusal :=
  if decide (cand ≤ 16) && disqApplies why cand && s.disqHolds why cand then
    .next (if endsEvents why then (s.disqualify cand).forgetEvent cand else s.disqualify cand)
  else .next s

/-! ## The evaluation every 1 ms (R92 to R96) -/

/-- The difference of two candidates' measured frequencies, in 0.001 ppm. -/
def State.freqGap (s : State) (a b : Nat) : Nat := ((s.cand a).freq - (s.cand b).freq).natAbs

/-- Both of a pair have been qualified for one whole comparison interval of 10 s (R93). -/
def State.compared (s : State) (a b : Nat) : Bool :=
  let f := fun c => match (s.cand c).qualSince with
    | some t => s.passed t (tuMs 10000)
    | none => false
  f a && f b

/-- Two candidates disagree (R94); the threshold is in units of 0.01 ppm. -/
def State.disagree (s : State) (a b : Nat) : Bool := decide (10 * s.rf.thresh < s.freqGap a b)

/-- Marks a candidate SUSPECT against a partner, with its REF_EVENT (R94, R111). DESIGN CHOICE (log 80): in a REF_EVENT that has
none, FROM, TO and STEP are 0 and CANDIDATE and DOMAIN 0xFF. -/
def State.markSuspect (s : State) (c partner : Nat) : State :=
  let k := s.cand c
  if k.partners.any (fun p => p.1 == partner) then s
  else
    let t := s.setCand c { k with suspect := true, partners := k.partners ++ [(partner, none)] }
    if k.suspect then t else t.refEvent 2 0 0 c 0xFF 0

/-- Clears a SUSPECT mark, with its REF_EVENT (R95, R111). -/
def State.clearSuspect (s : State) (c : Nat) : State :=
  if (s.cand c).suspect then
    (s.updCand c (fun k => { k with suspect := false, partners := [] })).refEvent 3 0 0 c 0xFF 0
  else s

/-- The two candidates of a mark are both qualified and within 0.8 times the threshold of each other (R95). -/
def State.close (s : State) (a b : Nat) : Bool :=
  (s.cand a).qualified && (s.cand b).qualified && decide (s.freqGap a b ≤ 8 * s.rf.thresh)

/-- A SUSPECT candidate sheds each partner with which it has been close for a whole comparison interval; with the last one its
mark clears (R95; of several partners: DESIGN CHOICE, log 131). -/
def State.agree (s : State) (c : Nat) : State :=
  let k := s.cand c
  let since := k.partners.map (fun p => (p.1, if s.close c p.1 then some (p.2.getD s.clk) else none))
  let left := since.filter (fun p => match p.2 with
    | some t => !s.passed t (tuMs 10000)
    | none => true)
  if k.suspect && left.isEmpty then s.clearSuspect c else s.setCand c { k with partners := left }

/-- The SUSPECT marks that clear at an evaluation (R95). -/
def State.clearAgreed (s : State) : State := (range 0 17).foldl (fun t c => t.agree c) s

/-- One candidate's measurements: its frequency, and its latest event where an input or an SDI slot gives one. A frequency
outside 50 ppm of its nominal one disqualifies it (R90, R93). -/
def State.takeCand (s : State) (m : RefMeas) (c : Nat) : State :=
  let f := m.freqs.getD c 0
  let t := s.updCand c (fun k => { k with freq := f })
  let t := if c ≤ 3 ∨ 12 ≤ c ∧ c ≤ 15 then
      (match m.events.getD c none with
       | some ev => t.seeEvent c ev
       | none => t)
    else t
  if 50000 < f.natAbs then t.disqualify c else t

/-- Takes up the measurements of an evaluation (R93). -/
def State.takeMeas (s : State) (m : RefMeas) : State := (range 0 17).foldl (fun t c => t.takeCand m c) s

/-- The pairs of a list. -/
def pairsOf : List Nat → List (Nat × Nat)
  | [] => []
  | a :: l => l.map (fun b => (a, b)) ++ pairsOf l

/-- The pairs of qualified candidates of one rank (R93, R94; DEDUCED, log 107). -/
def State.rankPairs (s : State) : List (Nat × Nat) :=
  (pairsOf ((range 0 17).filter (fun c => (s.cand c).qualified))).filter (fun p => (s.cand p.1).rank == (s.cand p.2).rank)

/-- The candidate in use as R94 means it: the forced one that this evaluation takes, else the present one. -/
def State.inUse (s : State) : Option Nat :=
  match s.rf.force with
  | .candidate c => if (s.cand c).qualified then some c else s.rf.cand
  | .auto => s.rf.cand
  | .holdover => s.rf.cand

/-- Marks the candidates of every compared pair that disagrees, all but the one in use (R94). -/
def State.comparePairs (s : State) : State :=
  (s.rankPairs.filter (fun p => s.compared p.1 p.2 && s.disagree p.1 p.2)).foldl (fun t p =>
    let t := if s.inUse = some p.1 then t else t.markSuspect p.1 p.2
    if s.inUse = some p.2 then t else t.markSuspect p.2 p.1) s

/-- Neither candidate of the top rank is adopted: the block goes on tracking a candidate it has, else holds (R94). -/
def State.keepOrHold (s : State) : State :=
  match s.rf.cand with
  | some c => if s.choosable c then s else s.refHold
  | none => s.refHold

/-- Adopts the lowest code of the top rank, unless a pair is not yet compared or disagrees. -/
def State.autoAdopt (s : State) (top : List Nat) (c0 : Nat) : State :=
  if (pairsOf top).any (fun p => !s.compared p.1 p.2 || s.disagree p.1 p.2) then s.keepOrHold else s.refChoose c0

/-- The automatic choice among the candidates of the top rank (R92 to R94, the selection step). -/
def State.autoChoose (s : State) (top : List Nat) : State :=
  match top with
  | [] => s.refHold
  | c0 :: _ =>
    match s.rf.cand with
    | some c => if top.contains c then s else s.autoAdopt top c0
    | none => s.autoAdopt top c0

/-- The choice under the force in effect (R96), after the marks of R94. -/
def State.choose (s : State) : State :=
  let t := s.comparePairs
  match s.rf.force with
  | .auto => t.autoChoose s.topCands
  | .candidate c => if (s.cand c).qualified then t.refChoose c else t.refHold
  | .holdover => t.refHold

/-- How fast the loop may move the output phase against the candidate, as a difference of frequency in parts per 10^12: by the
slope limit, and by what a loop of the candidate's bandwidth passes of a phase error (R619; the loop's own transfer is DESIGN
CHOICE, log 108). -/
def State.loopLimit (s : State) (c : Nat) (phase : Int) : Nat :=
  min (1000 * s.rf.slope) (62832 * s.candBw c * (phase.natAbs + 1) / 10000)

/-- A value moved towards another by at most a limit. -/
def moveBy (old goal : Int) (lim : Nat) : Int :=
  if goal < old - lim then old - lim else if old + lim < goal then old + lim else goal

/-- The output's frequency after one evaluation of the loop: towards the goal it is given, but against the candidate, whose
frequency is measured against the output, within the limit of R619, and changed by no more than that limit at once. -/
def State.loopPpt (s : State) (m : RefMeas) (c : Nat) : Int :=
  let lim := s.loopLimit c m.phase
  moveBy s.rf.outPpt (moveBy (s.rf.outPpt + 1000 * m.freqs.getD c 0) m.outPpt lim) lim

/-- While a candidate is tracked: its phase error, the output's frequency, which a pull leaves alone until it ends, the dwell
within 20 ns and the history of the last 60 s in LOCKED (R98, R99, R619). -/
def State.track (s : State) (m : RefMeas) : State :=
  match s.rf.cand with
  | none => s
  | some c =>
    let inside := decide (m.phase.natAbs ≤ 20)
    let pulled := s.rf.pullEnd.isNone
    let ppt := if pulled then s.loopPpt m c else s.rf.outPpt
    let hist := if s.rf.state = .locked then (ppt :: s.rf.hist).take 60000 else s.rf.hist
    { s with rf := { s.rf with
      phase := m.phase
      outPpt := ppt
      dwellSince :=
        if s.rf.state = .acquiring ∧ pulled ∧ inside then some (s.rf.dwellSince.getD s.clk) else none
      hist := hist
      histPpt := if s.rf.histValid ∧ s.rf.state = .locked then average hist else s.rf.histPpt } }

/-- REF_EVALUATION: every 1 ms the block takes up its measurements, clears and sets SUSPECT marks and chooses (R92 to
R96). -/
def execRefEvaluation (meas : RefMeas) (s : State) : Host.Outcome State Fault Refusal :=
  if (match s.rf.lastEval with
      | some t => s.passed t (tuMs 1)
      | none => true) then
    let t : State := { s with rf := { s.rf with lastEval := some s.clk } }
    .next ((t.takeMeas meas).clearAgreed.choose.track meas)
  else .next s

/-- PULL_END: the pull is over, the block tracks, and the dwell of R98 runs from its end (R101). -/
def execPullEnd (s : State) : Host.Outcome State Fault Refusal :=
  match s.rf.pullEnd with
  | some t =>
    if t ≤ s.clk then
      .next { s with rf := { s.rf with
        pullEnd := none
        outMove := s.rf.outMove - s.rf.pullDelta
        pullDelta := 0
        dwellSince := if s.rf.state = .acquiring then some t else none } }
    else .next s
  | none => .next s

/-- LOCK_DWELL_EXPIRY: the phase error has stayed within 20 ns for 4 / B seconds since the pull ended (R98). -/
def execLockDwellExpiry (s : State) : Host.Outcome State Fault Refusal :=
  match s.rf.state, s.rf.dwellSince, s.rf.cand with
  | .acquiring, some t, some c =>
    if s.passed t (4000 * 12000000000 / s.candBw c) then .next (s.refGo .locked) else .next s
  | _, _, _ => .next s

/-- HOLDOVER_HISTORY_VALID: 60 s of unbroken LOCKED make the history valid (R99). -/
def execHoldoverHistoryValid (s : State) : Host.Outcome State Fault Refusal :=
  match s.rf.state, s.rf.lockedSince with
  | .locked, some t =>
    if s.passed t (tuMs 60000) then
      .next { s with rf := { s.rf with histValid := true, histPpt := average s.rf.hist } }
    else .next s
  | _, _ => .next s

/-- HOLDOVER_LIMIT: holdover has lasted the limit (R98). -/
def execHoldoverLimit (s : State) : Host.Outcome State Fault Refusal :=
  match s.rf.state, s.rf.holdSince with
  | .holdover, some t => if s.passed t (tuMs (1000 * s.rf.hold)) then .next (s.refGo .lost) else .next s
  | _, _ => .next s

/-! ## Alignment and pending steps (R105) -/

/-- The move that brings an instant onto a grid: the smallest in (-p/2, p/2], an exact tie positive. `late` is how far the
instant lies past a grid instant, below `p`. -/
def smallestMove (late p : Nat) : Int :=
  if late = 0 then 0 else if p ≤ 2 * (p - late) ∧ p ≠ 2 * (p - late) then -(late : Int) else ((p - late : Nat) : Int)

/-- The frame period of a domain on a time base, in 2^-32 ns: times read by the base are multiples of it (R30). -/
def tbFrame (rate : Nat) : Nat := ratePeriod rate * 4294967296 / 12

/-- The reading of a time base at an instant of the window clock, with its shift not followed (R105). -/
def State.baseAt (s : State) (n : Nat) (inst : Nat) (shift : Int) : Nat :=
  (((s.base n).time : Int) - shift + (((inst : Int) - (s.clk : Int)) * 4294967296) / 12).toNat

/-- How far an instant lies past a grid instant N / f of a base, in twelfths of a nanosecond; the grid is exact because the
period times the fraction's numerator is a whole number of seconds. -/
def State.baseLate (s : State) (n inst rate : Nat) (shift : Int) : Nat :=
  let f := rateFraction rate
  let t := s.baseAt n inst shift
  ((t * f.1) % (tbSecond * f.2)) * 12 / (f.1 * 4294967296)

/-- The pending step s of a domain at its next tick, in twelfths of a nanosecond (R105). -/
def State.pendingTu (s : State) (d : Nat) : Int :=
  let k := s.dom d
  match k.rate, k.ref with
  | some r, some tb => smallestMove (s.baseLate tb k.next r 0) (ratePeriod r)
  | some r, none =>
    if s.rf.state = .acquiring ∨ s.rf.state = .locked then
      (match s.rf.cand with
       | some c =>
         if 4 ≤ c ∧ c ≤ 11 then smallestMove (s.baseLate (c - 4) k.next r 0) (ratePeriod r)
         else
           (match (s.cand c).event with
            | some ev =>
              if c = 2 then 0
              else if c = 3 then
                (if (rateFraction r).2 = 1 then
                  let p := ratePeriod r
                  smallestMove ((k.next + p * (ev / p + 1) - ev) % p) p
                 else 0)
              else
                let p := s.candP c
                if p ≠ 0 ∧ ratePeriod r % p = 0 then smallestMove ((k.next + p * (ev / p + 1) - ev) % p) p else 0
            | none => 0)
       | none => 0)
    else 0
  | none, _ => 0

/-- How far apart the alignment instants of a domain at a rate lie: the frame period of the reference whose events they are,
else its own (R105). -/
def State.alignPeriod (s : State) (r : Nat) : Nat :=
  match s.rf.cand with
  | some c => if (c ≤ 1 ∨ 12 ≤ c) ∧ s.candP c ≠ 0 ∧ ratePeriod r % s.candP c = 0 then s.candP c else ratePeriod r
  | none => ratePeriod r

/-- The pending step in ns, rounded towards zero (R460; DESIGN CHOICE, log 130). -/
def State.pendingNs (s : State) (d : Nat) : Int := Int.tdiv (s.pendingTu d) 12

/-! ## TD_CONFIG -/

/-- Some source or destination is bound to a domain (R29). -/
def State.domainBound (s : State) (d : Nat) : Bool :=
  s.sr.any (fun p => p.2.kind != 0 && p.2.td == d) || s.de.any (fun p => p.2.kind != 0 && p.2.td == d)

/-- A command held for a tick of a domain is in flight (R457). -/
def State.domainHeld (s : State) (d : Nat) : Bool := s.bx.staged.any (fun w => w.td == d)

/-- The tick count of R30 at a reading of a base: floor(t x f). -/
def tickCountAt (t rate : Nat) : Nat := t * (rateFraction rate).1 / (tbSecond * (rateFraction rate).2)

/-- A domain's ticks begin: counted from the time base (R30), or from 0 at the first alignment instant at least one frame
period from now, else exactly one period from now (R31). -/
def State.startTicks (s : State) (d rate : Nat) (ref : Option Nat) : State :=
  let k := s.dom d
  let p := ratePeriod rate
  let base : Domain := { rate := some rate, ref := ref, guard := k.guardLast, overruns := k.overruns }
  let s := s.forgetTicks d
  match ref with
  | some tb =>
    let n := tickCountAt (s.base tb).time rate
    let late := s.baseLate tb s.clk rate 0
    s.setDom d { base with started := true, count := n, last := s.clk - late, next := s.clk + (p - late) }
  | none =>
    let t := s.setDom d { base with next := s.clk + p }
    let move := t.pendingTu d
    let first := ((s.clk + p : Nat) : Int) + (if 0 ≤ move then move else move + s.alignPeriod rate)
    t.setDom d { base with next := first.toNat }

/-- TD_CONFIG (R457, R29 to R31, R38, R43): the guard stays; what was allotted at the old ticks does not count at the new. -/
def cmdTdConfig : CmdSpec where
  opcode := 0x0201
  role := .engineering
  ptr := .never
  checks := fun s x =>
    [badIf (decide (8 ≤ x.cmd.u8 16) && x.cmd.u8 16 != 0xFF) 16,
     badIf (decide (2 ≤ x.cmd.u8 17)) 17,
     badIf (decide (8 ≤ x.cmd.u8 18) || (x.cmd.u8 17 == 0 && x.cmd.u8 18 != 0)) 18,
     reserved x.cmd 19 64,
     (s.domainBound x.cmd.td, repBadState),
     (s.domainHeld x.cmd.td, repBadState),
     (x.cmd.u8 17 == 1 && !(s.base (x.cmd.u8 18)).configured, repBadState)]
  effect := .atOnce fun s x =>
    let d := x.cmd.td
    if x.cmd.u8 16 = 0xFF then
      ((s.forgetTicks d).setDom d { guard := (s.dom d).guardLast, overruns := (s.dom d).overruns }, repDone [])
    else
      (s.startTicks d (x.cmd.u8 16) (if x.cmd.u8 17 = 1 then some (x.cmd.u8 18) else none), repDone [])

/-- TD_CONFIG as a row. -/
def execTdConfig (mb : Nat) (c : Cmd) (s : State) : Host.Outcome State Fault Refusal :=
  .next (runCommand cmdTdConfig mb c s)

/-! ## REF_CONFIG -/

/-- The checks of REF_CONFIG by ITEM (Table REF_CONFIG payload, R88). -/
def refConfigChecks (s : State) (x : Ctx) : List Check :=
  let c := x.cmd
  badIf (decide (3 ≤ c.u8 16)) 16 ::
  (match c.u8 16 with
   | 0 =>
     let k := c.u8 17
     let r := bwRange k
     let slot := decide (12 ≤ k ∧ k ≤ 15)
     let old := s.cand k
     [badIf (decide (17 ≤ k)) 17,
      badIf (if k ≤ 1 then decide (8 ≤ c.u8 18) else c.u8 18 != 0) 18,
      reserved c 19 20,
      badIf (if slot then decide (256 ≤ c.u16 20) || (s.sdiLane (c.u16 20)).role == 2 else c.u16 20 != 0) 20,
      badIf (decide (c.u16 22 < 5 ∨ 600 < c.u16 22)) 22,
      badIf (decide (c.u32 24 < r.1 ∨ r.2.1 < c.u32 24)) 24,
      reserved c 28 64,
      (s.rf.cand == some k
        && (c.u16 22 != old.qual || (decide (k ≤ 1) && c.u8 18 != s.candRate k)
            || (slot && some (c.u16 20) != old.lane)), repBadState)]
   | 1 =>
     [reserved c 17 24,
      badIf (decide (c.u32 24 < 1 ∨ 1000 < c.u32 24)) 24,
      badIf (decide (c.u32 28 < 1 ∨ 10000 < c.u32 28)) 28,
      badIf (decide (c.u32 32 < 60 ∨ 604800 < c.u32 32)) 32,
      reserved c 36 64]
   | _ =>
     [badIf (decide (4 ≤ c.u8 17)) 17,
      badIf (decide (8 ≤ c.u8 18) && c.u8 18 != 0xFF) 18,
      badIf (decide (2 ≤ c.u8 19)) 19,
      badIf (c.u8 20 == 0) 20,
      reserved c 21 64])

/-- Writes one item of the reference block (R458). A candidate whose rate or lane changes qualifies afresh (DEDUCED,
log 15); the rest of a running pull goes on at a new slope (R101). -/
def State.refConfig (s : State) (c : Cmd) : State :=
  match c.u8 16 with
  | 0 =>
    let k := c.u8 17
    let old := s.cand k
    let slot := decide (12 ≤ k ∧ k ≤ 15)
    let changed := (decide (k ≤ 1) && c.u8 18 != s.candRate k) || (slot && some (c.u16 20) != old.lane)
    s.setCand k { old with
      rate := if k ≤ 1 then some (c.u8 18) else old.rate
      lane := if slot then some (c.u16 20) else old.lane
      qual := c.u16 22
      bw := some (c.u32 24)
      qualified := old.qualified && !changed
      qualSince := if changed then none else old.qualSince
      cleanSince := if changed then some s.clk else old.cleanSince
      event := if changed then none else old.event }
  | 1 =>
    { s with rf := { s.rf with
      thresh := c.u32 24
      slope := c.u32 28
      hold := c.u32 32
      pullDelta := s.rf.pullDelta + (s.movedAt s.clk - s.rf.outMove)
      pullFrom := s.clk
      outMove := s.movedAt s.clk
      pullEnd := s.rf.pullEnd.map (fun t => s.clk + (t - s.clk) * s.rf.slope / c.u32 28) } }
  | _ =>
    s.updFpOut (c.u8 17) (fun f => { f with
      td := if c.u8 18 = 0xFF then none else some (c.u8 18)
      activeLow := c.u8 19 == 1
      widthUs := c.u8 20 })

/-- REF_CONFIG (R458, R88). -/
def cmdRefConfig : CmdSpec where
  opcode := 0x0202
  role := .engineering
  ptr := .never
  checks := refConfigChecks
  effect := .atOnce fun s x => (s.refConfig x.cmd, repDone [])

/-- REF_CONFIG as a row. -/
def execRefConfig (mb : Nat) (c : Cmd) (s : State) : Host.Outcome State Fault Refusal :=
  .next (runCommand cmdRefConfig mb c s)

/-! ## REF_PRIORITY, REF_FORCE, REF_STATUS -/

/-- Writes the rank of every candidate (R91, R459). -/
def State.setRanks (s : State) (c : Cmd) : State :=
  (range 0 17).foldl (fun t i => t.updCand i (fun k => { k with rank := c.u8 (16 + i) })) s

/-- REF_PRIORITY (R459). -/
def cmdRefPriority : CmdSpec where
  opcode := 0x0203
  role := .engineering
  ptr := .never
  checks := fun _ x => (range 16 17).map (fun i => badIf (decide (16 ≤ x.cmd.u8 i)) i) ++ [reserved x.cmd 33 64]
  effect := .atOnce fun s x => (s.setRanks x.cmd, repDone [])

/-- REF_PRIORITY as a row. -/
def execRefPriority (mb : Nat) (c : Cmd) (s : State) : Host.Outcome State Fault Refusal :=
  .next (runCommand cmdRefPriority mb c s)

/-- The mode a REF_FORCE names. -/
def forceOf (c : Cmd) : RefForce :=
  match c.u8 16 with
  | 0 => .auto
  | 1 => .candidate (c.u8 17)
  | _ => .holdover

/-- Takes up a force: its REF_EVENT, and for CANDIDATE the SUSPECT mark cleared (R95, R96, R111). The choice follows at the
next evaluation. -/
def State.refForce (s : State) (f : RefForce) : State :=
  let t : State := { s with rf := { s.rf with force := f } }
  let t := t.refEvent 4 s.rf.force.code f.code (match f with
    | .candidate c => c
    | .auto => 0xFF
    | .holdover => 0xFF) 0xFF 0
  match f with
  | .candidate c => t.clearSuspect c
  | .auto => t
  | .holdover => t

/-- REF_FORCE (R459, R96). -/
def cmdRefForce : CmdSpec where
  opcode := 0x0205
  role := .engineering
  ptr := .never
  checks := fun s x =>
    [badIf (decide (3 ≤ x.cmd.u8 16)) 16,
     badIf (if x.cmd.u8 16 = 1 then decide (17 ≤ x.cmd.u8 17) else x.cmd.u8 17 != 0) 17,
     reserved x.cmd 18 64,
     (x.cmd.u8 16 == 1 && !(s.cand (x.cmd.u8 17)).qualified, repBadState),
     (x.cmd.u8 16 == 2 && !s.rf.histValid, repBadState)]
  effect := .atOnce fun s x => (s.refForce (forceOf x.cmd), repDone [])

/-- REF_FORCE as a row. -/
def execRefForce (mb : Nat) (c : Cmd) (s : State) : Host.Outcome State Fault Refusal :=
  .next (runCommand cmdRefForce mb c s)

/-- A mask of candidates. -/
def candMask (p : Nat → Bool) : Nat := (range 0 17).foldl (fun k c => k + (if p c then 2 ^ c else 0)) 0

/-- Milliseconds until a candidate's qualification, or 0 (R460). -/
def State.qualLeft (s : State) (c : Nat) : Nat :=
  let k := s.cand c
  if k.qualified || s.candBlocked c then 0
  else ((k.cleanSince.getD s.startup.upSince) + tuMs (100 * k.qual) + 11999999 - s.clk) / 12000000

/-- The result of REF_STATUS by PAGE (Table REF_STATUS result). -/
def State.refStatus (s : State) (page c : Nat) : List Byte :=
  match page with
  | 0 =>
    leBytes 1 s.rf.state.code ++ leBytes 1 (candCode s.rf.cand) ++ leBytes 1 s.rf.force.code
      ++ leBytes 1 (flag s.rf.histValid) ++ leBytes 4 (candMask (fun k => (s.cand k).qualified))
      ++ leBytes 4 (candMask (fun k => (s.cand k).suspect))
      ++ leBytes 4 (ofSigned 4 (if s.rf.cand.isSome then s.rf.phase else 0))
  | 1 => (range 0 4).flatMap (fun d => leBytes 4 (ofSigned 4 (s.pendingNs d)))
  | 2 => (range 4 4).flatMap (fun d => leBytes 4 (ofSigned 4 (s.pendingNs d)))
  | _ =>
    let k := s.cand c
    leBytes 1 k.rank
      ++ leBytes 3 (flag k.qualified + 2 * flag k.suspect + 4 * flag (s.rf.cand == some c))
      ++ leBytes 4 (ofSigned 4 k.freq) ++ leBytes 4 (s.qualLeft c)

/-- REF_STATUS (R460). -/
def cmdRefStatus : CmdSpec where
  opcode := 0x0204
  role := .any
  ptr := .never
  checks := fun _ x =>
    [badIf (decide (4 ≤ x.cmd.u8 16)) 16,
     badIf (if x.cmd.u8 16 = 3 then decide (17 ≤ x.cmd.u8 17) else x.cmd.u8 17 != 0) 17,
     reserved x.cmd 18 64]
  effect := .atOnce fun s x => (s, repDone (s.refStatus (x.cmd.u8 16) (x.cmd.u8 17)))

/-- REF_STATUS as a row. -/
def execRefStatus (mb : Nat) (c : Cmd) (s : State) : Host.Outcome State Fault Refusal :=
  .next (runCommand cmdRefStatus mb c s)

/-! ## FP_REALIGN, CUTOFF_SET -/

/-- FP_REALIGN: at its tick the domain moves its next tick by the pending step measured at the cutoff (R106, R107). -/
def cmdFpRealign : CmdSpec where
  opcode := 0x0206
  role := .engineering
  ptr := .never
  checks := fun _ x => [reserved x.cmd 16 64]
  effect := .tick (fun _ x => [(x.cmd.td, [.realign])]) (fun s _ => s)

/-- FP_REALIGN as a row. -/
def execFpRealign (mb : Nat) (c : Cmd) (s : State) : Host.Outcome State Fault Refusal :=
  .next (runCommand cmdFpRealign mb c s)

/-- A guard keeps every mitre line of a domain before the next cutoff (R48). -/
def State.guardOk (s : State) (d guard : Nat) : Bool :=
  s.de.all (fun p => p.2.kind == 0 || p.2.td != d
    || r48 (s.dom d).period guard (mitreRel p.2.fmt p.2.mitreLine p.2.offset))

/-- CUTOFF_SET (R38, R39, R48). -/
def cmdCutoffSet : CmdSpec where
  opcode := 0x0207
  role := .engineering
  ptr := .never
  checks := fun s x =>
    [badIf (decide (x.cmd.u32 16 < 250 ∨ 8000 < x.cmd.u32 16)) 16,
     reserved x.cmd 20 64,
     badIf ((s.dom x.cmd.td).hasTicks && !s.guardOk x.cmd.td (x.cmd.u32 16)) 16]
  effect := .tick (fun _ x => [(x.cmd.td, [.guard (x.cmd.u32 16)])]) (fun s _ => s)

/-- CUTOFF_SET as a row. -/
def execCutoffSet (mb : Nat) (c : Cmd) (s : State) : Host.Outcome State Fault Refusal :=
  .next (runCommand cmdCutoffSet mb c s)

end Sys2Proof.Machine
end

