-- ==== Sys2Proof/Machine/TimeBase.lean ====
section
/-! DEFINITION. Time bases and network time (chapter 05, 17 R461 to R465): steps, the servo, TB_CONFIG, TB_OFFSET, TB_STEP,
PTP_INSTANCE, TB_STATUS, and the events of the time block. Offsets are in units of 2^-16 ns, rates in 2^-34 ppb. -/
namespace Sys2Proof.Machine

/-! ## Host buffers (R450) -/

/-- Writes bytes into host memory. -/
def State.putHost (s : State) (a : Nat) (bs : List Byte) : State := { s with hostMem := s.hostMem.writeBytes a bs }

/-- The contents of a buffer after a bus error are undefined: free values (R450, log 6). -/
def State.spoilHost (s : State) (a n : Nat) : State :=
  (s.putHost a ((range 0 n).map (fun i => Config.freeByte s.bx.free i))).drawFree

/-- A command writes its answer into a host buffer before it completes; a bus error aborts it (R450). -/
def State.answer (s : State) (a : Nat) (bs : List Byte) (r : Rep) : State × Rep :=
  if s.hostOk a bs.length then (s.putHost a bs, r) else (s.spoilHost a bs.length, repAborted 3)

/-! ## States and steps of a time base -/

/-- The code of a time base's state (TB_STAT). -/
def TbState.code : TbState → Nat
  | .unconfigured => 0
  | .freeRunAtLast => 1
  | .tracking => 2

/-- The PTP instance bound to a base. -/
def State.instOf (s : State) (n : Nat) : Option Nat :=
  firstFrom (fun i => (s.inst i).used && (s.inst i).base == n) 0 4

/-- The grandmaster of the instance bound to a base, 0 for none. -/
def State.gmOf (s : State) (n : Nat) : Nat :=
  match s.instOf n with
  | some i => (s.inst i).gm.toNat
  | none => 0

/-- A change of state of a base: its TIME_EVENT, whose AMOUNT is 0 (R126; the latter DESIGN CHOICE, log 134), fault source 116 + n
(Table Fault sources), and its place as a reference candidate (R87, R89). -/
def State.tbGo (s : State) (n : Nat) (goal : TbState) : State :=
  let b := s.base n
  if b.state = goal then s
  else
    let t := s.setBase n { b with state := goal }
    let t := t.timeEvent n 1 goal.code b.stepcnt 0 (s.gmOf n)
    match goal with
    | .tracking => (t.level (116 + n) false 0xFFFF).updCand (4 + n) (fun k => { k with cleanSince := some s.clk })
    | .freeRunAtLast =>
      let t := if b.state = .tracking then t.level (116 + n) true 0xFFFF else t
      t.disqualify (4 + n)
    | .unconfigured => t

/-- The length of SEC's range: times are taken modulo 2^48 s. -/
def tbRange : Int := ((281474976710656 * tbSecond : Nat) : Int)

/-- A step of a base to a new time (R119, R121): STEPCNT rises by 1, a TIME_EVENT carries the step, the domains that follow
it keep their ticks (R32, R105), and the base is disqualified as a candidate (R87). A step gives no pulse (R139). DESIGN CHOICE
(log 110): an AMOUNT that is no multiple of 2^-16 ns is rounded down. -/
def State.tbStep (s : State) (n : Nat) (time : Nat) : State :=
  let b := s.base n
  let d : Int := (time : Int) - (b.time : Int)
  let b' := { b with time := time, stepcnt := (b.stepcnt + 1) % 256 }
  let t := s.setBase n b'
  let t : State := { t with
    td := t.td.map (fun p => (p.1, if p.2.ref = some n then { p.2 with shift := p.2.shift + d } else p.2))
    pins := if t.pins.ppsTb = some n then { t.pins with ppsSec := b'.sec } else t.pins }
  (t.timeEvent n 0 b.state.code b'.stepcnt (d / 65536) (s.gmOf n)).disqualify (4 + n)

/-- A step by an amount in 2^-16 ns. -/
def State.tbStepBy (s : State) (n : Nat) (amount : Int) : State :=
  s.tbStep n ((((s.base n).time : Int) + amount * 65536) % tbRange).toNat

/-! ## The servo (R120) -/

/-- 500,000 ppb in units of 2^-34 ppb. -/
def ppbLimit : Int := 500000 * 17179869184

/-- Rates are clamped to 500,000 ppb either way (R120). -/
def clampPpb (x : Int) : Int := if x < -ppbLimit then -ppbLimit else if ppbLimit < x then ppbLimit else x

/-- The nearest integer of a quotient by `d`, a tie away from zero (R120). -/
def roundDiv (x : Int) (d : Nat) : Int :=
  if 0 ≤ x then ((2 * x + d) / (2 * d : Int)) else -((2 * (-x) + d) / (2 * d : Int))

/-- The RATE code of a rate in 2^-34 ppb (R113, R120). -/
def rateCode (x : Int) : Int := roundDiv x 1000000000

/-- The servo treats an offset it does not discard (R120, R117). -/
def State.servo (s : State) (n : Nat) (theta : Int) : State × Nat :=
  let b := s.base n
  let past := match b.stepThr with
    | some thr => decide ((thr * 65536 : Nat) ≤ theta.natAbs)
    | none => false
  let i := clampPpb (b.integral - (b.ki : Int) * theta * 4)
  let t := if past then s.tbStepBy n (-theta)
    else s.setBase n { b with integral := i, rate := rateCode (clampPpb (i - (b.kp : Int) * theta * 4)) }
  let t := t.tbGo n .tracking
  (t.updBase n (fun k => { k with
    lastAt := some s.clk
    lastTheta := theta
    timeout := k.nextTimeout.getD k.timeout
    nextTimeout := none }), if past then 1 else 0)

/-- An offset measured under a step count (R119): discarded when the base has been stepped since. The second part is
ACTION of Table TB_OFFSET result. -/
def State.offset (s : State) (n stepcnt : Nat) (theta : Int) : State × Nat :=
  if (s.base n).stepcnt = stepcnt then s.servo n theta else (s, 2)

/-- A TRACKING base enters FREE_RUN_AT_LAST_RATE: RATE takes the integral term (R124). -/
def State.freeRun (s : State) (n : Nat) : State :=
  let b := s.base n
  if b.state = .tracking then (s.setBase n { b with rate := rateCode b.integral }).tbGo n .freeRunAtLast else s

/-! ## TB_CONFIG -/

/-- A use that forbids a change of a base's source, time or rate (R117). -/
def State.tbInUse (s : State) (n source : Nat) : Bool :=
  s.td.any (fun p => p.2.hasTicks && p.2.ref == some n) || s.rf.cand == some (4 + n)
    || (match s.instOf n with
        | some i => i != source
        | none => false)

/-- SOURCE of a base: 0x10 HOST. -/
def sourceCode : Option Nat → Nat
  | some i => i
  | none => 0x10

/-- The checks of TB_CONFIG (Table TB_CONFIG payload, R117, R462). -/
def tbConfigChecks (s : State) (x : Ctx) : List Check :=
  let c := x.cmd
  let n := c.u8 16
  let b := s.base n
  [badIf (decide (8 ≤ n)) 16, badIf (decide (2 ≤ c.u8 17)) 17] ++
  (if c.u8 17 = 0 then
    [badIf (decide (4 ≤ c.u8 18) && c.u8 18 != 0x10) 18,
     badIf (decide (2 ≤ c.u8 19)) 19,
     badIf (decide (1048576 < c.u32 20)) 20,
     badIf (decide (1048576 < c.u32 24)) 24,
     badIf (decide (c.u64 28 < 1000 ∨ 1000000000 < c.u64 28) && c.u64 28 != 18446744073709551615) 28,
     badIf (decide (c.u16 36 < 5 ∨ 600 < c.u16 36)) 36,
     badIf (decide (1000000000 ≤ c.u32 44)) 44,
     badIf (decide (8589935 < (c.i32 48).natAbs)) 48,
     reserved c 52 64,
     (!bit (c.u8 19) 0 && !b.configured, repBadState),
     ((match s.instOf n with
       | some i => c.u8 18 != i
       | none => c.u8 18 != 0x10), repBadState),
     ((bit (c.u8 19) 0 || c.u8 18 != sourceCode b.source) && s.tbInUse n (c.u8 18), repBadState)]
   else
    [badIf (decide (8 ≤ c.u8 18) && c.u8 18 != 0xFF) 18,
     reserved c 19 20,
     badIf (decide (c.u32 20 < 1 ∨ 500000 < c.u32 20)) 20,
     reserved c 24 64])

/-- Writes the parameters of a base (R116, R117): the master timeout from the next accepted offset on. -/
def State.tbParams (s : State) (n : Nat) (c : Cmd) : State :=
  s.updBase n (fun b => { b with
    source := if c.u8 18 = 0x10 then none else some (c.u8 18)
    kp := c.u32 20
    ki := c.u32 24
    stepThr := if c.u64 28 = 18446744073709551615 then none else some (c.u64 28)
    timeout := if b.configured then b.timeout else c.u16 36
    nextTimeout := if b.configured then some (c.u16 36) else none })

/-- The initial time of a command. -/
def initTime (sec ns : Nat) : Nat := sec * tbSecond + ns * 4294967296

/-- TB_CONFIG of a base with INIT: its first configuration, or a restart, which counts as a step (R116, R462). -/
def State.tbInit (s : State) (n : Nat) (c : Cmd) : State :=
  let time := initTime (c.u48 38) (c.u32 44)
  let r := c.i32 48
  let first := !(s.base n).configured
  let t := s.tbParams n c
  let t := if first then
      let t := t.updBase n (fun b => { b with time := time })
      { t with pins := if t.pins.ppsTb = some n then { t.pins with ppsSec := (t.base n).sec } else t.pins }
    else t.tbStep n time
  let t := t.updBase n (fun b => { b with rate := r, integral := r * 1000000000 })
  t.tbGo n .freeRunAtLast

/-- TB_CONFIG with OP 1 binds PPS_OUT (R139). -/
def State.ppsBind (s : State) (c : Cmd) : State :=
  let tb := if c.u8 18 = 0xFF then none else some (c.u8 18)
  { s with pins := { s.pins with
    ppsTb := tb
    ppsWidthUs := c.u32 20
    ppsSec := match tb with
      | some n => (s.base n).sec
      | none => 0 } }

/-- TB_CONFIG (R116, R117, R462). -/
def cmdTbConfig : CmdSpec where
  opcode := 0x0301
  role := .engineering
  ptr := .never
  checks := tbConfigChecks
  effect := .atOnce fun s x =>
    let n := x.cmd.u8 16
    (if x.cmd.u8 17 = 1 then s.ppsBind x.cmd
      else if bit (x.cmd.u8 19) 0 then s.tbInit n x.cmd
      else s.tbParams n x.cmd, repDone [])

/-- TB_CONFIG as a row. -/
def execTbConfig (mb : Nat) (c : Cmd) (s : State) : Host.Outcome State Fault Refusal :=
  .next (runCommand cmdTbConfig mb c s)

/-! ## TB_OFFSET, TB_STEP -/

/-- TB_OFFSET (R118, R119, R122). -/
def cmdTbOffset : CmdSpec where
  opcode := 0x0302
  role := .engineering
  ptr := .never
  checks := fun s x =>
    let b := s.base (x.cmd.u8 16)
    [badIf (decide (8 ≤ x.cmd.u8 16)) 16,
     reserved x.cmd 18 24,
     reserved x.cmd 32 64,
     (!b.configured || b.source.isSome, repBadState)]
  effect := .atOnce fun s x =>
    let n := x.cmd.u8 16
    let r := s.offset n (x.cmd.u8 17) (x.cmd.i64 24)
    let b := r.1.base n
    (r.1, repDone (leBytes 1 r.2 ++ leBytes 1 b.stepcnt ++ [0, 0] ++ leBytes 4 (ofSigned 4 b.rate)))

/-- TB_OFFSET as a row. -/
def execTbOffset (mb : Nat) (c : Cmd) (s : State) : Host.Outcome State Fault Refusal :=
  .next (runCommand cmdTbOffset mb c s)

/-- TB_STEP (R123, R463). -/
def cmdTbStep : CmdSpec where
  opcode := 0x0303
  role := .engineering
  ptr := .never
  checks := fun s x =>
    let c := x.cmd
    let b := s.base (c.u8 16)
    [badIf (decide (8 ≤ c.u8 16)) 16, badIf (decide (2 ≤ c.u8 17)) 17, reserved c 18 24]
      ++ (if c.u8 17 = 0 then [reserved c 32 64]
          else [badIf (decide (1000000000 ≤ c.u32 30)) 30, reserved c 34 64])
      ++ [(!b.configured || b.source.isSome, repBadState)]
  effect := .atOnce fun s x =>
    let n := x.cmd.u8 16
    let t := if x.cmd.u8 17 = 0 then s.tbStepBy n (x.cmd.i64 24)
      else s.tbStep n (initTime (x.cmd.u48 24) (x.cmd.u32 30))
    (t, repDone (leBytes 1 (((s.base n).stepcnt + 1) % 256)))

/-- TB_STEP as a row. -/
def execTbStep (mb : Nat) (c : Cmd) (s : State) : Host.Outcome State Fault Refusal :=
  .next (runCommand cmdTbStep mb c s)

/-! ## PTP_INSTANCE -/

/-- The subports of a port in a MODE (Table PORT_CONFIG payload). -/
def subCount (mode : Nat) : Nat :=
  match mode with
  | 1 => 1
  | 2 => 2
  | 3 => 4
  | 4 => 8
  | _ => 0

/-- Whether a PORT byte of Table Receive flow entry names a subport that PORT_CONFIG has created. -/
def State.subExists (s : State) (coded : Nat) : Bool := decide (coded % 8 < subCount (s.port (coded / 16)).mode)

/-- A signed byte lies outside a range. -/
def outside (v lo hi : Int) : Bool := decide (v < lo ∨ hi < v)

/-- The PORTS bytes of a PTP_INSTANCE. -/
def ptpPorts (c : Cmd) : List Nat := (range 32 (c.u8 27)).map c.u8

/-- A PORT entry equal to an earlier one (R128; DESIGN CHOICE, log 135), or with its reserved bit set, or not 0 beyond COUNT. -/
def ptpPortBad (c : Cmd) (i : Nat) : Bool :=
  if i < c.u8 27 then
    bit (c.u8 (32 + i)) 3 || (range 0 i).any (fun k => c.u8 (32 + k) == c.u8 (32 + i))
  else c.u8 (32 + i) != 0

/-- The checks of PTP_INSTANCE (Table PTP_INSTANCE payload, R128, R464), BAD_ARG first, then BAD_STATE, then NO_RESOURCE (R140,
R447): a further instance when all four are in use is the last (log 63). -/
def ptpChecks (s : State) (x : Ctx) : List Check :=
  let c := x.cmd
  let n := c.u8 16
  let old := s.inst n
  let full := (range 0 4).all (fun i => (s.inst i).used)
  [badIf (decide (4 ≤ n) && !(c.u8 17 == 1 && full)) 16,
   badIf (decide (2 ≤ c.u8 17)) 17] ++
  (if c.u8 17 = 0 then [reserved c 30 32, reserved c 40 64]
   else
    [badIf (decide (2 ≤ c.u8 18)) 18,
     badIf (decide (8 ≤ c.u8 19)) 19,
     badIf (decide (128 ≤ c.u8 20)) 20,
     badIf (outside (c.i8 21) (-7) 1) 21,
     badIf (outside (c.i8 22) (-3) 1) 22,
     badIf (decide (c.u8 23 < 2 ∨ 10 < c.u8 23)) 23,
     badIf (outside (c.i8 24) (-7) 5) 24,
     badIf (decide (8 ≤ c.u8 25)) 25,
     badIf (decide (64 ≤ c.u8 26)) 26,
     badIf (decide (c.u8 27 = 0 ∨ 8 < c.u8 27) || (c.u8 18 == 0 && c.u8 27 != 1)) 27,
     badIf (bit (c.u16 28) 12) 28,
     reserved c 30 32]
    ++ (range 0 8).map (fun i => badIf (ptpPortBad c i) (32 + i))
    ++ [reserved c 40 64,
        (old.used && old.base != c.u8 19, repBadState),
        ((match s.instOf (c.u8 19) with
          | some i => i != n
          | none => false), repBadState),
        ((ptpPorts c).any (fun p => !s.subExists p), repBadState),
        ((ptpPorts c).any (fun p => (range 0 4).any (fun i =>
            i != n && (s.inst i).used && (s.inst i).ports.any (fun q => q.coded == p))), repBadState),
        (decide (4 ≤ n), repNoResource)])

/-- Creates a PTP instance or replaces its settings: its ports restart in INITIALIZING, so its base follows no master (R127, R464,
R124). Settings that are replaced leave the grandmaster, its UTC offset and its TLVs, and clear its class, accuracy and stepsRemoved
(DESIGN CHOICE, log 136). -/
def State.ptpSet (s : State) (c : Cmd) : State :=
  let n := c.u8 16
  let old := s.inst n
  let t := s.setInst n {
    used := true
    boundary := c.u8 18 == 1
    base := c.u8 19
    domain := c.u8 20
    logSync := c.i8 21
    logAnn := c.i8 22
    annTo := c.u8 23
    logDreq := c.i8 24
    transport := c.u8 25
    dscp := c.u8 26
    vlan := c.u16 28
    ports := (ptpPorts c).map (fun p => { coded := p })
    gm := old.gm
    portState := 1
    tlv := old.tlv
    utc := old.utc
    rxFrames := old.rxFrames }
  (t.updBase (c.u8 19) (fun b => { b with source := some n })).freeRun (c.u8 19)

/-- Removes a PTP instance: its base's source becomes HOST and R124 applies to it (R464). -/
def State.ptpRemove (s : State) (n : Nat) : State :=
  let old := s.inst n
  if old.used then ((s.freeRun old.base).updBase old.base (fun b => { b with source := none })).setInst n {} else s

/-- PTP_INSTANCE (R127, R128, R464). -/
def cmdPtpInstance : CmdSpec where
  opcode := 0x0304
  role := .engineering
  ptr := .never
  checks := ptpChecks
  effect := .atOnce fun s x =>
    (if x.cmd.u8 17 = 0 then s.ptpRemove (x.cmd.u8 16) else s.ptpSet x.cmd, repDone [])

/-- PTP_INSTANCE as a row. -/
def execPtpInstance (mb : Nat) (c : Cmd) (s : State) : Host.Outcome State Fault Refusal :=
  .next (runCommand cmdPtpInstance mb c s)

/-! ## TB_STATUS -/

/-- A port state as it stands: a port that would be MASTER is held in PASSIVE without the PTP master role (R130). -/
def State.heldState (s : State) (k : Nat) : Nat := if k = 6 ∧ !s.ptpMaster then 7 else k

/-- The last accepted offset in ns, to the nearest (PRESUMED, log 16); an offset that the 32-bit field cannot hold reads
as a free value. -/
def State.thetaNs (s : State) (n : Nat) : Int :=
  let v := roundDiv (s.base n).lastTheta 65536
  if -2147483648 ≤ v ∧ v < 2147483648 then v else Config.freeInt s.bx.free 0

/-- Milliseconds since the last accepted offset (Table TB_STATUS result). -/
def State.sinceMs (s : State) (n : Nat) : Nat :=
  match (s.base n).lastAt with
  | some t => min 0xFFFFFFFE ((s.clk - t) / 12000000)
  | none => 0xFFFFFFFF

/-- The result of TB_STATUS by PAGE (Table TB_STATUS result). -/
def State.tbStatus (s : State) (n page : Nat) : List Byte :=
  let b := s.base n
  let i := s.instOf n
  let p := match i with
    | some k => s.inst k
    | none => {}
  match page with
  | 0 =>
    leBytes 1 b.state.code ++ leBytes 1 b.stepcnt ++ leBytes 1 (i.getD 0xFF) ++ leBytes 1 (s.heldState p.portState)
      ++ leBytes 4 (ofSigned 4 b.rate) ++ leBytes 4 (ofSigned 4 (s.thetaNs n))
      ++ leBytes 2 (p.utc.getD 0) ++ leBytes 1 (flag p.utc.isSome)
  | 1 =>
    beBytes 8 p.gm.toNat ++ leBytes 1 p.gmCls ++ leBytes 1 p.gmAcc ++ leBytes 2 p.steps ++ leBytes 4 (s.sinceMs n)
  | _ => leBytes 2 p.tlv.length

/-- TB_STATUS (R132, R465). -/
def cmdTbStatus : CmdSpec where
  opcode := 0x0305
  role := .any
  ptr := .never
  checks := fun _ x =>
    let c := x.cmd
    [badIf (decide (8 ≤ c.u8 16)) 16, badIf (decide (3 ≤ c.u8 17)) 17]
      ++ (if c.u8 17 = 2 then [reserved c 18 24, badIf (decide (c.u32 32 < 256)) 32, reserved c 36 64]
          else [reserved c 18 64])
  effect := .atOnce fun s x =>
    let n := x.cmd.u8 16
    let r := repDone (s.tbStatus n (x.cmd.u8 17))
    if x.cmd.u8 17 = 2 then
      (match s.instOf n with
       | some i => s.answer (x.cmd.u64 24) (s.inst i).tlv r
       | none => (s, r))
    else (s.drawFree, r)

/-- TB_STATUS as a row. -/
def execTbStatus (mb : Nat) (c : Cmd) (s : State) : Host.Outcome State Fault Refusal :=
  .next (runCommand cmdTbStatus mb c s)

/-! ## Events of the time block -/

/-- 2^k s in twelfths of a nanosecond. -/
def logInterval (k : Int) : Nat := if 0 ≤ k then 12000000000 * 2 ^ k.toNat else 12000000000 / 2 ^ (-k).toNat

/-- The SLAVE port of an instance follows its master: announceReceiptTimeout intervals of logAnnounceInterval have not passed since it
was chosen or its last Announce came (R131; log 109). -/
def State.following (s : State) (inst : Nat) : Bool :=
  let p := s.inst inst
  p.slave && (match p.annAt with
    | some t => !s.passed t (p.annTo * logInterval p.logAnn)
    | none => true)

/-- PTP_OFFSET: an instance delivers an offset to the base bound to it, measured against the grandmaster it follows (R118,
R120, R125). A base that TB_CONFIG has not configured takes none. -/
def execPtpOffset (inst stepcnt : Nat) (theta : Int) (gm : BitVec 64) (s : State) :
    Host.Outcome State Fault Refusal :=
  let p := s.inst inst
  if decide (inst < 4) && p.used && s.following inst && p.gm == gm && (s.base p.base).configured
      && (s.base p.base).source == some inst then
    .next (s.offset p.base stepcnt theta).1
  else .next s

/-- MASTER_TIMEOUT: no offset has been accepted for the master timeout (R124). DESIGN CHOICE (log 111): the window clock measures
it. -/
def execMasterTimeout (base : Nat) (s : State) : Host.Outcome State Fault Refusal :=
  match (s.base base).state, (s.base base).lastAt with
  | .tracking, some t =>
    if s.passed t (tuMs (100 * (s.base base).timeout)) then .next (s.freeRun base) else .next s
  | _, _ => .next s

/-- The states of an instance's ports: MASTER for those its best master clock algorithm places there, its SLAVE or best
port, and PASSIVE for the others. -/
def ptpPortStates (ps : List PtpPort) (g : GmData) : List PtpPort :=
  let best := firstFrom (fun i => !g.masters.contains i) 0 ps.length
  ps.zipIdx.map (fun q => { q.1 with
    state :=
      if g.masters.contains q.2 then 6
      else if best = some q.2 then (if g.slave then 9 else g.portState)
      else 7 })

/-- GRANDMASTER_CHANGE: what an instance's best master clock algorithm selects (R124, R126, R132). Its base runs at the
learnt rate when the instance has no SLAVE port or follows another grandmaster. -/
def execGrandmasterChange (inst : Nat) (gm : GmData) (s : State) : Host.Outcome State Fault Refusal :=
  let p := s.inst inst
  if decide (inst < 4) && p.used then
    let t := s.setInst inst { p with
      slave := gm.slave
      annAt := if gm.slave then some s.clk else none
      gm := gm.gm
      gmCls := gm.cls
      gmAcc := gm.acc
      steps := gm.steps
      portState := gm.portState
      utc := gm.utc
      tlv := if gm.tlv.isEmpty then p.tlv else gm.tlv
      ports := ptpPortStates p.ports gm }
    let b := t.base p.base
    let t := if p.gm = gm.gm then t else t.timeEvent p.base 2 b.state.code b.stepcnt 0 gm.gm.toNat
    .next (if !gm.slave || p.gm != gm.gm then t.freeRun p.base else t)
  else .next s

/-- Whether an interval has passed since an instant, if there was one. -/
def State.dueSince (s : State) (last : Option Nat) (d : Nat) : Bool :=
  match last with
  | some t => s.passed t d
  | none => true

/-- Changes one port of an instance. -/
def State.updPtpPort (s : State) (inst port : Nat) (f : PtpPort → PtpPort) : State :=
  s.updInst inst (fun p => { p with ports := p.ports.zipIdx.map (fun q => if q.2 = port then f q.1 else q.1) })

/-- A message of an instance on a port, in the instance's settings (R131). -/
def State.ptpMsg (s : State) (p : Ptp) (coded : Nat) (kind : PtpKind) : PtpMsg where
  kind := kind
  port := coded
  domain := p.domain
  ipv6 := bit p.transport 0
  unicast := bit p.transport 1 && (match kind with
    | .delayReq => true
    | .delayResp _ _ _ _ => true
    | .sync => false
    | .followUp => false
    | .announce => false
    | .metadata => false)
  dscp := p.dscp
  vlan := if bit p.transport 2 then some p.vlan else none
  time := (s.base p.base).time
  utc := if kind = .announce then p.utc else none
  tlv := if kind = .metadata then p.tlv else []

/-- Messages that an instance sends on a port leave together, unless the transmitters are stopped (R384) or the port has no transmit SA
for them (R131, R537); the second part tells whether they left. -/
def State.ptpSend (s : State) (inst coded : Nat) (kinds : List PtpKind) : State × Bool :=
  let r := s.macsecTake (8 * (coded / 16) + coded % 8) kinds.length
  if s.boot.dataStop then (s, false)
  else if r.2 < kinds.length then (r.1, false)
  else (r.1.updInst inst (fun p => { p with sent := p.sent ++ kinds.map (s.ptpMsg p coded) }), true)

/-- PTP_SYNC_SEND: a BOUNDARY port in MASTER sends Sync, with its Follow_Up, and Announce at their intervals, while the device
holds the PTP master role and the instance has a SLAVE port (R129, R130, R131). -/
def execPtpSyncSend (inst port : Nat) (s : State) : Host.Outcome State Fault Refusal :=
  let p := s.inst inst
  match p.ports[port]? with
  | some q =>
    if decide (inst < 4) && p.used && p.boundary && s.following inst && q.state == 6 && s.ptpMaster then
      let sync := s.dueSince q.lastSync (logInterval p.logSync)
      let ann := s.dueSince q.lastAnn (logInterval p.logAnn)
      let r := s.ptpSend inst q.coded ((if sync then [.sync, .followUp] else []) ++ if ann then [.announce] else [])
      .next (if !r.2 then r.1 else r.1.updPtpPort inst port (fun k => { k with
        lastSync := if sync then some s.clk else k.lastSync
        syncs := if sync then k.syncs + 1 else k.syncs
        lastAnn := if ann then some s.clk else k.lastAnn
        announces := if ann then k.announces + 1 else k.announces }))
    else .next s
  | none => .next s

/-- DELAY_REQ_SEND: a port in SLAVE sends Delay_Req at logMinDelayReqInterval (R131). -/
def execDelayReqSend (inst port : Nat) (s : State) : Host.Outcome State Fault Refusal :=
  let p := s.inst inst
  match p.ports[port]? with
  | some q =>
    if decide (inst < 4) && p.used && s.following inst && q.state == 9 && s.dueSince q.lastDreq (logInterval p.logDreq) then
      let r := s.ptpSend inst q.coded [.delayReq]
      .next (if !r.2 then r.1
        else r.1.updPtpPort inst port (fun k => { k with lastDreq := some s.clk, dreqs := k.dreqs + 1 }))
    else .next s
  | none => .next s

/-- PPS_OUT_PULSE: the base of PPS_OUT has counted to a whole second (R139). A pulse less than 125,000,000 cycles after
the one before is omitted. -/
def execPpsOutPulse (s : State) : Host.Outcome State Fault Refusal :=
  match s.pins.ppsTb with
  | some n =>
    let b := s.base n
    if b.configured && b.sec != s.pins.ppsSec then
      let near := match s.pins.ppsLast with
        | some k => decide (s.cycles < k + 125000000)
        | none => false
      .next { s with pins := { s.pins with
        ppsSec := b.sec
        ppsLast := if near then s.pins.ppsLast else some s.cycles
        ppsPulses := if near then s.pins.ppsPulses else s.pins.ppsPulses + 1 } }
    else .next s
  | none => .next s

/-- The time base of a port's stamps: that of the PTP instance on the subport, else of one on the port, else TB0 (R133). -/
def State.stampBase (s : State) (port sub : Nat) : Nat :=
  let on := fun (f : Nat → Bool) => firstFrom (fun i => (s.inst i).used && (s.inst i).ports.any (fun q => f q.coded)) 0 4
  match on (fun q => q == 16 * port + sub) with
  | some i => (s.inst i).base
  | none =>
    (match on (fun q => q / 16 == port) with
     | some i => (s.inst i).base
     | none => 0)

/-- The four words of a transmit stamp (Tables TSQ_ENTRY0 and Time-stamp queue registers). -/
def State.txStamp (s : State) (port sub id : Nat) : Stamp :=
  let n := s.stampBase port sub
  let b := s.base n
  { words :=
      [BitVec.ofNat 32 (536870912 * sub + 67108864 * n + 4194304 * (b.stepcnt % 16) + id % 65536),
       BitVec.ofNat 32 b.sec,
       BitVec.ofNat 32 (b.frac / 65536 * 65536 + b.sec / 4294967296 % 65536),
       BitVec.ofNat 32 b.nanos] }

/-- A stamp enters a port's queue, or is discarded when the queue holds 64 (R134, R137). -/
def State.pushStamp (s : State) (port sub id : Nat) : State :=
  let q := s.queue port
  if q.entries.length < 64 then s.setQueue port { q with entries := q.entries ++ [s.txStamp port sub id] }
  else (s.setQueue port { q with overflow := true, drops := satAdd 65535 q.drops 1 }).strike 124 port

/-- Balix owns a port's time-stamp queue: a subport of it belongs to a PTP instance (R135). -/
def State.balixQueue (s : State) (port : Nat) : Bool :=
  s.ptp.any (fun e => e.2.used && e.2.ports.any (fun q => q.coded / 16 == port))

/-- TX_TIMESTAMP (R134, R135, R137): in a queue of the host's, the stamp that a descriptor with the same identifier asked for. -/
def execTxTimestamp (port sub id : Nat) (s : State) : Host.Outcome State Fault Refusal :=
  if port < 16 ∧ sub < 8 ∧ (s.balixQueue port = true ∨ (sub, id) ∈ (s.port port).stampReqs) then
    .next ((s.updPort port (fun p => { p with stampReqs := p.stampReqs.erase (sub, id) })).pushStamp port sub id)
  else .next s

/-! ## Received PTP frames -/

/-- The end-to-end delay mechanism (R131): a port that is MASTER answers a Delay_Req with the stamp of its arrival (R133). -/
def State.answerDelay (s : State) (inst coded : Nat) (m : PtpFrame) (b : TimeBase) : State :=
  match m.dreq with
  | some q =>
    if (s.inst inst).ports.any (fun p => p.coded == coded && s.heldState p.state == 6) then
      (s.ptpSend inst coded [.delayResp q.1 q.2 b.sec b.nanos]).1
    else s
  | none => s

/-- An instance receives a frame: Balix gets the stamp of an event frame, an Announce on its SLAVE port keeps its master and gives the
UTC offset, a Delay_Req is answered, and a metadata TLV is kept and forwarded unchanged on the ports that are MASTER (R131 to
R134). -/
def State.ptpReceive (s : State) (inst coded : Nat) (m : PtpFrame) : State :=
  let n := s.stampBase (coded / 16) (coded % 8)
  let b := s.base n
  let slave := (s.inst inst).ports.any (fun q => q.coded == coded && q.state == 9)
  let t := s.updInst inst (fun p => { p with
    rxFrames := p.rxFrames + 1
    rxStamps := if m.event then p.rxStamps ++ [⟨coded, n, b.sec, b.nanos⟩] else p.rxStamps
    utc := if slave then m.utc <|> p.utc else p.utc
    annAt := if slave && m.announce then some s.clk else p.annAt
    tlv := if m.tlv.isEmpty then p.tlv else m.tlv })
  let t := t.answerDelay inst coded m b
  if m.tlv.isEmpty then t
  else
    ((t.inst inst).ports.filter (fun q => t.heldState q.state == 6)).foldl
      (fun u q => (u.ptpSend inst q.coded [.metadata]).1) t

end Sys2Proof.Machine
end

