-- ==== Sys2Proof/Machine/Ingress.lean ====
section
/-! DEFINITION. Ingress (chapter 06, 17 R466 to R468): what selects a source, its states, rings of class F sources (07 R181
to R185, 01 R20 to R23), the five ingress commands, and the events of SDI and packet sources.

The samples of a line are held in the order Cb, Y, Cr, Y for 4:2:2 and Cb, Y, Cr or three colours a pixel otherwise (log
17). -/
namespace Sys2Proof.Machine

/-! ## What selects a source (R142) -/

/-- The global number of a local source (12 R321). -/
def State.global (s : State) (n : Nat) : Nat := 1024 * s.straps.groupIdx + n

/-- The local source that a global number names. -/
def State.localOf (s : State) (g : Nat) : Option Nat :=
  if g / 1024 = s.straps.groupIdx then some (g % 1024) else none

/-- An entry selects a global source. -/
def XEntry.selects (e : XEntry) (g : Nat) : Bool := e.valid && e.src == g

/-- An output port selects a source in the current bank or in a sealed one. -/
def OutPort.selects (o : OutPort) (g : Nat) : Bool :=
  (o.now false).selects g || (o.now true).selects g
    || (o.pend && ((o.next false).selects g || (o.next true).selects g))

/-- Little-endian 2-byte field of a byte string. -/
def le16 (bs : List Byte) (i : Nat) : Nat := leNat (slice bs i 2)

/-- A tile of an engine's layout shows a local source (11 Table Tile entry). -/
def Engine.shows (e : Engine) (n : Nat) : Bool :=
  e.tiles.any (fun t => le16 t 8 == n)
    || e.pendLayout.any (fun p => p.2.2.any (fun t => le16 t 8 == n))

/-- A comparator reads a global source. -/
def Comparator.reads (k : Comparator) (g : Nat) : Bool := k.running && (k.in0 == g || k.in1 == g)

/-- A local source is selected by a destination, tap or departure port, a tile, a comparator or a tie flow (R142). -/
def State.selected (s : State) (n : Nat) : Bool :=
  let g := s.global n
  s.xp.any (fun p => p.2.selects g) || s.mq.any (fun p => p.2.shows n || p.2.cmp.reads g)
    || s.depart.any (fun t => t.src == g)

/-! ## States and faults of a source -/

/-- The code of a source's state (Table SRC_STATUS result). -/
def SrcState.code : SrcState → Nat
  | .unbound => 0
  | .noSignal => 1
  | .detecting => 2
  | .valid => 3
  | .mismatch => 4
  | .budgetHold => 5
  | .linkSkew => 6

/-- A source of the group of 256 around `n` meets a condition. -/
def State.srcAny (s : State) (n : Nat) (f : Source → Bool) : Bool :=
  s.sr.any (fun p => p.1 / 256 == n / 256 && f p.2)

/-- Fault sources 68 + 4g + c follow the conditions of sources 256g to 256g + 255 (Table Fault sources). -/
def State.srcFaults (s : State) (n : Nat) : State :=
  let b := 68 + 4 * (n / 256)
  (((s.level b (s.srcAny n (fun k => k.state == .noSignal)) n).level (b + 1)
    (s.srcAny n (fun k => k.state == .mismatch)) n).level (b + 2)
    (s.srcAny n (fun k => k.state == .linkSkew)) n).level (b + 3) (s.srcAny n (fun k => k.outOfWindow)) n

/-- A change of a source's state, with its FAULT_EVENT record and faults (R178). A source that stops being VALID delivers no
further line of its picture, and a class F one abandons the frame it writes (R151, R152, R185). -/
def State.srcGo (s : State) (n : Nat) (goal : SrcState) : State :=
  let k := s.source n
  if k.state = goal then s
  else
    let t := s.setSource n { k with
      state := goal
      heldOrder := if goal = .budgetHold then k.heldOrder else none
      waiting := if goal = .valid then k.waiting else [] }
    let t := if goal = .valid then t else t.updRing n (fun r => { r with
        writing := []
        wrFrame := none
        dropped := r.wrFrame <|> r.dropped })
    (t.stateEvent 5 n goal.code).srcFaults n

/-! ## Rings of class F sources -/

/-- A source has no signal: what was measured of it is forgotten (R147); an internal generator keeps its transport (R144). -/
def State.noSignal (s : State) (n : Nat) : State :=
  (s.updSource n (fun k => { k with
    fmt := 0
    transport := if k.kind = 4 then 12 else 0
    candidate := none
    candFrames := 0 })).srcGo n .noSignal

/-- The receive flow entries of some kinds that target a source or flow. -/
def State.flowsTo (s : State) (p : Nat → Bool) (target : Nat) : List (Nat × RxFlow) :=
  s.rx.filter (fun e => p (leNat (slice e.2.image 0 1)) && le16 e.2.image 48 == target)

/-- The picture (format, sampling, depth) that the PARAMS of a kind 1 entry declare. -/
def RxFlow.pic (f : RxFlow) : Nat × Nat × Nat :=
  (leNat (slice f.image 52 1), leNat (slice f.image 53 1), leNat (slice f.image 54 1))

/-- The picture of a source's black: the last valid one under its binding, else EXPECT_FMT at 4:2:2 10-bit, else none (R151,
R191). -/
def State.blackPic (s : State) (n : Nat) : Option (Nat × Nat × Nat) :=
  let k := s.source n
  if k.lastFmt ≠ 0 then some (k.lastFmt, k.sampling, k.depth)
  else if k.kind ≠ 0 ∧ k.expectFmt ≠ 0xFF then some (k.expectFmt, 0, 10)
  else none

/-- The picture for which a source's ring is sized: the last valid one under its binding, else its flow's PARAMS, else
EXPECT_FMT at 4:2:2 10-bit (R183). -/
def State.srcPic (s : State) (n : Nat) : Option (Nat × Nat × Nat) :=
  let k := s.source n
  if k.lastFmt ≠ 0 then some (k.lastFmt, k.sampling, k.depth)
  else
    match (if k.kind = 3 then s.flowsTo (fun q => q == 1) n else []) with
    | e :: _ => some e.2.pic
    | [] => if k.kind ≠ 0 ∧ k.expectFmt ≠ 0xFF then some (k.expectFmt, 0, 10) else none

/-- Bytes of a ring: three slots of a frame with its scaled copies (R182). -/
def ringBytes (p : Nat × Nat × Nat) : Nat := 3 * (frameBytes p.1 p.2.1 p.2.2 * 21 / 16)

/-- The rings in use other than a source's own. -/
def State.otherRings (s : State) (n : Nat) : List Ring :=
  (s.rings.filter (fun p => p.1 != n && p.2.used)).map (fun p => p.2)

/-- The sum of the shares of rings, in quarters of a Gb/s. -/
def ringShares (rs : List Ring) : Nat := rs.foldl (fun k r => k + classShare r.cls) 0

/-- The ring region of one stack pair in bytes (Table Frame store regions). -/
def ringRegion : Nat := 32875000000

/-- The ancillary region of one stack pair in bytes (Table Frame store regions). -/
def ancRegion : Nat := 125000000

/-- What one ring takes of it: 64 KiB for each slot (R182). -/
def ringAnc : Nat := 3 * 65536

/-- The shares of all class F read-outs, with those of source `n` at a class (R21, R23). -/
def State.readSum (s : State) (n cls : Nat) : Nat :=
  s.readouts.foldl (fun k r =>
    k + (if r.tail then 0 else if r.src = n then classShare cls else if (s.ring r.src).used then classShare (s.ring r.src).cls else 0)) 0

/-- The place of a ring for a picture (R21, R181, R182, R184): its pair, or none when the budget or both pairs lack room. -/
def State.ringPlace (s : State) (n : Nat) (pic : Nat × Nat × Nat) : Option (Nat × Nat) :=
  match streamClass pic.1 pic.2.1 pic.2.2 with
  | none => none
  | some c =>
    let rs := s.otherRings n
    let on := fun p => rs.filter (fun r => r.pair == p)
    let room := fun p => decide ((on p).foldl (fun k r => k + r.bytes) 0 + ringBytes pic ≤ ringRegion
      ∧ ((on p).length + 1) * ringAnc ≤ ancRegion)
    let first := if ringShares (on 0) ≤ ringShares (on 1) then 0 else 1
    if 20480 < ringShares rs + classShare c ∨ 20480 < s.readSum n c then none
    else if 3 ≤ c ∧ 512 ≤ (rs.filter (fun r => decide (3 ≤ r.cls))).length then none
    else if room first then some (first, c)
    else if room (1 - first) then some (1 - first, c)
    else none

/-- Allocates a source's ring afresh at a place, without contents (R181); its frames count on (R188). -/
def State.ringSet (s : State) (n : Nat) (pic : Nat × Nat × Nat) (at' : Nat × Nat) : State :=
  s.setRing n {
    used := true
    pair := at'.1
    cls := at'.2
    bytes := ringBytes pic
    pic := pic
    complete := (s.ring n).complete }

/-- A ring is given up: what it holds stays for the read-outs (R23). That a source in BUDGET_HOLD gives up the room and the share of its
ring, and that its read-outs then count nothing in the sums of R21, is DESIGN CHOICE (log 128). -/
def State.ringHold (s : State) (n : Nat) : State :=
  s.updRing n (fun r => { r with used := false, bytes := 0, writing := [], wrFrame := none })

/-- One more than every order of a held source (R23). -/
def State.nextHold (s : State) : Nat :=
  s.sr.foldl (fun k p => match p.2.heldOrder with
    | some o => max k (o + 1)
    | none => k) 0

/-- A class F source's ring follows its picture; without budget or room the source enters BUDGET_HOLD (R23, R183, R184). -/
def State.ringFollow (s : State) (n : Nat) (pic : Nat × Nat × Nat) : State :=
  let r := s.ring n
  if (s.source n).classF = false ∨ (r.used ∧ r.pic = pic) then s
  else
    match s.ringPlace n pic with
    | some q => s.ringSet n pic q
    | none =>
      let t := (s.ringHold n).updSource n (fun k => { k with heldOrder := some s.nextHold })
      t.srcGo n .budgetHold

/-! ## Formats (R145 to R148) -/

/-- The bit rate of a class code on its single-link transport, in bits per second. -/
def classBits (cls : Nat) : Nat :=
  match cls with
  | 0 => 270000000
  | 1 => 1485000000
  | 2 => 2970000000
  | 3 => 5940000000
  | _ => 11880000000

/-- The frame rate code of a structure: its bit rate over the bits of a frame (R145). -/
def structRate (g : Structure) : Option Nat :=
  firstFrom (fun r =>
    let f := rateFraction r
    if g.family then classBits g.bitRate * 1000 * f.2 == f.1 * 10 * g.words * g.lines * 1001
    else classBits g.bitRate * f.2 == f.1 * 10 * g.words * g.lines) 0 8

/-- The rate code of twice the frame rate of a code. -/
def doubleRate (r : Nat) : Option Nat := firstFrom (fun d => ratePeriod r == 2 * ratePeriod d) 0 8

/-- The raster of a structure, 1080i where the structure leaves 1080i or 1080PsF open (R145, R146); 0 for none. -/
def structRaster (g : Structure) : Nat :=
  if g.lines = 525 then 1
  else if g.lines = 625 then 2
  else if g.lines = 750 then 3
  else if g.lines = 1125 then (if g.field then 4 else 6)
  else if g.lines = 2250 then 7
  else 0

/-- What a measured structure fixes, with the values of R146 for what it leaves open: format, transport, and whether the format
and the transport are open. A 3G signal whose lines hold two streams is level B: level B-DL of 1080p at twice their frame rate.
The four links of a quad-link carry a quarter of a 2160p picture each, at level A or, with the field bit, at level B. The format is 0 when the structure fits none. -/
def structResolve (g : Structure) (quad : Bool) : Nat × Nat × Bool × Bool :=
  let none' := (0, 0, false, false)
  match structRate g with
  | none => none'
  | some r =>
    let k := structRaster g
    if k = 0 then none'
    else if quad then
      (if g.bitRate = 2 ∧ k = 6 then (0x70 + r, 8, false, true)
       else if g.bitRate = 2 ∧ k = 4 then ((doubleRate r).map (fun d => (0x70 + d, 8, false, true))).getD none'
       else none')
    else if g.bitRate = 0 then (16 * k + r, 1, false, false)
    else if g.bitRate = 1 then (16 * k + r, 2, k == 4, false)
    else if g.bitRate = 2 then
      (if g.field then
        (match doubleRate r with
         | some d => (0x60 + d, 4, false, true)
         | none => none')
       else (16 * k + r, 3, false, false))
    else (16 * k + r, if g.bitRate = 3 then 6 else 7, false, false)

/-- What a measured frame says (R145, R146): format, transport, PID_ABSENT, PID_MISMATCH. The payload ID settles what the
structure leaves open, and is disregarded when it contradicts the structure. -/
def resolveFormat (g : Structure) (quad : Bool) : Nat × Nat × Bool × Bool :=
  let m := structResolve g quad
  let fmt := m.1
  let tr := m.2.1
  match g.pid with
  | none => (fmt, tr, true, false)
  | some (f, t) =>
    let sameFmt := if m.2.2.1 then
        (fmtRaster f == 4 || fmtRaster f == 5) && fmtRate f == fmtRate fmt else f == fmt
    let ok :=
      if m.2.2.2 && tr == 4 then
        (t == 4 && f == fmt) || (t == 5 && (fmtRaster f == 4 || fmtRaster f == 5) && ratePeriod (fmtRate f) == 2 * ratePeriod (fmtRate fmt))
      else if m.2.2.2 then (t == 8 || t == 9) && sameFmt
      else t == tr && sameFmt
    if ok then (f, t, false, false) else (fmt, tr, false, true)

/-- Whether a binding can carry a transport (R148). -/
def Source.carries (k : Source) (tr : Nat) : Bool :=
  match k.kind with
  | 1 => decide (1 ≤ tr ∧ tr ≤ 7) && (if k.stream = 0 then tr != 5 else tr == 5)
  | 2 => tr == 8 || tr == 9
  | 3 => tr == 10 || tr == 11
  | 4 => tr == 12
  | _ => false

/-- Whether a valid format is accepted (R148). -/
def State.accepts (s : State) (n fmt tr : Nat) : Bool :=
  let k := s.source n
  fmtCarries fmt tr && k.carries tr && rateFits (fmtRate fmt) ((s.dom k.td).rate.getD 8)
    && (k.expectFmt == 0xFF || k.expectFmt == fmt) && (k.expectTr == 0xFF || k.expectTr == tr)

/-- A format became valid: the source is VALID, in MISMATCH, or held for budget (R23, R147, R148, R183). -/
def State.takeFormat (s : State) (n : Nat) (pic : Nat × Nat × Nat) (tr : Nat) : State :=
  let k := s.source n
  let s := if k.fmt = 0 ∨ k.fmt = pic.1 then s else (k.lanes.flatMap s.slotsOf).foldl (fun t c => t.disqualify c) s
  let t := s.updSource n (fun k => { k with fmt := pic.1, transport := tr })
  if s.accepts n pic.1 tr then
    let t := t.updSource n (fun k => { k with lastFmt := pic.1, sampling := pic.2.1, depth := pic.2.2 })
    if k.state = .budgetHold ∧ (k.lastFmt, k.sampling, k.depth) = pic then t
    else (t.srcGo n .valid).ringFollow n pic
  else t.srcGo n .mismatch

/-- Fault source 160 + g follows the bound lanes of SDI lane group g that have lost lock (R514). -/
def State.groupFault (s : State) (g : Nat) : State :=
  let lost := s.sr.findSome? (fun p => p.2.lanes.find? (fun n => n / 32 == g && (s.sdiLane n).lost))
  s.level (160 + g) lost.isSome ((lost.getD 0) + 128)

/-- A source is carried as an SDI signal: on lanes, or in a ST 2022-6 flow (R164). -/
def State.isSdi (s : State) (n : Nat) : Bool :=
  let k := s.source n
  ((k.kind == 1 || k.kind == 2) && k.lanes.all (fun l => (s.sdiLane l).locked))
    || (k.kind == 3 && !(s.flowsTo (fun q => q == 5) n).isEmpty)

/-- FORMAT_VALID: one more measured frame of a signal; two consecutive frames of one structure make its format valid or a
change recognised, until when the source is DETECTING (R145 to R148). A ST 2022-6 flow that carries level
B-DS, which R148 does not name, has TRANSPORT 0 and is MISMATCH (R164; DESIGN CHOICE, log 138). -/
def execFormatValid (src : Nat) (sig : Structure) (s : State) : Host.Outcome State Fault Refusal :=
  if src < 1024 ∧ s.isSdi src then
    let k := s.source src
    let r := resolveFormat sig (k.kind == 2)
    let tr := if k.kind = 3 then (if r.2.1 = 5 then 0 else 11) else r.2.1
    let norm : Structure × Nat × Nat := ({ sig with pid := none }, r.1, r.2.1)
    let same := k.candidate == some norm
    let frames := if same then min 2 (k.candFrames + 1) else 1
    let t := s.setSource src { k with
      candidate := some norm
      candFrames := frames
      pidAbsent := r.2.2.1
      pidMismatch := r.2.2.2 }
    .next (if frames = 2 then
        (if k.state = .linkSkew then t else t.takeFormat src (r.1, 0, 10) tr)
      else t.srcGo src .detecting)
  else .next s

/-- A held source resumes when its ring fits (R23). -/
def State.resumeOne (s : State) (o : Nat) : State :=
  match s.sr.find? (fun p => p.2.heldOrder == some o) with
  | some (n, _) =>
    (match s.srcPic n with
     | some pic =>
       (match s.ringPlace n pic with
        | some q => (s.ringSet n pic q).srcGo n .valid
        | none => s)
     | none => s)
  | none => s

/-- BUDGET_HOLD_RESUME: the sources held are examined in the order in which they entered the hold, and each that fits
resumes (R23). -/
def execBudgetHoldResume (s : State) : Host.Outcome State Fault Refusal :=
  let held := (s.sr.filter (fun p => p.2.heldOrder.isSome)).map (fun p => p.2.heldOrder.getD 0)
  let order := (range 0 s.nextHold).filter (fun o => held.contains o)
  .next (order.foldl (fun t o => t.resumeOne o) s)

/-! ## Lines (R151, R173 to R176, R200) -/

/-- The samples a line of a picture has. -/
def lineSamples (pic : Nat × Nat × Nat) : Nat :=
  (rasterActive (fmtRaster pic.1)).1 * (if pic.2.1 = 0 then 2 else 3)

/-- ALIGN_OFFSET in force for a frame that starts at an instant: the last given at least 1.0 ms before it (R171). -/
def Source.alignAt (k : Source) (frameStart : Nat) : Int :=
  ((k.alignPending.filter (fun p => decide (p.2 ≤ frameStart))).getLast?.map (fun p => p.1)).getD k.align

/-- The start of a frame of a domain: at tick `n`, or half a tick period after it for the second frame (R174, R302). -/
def Domain.frameAt (d : Domain) (n : Nat) (second : Bool) : Nat := d.tickAt n + (if second then d.period / 2 else 0)

/-- The number of a frame: the tick, doubled and plus 1 for the second frame where the frame rate is twice the tick rate
(R261, R302). -/
def frameNumber (fmt : Nat) (d : Domain) (n : Nat) (second : Bool) : Nat :=
  if rateDouble (fmtRate fmt) (d.rate.getD 8) then 2 * n + flag second else n

/-- The line header of R15 for a line of a source. -/
def State.lineHdr (s : State) (n fmt cls line tick : Nat) (second : Bool) : LineHdr :=
  let td := (s.source n).td
  { src := s.global n
    td := td
    parity := frameNumber fmt (s.dom td) tick second % 2
    line := line
    tick := tick % 16777216
    cls := cls }

/-- The nominal instant of a line (R174). -/
def State.nominal (s : State) (n fmt line tick : Nat) (second : Bool) : Int :=
  let k := s.source n
  let start := (s.dom k.td).frameAt tick second
  (start : Int) + lineOffset fmt line + 12 * k.alignAt start

/-- The release instant of a class T line: nominal plus h plus H (R200). -/
def State.releaseAt (s : State) (n fmt line tick : Nat) (second : Bool) : Nat :=
  (s.nominal n fmt line tick second + halfLine fmt + linePeriod fmt).toNat

/-- A line lies in its window [nominal - h, nominal + h) (R174). -/
def State.inWindow (s : State) (n fmt line tick : Nat) (second : Bool) (arrival : Int) : Bool :=
  let m := s.nominal n fmt line tick second
  decide (m - halfLine fmt ≤ arrival ∧ arrival < m + halfLine fmt)

/-- The last active line of a raster, in the second field where there are two (PRESUMED, log 18). -/
def lastActive (raster : Nat) : Nat :=
  match raster with
  | 1 => 525
  | 2 => 623
  | 3 => 745
  | 4 => 1123
  | 5 => 1123
  | 6 => 1121
  | _ => 2242

/-- The octets of an ancillary packet as ST 291 writes it, in 10-bit words with its flag, DID, SDID, count and checksum (PRESUMED,
log 115). -/
def ancOctets (p : AncPacket) : Nat := (10 * (p.udw.length + 7) + 7) / 8

/-- The octets of the packets of lines. -/
def ancTotal (ls : List FabLine) : Nat := ls.foldl (fun k l => l.anc.foldl (fun m p => m + ancOctets p) k) 0

/-- The packets of a line that a slot has room for: 64 KiB for a frame (R182; that the rest are dropped is DESIGN CHOICE, log
115). -/
def ancFits : Nat → List AncPacket → List AncPacket
  | _, [] => []
  | left, p :: rest => if ancOctets p ≤ left then p :: ancFits (left - ancOctets p) rest else ancFits left rest

/-- A line joins the lines of a slot. -/
def addLine (ls : List FabLine) (l : FabLine) : List FabLine := ls ++ [{ l with anc := ancFits (65536 - ancTotal ls) l.anc }]

/-- A line after the last active one belongs to the frame it completed: its packets are kept with it (R193). -/
def StoredFrame.late (f : StoredFrame) (tick : Nat) (second : Bool) (l : FabLine) : StoredFrame :=
  if f.tick = tick ∧ f.second = second then { f with lines := addLine f.lines l } else f

/-- Such a line reaches the frame in its ring and in the read-outs that have chosen it (R193). -/
def State.lateLine (s : State) (n : Nat) (tick : Nat) (second : Bool) (l : FabLine) : State :=
  let t := s.updRing n (fun r => { r with frames := r.frames.map (fun f => f.late tick second l) })
  { t with readouts := t.readouts.map (fun r =>
      if r.src = n then { r with frame := r.frame.map (fun f => f.late tick second l) } else r) }

/-- The stacks of a pair that take writes, as a mask of a stored frame: its picture and its packets go to both (R179, R196). -/
def State.writesTo (s : State) (pair : Nat) : Nat :=
  5 * flag (s.stack pair).takesWrites + 10 * flag (s.stack (pair + 2)).takesWrites

/-- Writes a line of a class F source into its ring, in both stacks of its pair (R179, R185): the first line of another frame drops a
frame not complete and takes the slot after the last one written, the last active line completes the frame, and the rest of a frame
that has been abandoned is not written. -/
def State.ringWrite (s : State) (n : Nat) (tick : Nat) (second : Bool) (l : FabLine) : State :=
  let r := s.ring n
  let pic := (l.fmt, l.sampling, l.depth)
  let last := lastActive (fmtRaster l.fmt)
  if r.used = false ∨ r.pic ≠ pic ∨ r.dropped = some (tick, second) then s
  else if last < l.hdr.line then s.lateLine n tick second l
  else
    let fresh := decide (r.wrFrame ≠ some (tick, second))
    let w := addLine (if fresh then [] else r.writing) l
    let r := if fresh then { r with
        wrFrame := some (tick, second)
        dropped := none
        wrOn := 15
        frames := r.frames.drop (r.frames.length - 2) } else r
    let r := { r with wrOn := r.wrOn &&& s.writesTo r.pair }
    if l.hdr.line = last then
      let f : StoredFrame := {
        idx := r.complete
        tick := tick
        second := second
        fmt := l.fmt
        sampling := l.sampling
        depth := l.depth
        lines := w
        doneAt := s.clk
        slot := r.slot
        on := r.wrOn }
      s.setRing n { r with
        writing := []
        frames := r.frames ++ [f]
        slot := (r.slot + 1) % 3
        complete := r.complete + 1
        since := r.since + 1 }
    else s.setRing n { r with writing := w }

/-- The first line of another frame closes the account of the last: the mean arrival offset (R177) and the OUT_OF_WINDOW flag,
which a whole frame without such a line clears (R176). -/
def State.frameTurn (s : State) (n tick : Nat) (second : Bool) : State :=
  let k := s.source n
  if k.curFrame ≠ some (tick, second) then
    let clear := k.outOfWindow && k.cleanFrame
    let t := s.setSource n { k with
      curFrame := some (tick, second)
      offset := if k.offCount = 0 then k.offset else roundDiv k.offSum (12 * k.offCount)
      offSum := 0
      offCount := 0
      cleanFrame := true
      outOfWindow := k.outOfWindow && !clear }
    if clear then t.srcFaults n else t
  else s

/-- A line of a source with its arrival instant: a class T line in its window waits for its release, one out of window is
replaced by the last line delivered and counted (R175, R176); a class F line is written into the ring (R185). A line that did not
itself arrive stands at an instant but has no part in OFFSET (R177). -/
def State.sourceLine (s : State) (n line tick : Nat) (second : Bool) (arrival : Int) (came : Bool) (pic : Nat × Nat × Nat)
    (samples : List Nat) (anc : List AncPacket) : State :=
  let t := s.frameTurn n tick second
  let k := t.source n
  let cls := (streamClass pic.1 pic.2.1 pic.2.2).getD 0
  let hdr := t.lineHdr n pic.1 cls line tick second
  let l : FabLine := ⟨hdr, pic.1, pic.2.1, pic.2.2, samples, anc⟩
  if k.classF then t.ringWrite n tick second l
  else
    let at' := t.releaseAt n pic.1 line tick second
    let k := { k with
      offSum := if came then k.offSum + (arrival - t.nominal n pic.1 line tick second) else k.offSum
      offCount := if came then k.offCount + 1 else k.offCount }
    if t.inWindow n pic.1 line tick second arrival then
      t.setSource n { k with oowRun := 0, waiting := k.waiting ++ [(at', l)] }
    else
      let again := match (k.waiting.map (fun q => q.2)).getLast?, k.lastLine with
        | some w, _ => [(at', { w with hdr := hdr, anc := [] })]
        | none, some w => [(at', { w with hdr := hdr, anc := [] })]
        | none, none => []
      t.setSource n { k with
        oowRun := k.oowRun + 1
        oowLines := satAdd 65535 k.oowLines 1
        cleanFrame := false
        waiting := k.waiting ++ again }

/-- The packets of a line that ingress carries: audio, payload ID and EDH are removed (R166). -/
def carriedAnc (anc : List AncPacket) : List AncPacket :=
  anc.filter (fun p => match p.kind with
    | .audio => false
    | .payloadId => false
    | .edh => false
    | .timecode => true
    | .other => true)

/-- Sample positions that were lost take the samples of the previous frame, and a free value where there is none (R161, R164; log
6). -/
def State.conceal (s : State) (n line : Nat) (pic : Nat × Nat × Nat) (got : Nat → Option Nat) (i : Nat) : Nat :=
  match got i, (((s.source n).prevFrame.find? (fun q => q.1 == line)).bind (fun q => q.2[i]?)) with
  | some v, _ => v
  | none, some v => v
  | none, none => (Config.freeWord (s.bx.free + i)).toNat % 2 ^ pic.2.2

/-- The octets of the SDI stream in one datagram of ST 2022-6 (PRESUMED, log 25). -/
def mediaOctets : Nat := 1376

/-- The sequence number of the datagram that begins the latest frame of `per` datagrams of which the one at place `j` is due: counted
from the last marker (R164; PRESUMED, log 25). -/
def Source.frameSeq (k : Source) (j per : Nat) : Option Nat :=
  match k.anchor, k.dgrams with
  | some a, d :: _ =>
    let g := (d.1 + 65536 - a) % 65536
    some (if 32768 ≤ g then (a + 65536 - per) % 65536
      else if j ≤ g % per then (a + g / per * per) % 65536
      else (a + g / per * per + 65536 - per) % 65536)
  | _, _ => none

/-- An octet of the frame that begins with a datagram, if that octet's datagram has come on either leg. -/
def Source.mediaOctet (k : Source) (start i : Nat) : Option Byte :=
  (k.dgrams.find? (fun d => d.1 == (start + i / mediaOctets) % 65536)).bind (fun d => d.2[i % mediaOctets]?)

/-- A 10-bit word of the frame that begins with a datagram, most significant bit first (PRESUMED, log 25). -/
def Source.mediaWord (k : Source) (start w : Nat) : Option Nat :=
  match k.mediaOctet start (10 * w / 8), k.mediaOctet start (10 * w / 8 + 1) with
  | some a, some b => some ((256 * a.toNat + b.toNat) / 2 ^ (6 - 10 * w % 8) % 1024)
  | _, _ => none

/-- The sample at a position of a line that the datagrams of ST 2022-6 carry: the last words of the line are its picture (R164; PRESUMED,
log 25). None where the datagram was lost on both legs. -/
def Source.mediaSample (k : Source) (pic : Nat × Nat × Nat) (line : Nat) (second : Bool) (i : Nat) : Option Nat :=
  match k.candidate with
  | some (g, _, tr) =>
    let all := g.words * g.lines
    let half := if tr = 4 then all / 2 else all
    let per := half / rasterLines (fmtRaster pic.1)
    let n := lineSamples pic
    let first := (if tr = 4 ∧ second then half else 0) + (line - 1) * per
    let dgs := (all * 10 + 8 * mediaOctets - 1) / (8 * mediaOctets)
    (k.frameSeq ((first + per) * 10 / 8 / mediaOctets) dgs).bind (fun q => k.mediaWord q (first + per - n + i))
  | none => none

/-- A line of a ST 2022-6 flow is what its datagrams carry; what its lost datagrams carried is concealed and counted (R164). -/
def State.sdiLine (s : State) (n : Nat) (pic : Nat × Nat × Nat) (l : LineIn) : State :=
  let anc := carriedAnc l.anc
  let k := s.source n
  if k.kind = 3 then
    let got := k.mediaSample pic l.line l.second
    let active := activeLine (fmtRaster pic.1) l.line
    let samples := if active then (range 0 (lineSamples pic)).map (s.conceal n l.line pic got) else blackLine pic.1 pic.2.1 pic.2.2
    let holes := active && (range 0 (lineSamples pic)).any (fun i => (got i).isNone)
    let t := s.drawFree.updSource n (fun k => { k with
      concealed := if holes then satAdd 65535 k.concealed 1 else k.concealed
      prevFrame := if active then (l.line, samples) :: k.prevFrame.filter (fun q => q.1 != l.line) else k.prevFrame })
    t.sourceLine n l.line l.tick l.second l.arrival true pic samples anc
  else s.sourceLine n l.line l.tick l.second l.arrival true pic l.samples anc

/-! ## De-embedding (R168) -/

/-- The group of audio channels that the DID of a packet names (Table De-embedded audio; PRESUMED, log 120). -/
def audioGroup (fmt did : Nat) : Option Nat := (range 0 8).find? (fun g => (audioDids fmt g).1 == did)

/-- The samples of the audio packets of a line wait for Bramble, four channels to a group (R166, R168); how the named standards pack them
is not in the spec (log 120). -/
def State.deembed (s : State) (n : Nat) (anc : List AncPacket) : State :=
  let k := s.source n
  anc.foldl (fun t p =>
    match p.kind, audioGroup k.fmt p.did with
    | .audio, some g =>
      let ch := Config.deembed k.transport g p.udw
      (range 0 4).foldl (fun u c =>
        let key := 32 * n + 4 * g + c
        { u with au := { u.au with embedded := Tbl.set [] u.au.embedded key (Tbl.get [] u.au.embedded key ++ ch.getD c []) } }) t
    | _, _ => t) s

/-- LINE_ARRIVAL: a line of a source carried as an SDI signal. The CRC of every line is checked, whatever the source's state (R149,
R150, R175). How far apart the links of a quad-link source are counts only while it is VALID or in LINK_SKEW (DESIGN CHOICE, log
137). -/
def execLineArrival (src : Nat) (l : LineIn) (s : State) : Host.Outcome State Fault Refusal :=
  let k := s.source src
  if src < 1024 ∧ s.isSdi src then
    let t := if l.crcError then
        s.setSource src { k with crcErrors := satAdd 65535 k.crcErrors 1, crcSeen := true } else s
    if k.state = .valid ∨ k.state = .linkSkew then
      (if k.kind = 2 ∧ 2 < l.skew then .next (t.srcGo src .linkSkew)
       else .next (((if k.state = .linkSkew then t.srcGo src .valid else t).sdiLine src (k.fmt, 0, 10) l).deembed src l.anc))
    else .next t
  else .next s

/-- OUT_OF_WINDOW: eight consecutive lines out of window are reported (R176). -/
def execOutOfWindow (src : Nat) (s : State) : Host.Outcome State Fault Refusal :=
  let k := s.source src
  if src < 1024 ∧ 8 ≤ k.oowRun ∧ k.outOfWindow = false then
    .next ((s.setSource src { k with outOfWindow := true, cleanFrame := false }).srcFaults src)
  else .next s

/-- The frame and line whose release at an offset in ns, and `late` after the instant of R200, is the latest at or before now: its
tick, which frame of the tick, and its line. -/
def State.dueIn (s : State) (td fmt : Nat) (off : Int) (late : Nat) : Nat × Bool × Nat :=
  let d := s.dom td
  let now : Int := (s.clk : Int) - (halfLine fmt + linePeriod fmt + late : Nat) - 12 * off
  let p := ratePeriod (fmtRate fmt)
  let since := now - d.last
  let tick := if since < 0 then d.count - 1 else if d.period ≤ since then d.count + 1 else d.count
  let into := (now - d.tickAt tick).toNat
  let second := rateDouble (fmtRate fmt) (d.rate.getD 8) && decide (p ≤ into)
  let into := if second then into - p else into
  (tick, second, ((into + 1) * rasterLines (fmtRaster fmt) - 1) / p % rasterLines (fmtRaster fmt) + 1)

/-- The frame and line of a class T source whose release is the latest at or before now (R200). -/
def State.lineDue (s : State) (n fmt : Nat) : Nat × Bool × Nat :=
  let k := s.source n
  s.dueIn k.td fmt (k.alignAt (s.dom k.td).last) 0

/-- A source delivers a line into both planes on its own port (R200, R201). -/
def State.deliver (s : State) (n : Nat) (l : FabLine) : State :=
  { s.updSource n (fun k => { k with lastLine := some l }) with inPorts := Tbl.set none s.inPorts n (some l) }

/-- The samples a source without waiting lines delivers: of its engine when it is a VALID internal source (11 R315), else
black (R151). -/
def State.ownSamples (s : State) (n : Nat) (pic : Nat × Nat × Nat) (line : Nat) : List Nat :=
  let k := s.source n
  if k.kind = 4 ∧ k.state = .valid ∧ activeLine (fmtRaster pic.1) line then
    s.mqRow k.lane (s.engine k.lane).frame (pictureRow (fmtRaster pic.1) line) (rasterActive (fmtRaster pic.1)).1
  else blackLine pic.1 pic.2.1 pic.2.2

/-- LINE_RELEASE: the oldest line whose release instant has come enters the fabric (R200). A source that is not VALID
delivers black at the domain's timing (R151), and an internal source the lines of its engine (11 R315). -/
def execLineRelease (src : Nat) (s : State) : Host.Outcome State Fault Refusal :=
  let k := s.source src
  if src < 1024 ∧ k.kind ≠ 0 ∧ k.classF = false ∧ (s.dom k.td).started then
    match k.waiting with
    | (at', l) :: rest =>
      if at' ≤ s.clk then .next ((s.setSource src { k with waiting := rest }).deliver src l) else .next s
    | [] =>
      if k.state = .valid ∧ k.kind ≠ 4 then .next s
      else
        match s.blackPic src with
        | some pic =>
          let q := s.lineDue src pic.1
          let cls := (streamClass pic.1 pic.2.1 pic.2.2).getD 0
          .next (s.deliver src
            ⟨s.lineHdr src pic.1 cls q.2.2 q.1 q.2.1, pic.1, pic.2.1, pic.2.2,
              s.ownSamples src pic q.2.2, []⟩)
        | none => .next s
  else .next s

end Sys2Proof.Machine
end

