-- ==== Sys2Proof/Machine/Sources.lean ====
section
/-! DEFINITION. SRC_BIND, SRC_STATUS, SRC_SYNC_MODE (06 R140 to R143, R171, R177, R618; 17 R467). -/
namespace Sys2Proof.Machine

/-! ## SRC_BIND -/

/-- A format code of Table Format codes. -/
def isFormat (f : Nat) : Bool := decide (1 ≤ f / 16 ∧ f / 16 ≤ 7 ∧ f % 16 ≤ 7)

/-- The lanes that a binding of a kind names: LANE and LANES2. -/
def bindLanes (kind : Nat) (c : Cmd) : List Nat :=
  match kind with
  | 1 => [c.u16 20]
  | 2 => [c.u16 20, c.u16 22, c.u16 24, c.u16 26]
  | _ => []

/-- The lane fields of a binding (Table SRC_BIND payload and Table DST_BIND payload): a lane out of range, LANES2 not 0
where no kind names them, or lanes of a quad-link not distinct or not in one group of 32 (R141, R242). -/
def laneChecks (c : Cmd) (quad : Bool) : List Check :=
  [22, 24, 26].map (fun i =>
    badIf (if quad then
      decide (256 ≤ c.u16 i) || c.u16 i / 32 != c.u16 20 / 32
        || ([20, 22, 24].any (fun j => decide (j < i) && c.u16 j == c.u16 i))
      else c.u16 i != 0) i)

/-- Another source uses a lane, unless both bindings are kind 1 with STREAM 1 and STREAM 2 (R142). -/
def State.laneTaken (s : State) (n kind stream l : Nat) : Bool :=
  s.sr.any (fun p => p.1 != n && p.2.lanes.contains l
    && !(kind == 1 && p.2.kind == 1 && decide (1 ≤ stream ∧ 1 ≤ p.2.stream ∧ stream ≠ p.2.stream)))

/-- What a SRC_BIND makes of a source: class, ALIGN_OFFSET and LOSS_HOLD stay, everything else starts afresh (R140). -/
def bindSource (k : Source) (c : Cmd) : Source :=
  { kind := c.u8 18
    stream := c.u8 19
    lane := c.u16 20
    lanes2 := c.u48 22
    td := c.u8 28
    expectFmt := c.u8 29
    expectTr := c.u8 30
    transport := if c.u8 18 = 4 then 12 else 0
    state := k.state
    classF := k.classF && c.u8 18 != 4
    align := if c.u8 18 = 4 then 0 else k.align
    alignPending := if c.u8 18 = 4 then [] else k.alignPending
    lossHold := k.lossHold }

/-- The ring that a class F source needs under a new binding has no place (R140, DEDUCED, log 19). -/
def State.bindNoRing (s : State) (n : Nat) (c : Cmd) : Bool :=
  let t := s.setSource n (bindSource (s.source n) c)
  (t.source n).classF &&
    (match t.srcPic n with
     | some pic => (t.ringPlace n pic).isNone
     | none => false)

/-- The checks of SRC_BIND, in the order of R140 (R141, R142, R618). -/
def srcBindChecks (s : State) (x : Ctx) : List Check :=
  let c := x.cmd
  let n := c.u16 16
  let kind := c.u8 18
  let tr := c.u8 30
  let fmt := c.u8 29
  [badIf (decide (1024 ≤ n)) 16, badIf (decide (5 ≤ kind)) 18] ++
  (if kind = 0 then
    [reserved c 19 64,
     ((s.source n).kind != 0 && !(s.flowsTo (fun q => q == 1 || q == 4 || q == 5) n).isEmpty,
       repBadState),
     ((s.source n).kind != 0 && s.selected n, repBadState)]
   else
    [badIf (kind == 4 && decide (n < 1008)) 18,
     badIf (if kind = 1 then decide (3 ≤ c.u8 19) else c.u8 19 != 0) 19,
     badIf (if kind ≤ 2 then decide (256 ≤ c.u16 20) else if kind = 4 then decide (8 ≤ c.u16 20) else c.u16 20 != 0) 20]
    ++ laneChecks c (kind == 2)
    ++ [badIf (decide (8 ≤ c.u8 28)) 28,
        badIf (fmt != 0xFF && !isFormat fmt) 29,
        badIf (fmt != 0xFF && (s.dom (c.u8 28)).hasTicks && !rateFits (fmtRate fmt) ((s.dom (c.u8 28)).rate.getD 8)) 29,
        badIf (tr != 0xFF && decide (13 ≤ tr)) 30,
        badIf ((tr == 12 && kind != 4) || (kind == 4 && tr != 12 && tr != 0xFF)) 30,
        badIf (fmt != 0xFF && tr != 0xFF && !fmtCarries fmt tr) 30,
        reserved c 31 64,
        (!(s.dom (c.u8 28)).hasTicks, repBadState),
        ((bindLanes kind c).any (fun l => (s.sdiLane l).role != 1 || (s.sdiLane l).test != 0), repBadState),
        ((bindLanes kind c).any (fun l => s.laneTaken n kind (c.u8 19) l), repBadState),
        (kind == 4 && s.sr.any (fun p => p.1 != n && p.2.kind == 4 && p.2.lane == c.u16 20), repBadState),
        (s.selected n, repBadState),
        (s.bindNoRing n c, repNoResource)])

/-- Binds a source: its state starts again at NO_SIGNAL, and a class F source gets a ring for what it now expects (R140,
R183). -/
def State.bindSrc (s : State) (n : Nat) (c : Cmd) : State :=
  let t := (s.setSource n (bindSource (s.source n) c)).setRing n {}
  let t : State := { t with inPorts := Tbl.set none t.inPorts n none }
  let t := if (t.source n).classF then
      (match t.srcPic n with
       | some pic =>
         (match t.ringPlace n pic with
          | some q => t.ringSet n pic q
          | none => t)
       | none => t)
    else t
  let t := t.srcGo n .noSignal
  t.srcFaults n

/-- Unbinds a source: its ring is freed and its class, ALIGN_OFFSET and LOSS_HOLD return (R618, R467). -/
def State.unbindSrc (s : State) (n : Nat) : State :=
  if (s.source n).kind = 0 then s
  else
    let t := (s.setSource n { state := (s.source n).state }).setRing n {}
    let t : State := { t with inPorts := Tbl.set none t.inPorts n none }
    (t.srcGo n .unbound).srcFaults n

/-- SRC_BIND (R140 to R143, R618). -/
def cmdSrcBind : CmdSpec where
  opcode := 0x0401
  role := .engineering
  ptr := .never
  checks := srcBindChecks
  effect := .atOnce fun s x =>
    let t := if x.cmd.u8 18 = 0 then s.unbindSrc (x.cmd.u16 16) else s.bindSrc (x.cmd.u16 16) x.cmd
    ((range 0 8).foldl (fun u g => u.groupFault g) t, repDone [])

/-- SRC_BIND as a row. -/
def execSrcBind (mb : Nat) (c : Cmd) (s : State) : Host.Outcome State Fault Refusal :=
  .next (runCommand cmdSrcBind mb c s)

/-! ## SRC_STATUS -/

/-- The format and transport a source shows: of its signal, or declared by its flow entries (R159, R177). -/
def State.shownFormat (s : State) (n : Nat) : Nat × Nat :=
  let k := s.source n
  if k.kind = 3 then
    match s.flowsTo (fun q => q == 1) n with
    | e :: _ => (e.2.pic.1, 10)
    | [] => (k.fmt, k.transport)
  else (k.fmt, k.transport)

/-- How long a leg stays healthy after a packet, in ns: two frame periods of its source for video, four packet times for audio
(R163). -/
def State.legSpan (s : State) (f : RxFlow) : Nat :=
  let kind := leNat (slice f.image 0 1)
  if kind = 2 ∨ kind = 3 then (if leNat (slice f.image 55 1) = 1 then 4000000 else 500000)
  else 2 * ratePeriod (fmtRate (s.shownFormat (le16 f.image 48)).1) / 12

/-- A leg is healthy: its entry has matched a packet lately (R163). -/
def State.flowOk (s : State) (f : RxFlow) : Bool := f.pkts != 0 && decide (s.nowNs ≤ f.lastRx + s.legSpan f)

/-- A video leg of a source is healthy (R163). -/
def State.legOk (s : State) (n leg : Nat) : Bool :=
  (s.flowsTo (fun k => k == 1 || k == 5) n).any (fun e => leNat (slice e.2.image 1 1) % 2 == leg && s.flowOk e.2)

/-- The result of SRC_STATUS (Table SRC_STATUS result). -/
def State.srcStatus (s : State) (n : Nat) : List Byte :=
  let k := s.source n
  let f := s.shownFormat n
  leBytes 1 k.state.code ++ leBytes 1 f.1 ++ leBytes 1 f.2
    ++ leBytes 1 (flag k.outOfWindow + 2 * flag k.pidAbsent + 4 * flag k.pidMismatch + 8 * flag (s.legOk n 0)
        + 16 * flag (s.legOk n 1) + 32 * flag ((k.classF || s.au.khz96) && k.audioRate) + 64 * flag k.classF + 128 * flag k.crcSeen)
    ++ leBytes 4 (ofSigned 4 (if k.classF then 0 else k.offset))
    ++ leBytes 2 k.oowLines ++ leBytes 2 k.crcErrors ++ leBytes 2 k.concealed ++ leBytes 1 k.td

/-- SRC_STATUS (R177): reading clears the three counters. -/
def cmdSrcStatus : CmdSpec where
  opcode := 0x0402
  role := .any
  ptr := .never
  checks := fun _ x => [badIf (decide (1024 ≤ x.cmd.u16 16)) 16, reserved x.cmd 18 64]
  effect := .atOnce fun s x =>
    (s.updSource (x.cmd.u16 16) (fun k => { k with oowLines := 0, crcErrors := 0, concealed := 0 }),
      repDone (s.srcStatus (x.cmd.u16 16)))

/-- SRC_STATUS as a row. -/
def execSrcStatus (mb : Nat) (c : Cmd) (s : State) : Host.Outcome State Fault Refusal :=
  .next (runCommand cmdSrcStatus mb c s)

/-! ## SRC_SYNC_MODE -/

/-- Class F needs a ring that has no place (R22, R184). -/
def State.modeNoRing (s : State) (n : Nat) : Bool :=
  match s.srcPic n with
  | some pic => (s.ringPlace n pic).isNone
  | none => false

/-- Sets class, ALIGN_OFFSET and LOSS_HOLD (R171, R183, R467). A source held for budget that becomes class T is VALID
again (R23). -/
def State.syncMode (s : State) (n : Nat) (toF : Bool) (align : Int) (hold : Nat) : State :=
  let k := s.source n
  let t := s.setSource n { k with
    classF := toF
    lossHold := hold
    align := if k.classF ∨ toF then align else k.align
    alignPending := if k.classF ∨ toF then [] else k.alignPending ++ [(align, s.clk + tuMs 1)]
    waiting := if toF then [] else k.waiting }
  if toF && !k.classF then
    (match t.srcPic n with
     | some pic =>
       (match t.ringPlace n pic with
        | some q => t.ringSet n pic q
        | none => t)
     | none => t)
  else if !toF && k.classF then
    let t := t.setRing n {}
    if k.state = .budgetHold then t.srcGo n .valid else t
  else t

/-- SRC_SYNC_MODE (R171, R22, R183, R184, R315, R467); an internal source keeps ALIGN_OFFSET 0 (R315; DEDUCED, log 145). -/
def cmdSrcSyncMode : CmdSpec where
  opcode := 0x0405
  role := .engineering
  ptr := .never
  checks := fun s x =>
    let c := x.cmd
    let n := c.u16 16
    let k := s.source n
    [badIf (decide (1024 ≤ n)) 16,
     badIf (decide (2 ≤ c.u8 18) || (c.u8 18 == 1 && k.kind == 4)) 18,
     reserved c 19 20,
     badIf (decide (1000000 < (c.i32 20).natAbs) || ((c.u8 18 == 1 || k.kind == 4) && c.u32 20 != 0)) 20,
     reserved c 26 64,
     (decide (flag k.classF ≠ c.u8 18) && s.selected n, repBadState),
     (c.u8 18 == 1 && !k.classF && s.modeNoRing n, repNoResource)]
  effect := .atOnce fun s x =>
    (s.syncMode (x.cmd.u16 16) (x.cmd.u8 18 == 1) (x.cmd.i32 20) (x.cmd.u16 24), repDone [])

/-- SRC_SYNC_MODE as a row. -/
def execSrcSyncMode (mb : Nat) (c : Cmd) (s : State) : Host.Outcome State Fault Refusal :=
  .next (runCommand cmdSrcSyncMode mb c s)

end Sys2Proof.Machine
end

