-- ==== Sys2Proof/Machine/Packets.lean ====
section
/-! DEFINITION. Receive flows and packet sources (06 R153 to R167, 17 R468): RX_FLOW_SET, RX_FLOW_CLEAR, matching, the
reassembly of ST 2110-20 lines and the ST 2022-7 merge. -/
namespace Sys2Proof.Machine

/-! ## The receive flow entry -/

/-- A byte of a buffer. -/
def byteAt (bs : List Byte) (i : Nat) : Nat := (bs.getD i 0).toNat

/-- The first byte of `n` from `i` on that is not 0. -/
def firstSet (bs : List Byte) (i n : Nat) : Option Nat := firstFrom (fun k => byteAt bs k != 0) i n

/-- Reserved bytes of a buffer. -/
def reservedBuf (bs : List Byte) (i j : Nat) : Check :=
  match firstSet bs i (j - i) with
  | some k => (true, repBadBuf k)
  | none => (false, repBadBuf 0)

/-- KIND of a receive flow entry. -/
def RxFlow.kind (f : RxFlow) : Nat := byteAt f.image 0

/-- TARGET of a receive flow entry. -/
def RxFlow.target (f : RxFlow) : Nat := le16 f.image 48

/-- LEG of a receive flow entry. -/
def RxFlow.leg (f : RxFlow) : Nat := byteAt f.image 1 % 2

/-- The number of MATCH bits set. -/
def matchBits (im : List Byte) : Nat := countBelow (fun i => bit (byteAt im 3) i) 6

/-- A condition both entries make is met alike by one packet. -/
def bothAgree (a b : List Byte) (i off n : Nat) : Bool :=
  !(bit (byteAt a 3) i && bit (byteAt b 3) i) || slice a off n == slice b off n

/-- One packet could match both entries (R156). -/
def couldBoth (a b : List Byte) : Bool :=
  byteAt a 2 == byteAt b 2 && bit (byteAt a 3) 0 == bit (byteAt b 3) 0 && slice a 16 16 == slice b 16 16
    && slice a 6 2 == slice b 6 2 && bothAgree a b 1 32 16 && bothAgree a b 2 8 2 && bothAgree a b 3 4 2
    && bothAgree a b 4 12 4 && bothAgree a b 5 10 1

/-- The audio parameters of kinds 2 and 3 that no conformance level has (R155; the 96 kHz limits PRESUMED, log 20). -/
def audioLevelBad (im : List Byte) : Bool :=
  let ch := byteAt im 52
  byteAt im 0 == 2 &&
    (if byteAt im 53 = 0 then byteAt im 55 == 1 && decide (8 < ch)
     else if byteAt im 55 = 1 then decide (4 < ch) else decide (32 < ch))

/-- The checks of PARAMS (Table Flow parameters, R20, R28, R155, R156). -/
def paramChecks (s : State) (im : List Byte) : List Check :=
  let kind := byteAt im 0
  let fmt := byteAt im 52
  match kind with
  | 1 =>
    let td := (s.source (le16 im 48)).td
    [badBufIf (!fmtSupported fmt
        || ((s.source (le16 im 48)).kind != 0 && (s.dom td).hasTicks && !rateFits (fmtRate fmt) ((s.dom td).rate.getD 8))) 52,
     badBufIf (decide (3 ≤ byteAt im 53)) 53,
     badBufIf (byteAt im 54 != 8 && byteAt im 54 != 10 && byteAt im 54 != 12) 54,
     badBufIf (decide (2 ≤ byteAt im 55)) 55,
     badBufIf (decide (3 ≤ byteAt im 56)) 56,
     reservedBuf im 57 64,
     badBufIf (streamClass fmt (byteAt im 53) (byteAt im 54)).isNone 52]
  | 2 =>
    [badBufIf (decide (byteAt im 52 < 1 ∨ 64 < byteAt im 52)) 52,
     badBufIf (decide (2 ≤ byteAt im 53)) 53,
     badBufIf (byteAt im 54 != 16 && byteAt im 54 != 24) 54,
     badBufIf (decide (2 ≤ byteAt im 55)) 55,
     badBufIf (audioLevelBad im) 55,
     badBufIf (decide (le16 im 56 < 6 ∨ 192 < le16 im 56)) 56,
     reservedBuf im 58 64]
  | 3 =>
    [badBufIf (decide (byteAt im 52 < 2 ∨ 16 < byteAt im 52 ∨ byteAt im 52 % 2 = 1)) 52,
     badBufIf (decide (2 ≤ byteAt im 53)) 53,
     badBufIf (byteAt im 54 != 0) 54,
     badBufIf (decide (2 ≤ byteAt im 55)) 55,
     badBufIf (decide (le16 im 56 < 6 ∨ 192 < le16 im 56)) 56,
     reservedBuf im 58 64]
  | _ => [reservedBuf im 52 64]

/-- Another entry than `idx` that satisfies a test. -/
def State.otherFlow (s : State) (idx : Nat) (p : RxFlow → Bool) : Bool :=
  s.rx.any (fun e => e.1 != idx && !e.2.image.isEmpty && p e.2)

/-- The first byte of PARAMS in which a kind 1 entry differs from the other leg's. -/
def State.paramDiff (s : State) (idx : Nat) (im : List Byte) : Option Nat :=
  match s.rx.find? (fun e => e.1 != idx && e.2.kind == 1 && e.2.target == le16 im 48 && e.2.leg != byteAt im 1) with
  | some e => firstFrom (fun i => byteAt e.2.image i != byteAt im i) 52 12
  | none => none

/-- The checks of RX_FLOW_SET (R153 to R156, R468, R528). -/
def rxFlowChecks (s : State) (x : Ctx) : List Check :=
  let c := x.cmd
  let idx := c.u16 28
  let im := x.buf
  let kind := byteAt im 0
  let target := le16 im 48
  let video := kind == 1 || kind == 4 || kind == 5
  [badIf (decide (8192 ≤ idx)) 28, reserved c 30 64,
   badBufIf (decide (kind = 0 ∨ 5 < kind)) 0,
   badBufIf (decide (2 ≤ byteAt im 1)) 1,
   badBufIf (bit (byteAt im 2) 3) 2,
   badBufIf (decide (64 ≤ byteAt im 3)) 3,
   badBufIf (decide (4096 ≤ le16 im 4)) 4,
   badBufIf (decide (128 ≤ byteAt im 10)) 10,
   reservedBuf im 11 12]
  ++ (if bit (byteAt im 3) 0 then [] else [reservedBuf im 20 32])
  ++ [badBufIf (if video then decide (1024 ≤ target) else decide (2048 ≤ target)) 48,
      badBufIf (decide (8 ≤ byteAt im 50)) 50,
      reservedBuf im 51 52]
  ++ paramChecks s im
  ++ [(kind == 1 && (s.paramDiff idx im).isSome, repBadBuf ((s.paramDiff idx im).getD 52)),
      reservedBuf im 64 80,
      (!s.subExists (byteAt im 2), repBadState),
      ((kind == 2 || kind == 3) && byteAt im 53 == 1 && !s.au.khz96, repBadState),
      (video && (s.source target).kind != 3, repBadState),
      (s.otherFlow idx (fun f => f.kind == kind && f.target == target && f.leg == byteAt im 1), repBadState),
      (kind == 1 && s.otherFlow idx (fun f => f.kind == 5 && f.target == target), repBadState),
      (kind == 5 && s.otherFlow idx (fun f => f.kind == 1 && f.target == target), repBadState),
      (kind == 4 && !s.otherFlow idx (fun f => f.kind == 1 && f.target == target), repBadState),
      (s.otherFlow idx (fun f => matchBits f.image == matchBits im && couldBoth f.image im), repBadState)]

/-- RX_FLOW_SET (R153 to R156, R468): the device's own bytes start at 0. -/
def cmdRxFlowSet : CmdSpec where
  opcode := 0x0403
  role := .engineering
  ptr := .must (fun n => n == 128)
  checks := rxFlowChecks
  effect := .atOnce fun s x => (s.setRxFlow (x.cmd.u16 28) { image := slice x.buf 0 80 }, repDone [])

/-- RX_FLOW_SET as a row. -/
def execRxFlowSet (mb : Nat) (c : Cmd) (s : State) : Host.Outcome State Fault Refusal :=
  .next (runCommand cmdRxFlowSet mb c s)

/-- An entry is the last video leg of its source. -/
def State.lastLeg (s : State) (idx : Nat) : Bool :=
  let f := s.rxFlow idx
  (f.kind == 1 || f.kind == 5)
    && !s.otherFlow idx (fun g => (g.kind == 1 || g.kind == 5) && g.target == f.target)

/-- Empties an entry; a source without a video leg has no signal. -/
def State.clearFlow (s : State) (idx : Nat) : State :=
  let f := s.rxFlow idx
  let t := s.setRxFlow idx {}
  if s.lastLeg idx then
    (t.updSource f.target (fun k => { k with legA := none, legB := none })).noSignal f.target
  else t

/-- RX_FLOW_CLEAR (R158, R468). -/
def cmdRxFlowClear : CmdSpec where
  opcode := 0x0404
  role := .engineering
  ptr := .never
  checks := fun s x =>
    let idx := x.cmd.u16 16
    [badIf (decide (8192 ≤ idx)) 16, reserved x.cmd 18 64,
     (s.lastLeg idx && s.selected (s.rxFlow idx).target, repBadState)]
  effect := .atOnce fun s x => (s.clearFlow (x.cmd.u16 16), repDone [])

/-- RX_FLOW_CLEAR as a row. -/
def execRxFlowClear (mb : Nat) (c : Cmd) (s : State) : Host.Outcome State Fault Refusal :=
  .next (runCommand cmdRxFlowClear mb c s)

/-! ## Matching (R156, R157) -/

/-- An entry matches a UDP packet that arrives on a subport. -/
def RxFlow.hits (f : RxFlow) (port sub : Nat) (h : UdpHdr) : Bool :=
  let im := f.image
  let m := byteAt im 3
  !im.isEmpty && byteAt im 2 == 16 * port + sub && bit m 0 == h.ipv6
    && slice im 16 16 == slice h.dstIp 0 16 && beNat (slice im 6 2) == h.dstPort
    && (!bit m 1 || slice im 32 16 == slice h.srcIp 0 16)
    && (!bit m 2 || beNat (slice im 8 2) == h.srcPort)
    && (!bit m 3 || h.vlan == some (le16 im 4))
    && (!bit m 4 || leNat (slice im 12 4) == h.ssrc)
    && (!bit m 5 || byteAt im 10 == h.pt)

/-- The entry with the most MATCH bits set among those that match a packet. -/
def State.matchFlow (s : State) (port sub : Nat) (h : UdpHdr) : Option Nat :=
  (s.rx.foldl (fun (best : Option (Nat × Nat)) e =>
    if e.2.hits port sub h then
      (match best with
       | some (n, k) => if k < matchBits e.2.image then some (e.1, matchBits e.2.image) else some (n, k)
       | none => some (e.1, matchBits e.2.image))
    else best) none).map (fun q => q.1)

/-! ## Reassembly and merge -/

/-- Extended sequence numbers: 32 bits for ST 2110-20, 16 otherwise (R162). -/
def RxFlow.seqRange (f : RxFlow) : Nat := if f.kind = 1 then 4294967296 else 65536

/-- The identity of a packet of an entry: its kind, RTP timestamp and extended sequence number (R162). -/
def RxFlow.packetKey (f : RxFlow) (p : RtpPkt) : Nat := (f.kind * 4294967296 + p.ts) * 4294967296 + p.seq

/-- A packet of the source or flow of an entry has been used already, on either leg (R162). -/
def State.seenPacket (s : State) (f : RxFlow) (key : Nat) : Bool :=
  if f.kind = 2 ∨ f.kind = 3 then (Tbl.get [] s.au.usedPkts f.target).contains key else (s.source f.target).used.contains key

/-- A packet of an entry has been used: its source or audio flow keeps its identity, whatever becomes of the entry (R162). -/
def State.usePacket (s : State) (f : RxFlow) (key : Nat) : State :=
  if f.kind = 2 ∨ f.kind = 3 then
    { s with au := { s.au with usedPkts := Tbl.set [] s.au.usedPkts f.target (key :: Tbl.get [] s.au.usedPkts f.target) } }
  else s.updSource f.target (fun k => { k with used := key :: k.used })

/-- Whether a line has closed: of class T, whose lines close in their order, one at or before the last one closed; of class F one that
closed itself, or of a frame long past. -/
def Source.isClosed (k : Source) (tick : Nat) (second : Bool) (line : Nat) : Bool :=
  match k.closed with
  | some (t, h, l) =>
    if k.classF then k.shut.contains (tick, second, line) || decide (tick + 2 ≤ t)
    else
    decide (tick < t) || (tick == t && (decide (flag second < flag h) || (second == h && decide (line ≤ l))))
  | none => false

/-- Every sample position of an open line is filled. -/
def OpenLine.full (o : OpenLine) (n : Nat) : Bool :=
  (range 0 n).all (fun i => o.filled.any (fun q => decide (q.1 ≤ i ∧ i < q.1 + q.2.length)))

/-- The frame after a frame: its tick and which frame of the tick. -/
def frameAfter (double : Bool) (tick : Nat) (second : Bool) : Nat × Bool :=
  if double && !second then (tick, true) else (tick + 1, false)

/-- A line is two lines before another, of which a first packet comes (R160). -/
def OpenLine.twoBefore (o : OpenLine) (raster : Nat) (double : Bool) (tick : Nat) (second : Bool) (line : Nat) : Bool :=
  let q := twoLater raster o.line
  let f := if q.2 then frameAfter double o.tick o.second else (o.tick, o.second)
  q.1 == line && f.1 == tick && f.2 == second

/-- Places one segment of a packet in its line; the first packet of a line tells the line two lines before (R159, R160). -/
def Source.place (k : Source) (pic : Nat × Nat × Nat) (double : Bool) (tick : Nat) (second : Bool) (now : Nat) (g : RtpSeg) :
    Source :=
  let same := fun o : OpenLine => o.line == g.line && o.tick == tick && o.second == second
  let k := if k.openLines.any same then k else { k with openLines := k.openLines.map (fun o =>
    if o.twoBefore (fmtRaster pic.1) double tick second g.line then { o with past := true } else o) }
  let old : OpenLine := (k.openLines.find? same).getD ⟨g.line, tick, second, [], [], now, none, false⟩
  let o : OpenLine := { old with filled := old.filled ++ [(g.offset, g.samples)] }
  let o : OpenLine := { o with
    doneAt := if o.doneAt.isNone ∧ o.full (lineSamples pic) then some now else o.doneAt }
  { k with openLines := k.openLines.filter (fun q => !same q) ++ [o] }

/-- The samples of one pixel group of a picture. -/
def groupSamples (pic : Nat × Nat × Nat) : Nat := (pgroup pic.2.1 pic.2.2).2 * (if pic.2.1 = 0 then 2 else 3)

/-- A segment lies within the format of its flow: on an active line, in whole pixel groups (R159). -/
def segOk (pic : Nat × Nat × Nat) (g : RtpSeg) : Bool :=
  activeLine (fmtRaster pic.1) g.line && decide (g.offset + g.samples.length ≤ lineSamples pic)
    && g.offset % groupSamples pic == 0 && g.samples.length % groupSamples pic == 0

/-- The octets that segments carry. -/
def segOctets (pic : Nat × Nat × Nat) (gs : List RtpSeg) : Nat :=
  gs.foldl (fun k g => k + g.samples.length / groupSamples pic * (pgroup pic.2.1 pic.2.2).1) 0

/-- The samples of one packet of an audio flow entry. -/
def rxPacketSamples (im : List Byte) : Nat := (if byteAt im 55 = 0 then 6 else 48) * (if byteAt im 53 = 1 then 2 else 1)

/-- A packet's payload length fits PARAMS (R159): the extended sequence number, the row headers and the segments, in block packing
filled to 180 octets (PRESUMED, log 25), or the samples of an audio packet. -/
def rtpFits (im : List Byte) (pic : Nat × Nat × Nat) (p : RtpPkt) : Bool :=
  match byteAt im 0 with
  | 1 =>
    let head := 2 + 6 * p.segs.length
    let body := segOctets pic p.segs
    if byteAt im 55 = 0 then p.octets == head + body
    else decide (head + body ≤ p.octets) && (p.octets - head) % 180 == 0
  | 2 => p.audio.length == rxPacketSamples im && p.audio.all (fun r => r.length == byteAt im 52)
      && p.octets == p.audio.length * byteAt im 52 * (byteAt im 54 / 8)
  | 3 => p.audio.length == rxPacketSamples im && p.audio.all (fun r => r.length == byteAt im 52)
      && p.octets == p.audio.length * byteAt im 52 * 4
  | 5 => p.media.length == mediaOctets
  | _ => true

/-- A difference of RTP timestamps, signed, modulo 2^32 units of `u`. -/
def rtpGap (a b u : Nat) : Int :=
  let m := 4294967296 * u
  let d := (a % m + m - b % m) % m
  if 2 * d < m then (d : Int) else (d : Int) - m

/-- The instant on the window clock at which a time base reads a 90 kHz timestamp, in twelfths of a nanosecond. -/
def State.videoInstant (s : State) (tb ts : Nat) : Int :=
  (s.clk : Int) + rtpGap (ts * 400000) (3 * ((s.base tb).time * 12 / 4294967296)) 400000 / 3

/-- The frame that a video packet's timestamp names: the one that starts no more than three quarters of a frame before it and a
quarter after it, which takes in the second field (R159; DESIGN CHOICE, log 114). -/
def State.rtpFrame (s : State) (n fmt tb ts : Nat) : Nat × Bool :=
  let d := s.dom (s.source n).td
  let p := ratePeriod (fmtRate fmt)
  let k := (s.videoInstant tb ts - d.last + p / 4) / p
  if rateDouble (fmtRate fmt) (d.rate.getD 8) then (((d.count : Int) + k / 2).toNat, k % 2 == 1)
  else (((d.count : Int) + k).toNat, false)

/-- A source that carries packets on an entry is judged with the format they declare (R148, DEDUCED, log 21). -/
def State.packetSource (s : State) (n : Nat) (f : RxFlow) : State :=
  let k := s.source n
  let t := s.setSource n (if f.leg = 0 then { k with legA := some s.clk } else { k with legB := some s.clk })
  if f.kind = 1 ∧ k.kind = 3
      ∧ (k.state = .noSignal ∨ k.state = .mismatch ∨ (k.lastFmt, k.sampling, k.depth) ≠ f.pic) then
    t.takeFormat n f.pic 10
  else t

/-- Places the segments of a video packet; those of a closed line are late (R161). -/
def State.placeVideo (s : State) (idx n : Nat) (pic : Nat × Nat × Nat) (p : RtpPkt) : State :=
  let k := s.source n
  let at' := s.rtpFrame n pic.1 (byteAt (s.rxFlow idx).image 50) p.ts
  let late := p.segs.any (fun g => k.isClosed at'.1 at'.2 g.line)
  let k' := (p.segs.filter (fun g => !k.isClosed at'.1 at'.2 g.line)).foldl
    (fun q g => q.place pic (rateDouble (fmtRate pic.1) ((s.dom k.td).rate.getD 8)) at'.1 at'.2 s.clk g) k
  let t := s.setSource n k'
  if late then t.updRxFlow idx (fun f => { f with late := satAdd 4294967295 f.late 1 }) else t

/-- Ancillary packets of a kind 4 flow wait for their line; one whose line has closed is late (R167). -/
def State.placeAnc (s : State) (idx n : Nat) (p : RtpPkt) : State :=
  let k := s.source n
  let at' := s.rtpFrame n (((s.srcPic n).map (fun q => q.1)).getD 0) (byteAt (s.rxFlow idx).image 50) p.ts
  let gone := fun a : AncPacket => a.line != 0 && k.isClosed at'.1 at'.2 a.line && !k.classF
  let t := s.setSource n { k with
    ancWaiting := k.ancWaiting ++ (p.anc.filter (fun a => !gone a)).map (fun a => (at'.1, at'.2, a)) }
  if p.anc.any gone then t.updRxFlow idx (fun f => { f with late := satAdd 4294967295 f.late 1 }) else t

/-- Samples a second of a receive flow entry. -/
def rxRate (im : List Byte) : Nat := if byteAt im 53 = 1 then 96000 else 48000

/-- The media time of the sample of an entry that enters Bramble at an instant of the window clock: the reading of TB less
LINK_OFFSET, in samples, each in 12 x 10^9 parts (R165). -/
def State.mediaParts (s : State) (im : List Byte) (clk : Nat) : Int :=
  (((s.base (byteAt im 50)).time * 12 / 4294967296 : Nat) - (s.clk : Int) + clk) * rxRate im - le16 im 56 * 12000000000

/-- The timestamp of that sample. -/
def State.mediaTs (s : State) (im : List Byte) (clk : Nat) : Nat :=
  (s.mediaParts im clk / 12000000000 % 4294967296).toNat

/-- The sample of a timestamp has entered Bramble. -/
def State.entered (s : State) (im : List Byte) (ts : Nat) : Bool := decide (0 ≤ rtpGap (s.mediaTs im s.clk) ts 1)

/-- Places the samples of an audio packet by their timestamps, those of 16 bits in the upper 16 (R275); a packet whose samples have all entered Bramble is late (R165). -/
def State.placeAudio (s : State) (idx af : Nat) (p : RtpPkt) : State :=
  let up := if byteAt (s.rxFlow idx).image 54 = 16 then 256 else 1
  let mine := p.audio.zipIdx.map (fun q => ((p.ts + q.2) % 4294967296, q.1.map (fun v => v * up)))
  let live := mine.filter (fun q => !s.entered (s.rxFlow idx).image q.1)
  let t : State := { s with au := { s.au with flows := Tbl.set [] s.au.flows af (Tbl.get [] s.au.flows af ++ live) } }
  if live.isEmpty then t.updRxFlow idx (fun g => { g with late := satAdd 4294967295 g.late 1 }) else t

/-- A datagram of ST 2022-6 joins the SDI stream of its source (R164): as many are kept as two frames of the largest signal have. -/
def State.placeMedia (s : State) (n : Nat) (p : RtpPkt) : State :=
  s.updSource n (fun k => { k with
    dgrams := ((p.seq % 65536, p.media) :: k.dgrams).take 9000
    anchor := if p.marker then some ((p.seq + 1) % 65536) else k.anchor })

/-- A packet that matched an entry (R154, R159 to R165). -/
def State.mediaPacket (s : State) (idx : Nat) (p : RtpPkt) : State :=
  let f := s.rxFlow idx
  let n := f.target
  let gap := match f.lastSeq with
    | some q => decide (p.seq ≠ (q + 1) % f.seqRange)
    | none => false
  let f1 := { f with
    pkts := satAdd 18446744073709551615 f.pkts 1
    lastRx := s.nowNs
    lastSeq := some p.seq
    seqGaps := if gap then satAdd 4294967295 f.seqGaps 1 else f.seqGaps }
  let t := s.setRxFlow idx f1
  let t := if f.kind = 1 ∨ f.kind = 5 then t.packetSource n f else t
  let key := f.packetKey p
  if !rtpFits f.image f.pic p || (f.kind == 1 && p.segs.any (fun g => !segOk f.pic g)) then
    t.setRxFlow idx { f1 with malformed := satAdd 4294967295 f.malformed 1 }
  else if s.seenPacket f key then t.setRxFlow idx { f1 with dups := satAdd 4294967295 f.dups 1 }
  else
    let t := t.usePacket f key
    if f.kind = 1 then t.placeVideo idx n f.pic p
    else if f.kind = 4 then t.placeAnc idx n p
    else if f.kind = 2 ∨ f.kind = 3 then t.placeAudio idx n p
    else t.placeMedia n p

/-! ## LINE_CLOSE, LEG_TIMEOUT -/

/-- The sample at a position of an open line: the first copy that arrived. -/
def OpenLine.sampleAt (o : OpenLine) (i : Nat) : Option Nat :=
  match o.filled.find? (fun q => decide (q.1 ≤ i ∧ i < q.1 + q.2.length)) with
  | some q => q.2[i - q.1]?
  | none => none

/-- The samples of a closed line: empty positions are concealed (R161); the lines of blanking are black. -/
def State.closeSamples (s : State) (n : Nat) (o : OpenLine) (pic : Nat × Nat × Nat) : List Nat :=
  if activeLine (fmtRaster pic.1) o.line then (range 0 (lineSamples pic)).map (s.conceal n o.line pic o.sampleAt)
  else blackLine pic.1 pic.2.1 pic.2.2

/-- The place of a line in the order of lines: across frames, from 1 in each. -/
def State.linePos (s : State) (n fmt tick : Nat) (second : Bool) (line : Nat) : Nat :=
  frameNumber fmt (s.dom (s.source n).td) tick second * rasterLines (fmtRaster fmt) + line

/-- The places of the open lines of a source. -/
def State.openPos (s : State) (n fmt : Nat) : List Nat :=
  (s.source n).openLines.map (fun o => s.linePos n fmt o.tick o.second o.line)

/-- The latest place of which a packet has come, or which has closed. -/
def State.lastPos (s : State) (n fmt : Nat) : Nat :=
  (s.openPos n fmt).foldl max (match (s.source n).closed with
    | some (t, h, l) => s.linePos n fmt t h l
    | none => 0)

/-- The place from which lines are missing: the last closed, for class F the first of the frame before its frame, else the first line
of which a packet came. -/
def State.firstPos (s : State) (n fmt : Nat) : Option Nat :=
  match (s.source n).closed with
  | some (t, h, l) => some (if (s.source n).classF then s.linePos n fmt (t - 1) h 0 else s.linePos n fmt t h l)
  | none =>
    (match s.openPos n fmt with
     | [] => none
     | p :: ps => some (ps.foldl min p))

/-- The frame before a frame: its tick and which frame of the tick. -/
def frameBefore (double : Bool) (tick : Nat) (second : Bool) : Nat × Bool :=
  if second then (tick, false) else (tick - 1, double)

/-- The frame of the latest packet of a source, or of the last line closed. -/
def Source.lastFrame (k : Source) : Nat × Bool :=
  match k.openLines.getLast?, k.closed with
  | some o, _ => (o.tick, o.second)
  | none, some (t, h, _) => (t, h)
  | none, none => (0, false)

/-- The last active line of a frame of class F closes now or has closed: its first packet is one frame period old or the line two lines
later has come, or none of its packets has come and later lines have. -/
def State.frameOver (s : State) (n fmt : Nat) (g : Nat × Bool) : Bool :=
  let last := lastActive (fmtRaster fmt)
  match (s.source n).openLines.find? (fun o => o.line == last && o.tick == g.1 && o.second == g.2) with
  | some o => o.past || decide (o.opened + ratePeriod (fmtRate fmt) ≤ s.clk)
  | none => decide (s.linePos n fmt g.1 g.2 last + 2 ≤ s.lastPos n fmt) || (s.source n).shut.contains (g.1, g.2, last)

/-- A line of which no packet has come (R160, R161), in the frame of the latest line due or received, or in the one before it; of
no line before those received so far. One of class F waits for the other leg until the last line of its frame closes (R163; DEDUCED,
log 139). -/
def State.missingLine (s : State) (n fmt line : Nat) : Option OpenLine :=
  let k := s.source n
  let double := rateDouble (fmtRate fmt) ((s.dom k.td).rate.getD 8)
  let q := s.lineDue n fmt
  let f := if k.classF then k.lastFrame else (q.1, q.2.1)
  let past := fun (g : Nat × Bool) =>
    if k.classF then s.frameOver n fmt g && !k.isClosed g.1 g.2 line
    else decide (s.linePos n fmt g.1 g.2 line ≤ s.linePos n fmt q.1 q.2.1 q.2.2)
  let before := frameBefore double f.1 f.2
  let g := if (if k.classF then past before else !past f) then before else f
  match s.firstPos n fmt with
  | some p =>
    if decide (p < s.linePos n fmt g.1 g.2 line) && past g && decide (1 ≤ line ∧ line ≤ rasterLines (fmtRaster fmt)) then
      some ⟨line, g.1, g.2, [], [], s.clk, none, false⟩
    else none
  | none => none

/-- The line that a LINE_CLOSE closes: one of which packets came, else a missing one. -/
def State.closing (s : State) (n fmt line : Nat) : Option OpenLine :=
  match (s.source n).openLines.find? (fun o => o.line == line) with
  | some o => some o
  | none => if (s.source n).kind = 3 ∧ (s.source n).state = .valid then s.missingLine n fmt line else none

/-- A line of a packet source closes at its release instant, or for class F when the first packet of the line two lines later has
arrived after its own, or one frame period after its own first packet, whichever is earlier; one without a packet with its frame (R160,
R163). -/
def State.closeDue (s : State) (n : Nat) (o : OpenLine) (pic : Nat × Nat × Nat) : Bool :=
  if (s.source n).classF then
    if o.filled.isEmpty then s.frameOver n pic.1 (o.tick, o.second)
    else o.past
      || decide (o.opened + ratePeriod (fmtRate pic.1) ≤ s.clk)
  else decide (s.releaseAt n pic.1 o.line o.tick o.second ≤ s.clk)

/-- LINE_CLOSE (R160, R161, R167, R173): the line goes on as one that arrived a line period before the packet that
completed it; a concealed line stands in its window, and so does a line of blanking, which carries packets only. Packets of no line
wait for a line that the source itself delivers. -/
def execLineClose (src line : Nat) (s : State) : Host.Outcome State Fault Refusal :=
  let k := s.source src
  match (s.srcPic src).bind (fun pic => (s.closing src pic.1 line).map (fun o => (o, pic))) with
  | some (o, pic) =>
    if src < 1024 ∧ s.closeDue src o pic then
      let samples := s.closeSamples src o pic
      let active := activeLine (fmtRaster pic.1) line
      let arrival : Int := match o.doneAt with
        | some d => (d : Int) - linePeriod pic.1
        | none => s.nominal src pic.1 line o.tick o.second
      let shown := k.state = .valid ∧ (k.classF ∨ s.inWindow src pic.1 line o.tick o.second arrival)
      let mine := fun (a : Nat × Bool × AncPacket) =>
        if a.2.2.line = 0 then decide shown else a.1 == o.tick && a.2.1 == o.second && a.2.2.line == line
      let anc := (k.ancWaiting.filter mine).map (fun a => { a.2.2 with line := line })
      let t := s.drawFree.setSource src { k with
        openLines := k.openLines.filter (fun q => q != o)
        closed := some (o.tick, o.second, line)
        shut := if k.classF then ((o.tick, o.second, line) :: k.shut).take 4500 else k.shut
        concealed := if o.doneAt.isNone && active then satAdd 65535 k.concealed 1 else k.concealed
        prevFrame := if active then (line, samples) :: k.prevFrame.filter (fun q => q.1 != line) else k.prevFrame
        ancWaiting := k.ancWaiting.filter (fun a => !mine a) }
      .next (if k.state = .valid then t.sourceLine src line o.tick o.second arrival o.doneAt.isSome pic samples anc else t)
    else .next s
  | none => .next s

/-- LEG_TIMEOUT: a leg without a packet for two frame periods is no longer healthy; the state changes only when no leg is
left (R163; NO_SIGNAL then DEDUCED, log 21). -/
def execLegTimeout (src leg : Nat) (s : State) : Host.Outcome State Fault Refusal :=
  let k := s.source src
  let last := if leg = 0 then k.legA else k.legB
  match last with
  | some t =>
    if decide (src < 1024) && s.passed t (2 * ratePeriod (fmtRate (s.shownFormat src).1)) then
      let k' := if leg = 0 then { k with legA := none } else { k with legB := none }
      let u := s.setSource src k'
      .next (if k'.legA.isNone ∧ k'.legB.isNone ∧ k.kind = 3 then u.noSignal src else u)
    else .next s
  | none => .next s

end Sys2Proof.Machine
end

