-- ==== Sys2Proof/Machine/FrameStore.lean ====
section
/-! DEFINITION. The frame store's read-outs and stacks (chapter 07 R187 to R197, 14 R398). -/
namespace Sys2Proof.Machine

/-! ## Read-outs -/

/-- The read-out of a source in a domain. -/
def State.readout? (s : State) (src td : Nat) : Option Readout :=
  s.readouts.find? (fun r => r.src == src && r.td == td && !r.tail)

/-- Changes the read-out of a source in a domain, or with `tail` what it still delivers of an earlier frame. -/
def State.updReads (s : State) (tail : Bool) (src td : Nat) (f : Readout → Readout) : State :=
  { s with readouts := s.readouts.map (fun r => if r.src == src && r.td == td && r.tail == tail then f r else r) }

/-- Changes the read-out of a source in a domain. -/
def State.updReadout (s : State) (src td : Nat) (f : Readout → Readout) : State := s.updReads false src td f

/-- The picture of the frame a read-out delivers (R190, R191). -/
def State.readPic (s : State) (r : Readout) : Option (Nat × Nat × Nat) :=
  match r.frame with
  | some f => some (f.fmt, f.sampling, f.depth)
  | none => s.blackPic r.src

/-- A read-out has lines of its frame left to deliver. -/
def State.readsOn (s : State) (r : Readout) : Bool :=
  match s.readPic r with
  | some p => r.lastTick.isSome && decide (r.lastLine < rasterLines (fmtRaster p.1))
  | none => false

/-- The rest of the frame in work of a read-out goes on as its tail (R187). -/
def State.leaveTail (s : State) (r : Readout) : State :=
  let rest := s.readouts.filter (fun q => !(q.tail && q.src == r.src && q.td == r.td))
  { s with readouts := if s.readsOn r then rest ++ [{ r with tail := true }] else rest }

/-- A source has stopped writing under R152: it is in none of VALID and BUDGET_HOLD. -/
def State.stopped (s : State) (n : Nat) : Bool :=
  decide ((s.source n).state ≠ .valid ∧ (s.source n).state ≠ .budgetHold)

/-- The frames of a source complete before an instant. -/
def Ring.before (r : Ring) (at' : Nat) : List StoredFrame := r.frames.filter (fun f => decide (f.doneAt < at'))

/-- The frame a read-out chooses at its frame start D (R188): none when it must repeat, else the frame with the number of
frames dropped. -/
def Ring.choose (r : Ring) (now : Option StoredFrame) (at' : Nat) (lines4 : Nat) : Option (StoredFrame × Nat) :=
  let done := r.before at'
  match now, done.getLast? with
  | none, n => n.map (fun f => (f, 0))
  | some _, none => none
  | some p, some n =>
    let at1 := done.find? (fun f => f.idx == p.idx + 1)
    let at2 := r.frames.find? (fun f => f.idx == p.idx + 2 && decide (f.doneAt + lines4 ≤ at'))
    if n.idx ≤ p.idx then none
    else if at2.isSome then some (n, n.idx - p.idx - 1)
    else match at1 with
      | some f => some (f, 0)
      | none => some (n, n.idx - p.idx - 1)

/-- The latest frame start of a format in a domain: its tick, which frame of the tick, and its instant. -/
def State.frameStart (s : State) (td fmt : Nat) : Nat × Bool × Nat :=
  let d := s.dom td
  let half := d.last + d.period / 2
  if rateDouble (fmtRate fmt) (d.rate.getD 8) && decide (half ≤ s.clk) then (d.count, true, half)
  else (d.count, false, d.last)

/-- The frame that a mirrored choice names: 0 repeats, k + 1 drops k frames (R364); none repeats. -/
def Ring.told (r : Ring) (p : StoredFrame) (choice : Nat) : Option (StoredFrame × Nat) :=
  if choice = 0 then none else (r.frames.find? (fun f => f.idx == p.idx + choice)).map (fun f => (f, choice - 1))

/-- What a read-out chooses at a frame start: on a standby, a frozen one too (14 R393), what the active chose for the same source and domain, where
that has been told (R188, R364). -/
def State.readoutChoice (s : State) (r : Readout) (at' : Nat) : Option (StoredFrame × Nat) :=
  let fmt := ((s.srcPic r.src).map (fun p => p.1)).getD 0
  let own := (s.ring r.src).choose r.frame at' (4 * linePeriod fmt)
  let told := if s.pr.followed then s.pr.choices.find? (fun c => c.1 == r.src && c.2.1 == r.td) else none
  match told, r.frame with
  | some c, some p => (s.ring r.src).told p c.2.2
  | _, _ => own

/-- The active sends each choice over the pairing link; a standby has used the one it was told (R364). -/
def State.passChoice (s : State) (src td choice : Nat) : State :=
  if s.pr.state = .active ∧ s.pairUp then
    s.sendItem (.readout src td choice)
  else if s.pr.followed then
    { s with pr := { s.pr with choices := s.pr.choices.eraseP (fun c => c.1 == src && c.2.1 == td) } }
  else s

/-- A read-out takes its choice at a frame start (R188, R190, R192, R364). -/
def State.readoutTake (s : State) (src td : Nat) (tick : Nat) (second : Bool) (at' : Nat) : State :=
  match s.readout? src td with
  | none => s
  | some r =>
    let c := s.readoutChoice r at'
    let t := (s.leaveTail r).updReadout src td (fun r =>
      let r := { r with frameStart := at', lastTick := some (tick, second), lastLine := 0, badRead := false }
      match c with
      | some (f, d) => { r with frame := some f, drops := r.drops + d, repeats := 0, black := false }
      | none => { r with repeats := if s.stopped src && r.frame.isSome then r.repeats + 1 else r.repeats })
    t.passChoice src td ((c.map (fun q => q.2 + 1)).getD 0)

/-- READOUT_FRAME_START: the first at the tick of the take that created the read-out (R187, R188). -/
def execReadoutFrameStart (src td : Nat) (s : State) : Host.Outcome State Fault Refusal :=
  match s.readout? src td, s.srcPic src with
  | some r, some pic =>
    let q := s.frameStart td pic.1
    if (s.dom td).started ∧ r.frameStart < q.2.2 ∧ r.startTick ≤ q.1 then .next (s.readoutTake src td q.1 q.2.1 q.2.2) else .next s
  | _, _ => .next s

/-- LOSS_HOLD_EXPIRY: after LOSS_HOLD repeats of a source that has stopped writing the read-out delivers black (R190). -/
def execLossHoldExpiry (src td : Nat) (s : State) : Host.Outcome State Fault Refusal :=
  let hold := (s.source src).lossHold
  match s.readout? src td with
  | some r =>
    if s.stopped src && decide (hold < r.repeats) && hold != 65535 then
      .next (s.updReadout src td (fun r => { r with black := true }))
    else .next s
  | none => .next s

/-- Reads of a row of a stored frame go to the second stack of its pair: they alternate in blocks of 4 KiB while both serve (R179; the
address of a row is DESIGN CHOICE, log 116). -/
def State.readsSecond (s : State) (pair : Nat) (f : StoredFrame) (line : Nat) : Bool :=
  let row := (rasterActive (fmtRaster f.fmt)).1 * (if f.sampling = 0 then 2 else 3) * f.depth / 8
  if (s.stack pair).serves && (s.stack (pair + 2)).serves then
    (f.slot * (frameBytes f.fmt f.sampling f.depth * 21 / 16) + row * pictureRow (fmtRaster f.fmt) line) / 4096 % 2 == 1
  else !(s.stack pair).serves

/-- The content of a read-out line (R190 to R192, R195): picture, samples and packets; none when it delivers nothing. LOSS_HOLD does
not apply in BUDGET_HOLD. -/
def State.readoutLine (s : State) (r : Readout) (line : Nat) :
    Option ((Nat × Nat × Nat) × List Nat × List AncPacket) :=
  let black := fun (p : Nat × Nat × Nat) => (p, blackLine p.1 p.2.1 p.2.2, ([] : List AncPacket))
  let lost := (s.stack (s.ring r.src).pair).state == 3
  match r.frame with
  | some f =>
    let pic := (f.fmt, f.sampling, f.depth)
    if (r.black && (s.source r.src).state != .budgetHold) || lost then some (black pic)
    else if r.badRead then
      (match r.last with
       | some w => some ((w.fmt, w.sampling, w.depth), w.samples, w.anc)
       | none => some (black pic))
    else
      (match f.lines.find? (fun l => l.hdr.line == line) with
       | some l =>
         let st := flag (s.readsSecond (s.ring r.src).pair f line)
         some (pic, if bit f.on st then l.samples else (black pic).2.1, if bit f.on (2 + st) then l.anc else [])
       | none => some (black pic))
  | none => (s.blackPic r.src).map black

/-- The release instant of a read-out line: D + (L - 1) x H + h + H (R187). -/
def readoutDue (start fmt line : Nat) : Nat := start + lineOffset fmt line + halfLine fmt + linePeriod fmt

/-- A line of a read-out with its header of the domain it is read in, when it is due (R15, R187). -/
def State.readDue (s : State) (r : Readout) (line : Nat) : Option FabLine :=
  match r.lastTick, s.readoutLine r line with
  | some (tick, second), some (pic, samples, anc) =>
    if decide (r.lastLine < line ∧ line ≤ rasterLines (fmtRaster pic.1))
        && decide (readoutDue r.frameStart pic.1 line ≤ s.clk) then
      some {
        hdr := {
          src := s.global r.src
          td := r.td
          parity := frameNumber pic.1 (s.dom r.td) tick second % 2
          line := line
          tick := tick % 16777216
          cls := (streamClass pic.1 pic.2.1 pic.2.2).getD 0 }
        fmt := pic.1
        sampling := pic.2.1
        depth := pic.2.2
        samples := samples
        anc := anc }
    else none
  | _, _ => none

/-- A read-out has its port: none that began before it there is still in force (R213). -/
def State.hasPort (s : State) (r : Readout) : Bool :=
  !s.readouts.any (fun q => !q.tail && q.port == r.port && decide (q.startTick < r.startTick) && q.td == r.td)

/-- The line of a read-out that is due: of the frame it is finishing, else of its present one. -/
def State.lineOfRead (s : State) (src td line : Nat) : Option (Readout × FabLine) :=
  let tail := s.readouts.find? (fun r => r.src == src && r.td == td && r.tail)
  let one := fun (r : Readout) => (s.readDue r line).map (fun l => (r, l))
  (tail.bind one) <|> (((s.readout? src td).filter s.hasPort).bind one)

/-- READOUT_LINE_RELEASE: a read-out line enters the fabric at its instant (R15, R187). -/
def execReadoutLineRelease (src td line : Nat) (s : State) : Host.Outcome State Fault Refusal :=
  match s.lineOfRead src td line with
  | some (r, l) =>
    let t := s.updReads r.tail src td (fun q => { q with lastLine := line, badRead := false, last := some l })
    let t := if r.tail then t.updReadout src td (fun q => { q with last := some l }) else t
    let t : State := { t with readouts := t.readouts.filter (fun q => !q.tail || t.readsOn q) }
    .next { t with inPorts := Tbl.set none t.inPorts r.port (some l) }
  | none => .next s

/-! ## Stacks (R195 to R197, R398) -/

/-- An error found on a stack by a read-out or the scrub (R195, R398); a read-out reads the rest of a frame before the next one. -/
def State.hbmError (s : State) (st : Nat) (err : HbmError) : State :=
  match err with
  | .correctable =>
    (s.updStack st (fun k => { k with ce := satAdd 65535 k.ce 1 })).strike (24 + 4 * st) st
  | .oneCopy =>
    ((s.updStack st (fun k => { k with ue := satAdd 255 k.ue 1 })).strike (25 + 4 * st) st).mirrorSwitch st
  | .controller => (s.strike (26 + 4 * st) st).mirrorSwitch st
  | .noCopy src td =>
    ((s.updStack st (fun k => { k with ue := satAdd 255 k.ue 1 })).strike (27 + 4 * st) st).updReads
      (s.readouts.any (fun r => r.src == src && r.td == td && r.tail)) src td (fun r => { r with badRead := true })
  | .noScaled e tile row =>
    (((s.updStack st (fun k => { k with ue := satAdd 255 k.ue 1 })).strike (27 + 4 * st) st).updEngine e
      (fun g => { g with badRows := g.badRows ++ [(tile, row)] })).mqKeep e

/-- HBM_READ_ERROR (R195). -/
def execHbmReadError (stack : Nat) (err : HbmError) (s : State) : Host.Outcome State Fault Refusal :=
  if stack < 4 then .next (s.hbmError stack err) else .next s

/-- The rings of a stack's pair have each completed three frames since the test (R196). -/
def State.ringsBack (s : State) (stack : Nat) : Bool :=
  s.rings.all (fun p => !p.2.used || p.2.pair != stack % 2 || decide (3 ≤ p.2.since))

/-- A rejoining stack has been copied to: 3.125 GB at up to 100 GB/s take 31.25 ms (R196). -/
def State.copied (s : State) (stack : Nat) : Bool :=
  match (s.stack stack).rejoinAt with
  | some t => s.passed t (tuUs 31250)
  | none => false

/-- The ancillary region of a pair is copied to a returning stack: the packets of every frame stored there stand in it (R196). -/
def State.copyPackets (s : State) (stack : Nat) : State :=
  let fill := fun (f : StoredFrame) => { f with on := f.on ||| 2 ^ (2 + stack / 2) }
  { s with
    rings := s.rings.map (fun p => if p.2.pair = stack % 2 then (p.1, { p.2 with frames := p.2.frames.map fill }) else p)
    readouts := s.readouts.map (fun r => if (s.ring r.src).pair = stack % 2 then { r with frame := r.frame.map fill } else r) }

/-- STACK_RETURN_COMPLETE: the regions of the pair have been copied, the stack is mirrored again and the causes of its faults end
(R196). -/
def execStackReturnComplete (stack : Nat) (s : State) : Host.Outcome State Fault Refusal :=
  if decide (stack < 4) && (s.stack stack).state == 2 && s.copied stack && s.ringsBack stack then
    .next (((((s.copyTo stack).copyPackets stack).updStack stack (fun k => { k with state := 0, rejoinAt := none })).fall (25 + 4 * stack)).fall
      (26 + 4 * stack))
  else .next s

/-- HBM_SCRUB: a location is read, corrected and written back; an error it finds drives its source (R398). -/
def execHbmScrub (stack : Nat) (err : Option HbmError) (s : State) : Host.Outcome State Fault Refusal :=
  if stack < 4 then
    let t := s.updStack stack (fun k => { k with scrubs := k.scrubs + 1 })
    match err with
    | some e => .next (t.hbmError stack e)
    | none => .next t
  else .next s

end Sys2Proof.Machine
end

