-- ==== Sys2Proof/Machine/Takes.lean ====
section
/-! DEFINITION. The rules of takes, protects, locks and salvos (chapter 08 R211 to R230): checks, read-out ports, ties, and
the commands XPT_TAKE, XPT_SALVO_LOAD, XPT_SALVO_FIRE, XPT_PROTECT, XPT_LOCK, XPT_QUERY. -/
namespace Sys2Proof.Machine

/-! ## The group (12 R322, R325, R328) -/

/-- Whether a device index is a member of the group; until DT_GROUP the group holds this device alone (R325). -/
def State.member (s : State) (dev : Nat) : Bool :=
  if s.group.set then bit s.group.members dev && decide (dev < 4) else dev == s.straps.groupIdx

/-- The link that R322 assigns to a member. -/
def State.linkTo (s : State) (dev : Nat) : Nat := s.linkAt dev

/-- A link is given to pairing (DT_GROUP PAIRLINKS). -/
def State.pairLink (s : State) (k : Nat) : Bool := bit s.group.pairLinks k

/-- A member is reachable while its link is UP (R325). -/
def State.reachable (s : State) (dev : Nat) : Bool :=
  (s.link (s.linkTo dev)).isUp && !s.pairLink (s.linkTo dev)

/-- A domain is group-aligned with a device (R327, R328). -/
def State.alignedWith (s : State) (dev d : Nat) : Bool := bit (s.link (s.linkTo dev)).aligned d

/-! ## Read-out ports and budget (R21, R213) -/

/-- A read-out counted against the ports and the budget: source, domain, input port. -/
abbrev ReadUse := Nat × Nat × Nat

/-- The share of a read-out of a source; a source without a ring counts nothing (R183). -/
def State.readShare (s : State) (n : Nat) : Nat := if (s.ring n).used then classShare (s.ring n).cls else 0

/-- Adds the read-out that a take of a class F source needs: the source port when the source has no other, else the lowest
read-out port free, within R21; none when it cannot be had (R213). -/
def State.addRead (s : State) (rs : List ReadUse) (g td : Nat) : Option (List ReadUse) :=
  match s.localOf g with
  | none => some rs
  | some n =>
    if (s.source n).classF = false ∨ rs.any (fun r => r.1 == n && r.2.1 == td) then some rs
    else
      let port := if rs.any (fun r => r.1 == n) then firstFrom (fun p => !rs.any (fun r => r.2.2 == p)) 1024 256
        else some n
      let sum := rs.foldl (fun k r => k + s.readShare r.1) 0 + s.readShare n
      match port with
      | some p => if sum ≤ 20480 then some (rs ++ [(n, td, p)]) else none
      | none => none

/-- The read-outs in force. -/
def State.readsNow (s : State) : List ReadUse :=
  (s.readouts.filter (fun r => !r.tail)).map (fun r => (r.src, r.td, r.port))

/-- Adds what a list of takes would create, leaving out any that cannot be had. -/
def State.addReads (s : State) (rs : List ReadUse) : List (Nat × Nat) → List ReadUse
  | [] => rs
  | (g, td) :: rest => s.addReads ((s.addRead rs g td).getD rs) rest

/-- The takes of staged work with a cutoff no later than an instant, in allotment order. -/
def State.stagedTakes (s : State) (cut : Nat) : List (Nat × Nat) :=
  (s.bx.staged.filter (fun w => decide (s.cutoffOf w.td w.tick ≤ cut))).flatMap (fun w =>
    w.entries.filterMap (fun e => match e with
      | .take _ src => some (src, w.td)
      | _ => none))

/-- The tick a command will be judged for. -/
def State.targetTick (s : State) (x : Ctx) : Nat :=
  match s.assign x with
  | .ok q => q.1
  | .error _ => (s.dom x.cmd.td).windowTick x.stamp

/-- Takes of (source, domain) cannot all have the read-outs they need (R211 step 7). -/
def State.readsLack (s : State) (x : Ctx) (takes : List (Nat × Nat)) : Bool :=
  let base := s.addReads s.readsNow (s.stagedTakes (s.cutoffOf x.cmd.td (s.targetTick x)))
  (takes.foldl (fun (o : Option (List ReadUse)) q => o.bind (fun rs => s.addRead rs q.1 q.2)) (some base)).isNone

/-! ## The checks of R211 -/

/-! ## What is known of a source (R211 step 3, R329) -/

/-- What the member that has it has told of a remote source (log 22). -/
def State.remote? (s : State) (g : Nat) : Option RemoteSource :=
  (s.link (s.linkTo (g / 1024))).sources.find? (fun r => r.src == g)

/-- The class of a source, F or T, with its domain and that domain's rate: of a bound local one, or of a remote one as told. -/
def State.classOf (s : State) (g : Nat) : Option (Bool × Nat × Option Nat) :=
  match s.localOf g with
  | some n =>
    let k := s.source n
    if g < 4096 ∧ k.kind ≠ 0 then some (k.classF, k.td, (s.dom k.td).rate) else none
  | none => if s.isRemote g then (s.remote? g).map (fun r => (r.classF, r.td, r.rate)) else none

/-- A class T source belongs to a domain other than `td`. -/
def State.otherDomain (s : State) (g td : Nat) : Bool :=
  match s.classOf g with
  | some (false, d, _) => d != td
  | _ => false

/-- A class F source belongs to a domain of another tick rate than `td`'s (R172). -/
def State.otherRate (s : State) (g td : Nat) : Bool :=
  match s.classOf g with
  | some (true, _, r) => r != (s.dom td).rate
  | _ => false

/-- The share of a remote source, in quarters of a Gb/s; a whole port's while it is not known. -/
def State.remoteShare (s : State) (g : Nat) : Nat := ((s.remote? g).map (fun r => r.share)).getD 40

/-- The first port of a list of shares that has room for one more tie: at most four and 40 quarters of a Gb/s (R329). -/
def packTie (ports : List (List Nat)) (share : Nat) : Option (List (List Nat)) :=
  match ports with
  | [] => none
  | p :: rest =>
    if p.length < 4 ∧ p.foldl (· + ·) 0 + share ≤ 40 then some ((p ++ [share]) :: rest)
    else (packTie rest share).map (fun r => p :: r)

/-- The shares on each port of the link to a device as its ties to this device leave them: confirmed ones on their arrival
ports, the others where they fit. -/
def State.tiePorts (s : State) (dev : Nat) : Option (List (List Nat)) :=
  let k := s.linkTo dev
  let mine := s.ties.filter (fun t => t.dev == dev)
  let ports := (range (1280 + 320 * k) (if (s.link k).state = .up112 then 320 else 160)).map (fun p =>
    (mine.filter (fun t => t.confirmed && t.port == p)).map (fun t => s.remoteShare t.src))
  (mine.filter (fun t => !t.confirmed)).foldl (fun o t => o.bind (fun ps => packTie ps (s.remoteShare t.src))) (some ports)

/-- A tie that takes of (source, domain) would need cannot be had: its link has no room for it (R211 step 7, R329). -/
def State.tiesLack (s : State) (takes : List (Nat × Nat)) : Bool :=
  let new := (takes.filter (fun q => s.isRemote q.1 && (s.tie? q.1 q.2).isNone)).eraseDups
  (new.map (fun q => q.1 / 1024)).eraseDups.any (fun dev =>
    ((new.filter (fun q => q.1 / 1024 == dev)).foldl (fun o q => o.bind (fun ps => packTie ps (s.remoteShare q.1)))
      (s.tiePorts dev)).isNone)

/-- The checks of R211 steps 1 to 6 for one take, with the offsets that their BAD_ARGs report. -/
def takeChecks (s : State) (dst src td sess oDst oSrc oTd : Nat) : List Check :=
  let d := s.dest dst
  let o := s.out dst
  let n := s.localOf src
  let k := match n with
    | some m => s.source m
    | none => {}
  let loc := n.isSome && decide (src < 4096)
  [badIf (decide (1024 ≤ dst)) oDst,
   badIf (decide (4096 ≤ src) && src != 0xFFFF) oSrc,
   badIf (decide (src < 4096) && !s.member (src / 1024)) oSrc,
   badIf (d.kind != 0 && d.td != td) oTd,
   badIf (s.otherDomain src td) oSrc,
   badIf (s.otherRate src td) oSrc,
   (d.kind == 0, repBadState),
   (loc && k.kind == 0, repBadState),
   (!(s.dom td).hasTicks, repBadState),
   (s.isRemote src && !s.alignedWith (src / 1024) td && s.reachable (src / 1024), repBadState),
   (o.lock.isSome, repLocked (o.lock.getD 0)),
   (o.protect.isSome && o.protect != some sess, repProtected (o.protect.getD 0)),
   (s.isRemote src && !s.reachable (src / 1024), repUnreachable (src / 1024))]

/-! ## XPT_TAKE -/

/-- XPT_TAKE (R211 to R214, R226). -/
def cmdXptTake : CmdSpec where
  opcode := 0x0501
  role := .operator
  ptr := .never
  checks := fun s x =>
    let c := x.cmd
    (takeChecks s (c.u16 16) (c.u16 18) c.td x.sess 16 18 6).take 3 ++ [reserved c 20 64]
      ++ (takeChecks s (c.u16 16) (c.u16 18) c.td x.sess 16 18 6).drop 3
      ++ [(s.readsLack x [(c.u16 18, c.td)] || s.tiesLack [(c.u16 18, c.td)], repNoResource)]
  effect := .tick (fun _ x => [(x.cmd.td, [.take (x.cmd.u16 16) (x.cmd.u16 18)])])
    (fun s _ => s)

/-- XPT_TAKE as a row. -/
def execXptTake (mb : Nat) (c : Cmd) (s : State) : Host.Outcome State Fault Refusal :=
  .next (runCommand cmdXptTake mb c s)

/-! ## Salvos -/

/-- The (DST, SRC) pairs of a salvo buffer. -/
def salvoEntries (bs : List Byte) : List (Nat × Nat) :=
  (range 0 (bs.length / 4)).map (fun i => (le16 bs (4 * i), le16 bs (4 * i + 2)))

/-- The first entry of a salvo that names the destination of an earlier one. -/
def repeatedAt : List (Nat × Nat) → List Nat → Nat → Option Nat
  | [], _, _ => none
  | e :: es, seen, i => if seen.contains e.1 then some i else repeatedAt es (e.1 :: seen) (i + 1)

/-- XPT_SALVO_LOAD (R220). -/
def cmdXptSalvoLoad : CmdSpec where
  opcode := 0x0502
  role := .operator
  ptr := .must (fun n => decide (n % 4 = 0 ∧ n ≤ 4096))
  checks := fun s x =>
    let es := salvoEntries x.buf
    reserved x.cmd 29 64 ::
      (es.zipIdx.flatMap (fun q =>
        [badBufIf (decide (1024 ≤ q.1.1)) (4 * q.2),
         badBufIf (q.1.2 != 0xFFFF && (decide (4096 ≤ q.1.2) || !s.member (q.1.2 / 1024))) (4 * q.2 + 2)])
      ++ [((repeatedAt es [] 0).isSome, repBadBuf (4 * (repeatedAt es [] 0).getD 0))])
  effect := .atOnce fun s x =>
    (s.setSalvo (x.cmd.u8 28) { loaded := true, entries := salvoEntries x.buf }, repDone [])

/-- XPT_SALVO_LOAD as a row. -/
def execXptSalvoLoad (mb : Nat) (c : Cmd) (s : State) : Host.Outcome State Fault Refusal :=
  .next (runCommand cmdXptSalvoLoad mb c s)

/-- The first refusal of several lists of checks: the earliest check in order, then the first list (R224; log 23). -/
def firstOf (ls : List (List Check)) : Option Rep :=
  (range 0 16).foldl (fun (r : Option Rep) k =>
    match r with
    | some q => some q
    | none => firstFail (ls.filterMap (fun l => l[k]?))) none

/-- A refusal for a lock or a protect, which SKIP_HELD skips (R224). -/
def Rep.isHeld (r : Rep) : Bool := r.status == 0x14 || r.status == 0x19

/-- The first of an entry's checks that refuses it is for a lock or a protect. -/
def heldFirst (l : List Check) : Bool := (firstFail l).any Rep.isHeld

/-- The checks of R211 for one entry of a salvo. -/
def State.entryChecks (s : State) (sess : Nat) (e : Nat × Nat) : List Check :=
  takeChecks s e.1 e.2 (s.dest e.1).td sess 16 16 16

/-- The entries of a salvo that are left to judge: with SKIP_HELD those that a lock or a protect refuses are skipped (R224). -/
def State.salvoLeft (s : State) (es : List (Nat × Nat)) (sess : Nat) (skip : Bool) : List (Nat × Nat) :=
  es.filter (fun e => !(skip && heldFirst (s.entryChecks sess e)))

/-- The refusal of a salvo's entries (R223, R224). -/
def State.salvoRefusal (s : State) (es : List (Nat × Nat)) (sess : Nat) (skip : Bool) : Option Rep :=
  firstOf ((s.salvoLeft es sess skip).map (s.entryChecks sess))

/-- The parts of a salvo: the entries of each domain (R52). -/
def State.salvoParts (s : State) (es : List (Nat × Nat)) : List (Nat × List Entry) :=
  ((range 0 8).map (fun d =>
    (d, (es.filter (fun e => (s.dest e.1).td == d)).map (fun e => Entry.take e.1 e.2)))).filter
      (fun q => !q.2.isEmpty)

/-- XPT_SALVO_FIRE (R52 to R54, R222 to R224). -/
def cmdXptSalvoFire : CmdSpec where
  opcode := 0x0503
  role := .operator
  ptr := .never
  checks := fun s x =>
    let k := s.salvo (x.cmd.u8 16)
    let r := s.salvoRefusal k.entries x.sess (bit (x.cmd.u8 17) 0)
    let left := s.salvoLeft k.entries x.sess (bit (x.cmd.u8 17) 0)
    [badIf (decide (2 ≤ x.cmd.u8 17)) 17, reserved x.cmd 18 64,
     (!k.loaded, repBadState),
     (r.isSome, r.getD repBadState),
     (s.readsLack x (left.map (fun e => (e.2, (s.dest e.1).td)))
        || s.tiesLack (left.map (fun e => (e.2, (s.dest e.1).td))), repNoResource)]
  effect := .tick (fun s x => s.salvoParts (s.salvo (x.cmd.u8 16)).entries)
    (fun s _ => s)

/-- XPT_SALVO_FIRE as a row. -/
def execXptSalvoFire (mb : Nat) (c : Cmd) (s : State) : Host.Outcome State Fault Refusal :=
  .next (runCommand cmdXptSalvoFire mb c s)

/-! ## Protect and lock -/

/-- The holder of a destination's protect, or of its lock when `lk`. -/
def State.holder (s : State) (lk : Bool) (dst : Nat) : Option Nat :=
  if lk then (s.out dst).lock else (s.out dst).protect

/-- The refusal of R217 and R218: held by another session, or a forced release without rank 0 and the engineering role. -/
def State.heldRefusal (s : State) (lk : Bool) (dst mode sess : Nat) (forced : Bool) : List Check :=
  let h := s.holder lk dst
  [(mode == 2 && !forced, repNotAuthority 1),
   (mode != 2 && h.isSome && h != some sess, if lk then repLocked (h.getD 0) else repProtected (h.getD 0))]

/-- The checks of XPT_PROTECT and XPT_LOCK (R217, R218, R622). -/
def holdChecks (lk : Bool) (s : State) (x : Ctx) : List Check :=
  let c := x.cmd
  let d := s.dest (c.u16 16)
  [badIf (decide (1024 ≤ c.u16 16)) 16, badIf (decide (3 ≤ c.u8 18)) 18, reserved c 19 64,
   badIf (d.kind != 0 && d.td != c.td) 6, (d.kind == 0, repBadState), (!(s.dom c.td).hasTicks, repBadState)]
  ++ s.heldRefusal lk (c.u16 16) (c.u8 18) x.sess (x.rank == 0 && bit x.roles 1)

/-- XPT_PROTECT (R215 to R219, R622). -/
def cmdXptProtect : CmdSpec where
  opcode := 0x0504
  role := .operator
  ptr := .never
  checks := holdChecks false
  effect := .tick (fun _ x => [(x.cmd.td, [.protect (x.cmd.u16 16) (x.cmd.u8 18)])]) (fun s _ => s)

/-- XPT_PROTECT as a row. -/
def execXptProtect (mb : Nat) (c : Cmd) (s : State) : Host.Outcome State Fault Refusal :=
  .next (runCommand cmdXptProtect mb c s)

/-- XPT_LOCK (R215 to R219, R622). -/
def cmdXptLock : CmdSpec where
  opcode := 0x0505
  role := .operator
  ptr := .never
  checks := holdChecks true
  effect := .tick (fun _ x => [(x.cmd.td, [.lock (x.cmd.u16 16) (x.cmd.u8 18)])]) (fun s _ => s)

/-- XPT_LOCK as a row. -/
def execXptLock (mb : Nat) (c : Cmd) (s : State) : Host.Outcome State Fault Refusal :=
  .next (runCommand cmdXptLock mb c s)

/-! ## XPT_QUERY -/

/-- The source an entry names, 0xFFFF for dark. -/
def XEntry.shown (e : XEntry) : Nat := if e.valid then e.src else 0xFFFF

/-- The planes' current entries differ, as an uncorrectable one does from the other, and plane A's cannot be reported: plane B's is
(R240). -/
def State.reportsB (s : State) (o : OutPort) : Bool :=
  (o.now false != o.now true || o.uncorr false) && !(s.planeA.state == .inService && !o.uncorr false)

/-- The result of XPT_QUERY (Table XPT_QUERY result). -/
def State.xptQuery (s : State) (dst : Nat) : List Byte :=
  let o := s.out dst
  let b := s.reportsB o
  let e := o.now b
  leBytes 2 e.shown
    ++ leBytes 2 (if o.pend then (o.next b).shown else 0xFFFE)
    ++ leBytes 1 e.setBy ++ leBytes 1 (o.protect.getD 0) ++ leBytes 1 (o.lock.getD 0)
    ++ leBytes 1 (flag o.protect.isSome + 2 * flag o.lock.isSome + 4 * flag o.trustB
        + 8 * flag (s.planeA.state == .inService) + 16 * flag (s.planeB.state == .inService)
        + 32 * flag o.pend + 64 * flag b)
    ++ leBytes 3 e.tick ++ leBytes 1 (if e.valid then e.path else 3) ++ leBytes 2 o.repeats ++ leBytes 2 o.failovers

/-- XPT_QUERY (R240): reading clears the destination's two counters. -/
def cmdXptQuery : CmdSpec where
  opcode := 0x0506
  role := .any
  ptr := .never
  checks := fun _ x => [badIf (decide (1024 ≤ x.cmd.u16 16)) 16, reserved x.cmd 18 64]
  effect := .atOnce fun s x =>
    (s.updOut (x.cmd.u16 16) (fun o => { o with repeats := 0, failovers := 0 }), repDone (s.xptQuery (x.cmd.u16 16)))

/-- XPT_QUERY as a row. -/
def execXptQuery (mb : Nat) (c : Cmd) (s : State) : Host.Outcome State Fault Refusal :=
  .next (runCommand cmdXptQuery mb c s)

end Sys2Proof.Machine
end

