-- ==== Sys2Proof/Machine/Planes.lean ====
section
/-! DEFINITION. Planes out of service and back (chapter 08 R235 to R239): PLANE_CONTROL, PLANE_STATUS and the events of a
plane's return. -/
namespace Sys2Proof.Machine

/-- The code of a plane's state (Table Plane states). -/
def PlaneState.code : PlaneState → Nat
  | .inService => 0
  | .offline => 1
  | .testing => 2
  | .loading => 3
  | .shadow => 4

/-- Fault source 12 follows the loss of plane redundancy (R236). -/
def State.planeFaults (s : State) : State :=
  s.level 12 (decide (s.planeA.state ≠ .inService) || decide (s.planeB.state ≠ .inService)) 0xFFFF

/-- A change of a plane's state. -/
def State.planeGo (s : State) (b : Bool) (goal : PlaneState) : State :=
  (s.setPlane b { s.plane b with
    state := goal
    shadowFrom := if goal = .shadow then some s.clk else none }).planeFaults

/-- TRUST of every output port is set to a plane (R236, R239). -/
def State.trustAll (s : State) (b : Bool) : State :=
  s.allOuts.foldl (fun t p => t.updOut p (fun o => { o with trustB := b, trustWas := b })) s

/-- Completes the PLANE_CONTROL commands in flight for a plane and an action. -/
def State.planeSettle (s : State) (b : Bool) (action : Nat) (r : Rep) : State :=
  { s with bx := { s.bx with flights := s.bx.flights.map (fun f =>
      if f.cmd.opcode == 0x0507 && f.cmd.u8 16 == flag b && f.cmd.u8 17 == action && f.reply.isNone
      then { f with reply := some r } else f) } }

/-- OFFLINE begins: TRUST moves to the other plane at every port; a plane already out stays, and one on its way back ends
its return (R236; log 24). -/
def State.planeOffline (s : State) (x : Ctx) (b : Bool) : State :=
  let s := s.updFlight x.id (fun f => { f with data := [flag b, 0] })
  match (s.plane b).state with
  | .inService => s.trustAll (!b)
  | .offline => s.settle x.id (repDone [])
  | .testing => s.settle x.id (repDone [])
  | .loading => ((s.planeSettle b 1 repBadState).planeGo b .offline).settle x.id (repDone [])
  | .shadow => ((s.planeSettle b 1 repBadState).planeGo b .offline).settle x.id (repDone [])

/-- The other plane is IN_SERVICE. -/
def State.otherIn (s : State) (b : Bool) : Bool := (s.plane (!b)).state == .inService

/-- The begin of PLANE_CONTROL: OP 0 takes a plane offline, OP 1 returns it, any other moves TRUST to it. -/
def State.planeControl (s : State) (x : Ctx) : State :=
  let b := x.cmd.u8 16 == 1
  if x.cmd.u8 17 = 0 then s.planeOffline x b
  else if x.cmd.u8 17 = 1 then (s.updFlight x.id (fun f => { f with data := [flag b, 1] })).planeGo b .loading
  else (s.trustAll b).settle x.id (repDone [])

/-- PLANE_CONTROL (R236, R238, R239). -/
def cmdPlaneControl : CmdSpec where
  opcode := 0x0507
  role := .engineering
  ptr := .never
  checks := fun s x =>
    let b := x.cmd.u8 16 == 1
    [badIf (decide (2 ≤ x.cmd.u8 16)) 16, badIf (decide (3 ≤ x.cmd.u8 17)) 17, reserved x.cmd 18 64,
     (x.cmd.u8 17 == 0 && !s.otherIn b, repBadState),
     (x.cmd.u8 17 == 1 && !((s.plane b).state == .offline && (s.plane b).tested), repBadState),
     (x.cmd.u8 17 == 2 && (s.plane b).state != .inService, repBadState)]
  effect := .later State.planeControl

/-- PLANE_CONTROL as a row. -/
def execPlaneControl (mb : Nat) (c : Cmd) (s : State) : Host.Outcome State Fault Refusal :=
  .next (runCommand cmdPlaneControl mb c s)

/-- PLANE_OFFLINE_COMPLETE: every port has moved its TRUST and the plane stops delivering (R236). -/
def execPlaneOfflineComplete (plane : Nat) (s : State) : Host.Outcome State Fault Refusal :=
  let b := plane == 1
  let asked := s.bx.flights.any (fun f =>
    f.cmd.opcode == 0x0507 && f.cmd.u8 16 == plane && f.cmd.u8 17 == 0 && f.reply.isNone)
  if decide (plane < 2) && (s.plane b).state == .inService && asked then
    .next ((s.planeGo b .offline).planeSettle b 0 (repDone []))
  else .next s

/-- Loads a plane's entries from the other plane's copy (R238). -/
def OutPort.load (o : OutPort) (b : Bool) : OutPort :=
  let o := (o.mend b false).mend b true
  if b then { o with b0 := o.a0, b1 := o.a1 } else { o with a0 := o.b0, a1 := o.b1 }

/-- PLANE_LOADED: the plane holds every entry and delivers in SHADOW (R238). -/
def execPlaneLoaded (plane : Nat) (s : State) : Host.Outcome State Fault Refusal :=
  let b := plane == 1
  if decide (plane < 2) && (s.plane b).state == .loading then
    .next (s.allOuts.foldl (fun t p => t.updOut p (fun o => o.load b)) (s.planeGo b .shadow))
  else .next s

/-- Every domain with bound destinations has had one whole frame since a plane entered SHADOW (R238). -/
def State.wholeFrames (s : State) (since : Nat) : Bool :=
  (range 0 8).all (fun d =>
    !s.de.any (fun p => p.2.kind != 0 && p.2.td == d) || decide (since + (s.dom d).period ≤ (s.dom d).last))

/-- PLANE_SHADOW_PASS: the plane enters IN_SERVICE and its RETURN completes (R238). -/
def execPlaneShadowPass (plane : Nat) (s : State) : Host.Outcome State Fault Refusal :=
  let b := plane == 1
  if decide (plane < 2) && (s.plane b).state == .shadow && s.wholeFrames ((s.plane b).shadowFrom.getD s.clk) then
    .next ((s.planeGo b .inService).planeSettle b 1 (repDone []))
  else .next s

/-! ## PLANE_STATUS -/

/-- The result of PLANE_STATUS (Table PLANE_STATUS result); a tie's copy of a port counts once. -/
def State.planeStatus (s : State) : List Byte :=
  leBytes 1 s.planeA.state.code ++ leBytes 1 s.planeB.state.code
    ++ leBytes 2 ((s.xp.filter (fun p => decide (p.1 < 2000) && p.2.trustB)).length)
    ++ leBytes 4 s.planeA.bad ++ leBytes 4 s.planeB.bad ++ leBytes 4 s.repeated

/-- PLANE_STATUS: its counts start again. -/
def cmdPlaneStatus : CmdSpec where
  opcode := 0x0508
  role := .any
  ptr := .never
  checks := fun _ x => [reserved x.cmd 16 64]
  effect := .atOnce fun s _ =>
    ({ s with
        planeA := { s.planeA with bad := 0 }
        planeB := { s.planeB with bad := 0 }
        repeated := 0 }, repDone s.planeStatus)

/-- PLANE_STATUS as a row. -/
def execPlaneStatus (mb : Nat) (c : Cmd) (s : State) : Host.Outcome State Fault Refusal :=
  .next (runCommand cmdPlaneStatus mb c s)

end Sys2Proof.Machine
end

