-- ==== Sys2Proof/Machine/Egress.lean ====
section
/-! DEFINITION. The egress commands DST_BIND, TX_FLOW_SET, DST_STATUS and DST_MITRE_SET, and the inputs and states of a
destination (chapter 09, 01 R20, R24). -/
namespace Sys2Proof.Machine

/-! ## The input of a destination (R246) -/

/-- The output port of a departure tie: its port, with a key of its own for each tie that shares one (R329; log 79). -/
def Tie.outKey (t : Tie) : Nat := t.port + 2000 * t.slot

/-- The domain that MQ_OUTPUT last gave an engine. -/
def Engine.lastTd (e : Engine) : Nat := ((e.pendOut.getLast?).map (fun q => q.2.getD 1 0)).getD e.td

/-- The domain of an output port: of its destination, of its tie, or of its tap's engine (R209). -/
def State.portTd (s : State) (p : Nat) : Nat :=
  if p < 1024 then (s.dest p).td
  else if 1984 ≤ p ∧ p < 2000 then (s.engine ((p - 1984) / 2)).lastTd
  else (((s.depart.filter (fun t => t.outKey == p)).getLast?).map (fun t => t.td)).getD 8

/-- The crosspoint entry a destination follows: the current one of the plane in TRUST (R233). -/
def State.entryOf (s : State) (dst : Nat) : XEntry := (s.out dst).now (s.out dst).trustB

/-- The tie that an entry with PATH 2 takes, in a domain (R225). -/
def State.entryTie (s : State) (e : XEntry) (td : Nat) : Option Tie :=
  s.ties.find? (fun t => t.src == e.src && t.td == td && t.port == e.port)

/-- The line that the input port of an entry carries: of its tie, or of a source or read-out port (R201). -/
def State.portLine (s : State) (e : XEntry) (td : Nat) : Option FabLine :=
  if e.path = 2 then (s.entryTie e td).bind (fun t => t.last) else Tbl.get none s.inPorts e.port

/-- What an entry's input delivers: its picture and its offset in ns; none when it delivers nothing (R151, R191, R246). -/
def State.inputOf (s : State) (e : XEntry) (td at' : Nat) : Option ((Nat × Nat × Nat) × Int) :=
  if e.path = 2 then
    (s.portLine e td).map (fun l => ((l.fmt, l.sampling, l.depth), ((s.entryTie e td).map (fun t => t.align)).getD 0))
  else
    match s.localOf e.src with
    | none => none
    | some n =>
      if (s.source n).classF then
        match (s.readouts.find? (fun r => r.src == n && r.port == e.port && !r.tail)).bind (fun r => r.frame) with
        | some f => some ((f.fmt, f.sampling, f.depth), 0)
        | none => (s.blackPic n).map (fun p => (p, 0))
      else (s.blackPic n).map (fun p => (p, (s.source n).alignAt at'))

/-- An input suits a destination (R246). -/
def Dest.suits (d : Dest) (i : (Nat × Nat × Nat) × Int) : Bool :=
  i.1.1 == d.fmt && (d.transport != 10 || (i.1.2.1 == d.sampling && i.1.2.2 == d.depth))
    && decide (12 * (i.2 - d.offset).natAbs < halfLine d.fmt)

/-- The state of a bound destination (Table DST_STATUS result): 1 DARK, 4 NO_INPUT, 3 CLASH, 2 LIVE. -/
def State.destState (s : State) (dst : Nat) : Nat :=
  let d := s.dest dst
  let e := s.entryOf dst
  if d.kind = 0 then 0
  else if e.valid = false then 1
  else
    match s.inputOf e d.td d.frameAt with
    | none => 4
    | some i => if d.suits i then 2 else 3

/-! ## Legs -/

/-- ENABLE of a transmit flow entry. -/
def TxFlow.enabled (f : TxFlow) : Bool := !f.image.isEmpty && bit (byteAt f.image 3) 0

/-- SOURCE of a transmit flow entry, its kind, its coded port. -/
def TxFlow.source (f : TxFlow) : Nat := le16 f.image 56

/-- KIND of a transmit flow entry. -/
def TxFlow.kind (f : TxFlow) : Nat := byteAt f.image 0

/-- PORT of a transmit flow entry. -/
def TxFlow.port (f : TxFlow) : Nat := byteAt f.image 2

/-- The subport with a coded number, EP in bits 7 to 4 and subport in bits 2 to 0. -/
def State.codedSub (s : State) (coded : Nat) : Subport := s.subport (8 * (coded / 16) + coded % 8)

/-- The pair rules keep a leg of a destination from sending (R343, R367, R368): a PAIRED destination sends leg PAIR_ID
alone, and with SDI both; an ACTIVE_ONLY one sends from the ACTIVE device; what is not LOCAL is gated in ISOLATED,
JOINING, and on a standby out of alignment. -/
def State.legHeld (s : State) (dst leg : Nat) : Bool :=
  let d := s.dest dst
  if s.pr.state = .off ∨ d.pairMode = 0 then false
  else if d.pairMode = 2 then decide (s.pr.state ≠ .active)
  else
    decide (s.pr.state = .isolated ∨ s.pr.state = .joining)
      || (decide (s.pr.state = .standby) && !bit s.pr.aligned d.td)
      || (d.kind == 3 && leg != flag s.straps.pairId)

/-- The two legs of a destination: entries 2n and 2n + 1 (R257). -/
def State.legFlow (s : State) (dst leg : Nat) : TxFlow := s.txFlow (2 * dst + leg)

/-- A leg of a destination is up: enabled, not held by the pair rules, its subport up. -/
def State.legUp (s : State) (dst leg : Nat) : Bool :=
  let f := s.legFlow dst leg
  f.enabled && !s.legHeld dst leg && (s.codedSub f.port).up

/-- A leg that a packet destination should send is lost with its subport (R269, R531). -/
def State.legLost (s : State) (dst : Nat) : Bool :=
  (s.dest dst).kind == 3 &&
    [0, 1].any (fun l => (s.legFlow dst l).enabled && !s.legHeld dst l && !(s.codedSub (s.legFlow dst l).port).up)

/-- Fault sources 84 + 3g + c follow the conditions of destinations 256g to 256g + 255 (Table Fault sources). -/
def State.destFaults (s : State) (dst : Nat) : State :=
  let b := 84 + 3 * (dst / 256)
  let any := fun (p : Nat × Dest → Bool) => s.de.any (fun q => q.1 / 256 == dst / 256 && p q)
  ((s.level b (any (fun q => q.2.state == 3)) dst).level (b + 1) (any (fun q => q.2.state == 4)) dst).level (b + 2)
    (any (fun q => s.legLost q.1)) dst

/-- The conditions of every destination are judged afresh: the pair rules have changed which legs send (R269, R343). -/
def State.pairLegs (s : State) : State := [0, 256, 512, 768].foldl (fun t n => t.destFaults n) s

/-- The state of a destination, with its record when it changes, and its faults, which follow its legs too (R269). -/
def State.destGo (s : State) (dst goal : Nat) : State :=
  (if (s.dest dst).state = goal then s
    else (s.updDest dst (fun d => { d with state := goal })).stateEvent 6 dst goal).destFaults dst

/-- A destination is judged afresh (R246). -/
def State.destJudge (s : State) (dst : Nat) : State := s.destGo dst (s.destState dst)

/-! ## DST_BIND -/

/-- Some current or sealed entry of a destination has VALID at 1 (R243). -/
def State.routed (s : State) (dst : Nat) : Bool :=
  let o := s.out dst
  (o.now false).valid || (o.now true).valid || (o.pend && ((o.next false).valid || (o.next true).valid))

/-- The lanes of a bound destination. -/
def Dest.lanes (d : Dest) : List Nat :=
  match d.kind with
  | 1 => [d.lane]
  | 2 => [d.lane, d.lanes2 % 65536, d.lanes2 / 65536 % 65536, d.lanes2 / 4294967296 % 65536]
  | _ => []

/-- Another destination uses a lane, unless both bindings are the two streams of a level B-DS lane (R243). -/
def State.outLaneTaken (s : State) (dst : Nat) (c : Cmd) (l : Nat) : Bool :=
  s.de.any (fun p => p.1 != dst && p.2.lanes.contains l
    && !(c.u8 18 == 1 && p.2.kind == 1 && decide (1 ≤ c.u8 19 ∧ 1 ≤ p.2.stream ∧ c.u8 19 ≠ p.2.stream)
      && p.2.td == c.u8 28 && p.2.fmt == c.u8 29 && p.2.offset == c.i32 32))

/-- The replay pool with a destination's allocation replaced (R24). -/
def State.replayWith (s : State) (dst kib : Nat) : Nat :=
  s.de.foldl (fun k p => if p.1 = dst then k else k + p.2.replayKib) kib

/-- The class of the stream a destination sends: of its flows' sampling and depth for ST 2110-20 (R20, R24). -/
def Dest.cls (d : Dest) : Nat :=
  if d.transport = 10 then (streamClass d.fmt d.sampling d.depth).getD 4 else fmtClass d.fmt

/-- Bound destinations of 6G or 12G class, other than one. -/
def State.bigDests (s : State) (dst : Nat) : Nat :=
  (s.de.filter (fun p => p.1 != dst && p.2.kind != 0 && decide (3 ≤ p.2.cls))).length

/-- R24 refuses a picture for a destination: the pool has no room for it, or it would be one more of 6G or 12G class than 512. -/
def State.replayLack (s : State) (dst fmt sampling depth : Nat) : Bool :=
  decide (16384 < s.replayWith dst (replayKib (lineWords fmt sampling depth)))
    || decide (3 ≤ (streamClass fmt sampling depth).getD 4 ∧ 512 ≤ s.bigDests dst)

/-- The sampling and depth that a binding to a transport sends: of a kind 1 leg that the destination still has, else 4:2:2 10-bit
(R24, R244). -/
def State.bindPicture (s : State) (dst tr : Nat) : Nat × Nat :=
  match (if tr = 10 then [0, 1].find? (fun l => (s.legFlow dst l).kind == 1) else none) with
  | some l => (byteAt (s.legFlow dst l).image 58, byteAt (s.legFlow dst l).image 59)
  | none => (0, 10)

/-- The transport of a kind of destination (R242). -/
def dstCarries (kind tr : Nat) : Bool :=
  match kind with
  | 1 => decide (1 ≤ tr ∧ tr ≤ 7)
  | 2 => tr == 8 || tr == 9
  | _ => tr == 10 || tr == 11

/-- The checks of DST_BIND (R241 to R244, R617). -/
def dstBindChecks (s : State) (x : Ctx) : List Check :=
  let c := x.cmd
  let n := c.u16 16
  let kind := c.u8 18
  let d := s.dom (c.u8 28)
  let fmt := c.u8 29
  let tr := c.u8 30
  [badIf (decide (1024 ≤ n)) 16, badIf (decide (4 ≤ kind)) 18] ++
  (if kind = 0 then
    [reserved c 19 64,
     ((s.dest n).kind != 0 && s.routed n, repBadState),
     ((s.dest n).kind != 0 && s.tx.any (fun e => e.2.kind != 0 && (e.2.kind == 1 || decide (4 ≤ e.2.kind))
        && e.2.source == n), repBadState)]
   else
    [badIf (decide (3 ≤ c.u8 19)) 19,
     badIf (if kind = 3 then c.u16 20 != 0 else decide (256 ≤ c.u16 20)) 20]
    ++ laneChecks c (kind == 2)
    ++ [badIf (decide (8 ≤ c.u8 28)) 28,
        badIf (!isFormat fmt || (d.hasTicks && !rateFits (fmtRate fmt) (d.rate.getD 8))) 29,
        badIf (!dstCarries kind tr || !fmtCarries fmt tr || (c.u8 19 != 0) != (tr == 5)) 30,
        badIf (decide (2 ≤ c.u8 31) || (c.u8 31 == 1 && kind != 3)) 31,
        badIf (decide (1000000 < (c.i32 32).natAbs)
          || (d.hasTicks && !r48 d.period (d.guardAt d.nextTick)
            (mitreRel fmt (mitreLines (fmtRaster fmt)).1 (c.i32 32)))) 32,
        badIf (decide (3 ≤ c.u8 36)) 36,
        badIf (decide (8 ≤ c.u8 37)) 37,
        reserved c 38 64,
        (!d.hasTicks, repBadState),
        ((bindLanes kind c).any (fun l => (s.sdiLane l).role != 2 || (s.sdiLane l).test != 0), repBadState),
        ((bindLanes kind c).any (s.outLaneTaken n c), repBadState),
        (c.u8 36 == 1 && !(s.base (c.u8 37)).configured, repBadState),
        (s.routed n, repBadState),
        (s.replayLack n fmt (s.bindPicture n tr).1 (s.bindPicture n tr).2, repNoResource)])

/-- What a DST_BIND makes of a destination: default mitre line, counters 0, dark. The pair mode of R367 stays. -/
def bindDest (d : Dest) (c : Cmd) : Dest :=
  { kind := c.u8 18
    stream := c.u8 19
    lane := c.u16 20
    lanes2 := c.u48 22
    td := c.u8 28
    fmt := c.u8 29
    transport := c.u8 30
    dark := c.u8 31
    offset := c.i32 32
    tc := c.u8 36
    tcTb := c.u8 37
    replayKib := replayKib (lineWords (c.u8 29) 0 10)
    state := d.state
    pairMode := d.pairMode }

/-- A kind 1 leg that a rebound destination still has gives its sampling and depth (R244). -/
def State.flowPicture (s : State) (dst : Nat) : State :=
  match [0, 1].find? (fun l => (s.legFlow dst l).kind == 1) with
  | some l =>
    let im := (s.legFlow dst l).image
    s.updDest dst (fun d =>
      if d.transport = 10 then
        { d with
          sampling := byteAt im 58
          depth := byteAt im 59
          replayKib := replayKib (lineWords d.fmt (byteAt im 58) (byteAt im 59)) }
      else d)
  | none => s

/-- Unbinds a destination: its witness, follow setting and embedder entries go (R433; 10 R290). -/
def State.unbindDst (s : State) (dst : Nat) : State :=
  if (s.dest dst).kind = 0 then s
  else
    let t := s.setDest dst { state := (s.dest dst).state, pairMode := (s.dest dst).pairMode }
    let t : State := { t with
      au := { t.au with outMap := t.au.outMap.filter (fun e => !(e.1.1 == 1 && e.1.2.1 == dst)) }
      tx := t.tx.map (fun e => (e.1, if byteAt e.2.live 0 == 4 && le16 e.2.live 56 == dst then { e.2 with running := false } else e.2)) }
    t.destGo dst 0

/-- DST_BIND (R241 to R244, R617). -/
def cmdDstBind : CmdSpec where
  opcode := 0x0601
  role := .engineering
  ptr := .never
  checks := dstBindChecks
  effect := .atOnce fun s x =>
    let n := x.cmd.u16 16
    (if x.cmd.u8 18 = 0 then s.unbindDst n
      else ((s.setDest n (bindDest (s.dest n) x.cmd)).flowPicture n).destJudge n, repDone [])

/-- DST_BIND as a row. -/
def execDstBind (mb : Nat) (c : Cmd) (s : State) : Host.Outcome State Fault Refusal :=
  .next (runCommand cmdDstBind mb c s)

/-! ## TX_FLOW_SET -/

/-- Octets around the payload of one packet: preamble, FCS and gap, MAC, VLAN, IP, UDP and RTP headers (PRESUMED, log
25). -/
def packetOverhead (im : List Byte) : Nat :=
  38 + (if bit (byteAt im 3) 2 then 4 else 0) + (if bit (byteAt im 3) 1 then 40 else 20) + 8 + 12

/-- The octets of SecTAG and ICV of a packet of a subport with a transmit channel: 32, or 40 with an SCI (R539). -/
def State.secOctets (s : State) (coded : Nat) : Nat :=
  let c := (s.codedSub coded).tx
  if !c.used then 0 else if bit c.flags 2 then 40 else 32

/-- Packets and payload octets of one active line of an ST 2110-20 flow (R261). -/
def linePackets (fmt : Nat) (im : List Byte) : Nat × Nat :=
  let g := pgroup (byteAt im 58) (byteAt im 59)
  let bytes := (rasterActive (fmtRaster fmt)).1 * g.1 / g.2
  let room := le16 im 60 / g.1 * g.1
  if room = 0 then (0, 0) else ((bytes + room - 1) / room, bytes)

/-- The nominal bit rate of the single-link transport of a class (R263). -/
def transportRate (cls : Nat) : Nat :=
  match cls with
  | 0 => 270000000
  | 1 => 1485000000
  | 2 => 2970000000
  | 3 => 5940000000
  | _ => 11880000000

/-- Samples of one packet of an audio flow, at its rate. -/
def audioPacketSamples (im : List Byte) : Nat :=
  (if byteAt im 61 = 0 then 6 else 48) * (if byteAt im 59 = 1 then 2 else 1)

/-- Payload octets of a packet of an audio flow: 2 or 3 octets a sample for kind 2, 4 for an AES3 subframe. -/
def audioPayload (im : List Byte) : Nat :=
  audioPacketSamples im * byteAt im 58 * (if byteAt im 0 = 2 then byteAt im 60 / 8 else 4)

/-- The bits per second that a flow needs, headers included (R259; log 25). -/
def State.flowRate (s : State) (im : List Byte) : Nat :=
  let fmt := (s.dest (le16 im 56)).fmt
  let past := packetOverhead im + s.secOctets (byteAt im 2)
  match byteAt im 0 with
  | 1 =>
    let p := linePackets fmt im
    let f := rateFraction (fmtRate fmt)
    8 * (p.1 * (past + 8) + p.2) * (rasterActive (fmtRaster fmt)).2 * f.1 / f.2
  | 5 => transportRate (fmtClass fmt) * (past + 8 + 1376) / 1376
  | 2 => 8 * (past + audioPayload im) * (if byteAt im 61 = 0 then 8000 else 1000)
  | 3 => 8 * (past + audioPayload im) * (if byteAt im 61 = 0 then 8000 else 1000)
  | _ => 0

/-- The enabled flows of a subport would need more than 95 % of its line rate (R259). -/
def State.portFull (s : State) (idx : Nat) (im : List Byte) : Bool :=
  let coded := byteAt im 2
  let others := s.tx.foldl (fun k e =>
    if e.1 ≠ idx ∧ e.2.enabled ∧ e.2.port % 256 = coded then k + s.flowRate e.2.image else k) 0
  bit (byteAt im 3) 0
    && decide (800000000000 / subCount (s.port (coded / 16)).mode * 95 < (others + s.flowRate im) * 100)

/-- The checks of PARAMS of a transmit flow (Table Transmit flow entry, R155, R20). -/
def txParamChecks (s : State) (im : List Byte) : List Check :=
  match byteAt im 0 with
  | 1 =>
    [badBufIf (decide (3 ≤ byteAt im 58)) 58,
     badBufIf (byteAt im 59 != 8 && byteAt im 59 != 10 && byteAt im 59 != 12) 59,
     badBufIf (decide (le16 im 60 < 512 ∨ 1428 < le16 im 60)) 60,
     reservedBuf im 62 64,
     badBufIf ((s.dest (le16 im 56)).kind != 0
        && (streamClass (s.dest (le16 im 56)).fmt (byteAt im 58) (byteAt im 59)).isNone) 58]
  | 2 =>
    [badBufIf (decide (byteAt im 58 < 1 ∨ 64 < byteAt im 58)) 58,
     badBufIf (decide (2 ≤ byteAt im 59)) 59,
     badBufIf (byteAt im 60 != 16 && byteAt im 60 != 24) 60,
     badBufIf (decide (2 ≤ byteAt im 61)) 61,
     badBufIf (audioLevelBad (slice im 0 1 ++ slice im 7 63)) 61,
     reservedBuf im 62 64]
  | 3 =>
    [badBufIf (decide (byteAt im 58 < 2 ∨ 16 < byteAt im 58 ∨ byteAt im 58 % 2 = 1)) 58,
     badBufIf (decide (2 ≤ byteAt im 59)) 59,
     badBufIf (byteAt im 60 != 0) 60,
     badBufIf (decide (2 ≤ byteAt im 61)) 61,
     reservedBuf im 62 64]
  | _ => [reservedBuf im 58 64]

/-- The index fits a kind (R257). -/
def idxFits (idx kind : Nat) : Bool :=
  if idx < 2048 then kind == 1 || kind == 5 else if idx < 3072 then kind == 2 || kind == 3 else kind == 4

/-- The entry of the other leg of a flow whose entry `idx` has LEG `leg`. -/
def otherLeg (idx leg : Nat) : Nat := if leg = 1 then idx - 1 else idx + 1

/-- The checks of TX_FLOW_SET (R257 to R259, R244, R528). -/
def txFlowChecks (s : State) (x : Ctx) : List Check :=
  let c := x.cmd
  let idx := c.u16 28
  let im := x.buf
  let kind := byteAt im 0
  let leg := byteAt im 1
  let src := le16 im 56
  let video := kind == 1 || kind == 5
  let ofDest := video || kind == 4
  let d := s.dest src
  let o := s.txFlow (otherLeg idx leg)
  let paired := (video || (o.image != [] && byteAt o.image 1 == 1 - leg)) && o.image != []
  [badIf (decide (4096 ≤ idx)) 28, reserved c 30 64,
   badBufIf (decide (kind = 0 ∨ 5 < kind) || !idxFits idx kind) 0,
   badBufIf (decide (2 ≤ leg) || (video && leg != idx % 2) || (leg == 1 && (idx == 2048 || idx == 3072))) 1,
   badBufIf (bit (byteAt im 2) 3 || (paired && o.port / 16 == byteAt im 2 / 16)) 2,
   badBufIf (decide (8 ≤ byteAt im 3)) 3,
   badBufIf (bit (le16 im 4) 12) 4,
   badBufIf (decide (128 ≤ byteAt im 10)) 10,
   badBufIf (decide (64 ≤ byteAt im 11)) 11]
  ++ (if bit (byteAt im 3) 1 then [] else [reservedBuf im 20 32, reservedBuf im 36 48])
  ++ [badBufIf (byteAt im 54 == 0) 54,
      badBufIf (decide (8 ≤ byteAt im 55)) 55,
      badBufIf (if ofDest then decide (1024 ≤ src) || (video && src != idx / 2) else src != 0) 56]
  ++ txParamChecks s im
  ++ [reservedBuf im 64 128,
      (!s.subExists (byteAt im 2), repBadState),
      (ofDest && d.kind != 3, repBadState),
      ((kind == 1 && d.transport == 11) || (kind == 5 && d.transport == 10), repBadState),
      (leg == 1 && o.image != [] && (o.kind != kind || slice o.image 58 6 != slice im 58 6), repBadState),
      ((kind == 2 || kind == 3) && byteAt im 59 == 1 && !s.au.khz96, repBadState),
      (s.portFull idx im, repNoResource),
      (kind == 1 && s.replayLack src d.fmt (byteAt im 58) (byteAt im 59), repNoResource)]

/-- The packet time of an audio flow in twelfths of a nanosecond: 125 us or 1 ms. -/
def packetTime (im : List Byte) : Nat := if byteAt im 61 = 0 then tuUs 125 else tuMs 1

/-- The number of the packet time of an entry that has come: the reading of TB in units of PTIME (R260, R265). -/
def State.packetIndex (s : State) (im : List Byte) : Nat := (s.base (byteAt im 55)).time * 12 / 4294967296 / packetTime im

/-- TX_FLOW_SET (R257 to R260, R244): the entry starts or stops, and a running one takes its new image, at the next frame start or
packet time. -/
def cmdTxFlowSet : CmdSpec where
  opcode := 0x0602
  role := .engineering
  ptr := .must (fun n => n == 256)
  checks := txFlowChecks
  effect := .atOnce fun s x =>
    let idx := x.cmd.u16 28
    let im := slice x.buf 0 128
    let t := s.updTxFlow idx (fun f => {
      image := im
      running := f.running
      live := f.live
      out := f.out
      slot := if f.running then f.slot else s.packetIndex im })
    (if byteAt im 0 = 1 then (t.flowPicture (le16 im 56)).destFaults (le16 im 56)
      else if byteAt im 0 = 5 then t.destFaults (le16 im 56) else t, repDone [])

/-- TX_FLOW_SET as a row. -/
def execTxFlowSet (mb : Nat) (c : Cmd) (s : State) : Host.Outcome State Fault Refusal :=
  .next (runCommand cmdTxFlowSet mb c s)

/-! ## DST_STATUS -/

/-- The receive path delay of an input and, for a tie, the delay of its hop (R199, R249), in twelfths of a ns. -/
def State.pathDelay (s : State) (e : XEntry) (fmt : Nat) : Nat :=
  if e.path = 2 then halfLine fmt + tuUs 1
  else
    match s.localOf e.src with
    | some n =>
      let k := s.source n
      if k.classF ∨ k.kind = 4 then 0 else if k.kind = 3 then tuUs 1 else 1200
    | none => 0

/-- PHASE: the departure of line 1 less D, in ns; 0 without an input (R249, R268). -/
def State.phase (s : State) (dst : Nat) : Int :=
  let d := s.dest dst
  let e := s.entryOf dst
  if d.kind = 0 ∨ e.valid = false then 0
  else
    match s.inputOf e d.td d.frameAt with
    | none => 0
    | some i =>
      let tx := if d.kind = 3 then 10200 else 1800
      (12 * (i.2 - d.offset) + (halfLine d.fmt + 2 * linePeriod d.fmt + s.pathDelay e d.fmt + 1800 + tx : Nat)) / 12

/-- The time of a base at an instant, before or after now, in units of 2^-32 ns (log 10). -/
def State.tbAt (s : State) (tb : Nat) (inst : Int) : Nat :=
  (((s.base tb).time : Int) - ((s.clk : Int) - inst) * 4294967296 / 12).toNat

/-- How far a time of a base lies beyond the 90 kHz grid, in ns (R261). -/
def beyond90k (t : Nat) : Nat := t * 90000 % tbSecond / 90000 / 4294967296

/-- The destination sends no video at all: dark with DARK 1 (R248). -/
def Dest.silent (d : Dest) : Bool := d.state == 1 && d.dark == 1

/-- The departure of line 1 of what a destination sends less D, in ns: of its input's lines, or of black, which it sends at its own
timing (R247, R248; log 67). -/
def State.sendPhase (s : State) (dst : Nat) : Int := if (s.dest dst).state = 2 then s.phase dst else 0

/-- TRO: the departure of the first active line less the instant of the RTP timestamp, in ns; 0 while no video is sent (R248, R262). -/
def State.tro (s : State) (dst : Nat) : Int :=
  let d := s.dest dst
  let tb := byteAt (if (s.legFlow dst 0).image = [] then s.legFlow dst 1 else s.legFlow dst 0).image 55
  if d.kind = 3 ∧ d.transport = 10 ∧ !d.silent then
    s.sendPhase dst + (lineOffset d.fmt (firstActive (fmtRaster d.fmt)) / 12 + beyond90k (s.tbAt tb d.frameAt) : Nat)
  else 0

/-- The result of DST_STATUS (Table DST_STATUS result). -/
def State.dstStatus (s : State) (dst : Nat) : List Byte :=
  let d := s.dest dst
  let e := s.entryOf dst
  let classF := match s.classOf e.src with
    | some (f, _, _) => f
    | none => false
  leBytes 1 d.state ++ leBytes 1 d.fmt ++ leBytes 1 d.transport
    ++ leBytes 1 (flag (d.kind == 3 && s.legUp dst 0) + 2 * flag (d.kind == 3 && s.legUp dst 1)
        + 4 * flag (d.followed != 0) + 8 * flag (d.tc == 1) + 16 * flag d.witness
        + 32 * flag (e.valid && classF) + 64 * flag (e.valid && e.path == 2))
    ++ leBytes 4 (ofSigned 4 (s.phase dst)) ++ leBytes 4 (ofSigned 4 (s.tro dst))
    ++ leBytes 2 d.clash ++ leBytes 2 d.ancDropped

/-- DST_STATUS (R268): reading clears its two counters. -/
def cmdDstStatus : CmdSpec where
  opcode := 0x0603
  role := .any
  ptr := .never
  checks := fun _ x => [badIf (decide (1024 ≤ x.cmd.u16 16)) 16, reserved x.cmd 18 64]
  effect := .atOnce fun s x =>
    (s.updDest (x.cmd.u16 16) (fun d => { d with clash := 0, ancDropped := 0 }), repDone (s.dstStatus (x.cmd.u16 16)))

/-- DST_STATUS as a row. -/
def execDstStatus (mb : Nat) (c : Cmd) (s : State) : Host.Outcome State Fault Refusal :=
  .next (runCommand cmdDstStatus mb c s)

/-! ## DST_MITRE_SET -/

/-- DST_MITRE_SET (R251, R252, R48): the new line holds from the first tick whose cutoff has not passed. -/
def cmdDstMitreSet : CmdSpec where
  opcode := 0x0604
  role := .engineering
  ptr := .never
  checks := fun s x =>
    let n := x.cmd.u16 16
    let d := s.dest n
    let m := mitreLines (fmtRaster d.fmt)
    let l := if x.cmd.u16 18 = 0 then m.1 else x.cmd.u16 18
    let td := s.dom d.td
    [badIf (decide (1024 ≤ n)) 16, reserved x.cmd 20 64, (d.kind == 0, repBadState),
     badIf (decide (m.2 < l)
       || (td.hasTicks && !r48 td.period (td.guardAt td.nextTick) (mitreRel d.fmt l d.offset))) 18]
  effect := .atOnce fun s x =>
    let n := x.cmd.u16 16
    let td := (s.dest n).td
    let from' := s.openTick td 0
    (s.updDest n (fun d => { d with
        mitreOld := d.mitreOld.filter (fun q => decide ((s.dom td).count < q.1)) ++ [(from', d.mitreLine)]
        mitre := x.cmd.u16 18 }), repDone [])

/-- DST_MITRE_SET as a row. -/
def execDstMitreSet (mb : Nat) (c : Cmd) (s : State) : Host.Outcome State Fault Refusal :=
  .next (runCommand cmdDstMitreSet mb c s)

end Sys2Proof.Machine
end

