-- ==== Sys2Proof/Machine/Framing.lean ====
section
/-! DEFINITION. What a destination puts around the lines it sends (chapter 09 R248, R250, R253, R254, R261 to R265): the frame of an
SDI line, the payload ID, audio and EDH packets of its ST 291 space, and the RTP packets of its flows.

ST 291, ST 292, ST 352, ST 272, ST 299 and RP 165 are named by the spec and not part of it: the places and codes taken from them are
PRESUMED (log 120), their packings and checks constants of `Config`. -/
namespace Sys2Proof.Machine

/-! ## Bramble's samples as they are sent (R271, R290, R294) -/

/-- Channels in each direction in the present mode (R270). -/
def State.channels (s : State) : Nat := if s.au.khz96 then 2048 else 4096

/-- One sample in twelfths of a nanosecond. -/
def State.sampleTu (s : State) : Nat := if s.au.khz96 then 125000 else 250000

/-- The block length in twelfths of a nanosecond (R271). -/
def State.blockTu (s : State) : Nat := if s.au.blk125 then tuUs 125 else tuMs 1

/-- Samples in a block (Table Block lengths). -/
def State.blockSamples (s : State) : Nat := s.blockTu / s.sampleTu

/-- Embedder slots of a transport in the present mode; none when it does not embed audio (Table Embedded audio). -/
def State.slotCount (s : State) (d : Dest) : Option Nat :=
  if d.kind = 0 ∨ d.transport = 10 ∨ d.transport = 12 then none
  else
    let cls := fmtClass d.fmt
    if d.transport = 5 then some (if s.au.khz96 then 8 else 16)
    else if cls = 0 then some (if s.au.khz96 then 0 else 16)
    else if cls = 1 then some (if s.au.khz96 then 8 else 16)
    else some (if s.au.khz96 then 16 else 32)

/-- The output channel that feeds an embedder slot: of the current source's base while followed, else of the map (R294, R295). -/
def State.slotFeed (s : State) (dst slot : Nat) : Option Nat :=
  if slot < (s.dest dst).followed then
    let e := s.entryOf dst
    let base := Tbl.get 0xFFFF s.au.bases e.src
    if e.valid ∧ base ≠ 0xFFFF ∧ base + slot < s.channels then some (base + slot) else none
  else (s.au.outMap.find? (fun p => p.1 == (1, dst, slot))).map (fun p => p.2)

/-- The output channel that feeds a channel of a transmit flow (R265, R290). -/
def State.flowChannel (s : State) (tf c : Nat) : Option Nat :=
  (s.au.outMap.find? (fun p => p.1 == (2, tf, c))).map (fun p => p.2)

/-- Samples held of each output: those of the present block and of the 2 ms before it. -/
def State.heldSamples (s : State) : Nat := tuMs 2 / s.sampleTu + s.blockSamples

/-- `n` samples of an output from a place on that counts from the start of the present block; 0 where none is held. -/
def State.outAudio (s : State) (ao : Nat) (start : Int) (n : Nat) : List Int :=
  let h := Tbl.get [] s.au.samples ao
  (range 0 n).map (fun (i : Nat) =>
    let j : Int := start + i + h.length - s.blockSamples
    if j < 0 then 0 else h.getD j.toNat 0)

/-- The place, from the start of the present block, of the sample that is due at an instant. -/
def State.samplePlace (s : State) (inst : Int) : Int :=
  match s.au.boundary with
  | some b => (inst - b) / (s.sampleTu : Int)
  | none => 0

/-! ## Frames of lines (R261, R319) -/

/-- The tick count of a domain whose low 24 bits a header carries (R15, R319). -/
def Domain.tickOf (d : Domain) (low : Nat) : Nat := d.count - (d.count + 16777216 - low % 16777216) % 16777216

/-- The frame of a line that a destination sends: its tick, and which frame of the tick. -/
def State.sentFrame (s : State) (dst : Nat) (l : FabLine) : Nat × Bool :=
  let t := s.dom (s.dest dst).td
  (t.tickOf l.hdr.tick, rateDouble (fmtRate l.fmt) (t.rate.getD 8) && l.hdr.parity == 1)

/-- The start of a frame of a destination (R245). -/
def State.sentStart (s : State) (dst : Nat) (q : Nat × Bool) : Int :=
  ((s.dom (s.dest dst).td).frameAt q.1 q.2 : Nat) + 12 * (s.dest dst).offset

/-- The RTP timestamp of a frame: its start in a time base at 90 kHz (R261). -/
def State.rtpTime (s : State) (dst tb : Nat) (q : Nat × Bool) : Nat :=
  s.tbAt tb (s.sentStart dst q) * 90000 / tbSecond % 4294967296

/-! ## SDI lines (R250, R253) -/

/-- A line of a raster lies in its second field (PRESUMED, log 120). -/
def secondField (raster l : Nat) : Bool :=
  match raster with
  | 1 => decide (266 ≤ l ∨ l ≤ 3)
  | 2 => decide (313 ≤ l)
  | 4 => decide (564 ≤ l)
  | 5 => decide (564 ≤ l)
  | _ => false

/-- The fourth word of a TRS: F, V, H and their protection (PRESUMED, log 120). -/
def trsWord (f v h : Bool) : Nat :=
  512 + 256 * flag f + 128 * flag v + 64 * flag h + 32 * flag (v != h) + 16 * flag (f != h) + 8 * flag (f != v)
    + 4 * flag ((f != v) != h)

/-- The fourth word of the EAV (`h`) or SAV of a line. -/
def lineTrs (fmt l : Nat) (h : Bool) : Nat := trsWord (secondField (fmtRaster fmt) l) (!activeLine (fmtRaster fmt) l) h

/-- The line number words of HD and faster transports (PRESUMED, log 120). -/
def lineNumber (fmt l : Nat) : List Nat :=
  let n := if fmtRaster fmt = 7 then (l + 1) / 2 else l
  let w := fun v : Nat => 4 * v + 512 * flag (v / 64 % 2 == 0)
  if fmtClass fmt = 0 then [] else [w (n % 128), w (n / 128 % 16)]

/-- One stream of a line: its luma samples when `y`, else its colour samples (log 17). -/
def streamOf (y : Bool) (samples : List Nat) : List Nat :=
  (range 0 (samples.length / 2)).map (fun i => samples.getD (2 * i + flag y) 0)

/-- The line CRC of the two streams of an HD or faster transport: over the active line before, the EAV and the line number (PRESUMED,
log 120). -/
def lineCrcs (fmt l : Nat) (before : List Nat) : List Nat :=
  if fmtClass fmt = 0 then []
  else [false, true].map (fun y =>
    Config.lineCrc (streamOf y before ++ [0x3FF, 0, 0, lineTrs fmt l true] ++ lineNumber fmt l))

/-- The words of a framed line, EAV to the last active sample: each word of the EAV, line number, CRC and SAV in both streams of HD
and faster transports, colour first. -/
def SdiLine.words (x : SdiLine) : List Nat :=
  let twice := fun (ws : List Nat) => if x.ln = [] then ws else ws.flatMap (fun w => [w, w])
  twice [0x3FF, 0, 0, x.eav] ++ twice x.ln ++ x.crc ++ x.anc.flatMap (fun p => [0, 0x3FF, 0x3FF, p.did, p.sdid, p.udw.length] ++ p.udw ++ [p.csum])
    ++ twice [0x3FF, 0, 0, x.sav] ++ x.samples

/-- Two streams interleaved word by word on a level B-DS lane, stream 1 first (R253). -/
def interleave : List Nat → List Nat → List Nat
  | [], bs => bs
  | as, [] => as
  | a :: as, b :: bs => a :: b :: interleave as bs

/-! ## Packets that egress inserts (R248, R253, R254) -/

/-- A value of an ST 291 packet with its parity bits (PRESUMED, log 120). -/
def ancParity (v : Nat) : Nat :=
  let p := (range 0 8).foldl (fun k i => k + v / 2 ^ i % 2) 0 % 2
  v % 256 + 256 * p + 512 * (1 - p)

/-- The checksum of an ST 291 packet (PRESUMED, log 120). -/
def ancSum (did sdid : Nat) (udw : List Nat) : Nat :=
  let m := (ancParity did + ancParity sdid + ancParity udw.length + udw.foldl (· + ·) 0) % 512
  m + 512 * flag (m < 256)

/-- A packet that egress makes. -/
def madeAnc (kind : AncKind) (line did sdid : Nat) (udw : List Nat) : AncPacket :=
  ⟨kind, line, did, sdid, udw, ancSum did sdid udw⟩

/-- The lines on which ST 352 puts the payload ID (PRESUMED, log 120). -/
def pidLines (raster : Nat) : List Nat :=
  match raster with
  | 1 => [13, 276]
  | 2 => [9, 322]
  | 4 => [10, 572]
  | 5 => [10, 572]
  | _ => [10]

/-- The payload ID packet that link `k` of a destination carries on a line (R253). -/
def Dest.payloadIds (d : Dest) (line k : Nat) : List AncPacket :=
  if (pidLines (fmtRaster d.fmt)).contains line then [madeAnc .payloadId line 0x41 1 (Config.payloadId d.fmt d.transport k)]
  else []

/-- The lines on which RP 165 puts EDH, in SD (PRESUMED, log 120). -/
def edhLines (raster : Nat) : List Nat :=
  match raster with
  | 1 => [9, 272]
  | 2 => [5, 318]
  | _ => []

/-- The EDH packet of a line, over the lines sent since the one before. -/
def Dest.edh (d : Dest) (line : Nat) : List AncPacket :=
  if (edhLines (fmtRaster d.fmt)).contains line then [madeAnc .edh line 0xF4 0 (Config.edhWords d.edhOver)] else []

/-- The samples of each slot of a group that a line carries: of the slots that are fed, those due since the line sent before it; an
unmapped slot has none (R254). -/
def State.slotSamples (s : State) (dst g : Nat) : List (Option (List Int)) :=
  let from' := s.samplePlace (s.dest dst).audioAt
  let n := (s.samplePlace s.clk - from').toNat
  (range (4 * g) 4).map (fun slot =>
    if slot < ((s.slotCount (s.dest dst)).getD 0) then (s.slotFeed dst slot).map (fun ao => s.outAudio ao from' n) else none)

/-- The audio packets, with the AES3 channel status of linear PCM, and on one line the control packets of the groups in which a slot
is mapped (R254). -/
def State.audioPackets (s : State) (dst line : Nat) : List AncPacket :=
  let d := s.dest dst
  (range 0 8).flatMap (fun g =>
    let slots := s.slotSamples dst g
    let dids := audioDids d.fmt g
    if slots.all (fun q => q.isNone) then []
    else
      (if slots.any (fun q => match q with
          | some vs => !vs.isEmpty
          | none => false) then [madeAnc .audio line dids.1 0 (Config.embedWords d.transport g slots)] else [])
        ++ (if line = (mitreLines (fmtRaster d.fmt)).1 + 2 then
            [madeAnc .audio line dids.2 0 (Config.controlWords d.transport g (slots.map (fun q => q.isSome)))] else []))

/-- The packets that egress inserts afresh in a line, of the first link of a quad-link: payload ID, audio and EDH; none in ST 2110-20
(R166, R248, R253, R254). -/
def State.inserted (s : State) (dst line : Nat) : List AncPacket :=
  let d := s.dest dst
  if d.transport = 10 then [] else d.payloadIds line 0 ++ d.edh line ++ s.audioPackets dst line

/-! ## The line before the mitre line (R250) -/

/-- By how much the line before the mitre line is longer, in ns: the flip moved the departure of the mitre line. -/
def Dest.stretchOf (d : Dest) (line : Nat) : Int :=
  let m := if d.mitreLine = 1 then rasterLines (fmtRaster d.fmt) else d.mitreLine - 1
  if (d.kind = 1 ∨ d.kind = 2) ∧ line = m then d.stretch else 0

/-- The words of a line left for packets when it is shortened (the places of packets PRESUMED, log 121). -/
def wordsLeft (fmt : Nat) (cut : Nat) : Nat :=
  (rasterActive (fmtRaster fmt)).1 * (linePeriod fmt - cut) / linePeriod fmt

/-- The packets of a line that do not fall in a part that was removed. -/
def ancKept (room : Nat) : List AncPacket → List AncPacket
  | [] => []
  | p :: rest => if p.udw.length + 7 ≤ room then p :: ancKept (room - (p.udw.length + 7)) rest else []

/-- The packets that a line of a destination keeps under R250. -/
def Dest.shortened (d : Dest) (line : Nat) (anc : List AncPacket) : List AncPacket :=
  let g := d.stretchOf line
  if g < 0 then ancKept (wordsLeft d.fmt (12 * g.natAbs)) anc else anc

/-! ## The parts of a transport (R253; what the named standards give each link or sub-image PRESUMED, log 120) -/

/-- The parts into which a transport divides a picture: the two links of level B-DL, the four sub-images of 6G and 12G, the four links
of a quad-link; else the whole picture. -/
def partCount (tr : Nat) : Nat :=
  match tr with
  | 4 => 2
  | 6 => 4
  | 7 => 4
  | 8 => 4
  | 9 => 4
  | _ => 1

/-- Every other pair of pixels of a line at 4:2:2, from the first (0) or the second (1) on. -/
def samplePairs (k : Nat) (samples : List Nat) : List Nat :=
  (range 0 (samples.length / 8)).flatMap (fun i => (samples.drop (8 * i + 4 * k)).take 4)

/-- The left (0) or right (1) half of a line. -/
def halfOf (k : Nat) (samples : List Nat) : List Nat := (samples.drop (k * (samples.length / 2))).take (samples.length / 2)

/-- What part `k` of a transport carries of a line; none for a line that it does not carry: level B-DL takes lines in turn, a square
division quarters of the picture, two-sample interleave and the sub-images of 6G and 12G pairs of pixels of lines in turn. -/
def partSamples (fmt tr line k : Nat) (samples : List Nat) : Option (List Nat) :=
  let row := pictureRow (fmtRaster fmt) line
  match partCount tr with
  | 1 => some samples
  | 2 => if k = (line + 1) % 2 then some samples else none
  | _ =>
    if !activeLine (fmtRaster fmt) line then some (halfOf (k % 2) samples)
    else if tr = 8 then (if k / 2 = row / 1080 then some (halfOf (k % 2) samples) else none)
    else if k / 2 = row % 2 then some (samplePairs (k % 2) samples)
    else none

/-- The part that carries the packets of a line: the link of level B-DL that carries the line, else the first (R254). -/
def ancPart (tr line : Nat) : Nat := if tr = 4 then (line + 1) % 2 else 0

/-- Part `k` of a line framed to a transport (R253, R254): the packets of the line and those inserted on one part, on every other link of
a quad-link its own payload ID. A part that does not carry the line keeps the samples it has. -/
def Dest.framePart (d : Dest) (l : FabLine) (extra : List AncPacket) (k : Nat) : SdiLine :=
  let old := ((d.framed[k]?).map (fun x => x.samples)).getD []
  { line := l.hdr.line
    length := linePeriod d.fmt + 12 * d.stretchOf l.hdr.line
    eav := lineTrs d.fmt l.hdr.line true
    sav := lineTrs d.fmt l.hdr.line false
    ln := lineNumber d.fmt l.hdr.line
    crc := lineCrcs d.fmt l.hdr.line old
    anc := if k = ancPart d.transport l.hdr.line then l.anc ++ extra
      else if d.kind = 2 then d.payloadIds l.hdr.line k else []
    samples := (partSamples d.fmt d.transport l.hdr.line k l.samples).getD old }

/-- A line of a destination framed to its transport, part by part (R253). -/
def Dest.frameLine (d : Dest) (l : FabLine) (extra : List AncPacket) : List SdiLine :=
  (range 0 (partCount d.transport)).map (d.framePart l extra)

/-- The words of the parts of one lane, word by word in the order of the parts. -/
def mux : List SdiLine → List Nat
  | [] => []
  | [x] => x.words
  | [x, y] => interleave x.words y.words
  | x :: y :: rest => interleave (interleave x.words ((rest.headD y).words)) (interleave y.words (((rest.drop 1).headD y).words))

/-- What the lanes of a destination carry of the line it framed last: each link of a quad-link its own part; both streams of a level B-DS
lane, and the parts of other transports, interleaved (R253). -/
def State.laneOut (s : State) (dst : Nat) : State :=
  let d := s.dest dst
  let own := mux d.framed
  let other := (s.de.find? (fun p => p.1 != dst && p.2.kind == 1 && p.2.lane == d.lane && p.2.stream != 0)).map
    (fun p => mux p.2.framed)
  let words := match d.stream, other with
    | 1, some w => interleave own w
    | 2, some w => interleave w own
    | _, _ => own
  d.lanes.zipIdx.foldl (fun t q => t.updLane (128 + q.1) (fun p => { p with
    sent := if d.kind = 2 then ((d.framed[q.2]?).map SdiLine.words).getD [] else words })) s

/-! ## RTP packets (R261 to R265) -/

/-- Active lines of a raster up to a line. -/
def activeUpTo (raster l : Nat) : Nat := ((range 1 l).filter (activeLine raster)).length

/-- A line is the last active one of its frame or field. -/
def lastOfField (raster l : Nat) : Bool :=
  match raster with
  | 1 => l == 263 || l == 525
  | 2 => l == 310 || l == 623
  | 4 => l == 560 || l == 1123
  | 5 => l == 560 || l == 1123
  | _ => activeLine raster l && !activeLine raster (l + 1)

/-- The packets of an active line of ST 2110-20 (R261): whole pixel groups up to PAYLOAD, numbered n x P + k through the frame, the
marker on the last of a frame or field. -/
def State.videoPackets (s : State) (dst : Nat) (im : List Byte) (l : FabLine) : List SentPkt :=
  let raster := fmtRaster l.fmt
  let g := pgroup (byteAt im 58) (byteAt im 59)
  let per := le16 im 60 / g.1 * groupSamples (l.fmt, byteAt im 58, byteAt im 59)
  let parts := chunks per l.samples.length l.samples
  let q := s.sentFrame dst l
  let n := frameNumber l.fmt (s.dom (s.dest dst).td) q.1 q.2
  let total := parts.length * (rasterActive raster).2
  let first := parts.length * (activeUpTo raster l.hdr.line - 1)
  parts.zipIdx.map (fun c => {
    seq := (n * total + first + c.2) % 4294967296
    ts := s.rtpTime dst (byteAt im 55) q
    marker := lastOfField raster l.hdr.line && c.2 + 1 == parts.length
    line := l.hdr.line
    offset := c.2 * per
    samples := c.1 })

/-- The frame period at which a transport of a class has its nominal bit rate: HD and faster transports run at 1/1.001 of it with a
frame rate of that kind, SD does not (R263). -/
def wholePeriod (fmt : Nat) : Nat :=
  let r := fmtRate fmt
  if fmtClass fmt ≠ 0 ∧ (r = 0 ∨ r = 3 ∨ r = 6) then ratePeriod (r + 1) else ratePeriod r

/-- The octets of one line of the SDI stream of a format (R263). -/
def lineOctets (fmt : Nat) : Nat :=
  transportRate (fmtClass fmt) * wholePeriod fmt / 96000000000 / rasterLines (fmtRaster fmt)

/-- Datagrams of an ST 2022-6 stream sent by the end of line `l` of a frame (R263). -/
def datagramsTo (fmt l : Nat) : Nat :=
  if l = rasterLines (fmtRaster fmt) then (lineOctets fmt * l + 1375) / 1376 else lineOctets fmt * l / 1376

/-- Bits, most significant first, of a word of ten (PRESUMED, log 25). -/
def wordBits (w : Nat) : List Bool := (range 0 10).map (fun i => bit w (9 - i))

/-- The octet that eight bits make, the most significant first. -/
def octetOf (bs : List Bool) : Byte := BitVec.ofNat 8 (bs.foldl (fun v b => 2 * v + flag b) 0)

/-- The octets of 10-bit words (PRESUMED, log 25). -/
def wordOctets (ws : List Nat) : List Byte :=
  (chunks 8 (10 * ws.length) (ws.flatMap wordBits)).map octetOf

/-- The SDI stream of a line: EAV to SAV with the blanking between them at black, and the picture, which its last words are (R263;
PRESUMED, log 25). -/
def sdiStream (fmt : Nat) (x : SdiLine) : List Byte :=
  let head := ({ x with samples := [] } : SdiLine).words
  let sav := if x.ln = [] then 4 else 8
  let gap := lineOctets fmt * 8 / 10 - head.length - x.samples.length
  let blank := (range 0 gap).map (fun i => if i % 2 = 0 then 0x200 else 0x40)
  wordOctets (head.take (head.length - sav) ++ blank ++ head.drop (head.length - sav) ++ x.samples)

/-- The octets that wait for a datagram of an ST 2022-6 destination once a line is framed: a frame begins with none (R263). -/
def Dest.streamWith (d : Dest) (line : Nat) (x : SdiLine) : List Byte :=
  (if line = 1 then [] else d.carry) ++ sdiStream d.fmt x

/-- The datagrams of an ST 2022-6 stream that end within a line, 1,376 octets each, the last of a frame filled with zeros: numbered
through the frame, `offset` the place of their octets in it (R263). -/
def State.sdiPackets (s : State) (dst : Nat) (im : List Byte) (l : FabLine) : List SentPkt :=
  let d := s.dest dst
  let q := s.sentFrame dst l
  let n := frameNumber l.fmt (s.dom d.td) q.1 q.2
  let total := datagramsTo l.fmt (rasterLines (fmtRaster l.fmt))
  let first := datagramsTo l.fmt (l.hdr.line - 1)
  let octets := d.streamWith l.hdr.line (d.framePart l (s.inserted dst l.hdr.line) 0)
  (range first (datagramsTo l.fmt l.hdr.line - first)).map (fun k => {
    seq := (n * total + k) % 4294967296
    ts := s.rtpTime dst (byteAt im 55) q
    marker := k + 1 == total
    line := l.hdr.line
    offset := 1376 * k
    stream := slice octets (1376 * (k - first)) 1376 })

/-- The packet of an ancillary flow that carries the packets a line is sent with, audio and payload ID left out; its numbers are not
stated (R266; log 122). -/
def State.ancPackets (s : State) (dst : Nat) (l : FabLine) : List SentPkt :=
  let q := s.sentFrame dst l
  let n := frameNumber l.fmt (s.dom (s.dest dst).td) q.1 q.2
  let mine := l.anc.filter (fun p => p.kind != .audio && p.kind != .payloadId)
  if mine.isEmpty then []
  else [{
    seq := Config.ancRtp dst n (2 * l.hdr.line) % 65536
    ts := Config.ancRtp dst n (2 * l.hdr.line + 1) % 4294967296
    line := l.hdr.line
    anc := mine }]

/-- Parity over bits 0 to 30 of a 32-bit AES3 subframe (PRESUMED, log 120). -/
def subframeParity (v : Nat) : Bool := (range 0 27).foldl (fun p i => p != bit v i) false

/-- An AES3 subframe in 32 bits of ST 2110-31: 24 bits of sample, V, U and C, parity, and whether it begins a frame and a block of 192
frames (R265; PRESUMED, log 120). C is the channel status of R254; V and U are 0. -/
def aes3 (khz96 : Bool) (channel index : Nat) (v : Int) : Int :=
  let body := ofSigned 3 v + 2 ^ 26 * flag (Config.channelStatus khz96 channel (index % 192))
  let mark := 2 ^ 28 * flag (channel % 2 == 0) + 2 ^ 29 * flag (index % 192 == 0 && channel % 2 == 0)
  (body + 2 ^ 27 * flag (subframeParity body) + mark : Nat)

/-- The packet that an audio flow sends at packet time `k`: the samples due in the packet time before it, an unmapped channel 0
(R265; which samples DESIGN CHOICE, log 123). How samples go to 16 bits or to half the rate is not stated (log 9). -/
def State.audioPacket (s : State) (tf k : Nat) (im : List Byte) : SentPkt :=
  let tb := (s.base (byteAt im 55)).time * 12 / 4294967296
  let stop := s.samplePlace ((s.clk : Int) - (tb - k * packetTime im : Nat))
  let n := packetTime im / s.sampleTu
  let want := audioPacketSamples im
  let chan := fun (c : Nat) => match s.flowChannel tf c with
    | none => List.replicate want 0
    | some ao =>
      let raw := s.outAudio ao (stop - n) n
      let at' := if n = want then raw else (range 0 want).map (Config.srcSample raw)
      if byteAt im 0 = 2 ∧ byteAt im 60 = 16 then at'.map Config.audio16 else at'
  let first := (k - 1) * want
  let form := fun (c : Nat) (vs : List Int) =>
    if byteAt im 0 = 3 then vs.zipIdx.map (fun q => aes3 (byteAt im 59 == 1) c (first + q.2) q.1) else vs
  { seq := (k - 1) % 65536
    ts := first % 4294967296
    audio := (range 0 (byteAt im 58)).map (fun c => form c (chan c)) }

end Sys2Proof.Machine
end

