-- ==== Sys2Proof/Machine/Outputs.lean ====
section
/-! DEFINITION. What destinations send (chapter 09 R245 to R267, 08 R231 to R235, 16 R434): DST_FRAME_START,
EGRESS_LINE_RECEIVE, EGRESS_LINE_SEND, AUDIO_PACKET_SEND, FRAME_DIGEST.

A line sent is held as its samples and packets, framed to the transport of an SDI or ST 2022-6 destination (`SdiLine`), and as the RTP
packets of the flows that carry it (`SentPkt`). -/
namespace Sys2Proof.Machine

/-! ## Frames (R245, R246, R260) -/

/-- The frame starts of a destination near now: tick, which frame of the tick, and instant (R245). -/
def State.destFrames (s : State) (d : Dest) : List (Nat × Bool × Int) :=
  let t := s.dom d.td
  let one := fun (n : Nat) (h : Bool) => (n, h, (t.frameAt n h : Int) + 12 * d.offset)
  let ticks := [t.count - 1, t.count, t.count + 1]
  if rateDouble (fmtRate d.fmt) (t.rate.getD 8) then ticks.flatMap (fun n => [one n false, one n true])
  else ticks.map (fun n => one n false)

/-- The latest frame start of a destination at or before now. -/
def State.destFrame (s : State) (d : Dest) : Option (Nat × Bool × Int) :=
  ((s.destFrames d).filter (fun q => decide (q.2.2 ≤ (s.clk : Int)))).getLast?

/-- The image that an entry runs on is of an ancillary flow of a destination. -/
def TxFlow.liveFor (f : TxFlow) (dst : Nat) : Bool := byteAt f.live 0 == 4 && le16 f.live 56 == dst

/-- The entries that carry a destination's stream: its legs and the ancillary flows that run on an image that names it (R260). -/
def State.flowsOf (s : State) (dst : Nat) : List Nat :=
  (s.tx.filter (fun e => e.1 / 2 == dst || (decide (3072 ≤ e.1) && e.2.liveFor dst))).map (fun e => e.1)

/-- The entries that a frame start of a destination concerns: those that carry its stream, and the ancillary flows newly set to it that
no other destination's frame start has still to stop (R260). -/
def State.startsOf (s : State) (dst : Nat) : List Nat :=
  s.flowsOf dst ++ (s.tx.filter (fun e => decide (3072 ≤ e.1) && e.2.kind == 4 && e.2.source == dst && !e.2.liveFor dst
    && !(e.2.running && byteAt e.2.live 0 == 4))).map (fun e => e.1)

/-- Which leg a transmit flow is. -/
def TxFlow.leg (f : TxFlow) : Nat := byteAt f.image 1 % 2

/-- The entries of a destination start and stop, and take their images, at its frame start: one that now names another destination
stops here and starts at that one's frame start (R260). -/
def State.latchFlows (s : State) (dst : Nat) : State :=
  (s.startsOf dst).foldl (fun t i =>
    t.updTxFlow i (fun f =>
      if i < 3072 ∨ (f.kind = 4 ∧ f.source = dst) then
        { f with live := f.image, running := f.enabled && !s.legHeld dst f.leg }
      else { f with running := false })) s

/-- Closes the frame of a destination that is being witnessed, with the tick and start of the frame to which its lines belong: those
that are left of it (R267, R434). -/
def State.witClose (s : State) (dst : Nat) (video : Bool) : State :=
  let e := s.entryOf dst
  s.updDest dst (fun d =>
    let k := d.witKey.getD (d.frameTick, d.frameSecond)
    let start := (s.sentStart dst k).toNat
    let d' := { d with witLines := [], witRepeat := false, witKey := none }
    if d.witness ∧ d.witFrom ≤ start then
      let f : WitFrame := {
        start := start
        tick := k.1
        second := k.2
        src := e.shown
        repeated := d.witRepeat
        video := video
        lines := d.witLines }
      { d' with witDone := d.witDone.filter (fun g => g.start != f.start) ++ [f] }
    else d')

/-- A line sent joins the frame being witnessed, `again` when it repeats another; one of another frame ends the one before, which was
cut short; line N ends its own (R267, R434). -/
def State.witLine (s : State) (dst : Nat) (l : FabLine) (again : Bool) : State :=
  let q := s.sentFrame dst l
  let k := s.dest dst
  if !k.witness then s
  else
    let t := if k.witKey.isSome && k.witKey != some q then s.witClose dst true else s
    let t := t.updDest dst (fun d => { d with
      witKey := some q
      witLines := d.witLines ++ [l]
      witRepeat := d.witRepeat || again })
    if l.hdr.line = rasterLines (fmtRaster l.fmt) then t.witClose dst true else t

/-- DST_FRAME_START: the input is judged afresh (R246), frames in CLASH are counted, and flow entries start or stop
(R260). -/
def execDstFrameStart (dst : Nat) (s : State) : Host.Outcome State Fault Refusal :=
  let d := s.dest dst
  match s.destFrame d with
  | some (n, h, at') =>
    if d.kind ≠ 0 ∧ (s.dom d.td).started ∧ (d.frameAt : Int) < at' then
      let t := s.setDest dst { d with frameAt := at'.toNat, frameTick := n, frameSecond := h }
      let t := (t.destJudge dst).latchFlows dst
      let t := if (t.dest dst).state = 3 then t.updDest dst (fun k => { k with clash := satAdd 65535 k.clash 1 }) else t
      .next (if (t.dest dst).silent then t.witClose dst false else t)
    else .next s
  | none => .next s

/-! ## EGRESS_LINE_RECEIVE (R231 to R235) -/

/-- A plane delivers its copies (R236, R238). -/
def Plane.delivers (p : Plane) : Bool := p.state == .inService || p.state == .shadow

/-- One plane's copy of the line that reaches an output port: the line of the input its own entry names. -/
def State.copyOf (s : State) (dst : Nat) (b : Bool) : Option FabLine :=
  let e := (s.out dst).now b
  if e.valid && (s.plane b).delivers then s.portLine e (s.portTd dst) else none

/-- The frame and line due at an output port from the input of an entry (R231): by the timing of its source, of its read-out, or of
its tie, a hop later (R187, R200, R331). -/
def State.dueAt (s : State) (dst : Nat) (e : XEntry) (fmt : Nat) : Nat × Bool × Nat :=
  let td := s.portTd dst
  if e.path = 2 then
    s.dueIn td fmt (((s.entryTie e td).map (fun t => t.align)).getD 0) (halfLine fmt + tuUs 1)
  else
    match s.localOf e.src with
    | some n => s.dueIn td fmt (if (s.source n).classF then 0 else (s.source n).alignAt (s.dom td).last) 0
    | none => s.dueIn td fmt 0 0

/-- The header check of a copy (R231): SRC of the entry, TD of the port's domain, LINE and TICK of the line due. -/
def State.hdrFails (s : State) (dst : Nat) (b : Bool) (f : CopyFault) (l : FabLine) : Bool :=
  let e := (s.out dst).now b
  let h := hdrOf (hdrImage l.hdr ^^^ (copyMask f 0 % 2 ^ 64))
  let q := s.dueAt dst e l.fmt
  h.src != e.src % 4096 || h.td != s.portTd dst || h.line != q.2.2 || h.tick != q.1 % 16777216

/-- The first word from which a plane's copy of the line at a destination is bad; none when every word is good (R232). -/
def State.badFrom (s : State) (dst : Nat) (b : Bool) (f : CopyFault) : Option Nat :=
  let e := (s.out dst).now b
  match s.copyOf dst b with
  | none => some 0
  | some l =>
    if f.missing || (s.out dst).uncorr b || entryRead f.entryBits == 2 || s.hdrFails dst b f l then some 0
    else
      let err := (f.errLines.filter (fun q => q.1 == sliceOf e.port)).map (fun q => q.2)
      let crc := (f.flips.filter (fun q => wordFails q.2)).map (fun q => q.1)
      ((err ++ crc).filter (fun i => decide (i < burstWords l))).min?

/-- What reading its entry does: a corrected one is a NOTE, an uncorrectable one stays so until it is written again (R204). -/
def State.entryFault (s : State) (dst : Nat) (b : Bool) (f : CopyFault) : State :=
  match entryRead f.entryBits with
  | 0 => s
  | 1 => s.strike 21 (dst % 2000)
  | _ => s.updOut dst (fun o => if o.uncorr b then o else { o with bad := o.bad ++ [(b, o.cur, f.entryBits)] })

/-- The slot of a line after both bursts (R233). -/
structure ReplaySlot where
  /-- The line whose words the slot begins with, and whether any word of it is good. -/
  line : Option FabLine
  /-- Some word is bad in both planes (R234). -/
  torn : Bool
  /-- The words, by index, that the slot holds wrong. -/
  flips : List (Nat × Nat)
  /-- The words came from copies of two different lines. -/
  mixed : Bool
  deriving DecidableEq, Repr

/-- The words of the slot: those of the plane in TRUST up to its first bad word, then those of the other plane (R233). A plane that is
not IN_SERVICE writes none (R238). -/
def State.slotOf (s : State) (dst : Nat) (a b : CopyFault) : ReplaySlot :=
  let tb := s.trusts dst
  let from' := fun (p : Bool) => if (s.plane p).state = .inService then s.badFrom dst p (if p then b else a) else some 0
  let first := s.copyOf dst tb
  let other := s.copyOf dst (!tb)
  let ff := if tb then b else a
  let fo := if tb then a else b
  match from' tb with
  | none => ⟨first, false, ff.flips, false⟩
  | some k =>
    { line := if k = 0 then (if (from' (!tb)).isNone then other else first <|> other) else first
      torn := (from' (!tb)).isSome
      flips := ff.flips.filter (fun q => decide (q.1 < k)) ++ fo.flips.filter (fun q => decide (k ≤ q.1))
      mixed := decide (k ≠ 0) && first != other }

/-- The line checksum of the slot is not the one it carries (R234). Of the words of two different lines it is not computed here: free
(log 119). -/
def ReplaySlot.sumBad (x : ReplaySlot) (free : Nat) : Bool :=
  match x.line with
  | some l =>
    if x.mixed then bit (Config.freeWord free).toNat 0
    else !x.flips.isEmpty && sumFails (burstWords l) (fun i => ((x.flips.find? (fun q => q.1 == i)).map (fun q => q.2)).getD 0)
  | none => true

/-- The line that a slot holds: as it entered the fabric, or as changed words that pass every check give it, whose place among the
samples is not stated (log 119). -/
def ReplaySlot.content (x : ReplaySlot) (l : FabLine) : FabLine :=
  if x.flips.all (fun q => q.2 % 2 ^ 1024 == 0) && !x.mixed then l
  else { l with samples := Config.readBack l.samples x.flips }

/-- A plane's copy is bad: from some word on, or by its own line checksum (R232, R233). -/
def State.copyBad (s : State) (dst : Nat) (b : Bool) (f : CopyFault) : Bool :=
  (s.badFrom dst b f).isSome || (match s.copyOf dst b with
    | some l => !f.flips.isEmpty && sumFails (burstWords l) (copyMask f)
    | none => false)

/-- A bad copy is counted in its plane; in SHADOW it ends the return (R238). -/
def State.countBad (s : State) (b : Bool) : State :=
  let t := s.setPlane b { s.plane b with bad := satAdd 4294967295 (s.plane b).bad 1 }
  if (s.plane b).state = .shadow then (t.planeGo b .offline).planeSettle b 1 repBadState else t

/-- The line that will have been sent last before one that is received now: the latest in the replay allocation, else the last one
sent. -/
def Dest.lineBefore (d : Dest) : Option FabLine := (d.replay.getLast?.map (fun q => q.2.1)) <|> d.lastSent

/-- The line a destination sends in place of one it cannot send: the content of the one sent before it with the header of the line,
without packets but for the timecode that TC 0 passes on (R234, R255). -/
def Dest.repeatLine (d : Dest) (l : FabLine) : FabLine :=
  match d.lineBefore with
  | some w => { w with
      hdr := l.hdr
      anc := if d.tc = 0 then (w.anc.filter (fun p => p.kind == .timecode)).map (fun p => { p with line := l.hdr.line }) else [] }
  | none => { l with samples := blackLine l.fmt l.sampling l.depth, anc := [] }

/-- Takes a line into the replay slot (R233, R234): `good` whether it can be sent, `at'` when its word 0 came or would have come from
Plane A (R249). -/
def State.slotLine (s : State) (dst at' : Nat) (l : FabLine) (good : Bool) : State :=
  let d := s.dest dst
  let t := s.setDest dst { d with
    replay := d.replay.drop (d.replay.length - 1) ++ [(at', if good then l else d.repeatLine l, !good)] }
  if good then t
  else
    let t := t.updOut dst (fun o => { o with repeats := satAdd 65535 o.repeats 1 })
    ({ t with repeated := satAdd 4294967295 t.repeated 1 } : State).strike (13 + dst / 128) dst

/-- A bad copy of a plane is counted, and drives the plane's line error source when the slot is good (R235, R238). -/
def State.reportCopy (s : State) (dst : Nat) (b slotGood : Bool) : State :=
  let t := s.countBad b
  if slotGood then t.strike (if b then 9 else 8) (dst % 2000) else t

/-- 64 fabric cycles, the lag of Plane B (R203), in twelfths of a nanosecond. -/
def planeLag : Nat := 512

/-- A plane delivers a copy to an output port. -/
def State.copyComes (s : State) (dst : Nat) (b : Bool) : Bool := (s.plane b).delivers && ((s.out dst).now b).valid

/-- What reading the entries of both planes does (R204). -/
def State.readEntries (s : State) (dst : Nat) (a b : CopyFault) : State :=
  let t := if s.copyComes dst false then s.entryFault dst false a else s
  if s.copyComes dst true then t.entryFault dst true b else t

/-- The bad copies of a line, as they came in state `s`, are counted and reported (R235, R238). -/
def State.reportCopies (t s : State) (dst : Nat) (a b : CopyFault) (good : Bool) : State :=
  let t := if s.copyComes dst false && s.copyBad dst false a then t.reportCopy dst false good else t
  if s.copyComes dst true && s.copyBad dst true b then t.reportCopy dst true good else t

/-- The slot holds a line that can be sent (R233, R234). -/
def ReplaySlot.whole (x : ReplaySlot) (free : Nat) : Bool := !x.torn && !x.sumBad free

/-! ### Departure ports and comparator taps -/

/-- What a comparator keeps of an input: the lines of three frames at most. -/
def keepTap (ls : List TapLine) (l : TapLine) : List TapLine :=
  ls.drop (ls.length + 1 - 3 * rasterLines (fmtRaster l.line.fmt)) ++ [l]

/-- A running comparator takes a line of its input `one` (11 R316 to R318). -/
def Comparator.take (k : Comparator) (one : Bool) (l : TapLine) : Comparator :=
  if !k.running then k
  else if one then { k with loop1 := keepTap k.loop1 l }
  else { k with loop0 := keepTap k.loop0 l }

/-- An input of a comparator is the loopback of a destination. -/
def isLoop (v : Nat) : Bool := decide (0x8000 ≤ v ∧ v < 0x8400)

/-- The copy of one plane alone, as a comparator with PLANE 1 or 2 takes it: the line, and whether it is bad (11 R318). -/
def State.planeCopy (s : State) (dst : Nat) (b : Bool) (f : CopyFault) : Option (FabLine × Bool) :=
  (s.copyOf dst b).map (fun l => (({ line := some l, torn := false, flips := f.flips, mixed := false } : ReplaySlot).content l,
    s.copyBad dst b f))

/-- A comparator tap takes the line of its input: merged, or of the plane that PLANE names, bad or not; a merged line that both planes
carry bad is not delivered (R201, R233, 11 R316, R318). -/
def State.tapLine (t s : State) (dst : Nat) (a b : CopyFault) (x : ReplaySlot) : State :=
  let e := (dst - 1984) / 2
  let one := dst % 2 == 1
  let k := (s.engine e).cmp
  let v := if one then k.in1 else k.in0
  let p := if one then k.plane1 else k.plane0
  let got := match p with
    | 0 => if x.whole s.bx.free then x.line.map (fun l => (x.content l, false)) else none
    | 1 => s.planeCopy dst false a
    | _ => s.planeCopy dst true b
  match got with
  | some (l, bad) =>
    if isLoop v then t else t.updEngine e (fun g => { g with cmp := g.cmp.take one { came := s.clk, bad := bad, line := l } })
  | none => t

/-- A departure port sends the line of its tie over its link; without a good copy of some word it sends none, and the far end repeats
(R201, R233, 12 R331; log 144). -/
def State.departLine (t s : State) (dst : Nat) (x : ReplaySlot) : State :=
  match s.depart.find? (fun q => q.outKey == dst), x.line with
  | some q, some l => if x.whole s.bx.free then t.sendFrame (s.linkAt q.dev) (.line (x.content l)) else t
  | _, _ => t

/-- A departure port or a comparator tap merges and checks both planes' copies of a line (R201, R204, R231 to R235). -/
def State.portReceive (s : State) (dst : Nat) (a b : CopyFault) : State :=
  let x := s.slotOf dst a b
  let t := s.readEntries dst a b
  let t := (if x.mixed then t.drawFree else t).reportCopies s dst a b (x.whole s.bx.free)
  if 1984 ≤ dst ∧ dst < 2000 then t.tapLine s dst a b x else t.departLine s dst x

/-- EGRESS_LINE_RECEIVE: the first word 0 of a line reaches an output port, and both planes' copies follow. Of the destinations only one
with a suitable input merges them (R231 to R235, R247, R249). -/
def execEgressLineReceive (dst : Nat) (a b : CopyFault) (s : State) : Host.Outcome State Fault Refusal :=
  if 1024 ≤ dst then .next (if s.copyComes dst false || s.copyComes dst true then s.portReceive dst a b else s)
  else if (s.dest dst).state = 2 then
    let x := s.slotOf dst a b
    match x.line with
    | none => .next s
    | some l =>
      let good := x.whole s.bx.free
      let at' := if s.copyComes dst false && !a.missing then s.clk else s.clk - planeLag
      let t := s.readEntries dst a b
      let t := (if x.mixed then t.drawFree else t).slotLine dst at' (x.content l) good
      .next (t.reportCopies s dst a b good)
  else .next s

/-! ## Timecode (R255) -/

/-- The UTC offset in force for a time base: of the PTP instance bound to it, or 37 s. -/
def State.utcOf (s : State) (tb : Nat) : Nat :=
  match s.instOf tb with
  | some i => ((s.inst i).utc).getD 37
  | none => 37

/-- Drop-frame numbering of ST 12-1 of a frame since midnight: `per` numbers a second, `drop` of them left out at every
minute but each tenth (PRESUMED, log 28). -/
def dropFrame (per drop n : Nat) : Nat :=
  let ten := 600 * per - 9 * drop
  let one := 60 * per - drop
  let m := n % ten
  let extra := if m < drop then 0 else (m - drop) / one
  n + 9 * drop * (n / ten) + drop * extra

/-- The timecode of a frame: hours, minutes, seconds, frames, and whether counting drops frames. -/
def State.timecode (s : State) (d : Dest) : List Nat :=
  let t := s.tbTimeAt d.tcTb d.frameAt
  let sec := t / tbSecond + 86400 * 3 - s.utcOf d.tcTb
  let day := sec % 86400
  let frac := t % tbSecond
  let r := rateFraction (fmtRate d.fmt)
  let drops := fmtRate d.fmt = 3 ∨ fmtRate d.fmt = 6
  let per := if fmtRate d.fmt = 3 then 30 else 60
  if drops then
    let n := dropFrame per (per / 15) ((day * tbSecond + frac) * r.1 / (tbSecond * r.2))
    [n / (3600 * per), n / (60 * per) % 60, n / per % 60, n % per, 1]
  else [day / 3600, day / 60 % 60, day % 60, frac * r.1 / (tbSecond * r.2), 0]

/-- The generated ATC packet on line 10 (DESIGN CHOICE, log 28), its user data words holding the fields of the timecode. -/
def State.tcPacket (s : State) (d : Dest) (line : Nat) : List AncPacket :=
  if d.tc = 1 ∧ line = 10 then [madeAnc .timecode 10 0x60 0x60 (s.timecode d)] else []

/-- The packets a line carries of its stream and the timecode that TC gives (R255). -/
def State.sentAnc (s : State) (d : Dest) (line : Nat) (anc : List AncPacket) : List AncPacket :=
  anc.filter (fun p => p.kind != .timecode || d.tc == 0) ++ s.tcPacket d line

/-! ## EGRESS_LINE_SEND (R248 to R250, R253 to R263) -/

/-- The packets that an entry sends with a line, by the image it runs on; an ancillary flow carries those the line is sent with, the
ones egress inserts among them, and of an ST 2022-6 destination without video none (R248, R261, R263, R266). -/
def State.packetsOf (s : State) (dst : Nat) (im : List Byte) (l : FabLine) (sent : Bool) : List SentPkt :=
  match byteAt im 0 with
  | 1 => if sent && activeLine (fmtRaster l.fmt) l.hdr.line then s.videoPackets dst im l else []
  | 4 =>
    if sent then s.ancPackets dst { l with anc := l.anc ++ s.inserted dst l.hdr.line }
    else if (s.dest dst).transport = 10 then s.ancPackets dst l
    else []
  | 5 => if sent then s.sdiPackets dst im l else []
  | _ => []

/-- The payload octets of a packet (R261, R263, R266; octets count payload, log 25). -/
def SentPkt.octets (p : SentPkt) (im : List Byte) : Nat :=
  match byteAt im 0 with
  | 1 => p.samples.length / groupSamples (0, byteAt im 58, byteAt im 59) * (pgroup (byteAt im 58) (byteAt im 59)).1
  | 4 => (p.anc.map (fun a => a.udw.length + 4)).foldl (· + ·) 0
  | 5 => 1376
  | _ => 0

/-- The line a destination is about to send leaves a whole line period or more after its departure instant, outside the
interval of its packets (R258, R262; log 95). -/
def State.lineLate (s : State) (dst : Nat) : Bool :=
  let d := s.dest dst
  match d.replay.head? with
  | some (at', _, _) => d.state == 2 && decide (at' + 2 * linePeriod d.fmt ≤ s.clk)
  | none => false

/-- The image that numbers the packets of both legs of a flow: of leg A while it runs (R264). -/
def State.baseImage (s : State) (i : Nat) : List Byte :=
  let f := s.txFlow i
  let a := s.txFlow (i - 1)
  if byteAt f.live 1 % 2 = 1 ∧ a.live ≠ [] ∧ byteAt a.live 0 = byteAt f.live 0 then a.live else f.live

/-- An entry sends the packets of a line, and counts them and those sent late (R258, R261 to R264); a subport that is down sends
nothing (R531). -/
def State.sendOn (s : State) (dst : Nat) (l : FabLine) (sent late : Bool) (i : Nat) : State :=
  let f := s.txFlow i
  let ps := s.packetsOf dst (s.baseImage i) l sent
  let port := byteAt f.live 2
  if f.running && (s.codedSub port).up && !s.legHeld dst (byteAt f.live 1 % 2) && !ps.isEmpty then
    let r := s.macsecTake (8 * (port / 16) + port % 8) ps.length
    let gone := ps.take r.2
    if r.2 = 0 then r.1
    else r.1.setTxFlow i { f with
      pkts := satAdd 18446744073709551615 f.pkts r.2
      octets := satAdd 18446744073709551615 f.octets ((gone.map (fun p => p.octets f.live)).foldl (· + ·) 0)
      late := if late then satAdd 4294967295 f.late r.2 else f.late
      lastTx := s.nowNs
      out := gone }
  else s

/-- A destination sends nothing now: stopped by ALIVE_RELEASE, held by the pair rules, or in FROZEN named by a DIVERGE map (R343,
R375). -/
def State.destMute (s : State) (dst : Nat) : Bool :=
  let d := s.dest dst
  s.boot.dataStop || (d.diverged && d.pairMode == 1 && decide (s.pr.state = .frozen))
    || (if d.kind = 3 then s.legHeld dst 0 && s.legHeld dst 1 else s.legHeld dst 0)

/-- The transmitter of SDI lane `n` drives its ball: the lane is an output out of near-end loopback, nothing has released ALIVE_N, and a
generator runs on it or a destination that pairing does not gate is bound to it (R343, R384, R515, R516, R525). -/
def State.laneDrives (s : State) (n : Nat) : Bool :=
  let k := s.lane (128 + n)
  k.role == 2 && s.pins.resetN && !s.boot.dataStop && bitsOf k.testCtrl.toNat 1 0 != 1
    && (k.test == 1 || k.test == 3 || s.de.any (fun p => p.2.lanes.contains n && !s.destMute p.1))

/-- The words of the line that the ball of SDI lane `n` carries; none while it drives no signal (R253, R515). -/
def State.laneWords (s : State) (n : Nat) : List Nat := if s.laneDrives n then (s.lane (128 + n)).sent else []

/-- Running comparators that name a destination's loopback take the line it sends (R317). -/
def State.tapLoops (s : State) (dst : Nat) (l : FabLine) : State :=
  let t : TapLine := { came := s.clk, bad := false, line := l }
  let of := fun (k : Comparator) =>
    let k := if k.in0 = 0x8000 + dst then k.take false t else k
    if k.in1 = 0x8000 + dst then k.take true t else k
  { s with mq := s.mq.map (fun p => (p.1, { p.2 with cmp := of p.2.cmp })) }

/-- A line leaves a destination: framed on its lanes or as packets, to the loopbacks and the witness (R253 to R267, R317). -/
def State.emit (s : State) (dst : Nat) (l : FabLine) (again : Bool) : State :=
  let d := s.dest dst
  let extra := s.inserted dst l.hdr.line
  let sent : FabLine := { l with anc := l.anc ++ extra }
  let covers := if (edhLines (fmtRaster d.fmt)).contains l.hdr.line then [] else d.edhOver
  let n := l.hdr.line
  let t := s.updDest dst (fun k => { k with
    lastSent := some sent
    framed := if d.transport = 10 then [] else d.frameLine l extra
    carry := if d.transport = 11 then
        (d.streamWith n (d.framePart l extra 0)).drop (1376 * (datagramsTo d.fmt n - datagramsTo d.fmt (n - 1)))
      else []
    edhOver := if edhLines (fmtRaster d.fmt) = [] then [] else covers ++ [l.samples]
    audioAt := s.clk
    stretch := if d.stretchOf l.hdr.line = 0 then k.stretch else 0
    sent := k.sent + 1 })
  let t := if d.kind = 1 ∨ d.kind = 2 then t.laneOut dst else t
  (t.tapLoops dst sent).witLine dst sent again

/-- Sends a line of a destination, `again` one that repeats another: on its lane or as packets, with `fit` packets finding room (R250,
R256). -/
def State.sendLine (s : State) (dst : Nat) (l : FabLine) (again : Bool) (fit : Nat) : State :=
  let d := s.dest dst
  let anc := s.sentAnc d l.hdr.line l.anc
  let kept := d.shortened l.hdr.line (anc.take fit)
  let l : FabLine := { l with anc := kept }
  let video := !d.silent
  let t := s.setDest dst { d with
    line := l.hdr.line
    replay := if d.state = 2 then d.replay.drop 1 else []
    ancDropped := satAdd 65535 d.ancDropped (anc.length - kept.length) }
  if s.destMute dst then t
  else
    let t := if d.kind = 3 then (s.flowsOf dst).foldl (fun u i => u.sendOn dst l video (s.lineLate dst) i) t else t
    if video then t.emit dst l again else t

/-- The black line that is due at a destination whose input gives it no picture: the line its timing has reached. -/
def State.blackDue (s : State) (dst : Nat) : FabLine :=
  let d := s.dest dst
  let n := ((s.clk - d.frameAt + 1) * rasterLines (fmtRaster d.fmt) - 1) / ratePeriod (fmtRate d.fmt) + 1
  let line := min n (rasterLines (fmtRaster d.fmt))
  let depth := if d.transport = 10 then d.depth else 10
  let sampling := if d.transport = 10 then d.sampling else 0
  { hdr := {
      src := 0
      td := d.td
      parity := frameNumber d.fmt (s.dom d.td) d.frameTick d.frameSecond % 2
      line := line
      tick := d.frameTick % 16777216
      cls := d.cls }
    fmt := d.fmt
    sampling := sampling
    depth := depth
    samples := blackLine d.fmt sampling depth
    anc := [] }

/-- EGRESS_LINE_SEND: a received line leaves one line period after its word 0 came (R249); without a picture from its input
the destination sends black at its own timing (R247, R248). -/
def execEgressLineSend (dst ancFit : Nat) (s : State) : Host.Outcome State Fault Refusal :=
  let d := s.dest dst
  if dst < 1024 ∧ d.kind ≠ 0 ∧ d.frameAt ≠ 0 then
    if d.state = 2 then
      match d.replay.head? with
      | some (at', l, again) => if at' + linePeriod d.fmt ≤ s.clk then .next (s.sendLine dst l again ancFit) else .next s
      | none => .next s
    else
      let l := s.blackDue dst
      if l.hdr.line ≠ d.line then .next (s.sendLine dst l false ancFit) else .next s
  else .next s

/-! ## AUDIO_PACKET_SEND (R265) -/

/-- The entry is the second leg of an audio flow whose first is set: its packets go with the first leg's (R257, R264). -/
def State.secondLeg (s : State) (i : Nat) : Bool :=
  let f := s.txFlow i
  f.leg == 1 && (s.txFlow (i - 1)).image != [] && (s.txFlow (i - 1)).kind == f.kind

/-- One leg of an audio flow at packet time `k`: it takes its image, starts or stops, and sends the packet; one outside its interval
is late (R258, R260, R265; log 95). -/
def State.audioLeg (s : State) (k : Nat) (p : SentPkt) (i : Nat) : State :=
  let f := s.txFlow i
  let late := f.running && f.slot + 1 != k
  let f := { f with live := f.image, slot := k, running := f.enabled && (s.codedSub f.port).up }
  if f.running && !s.boot.dataStop then
    let r := s.macsecTake (8 * (f.port / 16) + f.port % 8) 1
    if r.2 = 0 then r.1.setTxFlow i f else r.1.setTxFlow i { f with
      pkts := satAdd 18446744073709551615 f.pkts 1
      octets := satAdd 18446744073709551615 f.octets (audioPayload f.image)
      late := if late then satAdd 4294967295 f.late 1 else f.late
      lastTx := s.nowNs
      out := [p] }
  else s.setTxFlow i f

/-- AUDIO_PACKET_SEND: an audio flow starts, stops and sends at its packet times, the same packet on both legs (R260, R264, R265). -/
def execAudioPacketSend (tf : Nat) (s : State) : Host.Outcome State Fault Refusal :=
  let i := 2048 + tf
  let f := s.txFlow i
  let k := s.packetIndex f.image
  if tf < 1024 ∧ (f.kind = 2 ∨ f.kind = 3) ∧ k ≠ f.slot ∧ s.secondLeg i = false then
    let p := s.audioPacket tf k f.image
    let t := s.audioLeg k p i
    .next (if s.secondLeg (i + 1) then t.audioLeg k p (i + 1) else t)
  else .next s

/-! ## FRAME_DIGEST (R434, R439) -/

/-- The bytes of one ST 291 packet under a digest: each value in 2 bytes, big-endian (R434). -/
def ancBytes (p : AncPacket) : List Byte :=
  ([p.line, p.did, p.sdid, p.udw.length] ++ p.udw ++ [p.csum]).flatMap (fun v => beBytes 2 v)

/-- A packet is part of a digest. -/
def digested (p : AncPacket) : Bool := p.kind != .audio && p.kind != .payloadId

/-- The digest of a witnessed frame (R434). -/
def WitFrame.digest (f : WitFrame) (anc : Bool) : BitVec 256 :=
  let picture := f.lines.filter (fun l => activeLine (fmtRaster l.fmt) l.hdr.line)
  sha256 (picture.flatMap (fun l => Config.pgroupPack l.sampling l.depth l.samples)
    ++ (if anc then f.lines.flatMap (fun l => (l.anc.filter digested).flatMap ancBytes) else []))

/-- The comparator report that names a destination's loopback as input 1 for a frame (R320). -/
def State.reportFor (s : State) (dst tick : Nat) (second : Bool) : Option (List Byte) :=
  (s.mq.find? (fun e => e.2.cmp.running && e.2.cmp.in1 == 0x8000 + dst && !e.2.cmp.report.isEmpty
    && leNat (slice e.2.cmp.report 0 8) == tick && bit (byteAt e.2.cmp.report 13) 4 == second)).map
      (fun e => e.2.cmp.report)

/-- The body of a FRAME_DIGEST record from offset 80 on. -/
def State.digestBody (s : State) (dst : Nat) (f : WitFrame) : List Byte :=
  let d := s.dest dst
  let r := s.reportFor dst f.tick f.second
  let rf := (r.map (fun b => byteAt b 13)).getD 0
  leBytes 2 dst ++ leBytes 2 f.src
    ++ leBytes 1 (flag f.second + 2 * flag d.witAnc + 4 * flag (!f.video) + 8 * flag r.isSome
        + 16 * (rf % 2) + 32 * flag f.repeated)
    ++ leBytes 1 rf ++ leBytes 2 d.witMissed
    ++ leBytes 8 ((r.map (fun b => leNat (slice b 32 8))).getD 0)
    ++ beBytes 32 (f.digest d.witAnc).toNat

/-- FRAME_DIGEST: the digest of the oldest frame sent is given to the Grain block (R434). -/
def execFrameDigest (dst : Nat) (s : State) : Host.Outcome State Fault Refusal :=
  let d := s.dest dst
  match d.witDone with
  | [] => .next s
  | f :: rest =>
    let t := s.giveRecord 0x30 f.start (some (d.td, f.tick)) (s.digestBody dst f) none
    .next (t.setDest dst { d with witDone := rest, witMissed := 0 })

end Sys2Proof.Machine
end

