-- ==== Sys2Proof/Machine/Marquetry.lean ====
section
/-! DEFINITION. The Marquetry engines (chapter 11, 17 R472): MQ_LAYOUT, MQ_VENEER, MQ_FENCE_GROUP, MQ_OUTPUT, MQ_COMPARE,
MQ_STATUS, the engine frame start, the fence and the comparator's report. -/
namespace Sys2Proof.Machine

/-! ## What an engine was set to -/

/-- What MQ_OUTPUT last set: MODE, TD, FMT, DEPTH, MEMFMT, DIVIDER, COLOUR. -/
def Engine.asSet (e : Engine) : List Nat :=
  ((e.pendOut.getLast?).map (fun q => q.2)).getD [e.mode, e.td, e.fmt, e.depth, e.memFmt, e.divider, e.colour]

/-- MODE as set. -/
def Engine.setMode (e : Engine) : Nat := e.asSet.getD 0 0

/-- TD as set. -/
def Engine.setTd (e : Engine) : Nat := e.asSet.getD 1 0

/-- FMT as set. -/
def Engine.setFmt (e : Engine) : Nat := e.asSet.getD 2 0

/-- The tiles of the layout last set. -/
def Engine.setTiles (e : Engine) : List (List Byte) := ((e.pendLayout.getLast?).map (fun q => q.2.2)).getD e.tiles

/-- TD and FMT that time an engine's frames: those in force while it composes, else those of the oldest MQ_OUTPUT that waits (R302,
R303; DEDUCED, log 141). -/
def Engine.timing (e : Engine) : Nat × Nat :=
  if e.mode = 1 ∨ e.mode = 2 then (e.td, e.fmt)
  else ((e.pendOut.head?).map (fun q => (q.2.getD 1 0, q.2.getD 2 0))).getD (e.td, e.fmt)

/-- The engine composes pictures as set (MODE 1 or 2). -/
def Engine.composes (e : Engine) : Bool := e.setMode == 1 || e.setMode == 2

/-- The source bound to an engine by SRC_BIND with KIND 4. -/
def State.engineSource (s : State) (e : Nat) : Option Nat :=
  (s.sr.find? (fun p => p.2.kind == 4 && p.2.lane == e)).map (fun p => p.1)

/-- Where an engine's memory begins in the HBM window (18 Table Address map). -/
def engineArea (e : Nat) : Nat := 0x1000000000 + 0x18000000 * e

/-! ## MQ_OUTPUT -/

/-- The checks of MQ_OUTPUT (R303). -/
def mqOutputChecks (s : State) (x : Ctx) : List Check :=
  let c := x.cmd
  let e := c.u8 16
  let mode := c.u8 17
  let d := s.dom (c.u8 18)
  let fmt := c.u8 19
  let run := mode == 1 || mode == 2
  let src := s.engineSource e
  [badIf (decide (8 ≤ e)) 16, badIf (decide (4 ≤ mode)) 17, badIf (decide (8 ≤ c.u8 18)) 18,
   badIf (if run then !fmtSupported fmt || (mode == 1 && fmtRaster fmt == 7)
      || (d.hasTicks && !rateFits (fmtRate fmt) (d.rate.getD 8)) else fmt != 0) 19,
   badIf (if run then c.u8 20 != 6 && c.u8 20 != 8 && c.u8 20 != 10 else c.u8 20 != 0) 20,
   badIf (decide (2 ≤ c.u8 21) || (c.u8 21 == 1 && c.u8 20 == 10)) 21,
   badIf (if mode = 1 then c.u8 22 == 0 else c.u8 22 != 1) 22,
   badIf (decide (2 ≤ c.u8 23)) 23, reserved c 24 64,
   (!d.hasTicks, repBadState),
   (mode == 2 && (match src with
      | some n => (s.source n).td != c.u8 18
      | none => true), repBadState),
   ((match src with
      | some n => s.selected n
      | none => false) && (range 17 7).map c.u8 != (s.engine e).asSet, repBadState),
   (mode == 1 && decide (16 < (s.engine e).setTiles.length), repBadState)]

/-- MQ_OUTPUT (R303): the new mode takes effect at the first frame start at least 1.0 ms later. -/
def cmdMqOutput : CmdSpec where
  opcode := 0x0804
  role := .operator
  ptr := .never
  checks := mqOutputChecks
  effect := .atOnce fun s x =>
    (s.updEngine (x.cmd.u8 16) (fun e => { e with
      pendOut := e.pendOut ++ [(s.clk + tuMs 1, (range 17 7).map x.cmd.u8)] }), repDone [])

/-- MQ_OUTPUT as a row. -/
def execMqOutput (mb : Nat) (c : Cmd) (s : State) : Host.Outcome State Fault Refusal :=
  .next (runCommand cmdMqOutput mb c s)

/-! ## MQ_LAYOUT -/

/-- The tile entries of a buffer. -/
def tilesOf (bs : List Byte) : List (List Byte) := (range 0 (bs.length / 16)).map (fun i => slice bs (16 * i) 16)

/-- Two tiles overlap. -/
def overlap (a b : List Byte) : Bool :=
  decide (tileField a 0 < tileField b 0 + tileField b 2 ∧ tileField b 0 < tileField a 0 + tileField a 2
    ∧ tileField a 1 < tileField b 1 + tileField b 3 ∧ tileField b 1 < tileField a 1 + tileField a 3)

/-- A source's frame rate is above 1.001 times an engine's (R304). -/
def State.tooFast (s : State) (n fmt : Nat) : Bool :=
  match s.srcPic n with
  | some pic => decide (1001 * ratePeriod (fmtRate pic.1) < 1000 * ratePeriod (fmtRate fmt))
  | none => false

/-- The BAD_ARG checks of one tile at offset `o` of the buffer, after the tiles before it (R304). -/
def tileChecks (s : State) (g : Engine) (before : List (List Byte)) (t : List Byte) (o : Nat) : List Check :=
  let a := rasterActive (fmtRaster g.setFmt)
  let n := tileField t 4
  [badBufIf (tileField t 0 % 2 == 1) o,
   badBufIf (tileField t 2 % 2 == 1 || decide (tileField t 2 < 16)
     || (g.composes && decide (a.1 < tileField t 0 + tileField t 2))) (o + 4),
   badBufIf (decide (tileField t 3 < 8) || (g.composes && decide (a.2 < tileField t 1 + tileField t 3))) (o + 6),
   badBufIf (n != 0xFFFF && (decide (1024 ≤ n) || (g.composes && s.tooFast n g.setFmt))) (o + 8),
   reservedBuf t 10 16,
   badBufIf (before.any (fun b => overlap b t)) o]

/-- The checks of every tile, in order. -/
def tilesChecks (s : State) (g : Engine) (ts : List (List Byte)) : List Check :=
  ts.zipIdx.flatMap (fun q => (tileChecks s g (ts.take q.2) q.1 (16 * q.2)).zipIdx.map (fun k =>
    if k.2 = 4 then (k.1.1, repBadBuf (16 * q.2 + ((firstSet q.1 10 6).getD 10))) else k.1))

/-- MQ_LAYOUT (R304): the new layout takes effect at the first frame start at least 1.0 ms later. -/
def cmdMqLayout : CmdSpec where
  opcode := 0x0801
  role := .operator
  ptr := .must (fun n => decide (n % 16 = 0 ∧ n ≤ 1024))
  checks := fun s x =>
    let c := x.cmd
    let g := s.engine (c.u8 28)
    let ts := tilesOf x.buf
    [badIf (decide (8 ≤ c.u8 28)) 28, reserved c 29 30, badIf (decide (1024 ≤ c.u16 30)) 30,
     badIf (decide (1024 ≤ c.u16 32)) 32, badIf (decide (1024 ≤ c.u16 34)) 34, reserved c 36 64,
     badIf (g.setMode == 1 && decide (16 < ts.length)) 24]
    ++ tilesChecks s g ts
    ++ [(!g.composes, repBadState),
        (ts.any (fun t => tileField t 4 != 0xFFFF
          && ((s.source (tileField t 4)).kind == 0 || !(s.source (tileField t 4)).classF)), repBadState)]
  effect := .atOnce fun s x =>
    let c := x.cmd
    (s.updEngine (c.u8 28) (fun e => { e with
      pendLayout := e.pendLayout
        ++ [(s.clk + tuMs 1, c.u16 30 + 1024 * c.u16 32 + 1048576 * c.u16 34, tilesOf x.buf)] }), repDone [])

/-- MQ_LAYOUT as a row. -/
def execMqLayout (mb : Nat) (c : Cmd) (s : State) : Host.Outcome State Fault Refusal :=
  .next (runCommand cmdMqLayout mb c s)

/-! ## Veneers (R307 to R311) -/

/-- What a flip names: its members (engine, veneer, buffer), fence channel, fence value and WAIT. -/
structure FlipOf where
  members : List (Nat × Nat × Nat)
  ch : Nat
  val : Nat
  wait : Nat
  deriving DecidableEq, Repr

/-- The flip of an MQ_VENEER or MQ_FENCE_GROUP. -/
def flipOf (c : Cmd) : FlipOf :=
  if c.opcode = 0x0802 then ⟨[(c.u8 16, c.u8 17, c.u8 18)], c.u8 19, c.u32 20, c.u8 24⟩
  else ⟨(range 0 (c.u8 16)).map (fun i => (c.u8 (24 + 3 * i), c.u8 (25 + 3 * i), c.u8 (26 + 3 * i))), c.u8 17, c.u32 20,
    c.u8 18⟩

/-- The checks of one member whose bytes begin at `o` (R308). -/
def memberChecks (s : State) (td o : Nat) (m : Nat × Nat × Nat) : List Check :=
  let g := s.engine m.1
  [badIf (decide (8 ≤ m.1) || (g.setMode != 0 && g.setTd != td)) o, badIf (decide (4 ≤ m.2.1)) (o + 1),
   badIf (decide (2 ≤ m.2.2) && m.2.2 != 0xFF) (o + 2)]

/-- A fence channel is 0 or one of 8 to 15. -/
def badChannel (ch : Nat) : Bool := ch != 0 && decide (ch < 8 ∨ 15 < ch)

/-- The state check of a flip's members (R308). -/
def membersIdle (s : State) (ms : List (Nat × Nat × Nat)) : Check :=
  (ms.any (fun m => !(s.engine m.1).composes), repBadState)

/-- The entries of a flip. -/
def flipParts (x : Ctx) : List (Nat × List Entry) :=
  [(x.cmd.td, (flipOf x.cmd).members.map (fun m => Entry.veneer m.1 m.2.1))]

/-- MQ_VENEER (R307 to R311). -/
def cmdMqVeneer : CmdSpec where
  opcode := 0x0802
  role := .operator
  ptr := .never
  checks := fun s x =>
    let c := x.cmd
    memberChecks s c.td 16 (c.u8 16, c.u8 17, c.u8 18)
      ++ [badIf (badChannel (c.u8 19)) 19, badIf (c.u8 24 == 0) 24, reserved c 25 64,
          membersIdle s (flipOf c).members]
  effect := .tick (fun _ x => flipParts x) (fun s _ => s)

/-- MQ_VENEER as a row. -/
def execMqVeneer (mb : Nat) (c : Cmd) (s : State) : Host.Outcome State Fault Refusal :=
  .next (runCommand cmdMqVeneer mb c s)

/-- A member names the veneer of an earlier one. -/
def repeatsMember (ms : List (Nat × Nat × Nat)) (i : Nat) : Bool :=
  match ms[i]? with
  | some m => (ms.take i).any (fun k => k.1 == m.1 && k.2.1 == m.2.1)
  | none => false

/-- MQ_FENCE_GROUP (R307 to R311). -/
def cmdMqFenceGroup : CmdSpec where
  opcode := 0x0803
  role := .operator
  ptr := .never
  checks := fun s x =>
    let c := x.cmd
    let n := c.u8 16
    let ms := (flipOf c).members
    [badIf (decide (n < 2 ∨ 8 < n)) 16, badIf (badChannel (c.u8 17)) 17, badIf (c.u8 18 == 0) 18, reserved c 19 20]
      ++ ms.zipIdx.flatMap (fun q => memberChecks s c.td (24 + 3 * q.2) q.1
        ++ [badIf (repeatsMember ms q.2) (24 + 3 * q.2)])
      ++ [reserved c (24 + 3 * n) 64, membersIdle s ms]
  effect := .tick (fun _ x => flipParts x) (fun s _ => s)

/-- MQ_FENCE_GROUP as a row. -/
def execMqFenceGroup (mb : Nat) (c : Cmd) (s : State) : Host.Outcome State Fault Refusal :=
  .next (runCommand cmdMqFenceGroup mb c s)

/-- A fence is met (R307). -/
def State.fenceMet (s : State) (ch val : Nat) : Bool :=
  ch == 0 || decide (((s.chan ch).flushCnt + 4294967296 - val) % 4294967296 < 2147483648)

/-- Flips one veneer. -/
def State.flipVeneer (s : State) (m : Nat × Nat × Nat) : State :=
  s.updVeneer (4 * m.1 + m.2.1) (fun v =>
    { buf := if m.2.2 = 0xFF then v.buf else m.2.2
      visible := m.2.2 != 0xFF })

/-- A flip in flight whose effective tick has come and whose fence is still to be met: `data` begins with 1, then names
the veneers whose entries have not lost (R83). -/
def Flight.waitsFence (f : Flight) : Bool :=
  (f.cmd.opcode == 0x0802 || f.cmd.opcode == 0x0803) && f.data.head? == some 1 && f.reply.isNone

/-- The last tick at which a flip may happen: its effective tick plus WAIT - 1 (R309). -/
def Flight.lastTick (f : Flight) : Nat := f.eff + (flipOf f.cmd).wait - 1

/-- A flip reaches its effective tick: it begins to wait, and earlier flips of its veneers still waiting complete
SUPERSEDED (R311). `veneers` are those of its entries that have not lost. -/
def State.beginFlip (s : State) (id : Nat) (veneers : List Nat) : State :=
  match s.flight? id with
  | none => s
  | some f =>
    let t := s.settleWhere (fun g => g.waitsFence && g.id != id && (g.data.drop 1).any veneers.contains) (repSuperseded f.sess)
    t.updFlight id (fun g => { g with data := 1 :: veneers })

/-- One waiting flip is tested at tick `n` of its domain (R309, R310). -/
def State.testFlip (s : State) (n : Nat) (f : Flight) : State :=
  let p := flipOf f.cmd
  if f.waitsFence && decide (f.eff ≤ n ∧ n ≤ f.lastTick) && s.fenceMet p.ch p.val && !s.boot.freeze then
    let ms := p.members.filter (fun m => (f.data.drop 1).contains (4 * m.1 + m.2.1))
    let t := ms.foldl (fun u m => u.flipVeneer m) s
    let t := t.updFlight f.id (fun g => { g with late := g.late || decide (g.eff < n), eff := n })
    t.effectDone f.id ms.length
  else s

/-- Every waiting flip of a domain is tested at its tick. -/
def State.testFlips (s : State) (d n : Nat) : State :=
  (s.bx.flights.filter (fun f => f.cmd.td == d)).foldl (fun t f => t.testFlip n f) s

/-- VENEER_WAIT_EXPIRY: a fence unmet at the last tick that the command allows (R309). -/
def execVeneerWaitExpiry (id : Nat) (s : State) : Host.Outcome State Fault Refusal :=
  match s.flight? id with
  | some f =>
    if f.waitsFence && decide (f.lastTick ≤ (s.dom f.cmd.td).count) then
      .next (s.settle id (repByte 0x12 1))
    else .next s
  | none => .next s

/-! ## Engine frames (R302, R306, R314, R315) -/

/-- The engine's source is VALID while the engine is in MONITOR mode, else in NO_SIGNAL (R315). -/
def State.followMonitor (s : State) (e : Nat) : State :=
  match s.engineSource e with
  | some n =>
    let g := s.engine e
    if g.mode = 2 then
      (if (s.source n).state = .valid ∧ (s.source n).fmt = g.fmt then s else s.takeFormat n (g.fmt, 0, 10) 12)
    else s.noSignal n
  | none => s

/-- What an MQ_OUTPUT set comes into force; a change of mode hides every veneer (R303, R308). -/
def State.applyOutput (s : State) (e : Nat) (v : List Nat) : State :=
  let g := s.engine e
  let mode := v.getD 0 0
  let u := s.setEngine e { g with
    mode := mode
    td := v.getD 1 0
    fmt := v.getD 2 0
    depth := v.getD 3 0
    memFmt := v.getD 4 0
    divider := v.getD 5 0
    colour := v.getD 6 0
    newest := if mode = g.mode then g.newest else none
    busy := if mode = g.mode then g.busy else none
    cmp := if mode = 3 then g.cmp else { g.cmp with running := false } }
  if mode = g.mode then u
  else (range (4 * e) 4).foldl (fun w i => w.updVeneer i (fun k => { k with visible := false })) u

/-- Takes at a frame start, in their order, the modes that are due (R303). -/
def State.takeOutput (s : State) (e at' : Nat) : State :=
  let q := (s.engine e).pendOut
  ((q.filter (fun p => decide (p.1 ≤ at'))).foldl (fun t p => t.applyOutput e p.2) s).updEngine e
    (fun g => { g with pendOut := q.filter (fun p => decide (at' < p.1)) })

/-- Takes at a frame start the last layout that is due (R304). -/
def State.takeLayout (s : State) (e at' : Nat) : State :=
  s.updEngine e (fun g =>
    let rest := g.pendLayout.filter (fun p => decide (at' < p.1))
    match (g.pendLayout.filter (fun p => decide (p.1 ≤ at'))).getLast? with
    | some (_, bg, ts) => { g with background := bg, tiles := ts, pendLayout := rest }
    | none => g)

/-- Starts the frame `n` of an engine: the frame in work is complete, and one that the mode asks for begins in the next
buffer (R314, R315). -/
def Engine.nextFrame (g : Engine) (n tick : Nat) : Engine :=
  let g := match g.busy with
    | some (b, t) => { g with newest := some b, newestTick := t, writes := g.writes + 1, busy := none }
    | none => g
  if (g.mode == 1 && n % g.divider == 0) || g.mode == 2 then { g with frame := n, busy := some (g.writes % 3, tick) }
  else { g with frame := n }

/-- MQ_FRAME_START (R302 to R306, R314, R315); a FREEZE keeps layout and mode (14 R393). The frame count is the tick count doubled, plus
1 for the second frame of a tick (R302; DEDUCED, log 141). -/
def execMqFrameStart (engine : Nat) (s : State) : Host.Outcome State Fault Refusal :=
  let g := s.engine engine
  let w := g.timing
  let q := s.frameStart w.1 w.2
  if engine < 8 ∧ (s.dom w.1).started ∧ g.frameAt < q.2.2 then
    let t := if s.boot.freeze then s else (s.takeOutput engine q.2.2).takeLayout engine q.2.2
    let t := t.updEngine engine (fun k => { k.nextFrame (2 * q.1 + flag q.2.1) q.1 with
      frameAt := q.2.2
      shown := t.tileFrames engine q.2.2
      before := k.shown
      badRows := [] })
    .next ((t.mqKeep engine).followMonitor engine)
  else .next s

/-! ## MQ_COMPARE (R316 to R320) -/

/-- The checks of one input (R316): the steps of R211 for a source, a bound destination of the domain for a loopback. -/
def compareInput (s : State) (td v o : Nat) : List Check :=
  if isLoop v then
    let d := s.dest (v - 0x8000)
    [badIf (d.kind != 0 && d.td != td) o, (d.kind == 0, repBadState)]
  else
    let n := s.localOf v
    let k := match n with
      | some m => s.source m
      | none => {}
    let loc := n.isSome && decide (v < 4096)
    [badIf (decide (4096 ≤ v) || !s.member (v / 1024)) o,
     badIf (s.otherDomain v td || s.otherRate v td) o,
     (loc && k.kind == 0, repBadState),
     (!(s.dom td).hasTicks, repBadState),
     (s.isRemote v && !s.alignedWith (v / 1024) td && s.reachable (v / 1024), repBadState)]

/-- The source that a tap selects for an input, dark for a loopback. -/
def tapSource (v : Nat) : Nat := if isLoop v then 0xFFFF else v

/-- Stages the two tap entries of an engine for the next cutoff (R316). -/
def State.stageTaps (s : State) (x : Ctx) (e : Nat) (srcs : List Nat) : State :=
  let td := (s.engine e).setTd
  let n := s.openTick td (s.effTick td x.stamp)
  let w : Staged := {
    id := x.id
    td := td
    tick := n
    rank := x.rank
    mb := x.mb
    sess := x.sess
    order := s.bx.nextOrder
    op := 0x0805
    tag := x.cmd.tag
    lateOk := true
    entries := srcs.zipIdx.map (fun q => .take (1984 + 2 * e + q.2) q.1) }
  (({ s with bx := { s.bx with
    staged := s.bx.staged.filter (fun v => !(v.op == 0x0805 && v.entries.any (fun k =>
      match k with
      | .take dst _ => dst == 1984 + 2 * e
      | _ => false))) ++ [w]
    nextOrder := s.bx.nextOrder + 1 } } : State)).reserveFor [x.id]

/-- Starts a comparator (R316). -/
def State.startCompare (s : State) (x : Ctx) : State :=
  let c := x.cmd
  let e := c.u8 16
  let t := s.stageTaps x e [tapSource (c.u16 18), tapSource (c.u16 20)]
  t.updEngine e (fun g => { g with cmp := {
    running := true
    in0 := c.u16 18
    in1 := c.u16 20
    plane0 := c.u8 22
    plane1 := c.u8 23
    tol := c.u16 24
    start := s.openTick g.setTd (s.effTick g.setTd x.stamp) } })

/-- MQ_COMPARE (R316). -/
def cmdMqCompare : CmdSpec where
  opcode := 0x0805
  role := .operator
  ptr := .never
  checks := fun s x =>
    let c := x.cmd
    let g := s.engine (c.u8 16)
    let td := g.setTd
    let on := c.u8 17 == 1
    let a := compareInput s td (c.u16 18) 18
    let b := compareInput s td (c.u16 20) 20
    let bad := fun (l : List Check) => l.filter (fun k => k.2.status == 0x11)
    let state := fun (l : List Check) => l.filter (fun k => k.2.status != 0x11)
    let srcs := [c.u16 18, c.u16 20].filter (fun v => !isLoop v)
    [badIf (decide (8 ≤ c.u8 16)) 16, badIf (decide (2 ≤ c.u8 17)) 17]
    ++ (if on then bad a ++ bad b else [])
    ++ [badIf (decide (3 ≤ c.u8 22)) 22, badIf (decide (3 ≤ c.u8 23)) 23, badIf (decide (1024 ≤ c.u16 24)) 24,
        reserved c 26 64, (g.setMode != 3, repBadState)]
    ++ (if on then state a ++ state b
          ++ srcs.map (fun v => (s.isRemote v && !s.reachable (v / 1024), repUnreachable (v / 1024)))
          ++ [(s.readsLack x (srcs.map (fun v => (v, td))) || s.tiesLack (srcs.map (fun v => (v, td))), repNoResource)]
        else [])
  effect := .atOnce fun s x =>
    (if x.cmd.u8 17 = 1 then s.startCompare x
      else (s.stageTaps x (x.cmd.u8 16) [0xFFFF, 0xFFFF]).updEngine (x.cmd.u8 16)
        (fun g => { g with cmp := { g.cmp with running := false } }), repDone [])

/-- MQ_COMPARE as a row. -/
def execMqCompare (mb : Nat) (c : Cmd) (s : State) : Host.Outcome State Fault Refusal :=
  .next (runCommand cmdMqCompare mb c s)

/-- The absolute difference of two components. -/
def gap (a b : Nat) : Nat := max a b - min a b

/-- A difference at a depth in 10-bit units, rounded up, which leaves its comparison with TOL exact (R318, R319; log 124). -/
def units10 (depth d : Nat) : Nat := if depth = 8 then 4 * d else if depth = 12 then (d + 3) / 4 else d

/-- The largest component difference of two pixels. -/
def pixelGap (a b : Nat × Nat × Nat) : Nat := max (gap a.1 b.1) (max (gap a.2.1 b.2.1) (gap a.2.2 b.2.2))

/-- The pixels of a line: the components of each position, a luma sample of 4:2:2 with the Cb and Cr of its pair (R318). -/
def linePixels (l : FabLine) : List (Nat × Nat × Nat) :=
  let at' := fun i => l.samples.getD i 0
  if l.sampling = 0 then
    (range 0 (l.samples.length / 2)).map (fun x => (at' (2 * x + 1), at' (4 * (x / 2)), at' (4 * (x / 2) + 2)))
  else (range 0 (l.samples.length / 3)).map (fun x => (at' (3 * x), at' (3 * x + 1), at' (3 * x + 2)))

/-- The frame of a line of a domain: its TICK, and whether it is the second of the tick. -/
def Domain.frameKey (d : Domain) (l : FabLine) : Nat × Bool :=
  (l.hdr.tick, rateDouble (fmtRate l.fmt) (d.rate.getD 8) && l.hdr.parity == 1)

/-- The lines of a frame among those of an input. -/
def Domain.linesOf (d : Domain) (ls : List TapLine) (q : Nat × Bool) : List TapLine := ls.filter (fun l => d.frameKey l.line == q)

/-- Two lines came no more than 64 lines apart (R318). -/
def TapLine.near (a b : TapLine) : Bool := decide (gap a.came b.came ≤ 64 * linePeriod a.line.fmt)

/-- The copies of line `n` that both inputs of a frame delivered (R318). -/
def bothLines (m0 m1 : List TapLine) (n : Nat) : Option (TapLine × TapLine) :=
  match m0.find? (fun l => l.line.hdr.line == n), m1.find? (fun l => l.line.hdr.line == n) with
  | some a, some b => some (a, b)
  | _, _ => none

/-- The lines compared, each with its place among the active lines and the differences of its pixels (R318, R319; that the place is
counted in the order of the lines is DEDUCED, log 124). -/
def comparedLines (raster : Nat) (m0 m1 : List TapLine) : List (Nat × List Nat) :=
  (((range 1 (rasterLines raster)).filter (activeLine raster)).zipIdx).filterMap (fun p =>
    (bothLines m0 m1 p.1).bind (fun q =>
      if q.1.near q.2 && !q.1.bad && !q.2.bad then
        some (p.2, ((linePixels q.1.line).zip (linePixels q.2.line)).map (fun v => units10 q.1.line.depth (pixelGap v.1 v.2)))
      else none))

/-- The mismatches, as (row, column), in raster order (R318, R319). -/
def mismatches (tol : Nat) (ls : List (Nat × List Nat)) : List (Nat × Nat) :=
  ls.flatMap (fun r => (r.2.zipIdx.filter (fun p => decide (tol < p.1))).map (fun p => (r.1, p.2)))

/-- The cell, of eight, that holds place `v` of `n` (R319). -/
def cellOf (v n : Nat) : Nat := countBelow (fun c => decide ((c + 1) * n / 8 ≤ v)) 8

/-- Format, sampling and depth of an input: of a line of the frame, else of its last line, else `other`. -/
def tapPic (m all : List TapLine) (other : Nat × Nat × Nat) : Nat × Nat × Nat :=
  (((m.head?).or all.getLast?).map (fun l => (l.line.fmt, l.line.sampling, l.line.depth))).getD other

/-- Some active line of a frame came more than 64 lines from the other input's, or one input has no line of the frame (R318). -/
def skewed (raster : Nat) (m0 m1 : List TapLine) : Bool :=
  m0.isEmpty || m1.isEmpty
    || ((range 1 (rasterLines raster)).filter (activeLine raster)).any (fun n =>
      match bothLines m0 m1 n with
      | some (a, b) => !a.near b
      | none => false)

/-- The 320 bytes of the report of a frame (Table Comparator report). -/
def compareReport (e : Nat) (g : Comparator) (d : Domain) (tick : Nat) (q : Nat × Bool) : List Byte :=
  let m0 := d.linesOf g.loop0 q
  let m1 := d.linesOf g.loop1 q
  let p0 := tapPic m0 g.loop0 (tapPic m1 g.loop1 (0, 0, 10))
  let p1 := tapPic m1 g.loop1 p0
  let raster := fmtRaster p0.1
  let a := rasterActive raster
  let diff := p0 != p1
  let ls := if diff then [] else comparedLines raster m0 m1
  let missing := if diff then 0 else a.2 - ls.length
  let mm := mismatches g.tol ls
  let skew := if diff then m0.isEmpty || m1.isEmpty else skewed raster m0 m1
  let first := mm.head?
  let ok := mm.isEmpty && missing == 0 && !skew && !diff
  let cells := (range 0 64).map (fun i =>
    (mm.filter (fun p => cellOf p.1 a.2 == i / 8 && cellOf p.2 a.1 == i % 8)).length)
  leBytes 8 tick ++ leBytes 4 g.seq ++ leBytes 1 e
    ++ leBytes 1 (flag ok + 2 * flag skew + 4 * flag diff + 8 * flag (missing != 0) + 16 * flag q.2)
    ++ leBytes 2 g.tol ++ leBytes 2 g.in0 ++ leBytes 2 g.in1 ++ leBytes 1 (g.plane0 + 16 * g.plane1)
    ++ leBytes 1 p0.1 ++ leBytes 2 0 ++ leBytes 4 ls.length ++ leBytes 4 missing ++ leBytes 8 mm.length
    ++ leBytes 2 ((ls.flatMap (fun r => r.2)).foldl max 0)
    ++ leBytes 2 ((first.map (fun p => p.2)).getD 0xFFFF) ++ leBytes 2 ((first.map (fun p => p.1)).getD 0xFFFF)
    ++ List.replicate 18 0 ++ cells.flatMap (fun v => leBytes 4 v)

/-- When an input ended its lines of a frame: with its last active line, or with its first line of another frame after them. -/
def Domain.endOf (d : Domain) (ls : List TapLine) (q : Nat × Bool) : Option Nat :=
  ((ls.dropWhile (fun l => d.frameKey l.line != q)).find? (fun l =>
    d.frameKey l.line != q || decide (lastActive (fmtRaster l.line.fmt) ≤ l.line.hdr.line))).map (fun l => l.came)

/-- A frame is over: both inputs ended it, or one did 64 lines ago and the other can deliver nothing more within the skew (R318,
R319). -/
def Comparator.ended (k : Comparator) (d : Domain) (clk : Nat) (l : TapLine) : Bool :=
  let q := d.frameKey l.line
  match d.endOf k.loop0 q, d.endOf k.loop1 q with
  | some _, some _ => true
  | some t, none => decide (t + 64 * linePeriod l.line.fmt < clk)
  | none, some t => decide (t + 64 * linePeriod l.line.fmt < clk)
  | none, none => false

/-- The frame to report next: the first over that has no report yet, from the tick at which comparison starts (R316). -/
def Comparator.nextKey (k : Comparator) (d : Domain) (clk : Nat) : Option (Nat × Bool) :=
  ((k.loop0 ++ k.loop1).find? (fun l =>
    decide (k.start ≤ d.tickOf l.line.hdr.tick) && !k.reported.contains (d.frameKey l.line) && k.ended d clk l)).map
      (fun l => d.frameKey l.line)

/-- What a comparator keeps after a report: the frame among the last 16 reported, and the lines of other frames. -/
def Comparator.after (k : Comparator) (d : Domain) (q : Nat × Bool) (r : List Byte) : Comparator :=
  let rest := fun (ls : List TapLine) => ls.filter (fun l => d.frameKey l.line != q)
  { k with seq := k.seq + 1, report := r, loop0 := rest k.loop0, loop1 := rest k.loop1, reported := (q :: k.reported).take 16 }

/-- The watermarks of a channel: HIGH_WM stands for both while LOW_WM is above it (R615). -/
def Chan.marks (c : Chan) : Nat × Nat := (c.highWm, min c.lowWm c.highWm)

/-- The pacing request against a fill (R506). -/
def pacing (was : Bool) (high low fill : Nat) : Bool := decide (high ≤ fill) || (was && decide (low ≤ fill))

/-- A channel's pacing source holds so many bytes that the channel has not read (R506). -/
def Chan.filled (c : Chan) (fill : Nat) : Chan :=
  { c with fill := fill, req := pacing c.req c.marks.1 c.marks.2 fill }

/-- A report of an engine adds its bytes to the fill of the channels that the engine's report ring paces (R506, DMA_PACE). -/
def State.reportFill (s : State) (engine n : Nat) : State :=
  (range 0 16).foldl (fun t ch => if (t.chan ch).pace = 2 + engine then t.updChan ch (fun c => c.filled (c.fill + n)) else t) s

/-- MQ_COMPARE_REPORT: the report of the frame that is due goes into the ring of 1,024 records, and one without MATCH drives source 52 +
m (R317 to R320). -/
def execMqCompareReport (engine low : Nat) (second : Bool) (s : State) : Host.Outcome State Fault Refusal :=
  let g := s.engine engine
  let d := s.dom g.td
  match g.cmp.nextKey d s.clk with
  | some q =>
    if engine < 8 ∧ q = (low, second) ∧ g.mode = 3 ∧ g.cmp.running then
      let tick := d.tickOf q.1
      let r := compareReport engine g.cmp d tick q
      let at' := engineArea engine + 0x16000000 + g.cmp.seq % 1024 * 320
      let t := s.setEngine engine { g with
        writes := g.writes + 1
        newestTick := tick
        cmp := g.cmp.after d q r }
      let t := (t.hbmWrite at' r).reportFill engine 320
      .next (if byteAt r 13 % 2 = 1 then t else t.strike (52 + engine) 0xFFFF)
    else .next s
  | none => .next s

/-! ## MQ_STATUS -/

/-- The result of MQ_STATUS (Table MQ_STATUS result). -/
def State.mqStatus (s : State) (e : Nat) : List Byte :=
  let g := s.engine e
  let v := fun i => s.veneer (4 * e + i)
  leBytes 1 g.setMode ++ leBytes 1 g.tiles.length ++ leBytes 1 (g.newest.getD 0xFF)
    ++ leBytes 1 ((range 0 4).foldl (fun k i => k + (v i).buf * 2 ^ i + flag (v i).visible * 2 ^ (4 + i)) 0)
    ++ leBytes 4 g.writes ++ leBytes 8 g.newestTick

/-- MQ_STATUS. -/
def cmdMqStatus : CmdSpec where
  opcode := 0x0806
  role := .any
  ptr := .never
  checks := fun _ x => [badIf (decide (8 ≤ x.cmd.u8 16)) 16, reserved x.cmd 17 64]
  effect := .atOnce fun s x => (s, repDone (s.mqStatus (x.cmd.u8 16)))

/-- MQ_STATUS as a row. -/
def execMqStatus (mb : Nat) (c : Cmd) (s : State) : Host.Outcome State Fault Refusal :=
  .next (runCommand cmdMqStatus mb c s)

end Sys2Proof.Machine
end

