-- ==== Sys2Proof/Machine/Gains.lean ====
section
/-! DEFINITION. Bramble's arithmetic and limits (chapter 10 R273 to R288): gain codes, multipliers, mixing, ramps, and the
count of contributions. -/
namespace Sys2Proof.Machine

/-! ## Multipliers and samples (R273, R275) -/

/-- The largest number of `k` bits above `acc` that satisfies a downward-closed test, found bit by bit. -/
def bitSearch (p : Nat → Bool) : Nat → Nat → Nat
  | 0, acc => acc
  | k + 1, acc => bitSearch p k (if p (acc + 2 ^ k) then acc + 2 ^ k else acc)

/-- The multiplier of a gain of `u - 15,728,640` units of 1/65,536 dB: 10^(dB / 20) x 2^21 to the nearest integer, ties
up. `g` is not above it exactly when (2g - 1) / 2 is not above the real value, compared as integer powers. -/
def gainMul (u : Nat) : Nat :=
  let neg := decide (u < 15728640)
  let q := if neg then 15728640 - u else u - 15728640
  let d := Nat.gcd q 1310720
  let n := 1310720 / d
  let k := q / d
  bitSearch (fun g => decide
    (if neg then (2 * g - 1) ^ n * 10 ^ k ≤ 2 ^ (22 * n) else (2 * g - 1) ^ n ≤ 2 ^ (22 * n) * 10 ^ k)) 24 0

/-- The gain of a code in units of 1/65,536 dB above -240 dB. -/
def codeUnits (code : Nat) : Nat := 256 * code

/-- The ramp floor, code 0x9000 (R286). -/
def rampFloor : Nat := 0x9000

/-- Rounds to a multiple of `d`, ties away from zero, and divides by it. -/
def roundAway (x : Int) (d : Nat) : Int :=
  if x < 0 then -(((x.natAbs + d / 2) / d : Nat) : Int) else ((x.natAbs + d / 2) / d : Nat)

/-- One product of a sample and a multiplier, rounded to 36 fractional bits (R275). -/
def product (sample : Int) (g : Nat) : Int := roundAway (sample * g) 256

/-- An accumulator rounded to 23 fractional bits (R275). -/
def accOut (acc : Int) : Int := roundAway acc 8192

/-- Limits a sample to 24 bits (R275). -/
def limit24 (x : Int) : Int := if x < -8388608 then -8388608 else if 8388607 < x then 8388607 else x

/-! ## Ramps (R286, R287) -/

/-- The code a ramp to a target runs to: the floor for mute. -/
def rampEnd (goal : Nat) : Nat := if goal = 0 then rampFloor else goal

/-- The gain of a ramp at its sample `n`, in units of 1/65,536 dB, halves upward (R286). -/
def Ramp.at (r : Ramp) (n : Nat) : Nat :=
  if r.len ≤ n then codeUnits (rampEnd r.goal)
  else (2 * (r.base * (r.len - n) + codeUnits (rampEnd r.goal) * n) + r.len) / (2 * r.len)

/-- A ramp has ended `e` samples after the place that it holds, which is that of the last block boundary. -/
def Ramp.ended (r : Ramp) (e : Nat) : Bool := decide (r.len ≤ r.pos + e)

/-- The ramp of a crosspoint. -/
def State.ramp (s : State) (i : Nat) : Option Ramp := Tbl.get none s.au.ramps i

/-- The gain entry of a crosspoint, numbered AO x 4,096 + AI (R274). -/
def State.gain (s : State) (i : Nat) : Gain := Tbl.get ({} : Gain) s.au.gains i

/-- The ramp length of an output in samples at 48 kHz: 480 after reset (R285). -/
def State.rampLen (s : State) (ao : Nat) : Nat := Tbl.get 480 s.au.rampLen ao

/-- The samples of the present block that have gone. -/
def State.elapsed (s : State) : Nat :=
  match s.au.boundary with
  | some b => min s.blockSamples ((s.clk - b) / s.sampleTu)
  | none => 0

/-- The gain in force of a crosspoint `e` samples after the last block boundary, in units of 1/65,536 dB; none when it is mute
(R287). -/
def State.gainAt (s : State) (e i : Nat) : Option Nat :=
  match s.ramp i with
  | some r => if r.ended e then (if r.goal = 0 then none else some (codeUnits r.goal)) else some (r.at (r.pos + e))
  | none => if (s.gain i).code = 0 then none else some (codeUnits (s.gain i).code)

/-- Writes the table of gains. -/
def State.setGain (s : State) (i : Nat) (g : Gain) : State :=
  { s with au := { s.au with gains := Tbl.set ({} : Gain) s.au.gains i g } }

/-- Writes the table of ramps. -/
def State.setRamp (s : State) (i : Nat) (r : Option Ramp) : State :=
  { s with au := { s.au with ramps := Tbl.set none s.au.ramps i r } }

/-- A crosspoint receives a code at a block boundary: a changed code ramps from the gain in force, unless both ends lie at
or below the floor or the length is 0 (R286, R287). -/
def State.takeGain (s : State) (i code sess tick : Nat) : State :=
  let old := (s.gain i).code
  let t := s.setGain i { code := code, setBy := sess, tick := tick % 4294967296 }
  if old = code then t
  else
    let len := s.rampLen (i / 4096) * (if s.au.khz96 then 2 else 1)
    let start := (s.gainAt 0 i).getD (codeUnits rampFloor)
    let low := match s.gainAt 0 i with
      | some u => decide (u ≤ codeUnits rampFloor)
      | none => true
    if len = 0 || (low && decide (code ≤ rampFloor)) then t.setRamp i none
    else t.setRamp i (some { base := start, goal := code, len := len, pos := 0 })

/-! ## Contributions (R278 to R280) -/

/-- The entry of a crosspoint is used: both of its channels exist in the mode (R274). -/
def State.entryUsed (s : State) (i : Nat) : Bool := decide (i / 4096 < s.channels ∧ i % 4096 < s.channels)

/-- A ramp runs to mute and has not ended `e` samples after the last block boundary. -/
def Ramp.fades (r : Ramp) (e : Nat) : Bool := r.goal == 0 && !r.ended e

/-- A crosspoint contributes `e` samples after the last block boundary (R274, R278). -/
def State.contributes (s : State) (e i : Nat) : Bool :=
  s.entryUsed i && ((s.gain i).code != 0 || (match s.ramp i with
    | some r => r.fades e
    | none => false))

/-- The crosspoints that contribute `e` samples after the last block boundary: those with a code, then those that fade. -/
def State.contribs (s : State) (e : Nat) : List Nat :=
  ((s.au.gains.filter (fun p => p.2.code != 0)).map (fun p => p.1)
    ++ (s.au.ramps.filter (fun p => (s.gain p.1).code == 0)).map (fun p => p.1)).filter (s.contributes e)

/-- The contributions of one output. -/
def State.contribsOf (s : State) (e ao : Nat) : List Nat := (s.contribs e).filter (fun i => i / 4096 == ao)

/-- What the limits of R279 count: the codes that will be in force, and the crosspoints ramping to mute past a boundary. -/
structure Counted where
  codes : Tbl Nat := []
  fading : List Nat := []
  deriving DecidableEq, Repr

/-- A crosspoint is counted. -/
def Counted.has (c : Counted) (i : Nat) : Bool := Tbl.get 0 c.codes i != 0 || c.fading.contains i

/-- Contributions counted of one output. -/
def Counted.of (c : Counted) (ao : Nat) : Nat :=
  (c.codes.filter (fun p => p.1 / 4096 == ao)).length + (c.fading.filter (fun i => i / 4096 == ao)).length

/-- Contributions counted in all. -/
def Counted.total (c : Counted) : Nat := c.codes.length + c.fading.length

/-- Counts a gain write of work that starts at boundary `at'`, for a boundary `b` (R280). -/
def State.countGain (s : State) (b at' : Nat) (c : Counted) (i code : Nat) : Counted :=
  let old := Tbl.get 0 c.codes i
  let len := s.rampLen (i / 4096) * 250000
  if s.entryUsed i = false then c
  else if code ≠ 0 then { codes := Tbl.set 0 c.codes i code, fading := c.fading.filter (fun k => k != i) }
  else if old = 0 then c
  else if old ≤ rampFloor ∨ len = 0 ∨ at' + len ≤ b ∧ at' ≠ b then { c with codes := Tbl.set 0 c.codes i 0 }
  else { codes := Tbl.set 0 c.codes i 0, fading := c.fading ++ [i] }

/-- Brings the grid of samples and blocks onto the epoch grid of the time base in use: at an FP_REALIGN of a SYS domain, which
alone steps it while blocks keep their length, and at AUD_RAMP_SET OP 1, which begins new blocks (R33, R103, R272; DEDUCED,
log 29). -/
def State.realignAudio (s : State) : State :=
  match s.rf.cand with
  | some c =>
    if 4 ≤ c ∧ c ≤ 11 then
      { s with au := { s.au with
        grid := ((s.base (c - 4)).time * 12 / 4294967296 + tuMs 1 - s.clk % tuMs 1) % tuMs 1 } }
    else s
  | none => s

/-- The first block boundary at or after an instant (R33, R34): the grid moves with the pulled clock (R103; DEDUCED, log 29). -/
def State.boundaryFrom (s : State) (inst : Nat) : Nat :=
  let blk := s.blockTu
  inst + (blk - (inst + s.au.grid) % blk) % blk

/-- The period of the 48 kHz word clock in twelfths of a nanosecond. -/
def wclkTu : Nat := 250000

/-- The first rising edge of WCLK_OUT at or after an instant: a sample instant, and so every block boundary is one (R109). -/
def State.wclkRise (s : State) (inst : Nat) : Nat := inst + (wclkTu - (inst + s.au.grid) % wclkTu) % wclkTu

/-- The device is out of reset, so that its outputs run (R110, Table Board signals). -/
def State.outOfReset (s : State) : Bool := decide (s.startup.stage ≠ 0)

/-- The level of WCLK_OUT: high for the first half of each period in every state of the reference block, low in reset (R109,
R110). -/
def State.wclkOut (s : State) : Bool := s.outOfReset && decide ((s.clk + s.au.grid) % wclkTu < wclkTu / 2)

/-- The level of FP_OUT `i`: its pulse from its last start for its width, in its polarity; inactive when it is bound to no
domain with ticks, low in reset (R108, R110). -/
def State.fpLevel (s : State) (i : Nat) : Bool :=
  let f := s.fpOut i
  let on := (match f.td, f.lastPulse with
    | some d, some t => (s.dom d).hasTicks && decide (t ≤ s.clk ∧ s.clk < t + tuUs f.widthUs)
    | _, _ => false)
  s.outOfReset && (on != f.activeLow)

/-- The latest block boundary at or before now. -/
def State.boundaryNow (s : State) : Nat :=
  let b := s.boundaryFrom s.clk
  if b = s.clk then b else b - s.blockTu

/-- The boundary at which work for a tick starts (R34). -/
def State.workBoundary (s : State) (d tick : Nat) : Nat := s.boundaryFrom ((s.dom d).tickAt tick)

/-- What is counted at a boundary, with the work that waits for an earlier one or the same (R279). -/
def State.countedAt (s : State) (b : Nat) : Counted :=
  let now : Counted := {
    codes := (s.au.gains.map (fun p => (p.1, p.2.code))).filter (fun p => p.2 != 0 && s.entryUsed p.1)
    fading := (s.au.ramps.filter (fun p => s.entryUsed p.1 && match p.2 with
      | some r => r.fades 0 && decide (b < s.au.boundary.getD s.clk + (r.len - r.pos) * s.sampleTu)
      | none => false)).map (fun p => p.1) }
  s.au.waiting.foldl (fun c w =>
    let at' := s.workBoundary w.td w.tick
    if at' ≤ b then
      w.entries.foldl (fun k e => match e with
        | .gain ai ao code => s.countGain b at' k (4096 * ao + ai) code
        | _ => k) c
    else c) now

/-- The gain entries of one command under R280: what is counted after them, the entries that pass, how many are refused
and the index of the first refused. -/
def State.judgeGains (s : State) (b : Nat) :
    List (Nat × Entry) → Counted → List Entry → Nat → Nat → Counted × List Entry × Nat × Nat
  | [], c, done, n, first => (c, done, n, first)
  | (idx, e) :: rest, c, done, n, first =>
    match e with
    | .gain ai ao code =>
      let i := 4096 * ao + ai
      if code ≠ 0 ∧ s.entryUsed i ∧ c.has i = false ∧ 256 ≤ c.of ao then
        s.judgeGains b rest c done (n + 1) (if n = 0 then idx else first)
      else s.judgeGains b rest (s.countGain b b c i code) (done ++ [e]) n first
    | e => s.judgeGains b rest c (done ++ [e]) n first

end Sys2Proof.Machine
end

