-- ==== Sys2Proof/Machine/Audio.lean ====
section
/-! DEFINITION. Bramble (chapter 10, 17 R471): the seven audio commands, their work at a cutoff and at a block boundary,
the mix, the verify pass, and the end of a ramp. -/
namespace Sys2Proof.Machine

/-! ## Ranges and map entries -/

/-- The 8-byte entries of a map command: those of its buffer, or the inline ones that are used, each with its place. -/
def mapEntries (x : Ctx) : List (Nat × List Byte) :=
  if x.cmd.ptr then (range 0 (x.buf.length / 8)).map (fun i => (8 * i, slice x.buf (8 * i) 8))
  else ((range 0 6).map (fun i => (16 + 8 * i, x.cmd.field (16 + 8 * i) 8))).filter
    (fun q => q.2.any (fun b => b != 0xFF))

/-- BAD_ARG at a place of a map command: in its buffer or in its payload. -/
def mapBad (x : Ctx) (b : Bool) (off : Nat) : Check := (b, if x.cmd.ptr then repBadBuf off else repBadArg off)

/-- The reserved bytes 6 and 7 of a map entry. -/
def mapReserved (x : Ctx) (o : Nat) (e : List Byte) : Check :=
  mapBad x (le16 e 6 != 0) (o + (if byteAt e 6 = 0 then 7 else 6))

/-- An entry sets the item of an earlier one. -/
def mapRepeats (key : List Byte → Nat) (es : List (Nat × List Byte)) (i : Nat) : Bool :=
  match es[i]? with
  | some e => (es.take i).any (fun q => key q.2 == key e.2)
  | none => false

/-- The checks that both map commands make of their form: the reserved rest of a command with a buffer, and that some entry
is used. -/
def mapForm (x : Ctx) : List Check :=
  [if x.cmd.ptr then reserved x.cmd 28 64 else (false, repBadArg 0), badIf (mapEntries x).isEmpty 16]

/-- A buffer of 1 to 4,096 map entries. -/
def mapLen (n : Nat) : Bool := decide (n % 8 = 0 ∧ n ≤ 32768)

/-- A reachable device of the group. -/
def State.audioReach (s : State) (dev : Nat) : Bool := s.member dev && s.reachable dev

/-! ## AUD_GAIN_SET, AUD_GAIN_BLOCK -/

/-- AUD_GAIN_SET (R273, R280). -/
def cmdAudGainSet : CmdSpec where
  opcode := 0x0701
  role := .operator
  ptr := .never
  checks := fun s x =>
    let c := x.cmd
    [badIf (decide (s.channels ≤ c.u16 16)) 16, badIf (decide (s.channels ≤ c.u16 18)) 18, reserved c 22 64]
  effect := .tick (fun _ x => [(x.cmd.td, [.gain (x.cmd.u16 16) (x.cmd.u16 18) (x.cmd.u16 20)])]) (fun s _ => s)

/-- AUD_GAIN_SET as a row. -/
def execAudGainSet (mb : Nat) (c : Cmd) (s : State) : Host.Outcome State Fault Refusal :=
  .next (runCommand cmdAudGainSet mb c s)

/-- The (AI, AO, CODE) entries of a gain buffer. -/
def gainEntries (bs : List Byte) : List (Nat × Nat × Nat) :=
  (range 0 (bs.length / 8)).map (fun i => (le16 bs (8 * i), le16 bs (8 * i + 2), le16 bs (8 * i + 4)))

/-- The first entry that names the crosspoint of an earlier one; the crosspoints seen are a table. -/
def gainRepeat : List (Nat × Nat × Nat) → Tbl Nat → Nat → Option Nat
  | [], _, _ => none
  | e :: es, seen, i =>
    let k := 4096 * e.2.1 + e.1
    if Tbl.get 0 seen k = 1 then some i else gainRepeat es (Tbl.set 0 seen k 1) (i + 1)

/-- AUD_GAIN_BLOCK (R281). -/
def cmdAudGainBlock : CmdSpec where
  opcode := 0x0702
  role := .operator
  ptr := .must (fun n => decide (n % 8 = 0 ∧ n ≤ 2097152))
  checks := fun s x =>
    let es := gainEntries x.buf
    reserved x.cmd 28 64 ::
      (es.zipIdx.flatMap (fun q =>
        [badBufIf (decide (s.channels ≤ q.1.1)) (8 * q.2), badBufIf (decide (s.channels ≤ q.1.2.1)) (8 * q.2 + 2),
         reservedBuf x.buf (8 * q.2 + 6) (8 * q.2 + 8)])
      ++ [((gainRepeat es [] 0).isSome, repBadBuf (8 * (gainRepeat es [] 0).getD 0))])
  effect := .tick (fun _ x => [(x.cmd.td, (gainEntries x.buf).map (fun e => Entry.gain e.1 e.2.1 e.2.2))])
    (fun s _ => s)

/-- AUD_GAIN_BLOCK as a row. -/
def execAudGainBlock (mb : Nat) (c : Cmd) (s : State) : Host.Outcome State Fault Refusal :=
  .next (runCommand cmdAudGainBlock mb c s)

/-! ## AUD_MAP_IN, AUD_MAP_OUT -/

/-- The device of a kind 3 feed. -/
def importDev (id : Nat) : Nat := id / 4096

/-- The channels that would be imported from a device (R291). -/
def State.imports (s : State) (dev : Nat) (es : List (List Byte)) : Nat :=
  let kept := s.au.inMap.filterMap (fun p => match p.2 with
    | some (3, id, _) => if importDev id = dev ∧ !es.any (fun e => le16 e 0 == p.1) then some id else none
    | _ => none)
  let new := es.filterMap (fun e => if byteAt e 2 = 3 ∧ importDev (le16 e 4) = dev then some (le16 e 4) else none)
  (kept ++ new).eraseDups.length

/-- The BAD_ARG checks of one AUD_MAP_IN entry (R291). -/
def mapInChecks (s : State) (x : Ctx) (o : Nat) (e : List Byte) : List Check :=
  let kind := byteAt e 2
  let ch := byteAt e 3
  let id := le16 e 4
  [mapBad x (decide (s.channels ≤ le16 e 0)) o, mapBad x (decide (4 ≤ kind)) (o + 2),
   mapBad x (if kind = 1 then decide (32 ≤ ch) else if kind = 2 then decide (64 ≤ ch) else ch != 0) (o + 3),
   mapBad x (match kind with
     | 1 => decide (1024 ≤ id)
     | 2 => decide (2048 ≤ id)
     | 3 => decide (16384 ≤ id) || importDev id == s.straps.groupIdx || decide (s.channels ≤ id % 4096)
     | _ => false) (o + 4),
   mapReserved x o e]

/-- AUD_MAP_IN (R289, R291). -/
def cmdAudMapIn : CmdSpec where
  opcode := 0x0703
  role := .engineering
  ptr := .may (fun _ => true) mapLen
  checks := fun s x =>
    let es := mapEntries x
    let devs := (es.filter (fun q => byteAt q.2 2 == 3)).map (fun q => importDev (le16 q.2 4))
    mapForm x
      ++ es.zipIdx.flatMap (fun q => mapInChecks s x q.1.1 q.1.2
        ++ [mapBad x (mapRepeats (fun e => le16 e 0) es q.2) q.1.1])
      ++ devs.map (fun d => (!s.audioReach d, repUnreachable d))
      ++ devs.map (fun d => (decide (1024 < s.imports d (es.map (fun q => q.2))), repNoResource))
  effect := .tick (fun _ x => [(x.cmd.td,
      (mapEntries x).map (fun q => Entry.mapIn (le16 q.2 0) (byteAt q.2 2) (le16 q.2 4) (byteAt q.2 3)))])
    (fun s _ => s)

/-- AUD_MAP_IN as a row. -/
def execAudMapIn (mb : Nat) (c : Cmd) (s : State) : Host.Outcome State Fault Refusal :=
  .next (runCommand cmdAudMapIn mb c s)

/-- The LEG 0 entry of transmit flow TFn. -/
def State.tfEntry (s : State) (tf : Nat) : TxFlow := s.txFlow (2048 + tf)

/-- The BAD_ARG checks of one AUD_MAP_OUT entry (R291). -/
def mapOutChecks (s : State) (x : Ctx) (o : Nat) (e : List Byte) : List Check :=
  let kind := byteAt e 2
  let ch := byteAt e 3
  let id := le16 e 4
  [mapBad x (decide (s.channels ≤ le16 e 0) && le16 e 0 != 0xFFFF) o, mapBad x (kind != 1 && kind != 2) (o + 2),
   mapBad x (decide (1024 ≤ id)) (o + 4),
   mapBad x (if kind = 1 then decide ((s.slotCount (s.dest id)).getD 32 ≤ ch)
     else decide (64 ≤ ch) || ((s.tfEntry id).image != [] && decide (byteAt (s.tfEntry id).image 58 ≤ ch))) (o + 3),
   mapReserved x o e]

/-- The state checks of one AUD_MAP_OUT entry (R291). -/
def mapOutState (s : State) (e : List Byte) : Check :=
  let id := le16 e 4
  (if byteAt e 2 = 1 then (s.slotCount (s.dest id)).isNone || decide (byteAt e 3 < (s.dest id).followed)
   else (s.tfEntry id).image == [], repBadState)

/-- The slot or flow channel that an AUD_MAP_OUT entry names, as one number. -/
def slotKey (e : List Byte) : Nat := leNat (slice e 2 4)

/-- AUD_MAP_OUT (R290, R291). -/
def cmdAudMapOut : CmdSpec where
  opcode := 0x0704
  role := .engineering
  ptr := .may (fun _ => true) mapLen
  checks := fun s x =>
    let es := mapEntries x
    mapForm x
      ++ es.zipIdx.flatMap (fun q => mapOutChecks s x q.1.1 q.1.2
        ++ [mapBad x (mapRepeats slotKey es q.2) (q.1.1 + 2)])
      ++ es.map (fun q => mapOutState s q.2)
  effect := .tick (fun _ x => [(x.cmd.td,
      (mapEntries x).map (fun q => Entry.mapOut (byteAt q.2 2, le16 q.2 4, byteAt q.2 3) (le16 q.2 0)))])
    (fun s _ => s)

/-- AUD_MAP_OUT as a row. -/
def execAudMapOut (mb : Nat) (c : Cmd) (s : State) : Host.Outcome State Fault Refusal :=
  .next (runCommand cmdAudMapOut mb c s)

/-! ## AUD_RAMP_SET -/

/-- Some map entry is in force or some audio flow is set (R272). -/
def State.audioUsed (s : State) : Bool :=
  !s.au.inMap.isEmpty || !s.au.outMap.isEmpty || s.rx.any (fun e => e.2.kind == 2 || e.2.kind == 3)
    || s.tx.any (fun e => e.2.kind == 2 || e.2.kind == 3)

/-- AUD_RAMP_SET (R272, R285). -/
def cmdAudRampSet : CmdSpec where
  opcode := 0x0705
  role := .operator
  ptr := .never
  checks := fun s x =>
    let c := x.cmd
    let mode := c.u8 16 == 1
    [badIf (decide (2 ≤ c.u8 16)) 16, reserved c 17 18,
     badIf (if mode then c.u16 18 != 0 else decide (s.channels ≤ c.u16 18)) 18,
     badIf (if mode then c.u16 20 != 0 else decide (c.u16 20 = 0 ∨ s.channels < c.u16 18 + c.u16 20)) 20,
     badIf (if mode then c.u16 22 != 0 else decide (4800 < c.u16 22)) 22,
     badIf (if mode then decide (2 ≤ c.u8 24) else c.u8 24 != 0) 24,
     badIf (if mode then decide (2 ≤ c.u8 25) else c.u8 25 != 0) 25, reserved c 26 64,
     (mode && !bit x.roles 1, repNotAuthority 1), (mode && s.audioUsed, repBadState)]
  effect := .atOnce fun s x =>
    let c := x.cmd
    (if c.u8 16 = 1 then
      State.realignAudio { s with au := { s.au with
        khz96 := c.u8 24 == 1
        blk125 := c.u8 25 == 1
        gains := []
        ramps := []
        rampLen := []
        samples := [] } }
    else { s with au := { s.au with
      rampLen := (range (c.u16 18) (c.u16 20)).foldl (fun t o => Tbl.set 480 t o (c.u16 22)) s.au.rampLen } }, repDone [])

/-- AUD_RAMP_SET as a row. -/
def execAudRampSet (mb : Nat) (c : Cmd) (s : State) : Host.Outcome State Fault Refusal :=
  .next (runCommand cmdAudRampSet mb c s)

/-! ## AUD_FOLLOW -/

/-- AUD_FOLLOW (R294 to R296). -/
def cmdAudFollow : CmdSpec where
  opcode := 0x0707
  role := .operator
  ptr := .never
  checks := fun s x =>
    let c := x.cmd
    let d := s.dest (c.u16 18)
    let dstOp := c.u8 16 == 0
    [badIf (decide (2 ≤ c.u8 16)) 16,
     badIf (if dstOp then decide ((s.slotCount d).getD 32 < c.u8 17) else c.u8 17 != 0) 17,
     badIf (if dstOp then decide (1024 ≤ c.u16 18) else c.u16 18 != 0) 18,
     badIf (if dstOp then c.u16 20 != 0 else decide (4096 ≤ c.u16 20)) 20,
     badIf (if dstOp then c.u16 22 != 0 else decide (s.channels ≤ c.u16 22) && c.u16 22 != 0xFFFF) 22,
     reserved c 24 64,
     (dstOp && (s.slotCount d).isNone, repBadState)]
  effect := .tick (fun _ x =>
      let c := x.cmd
      [(c.td, [if c.u8 16 = 0 then .followDst (c.u16 18) (c.u8 17) else .followSrc (c.u16 20) (c.u16 22)])])
    (fun s _ => s)

/-- AUD_FOLLOW as a row. -/
def execAudFollow (mb : Nat) (c : Cmd) (s : State) : Host.Outcome State Fault Refusal :=
  .next (runCommand cmdAudFollow mb c s)

/-! ## AUD_STATUS -/

/-- The nearest whole code of a gain in force (Table AUD_STATUS result). -/
def State.codeNow (s : State) (i : Nat) : Nat :=
  match s.gainAt s.elapsed i with
  | some u => (u + 128) / 256
  | none => 0

/-- The result of AUD_STATUS (Table AUD_STATUS result): OP, then its two channel fields. -/
def State.audStatus (s : State) (op a b : Nat) : List Byte :=
  match op with
  | 0 =>
    let i := 4096 * b + a
    let g := s.gain i
    let left := match s.ramp i with
      | some r => r.len - (r.pos + s.elapsed)
      | none => 0
    leBytes 2 (s.codeNow i) ++ leBytes 2 g.code ++ leBytes 1 g.setBy ++ leBytes 1 0 ++ leBytes 2 left ++ leBytes 4 g.tick
  | 1 =>
    leBytes 2 (s.contribsOf s.elapsed a).length ++ leBytes 2 (s.rampLen a) ++ leBytes 4 (Tbl.get 0 s.au.sat a)
      ++ leBytes 4 (s.contribs s.elapsed).length
  | _ => leBytes 2 (s.contribsOf s.elapsed a).length

/-- The 4-byte entries of OP 2, in ascending AI order. -/
def State.contribBytes (s : State) (ao : Nat) : List Byte :=
  ((range 0 4096).filter (fun ai => s.contributes s.elapsed (4096 * ao + ai))).flatMap (fun ai =>
    leBytes 2 ai ++ leBytes 2 (s.gain (4096 * ao + ai)).code)

/-- AUD_STATUS: OP 1 clears the saturation counter it reads (R276). -/
def cmdAudStatus : CmdSpec where
  opcode := 0x0706
  role := .any
  ptr := .never
  checks := fun s x =>
    let c := x.cmd
    [badIf (decide (3 ≤ c.u8 16)) 16, reserved c 17 18, badIf (decide (s.channels ≤ c.u16 18)) 18]
      ++ (match c.u8 16 with
          | 0 => [badIf (decide (s.channels ≤ c.u16 20)) 20, reserved c 22 64]
          | 1 => [reserved c 20 64]
          | _ => [reserved c 20 24, badIf (decide (c.u32 32 < 1024)) 32, reserved c 36 64])
  effect := .atOnce fun s x =>
    let c := x.cmd
    let r := repDone (s.audStatus (c.u8 16) (c.u16 18) (c.u16 20))
    match c.u8 16 with
    | 0 => (s, r)
    | 1 => ({ s with au := { s.au with sat := Tbl.set 0 s.au.sat (c.u16 18) 0 } }, r)
    | _ => s.answer (c.u64 24) (s.contribBytes (c.u16 18)) r

/-- AUD_STATUS as a row. -/
def execAudStatus (mb : Nat) (c : Cmd) (s : State) : Host.Outcome State Fault Refusal :=
  .next (runCommand cmdAudStatus mb c s)

/-! ## Audio work at a cutoff (R279, R280) -/

/-- One command's audio work at the cutoff of its tick, its entries with their places in the command: the limits of R279
are judged and what passes waits for its boundary. -/
def State.audioCut (s : State) (w : Staged) (es : List (Nat × Entry)) : State :=
  let b := s.workBoundary w.td w.tick
  let r := s.judgeGains b es (s.countedAt b) [] 0 0xFFFFFFFF
  let ao := match es.head? with
    | some (_, .gain _ o _) => o
    | _ => 0
  if w.op = 0x0701 ∧ r.2.2.1 ≠ 0 then
    s.failFlight w.id { status := 0x13, result := resultOf (leBytes 4 1 ++ leBytes 4 ao) }
  else if 262144 < r.1.total then
    s.failFlight w.id { status := 0x13, result := resultOf (leBytes 4 2 ++ leBytes 4 r.1.total) }
  else
    let work : AuWork := {
      id := w.id
      td := w.td
      tick := w.tick
      op := w.op
      sess := w.sess
      tag := w.tag
      rank := w.rank
      mb := w.mb
      order := w.order
      cut := (s.dom w.td).cutoff w.tick
      entries := r.2.1
      refused := r.2.2.1
      first := r.2.2.2 }
    { s with au := { s.au with waiting := s.au.waiting ++ [work] } }

/-! ## Taking up work at a block boundary (R34, R282 to R284, R292) -/

/-- What an entry of tick-applied work sets, as a kind and two numbers (R82); none for work that sets no item. -/
def Entry.item : Entry → Option (Nat × Nat × Nat)
  | .take dst _ => some (0, dst, 0)
  | .protect dst _ => some (1, dst, 0)
  | .lock dst _ => some (2, dst, 0)
  | .gain ai ao _ => some (3, ai, ao)
  | .mapIn ai _ _ _ => some (4, ai, 0)
  | .mapOut slot _ => some (5, slot.1 + 256 * slot.2.2, slot.2.1)
  | .followDst dst _ => some (6, dst, 0)
  | .followSrc src _ => some (7, src, 0)
  | .veneer e v => some (8, e, v)
  | .keyOp slot => some (9, slot, 0)
  | .realign => some (10, 0, 0)
  | .guard _ => some (11, 0, 0)
  | .sealAt => none

/-- Audio work beats other work at one boundary: the later cutoff, else R82 (R282). -/
def AuWork.beats (a b : AuWork) : Bool :=
  decide (b.cut < a.cut) || (a.cut == b.cut && winsOver a.rank a.mb a.order b.rank b.mb b.order)

/-- The work that takes an entry's item from it among the works taken up together: the one that no other beats (R68). -/
def beatenBy (ws : List AuWork) (w : AuWork) (e : Entry) : Option AuWork :=
  let all := ws.filter (fun v => v.entries.any (fun k => k.item == e.item && k.item.isSome))
  (all.find? (fun v => all.all (fun u => u.order == v.order || !u.beats v))).filter (fun v => v.order != w.order && v.beats w)

/-- Applies one entry at a block boundary. -/
def State.applyAudio (s : State) (w : AuWork) (e : Entry) : State :=
  match e with
  | .gain ai ao code => s.takeGain (4096 * ao + ai) code w.sess w.tick
  | e => s.setMaps e

/-- The bytes of an entry in a GAIN_BATCH record (16 R432). -/
def Entry.bytes : Entry → List Byte
  | .gain ai ao code => leBytes 2 ai ++ leBytes 2 ao ++ leBytes 4 code
  | .mapIn ai kind id ch => leBytes 2 ai ++ leBytes 1 kind ++ leBytes 1 ch ++ leBytes 4 id
  | .mapOut slot ao => leBytes 2 ao ++ leBytes 1 slot.1 ++ leBytes 1 slot.2.2 ++ leBytes 4 slot.2.1
  | .followDst dst slots => leBytes 1 0 ++ leBytes 1 slots ++ leBytes 6 dst
  | .followSrc src base => leBytes 4 1 ++ leBytes 2 src ++ leBytes 2 base
  | .take _ _ => []
  | .protect _ _ => []
  | .lock _ _ => []
  | .veneer _ _ => []
  | .keyOp _ => []
  | .realign => []
  | .guard _ => []
  | .sealAt => []

/-- The GAIN_BATCH record of work that took effect (R301, 16 R432). -/
def State.gainBatch (s : State) (w : AuWork) (done : List Entry) : State :=
  let late := match s.flight? w.id with
    | some f => f.late
    | none => false
  let bs := done.flatMap Entry.bytes
  s.giveRecord 0x03 ((s.dom w.td).tickAt w.tick) (some (w.td, w.tick))
    (leBytes 2 w.op ++ leBytes 1 w.sess ++ leBytes 1 (flag late) ++ leBytes 2 w.tag ++ leBytes 2 0
      ++ leBytes 4 done.length ++ leBytes 4 w.refused
      ++ (if done.length ≤ 64 then bs else sha384Bytes bs)) (some w.id)

/-- What the active mirrors of audio work that its cutoff passed, each with its mirror category (R361). -/
def AuWork.items (w : AuWork) : List (Nat × MirrorItem) :=
  let bs := w.entries.map Entry.bytes
  if w.entries.isEmpty then []
  else match w.op with
  | 0x0703 => [(2, .mapIn w.td w.tick bs)]
  | 0x0704 => [(2, .mapOut w.td w.tick bs)]
  | 0x0707 => [(2, .follow w.td w.tick bs)]
  | _ => [(1, .gain w.td w.tick (w.entries.filterMap (fun e => match e with
      | .gain ai ao code => some (ai, ao, code)
      | _ => none)))]

/-- Takes up one command's work at boundary `b` among the works taken up together, with the entries that its cutoff refused (R280);
mirrored work, whose `op` is 0, writes no record of its own. -/
def State.takeUp (s : State) (b : Nat) (ws : List AuWork) (w : AuWork) : State :=
  let done := w.entries.filter (fun e => (beatenBy ws w e).isNone)
  let winner := ((w.entries.filterMap (beatenBy ws w)).head?.map (fun v => v.sess)).getD 0
  let t := done.foldl (fun u e => u.applyAudio w e) s
  let res := leBytes 8 (b / 12) ++ (if w.op ≤ 0x0702 then leBytes 4 w.refused ++ leBytes 4 w.first else [])
  let t := t.updFlight w.id (fun f => { f with res := res })
  let t := if done.isEmpty || w.op == 0 then t else t.gainBatch w done
  (t.entriesLost w.id (w.entries.length - done.length) winner).effectDone w.id (done.length + w.refused)

/-- The Bramble bank of a work waits for the standby's acknowledgement, or until 150 us after its DIVERGE (R363, R375). -/
def State.auHeld (s : State) (w : AuWork) : Bool :=
  let k := s.dom w.td
  (k.auWait.isSome || decide (s.clk < k.auReady)) && k.bankTick == w.tick

/-- The works that a boundary takes up: their ticks have fallen at or before it and their mirror is not awaited; those of a snapshot
at once (R34, R363, R371). -/
def State.audioDue (s : State) (b : Nat) : List AuWork :=
  s.au.waiting.filter (fun w => w.td == 8 || (decide (w.tick ≤ (s.dom w.td).count) && (s.dom w.td).started
    && decide ((s.dom w.td).tickAt w.tick ≤ b) && !s.auHeld w))

/-- Swaps banks at a boundary: due work is taken up, and work whose boundary was missed is an overrun (R284). A FREEZE keeps
the bank (14 R393). -/
def State.swapBanks (s : State) (b : Nat) : State :=
  let ws := s.audioDue b
  if ws.isEmpty || s.boot.freeze then s
  else
    let missed := ws.any (fun w => w.op != 0 && match s.au.boundary with
      | some p => decide ((s.dom w.td).tickAt w.tick ≤ p)
      | none => false)
    let t : State := { s with au := { s.au with
      waiting := s.au.waiting.filter (fun w => !ws.contains w)
      bank := !s.au.bank
      overruns := if missed then satAdd 65535 s.au.overruns 1 else s.au.overruns } }
    let t := ws.foldl (fun u w => u.takeUp b ws w) t
    if missed then t.strike 44 0xFFFF else t

/-! ## The mix (R275 to R277, R289, R293, R297) -/

/-- The channels that a transport embeds; a ST 2022-6 flow as the transport it carries (Table De-embedded audio). -/
def embedChannels (tr fmt : Nat) : Nat :=
  if tr = 1 ∨ tr = 2 ∨ tr = 5 then 16
  else if tr = 3 ∨ tr = 4 ∨ (6 ≤ tr ∧ tr ≤ 9) then 32
  else if tr = 11 then (if fmtClass fmt ≤ 1 then 16 else 32)
  else 0

/-- A channel with an ST 337 burst passes by whole samples: one is dropped or repeated where the block's number of samples differs
from those that came (R170). -/
def wholeSamples (raw : List Int) (n : Nat) : List Int := (range 0 n).map (fun i => raw.getD (i * raw.length / n) 0)

/-- The samples of an embedded channel in the coming block: unconverted from a class T source, else through the converter to the
device word clock; none of a channel that the transport has not, of a source not VALID, and of one beyond the converter's range
(R168 to R170, R289). -/
def State.embeddedFeed (s : State) (inp : AudioIn) (src ch : Nat) (raw : List Int) : List Int :=
  let k := s.source src
  let converts := k.classF || s.au.khz96
  if k.state ≠ .valid ∨ embedChannels k.transport k.fmt ≤ ch ∨ (converts ∧ k.audioRate) ∨ raw = [] then []
  else if !converts then raw
  else if inp.bursts.contains (src, ch) then wholeSamples raw s.blockSamples
  else (range 0 s.blockSamples).map (Config.srcSample raw)

/-- The samples that embedded channels have waiting for the coming block: those of a channel that is converted are all that came, of
another a block of them, from when enough have come that lines of uneven counts do not leave it short (R168, R169; DESIGN CHOICE, log
140). -/
def State.takeEmbedded (s : State) : State :=
  let n := s.blockSamples
  let part := fun (p : Nat × List Int) =>
    if (s.source (p.1 / 32)).classF || s.au.khz96 then p.2.length
    else if Tbl.get [] s.au.embNow p.1 = [] ∧ p.2.length < n + 4 then 0
    else min n p.2.length
  { s with au := { s.au with
      embNow := (s.au.embedded.map (fun p => (p.1, p.2.take (part p)))).filter (fun p => !p.2.isEmpty)
      embedded := (s.au.embedded.map (fun p => (p.1, p.2.drop (part p)))).filter (fun p => !p.2.isEmpty) } }

/-- The entry of an audio receive flow: its first leg that is set. -/
def State.audioEntry (s : State) (af : Nat) : Option RxFlow :=
  (s.rx.find? (fun e => (e.2.kind == 2 || e.2.kind == 3) && e.2.target == af)).map (fun e => e.2)

/-- The samples of a receive flow in one block. -/
def State.flowBlock (s : State) (f : RxFlow) : Nat := s.blockTu * rxRate f.image / 12000000000

/-- The samples of a channel of a receive flow that entered in the block just ended: those whose media time plus LINK_OFFSET lies
in it; one that no leg brought enters as 0 (R165, R293). The spec states no samples of a 48 kHz flow in 96 kHz mode: free (log 9). -/
def State.flowFeed (s : State) (af ch : Nat) : List Int :=
  match s.audioEntry af, Tbl.get none s.au.readTs af with
  | some f, some r =>
    let n := s.flowBlock f
    let got := (range 0 n).map (fun i =>
      ((Tbl.get [] s.au.flows af).find? (fun q => q.1 == (r + 4294967296 - n + i) % 4294967296)).map (fun q => q.2.getD ch 0))
    let raw := got.map (fun v => v.getD 0)
    if n = s.blockSamples then raw
    else if got.all (fun v => v.isNone) then []
    else (range 0 s.blockSamples).map (Config.srcSample raw)
  | _, _ => []

/-- The samples that feed an input channel in the coming block: those that entered in the block just ended (R289, R300). -/
def State.feed (s : State) (inp : AudioIn) (ai : Nat) : List Int :=
  let given := fun k => ((inp.feeds.find? (fun f => f.1 == k)).map (fun f => f.2)).getD []
  match Tbl.get none s.au.inMap ai with
  | some (1, src, ch) => s.embeddedFeed inp src ch (Tbl.get [] s.au.embNow (32 * src + ch))
  | some (2, af, ch) => s.flowFeed af ch
  | some (3, id, ch) => if s.audioReach (importDev id) then given (3, id, ch) else []
  | some k => given k
  | none => []

/-- One output sample (R275): the sample `j` of the block from the contributions' samples and gains. -/
def State.mixSample (s : State) (cs : List (Nat × List Int)) (j : Nat) : Int × Bool :=
  let acc := cs.foldl (fun a c =>
    let u := match s.ramp c.1 with
      | some r => if r.len < r.pos + j + 1 ∧ r.goal = 0 then none else some (r.at (r.pos + j + 1))
      | none => s.gainAt 0 c.1
    match u with
    | some v => a + product (c.2.getD j 0) (gainMul v)
    | none => a) 0
  let o := accOut acc
  (limit24 o, decide (limit24 o ≠ o))

/-- The samples of the coming block of one output, each with whether it was limited (R275 to R277). -/
def State.mixBlock (s : State) (inp : AudioIn) (ao : Nat) : List (Int × Bool) :=
  let cs := (s.contribsOf 0 ao).map (fun i => (i, s.feed inp (i % 4096)))
  (range 0 s.blockSamples).map (s.mixSample cs)

/-- What a fault of the main MAC array adds to a sample. -/
def wrongBy (inp : AudioIn) (ao j : Nat) : Int :=
  ((inp.errors.find? (fun e => e.1 == ao && e.2.1 == j)).map (fun e => e.2.2)).getD 0

/-- A block in which no output sounds: what is held moves on by a block, and an output with nothing but zeros holds nothing. -/
def State.ageSamples (s : State) : State :=
  { s with au := { s.au with samples :=
      (s.au.samples.map (fun e =>
        let h := e.2 ++ List.replicate s.blockSamples 0
        (e.1, h.drop (h.length - s.heldSamples)))).filter (fun e => e.2.any (fun v => v != 0)) } }

/-- What is held of an output before its present block. -/
def State.heldBefore (s : State) (ao : Nat) : List Int :=
  let h := Tbl.get [] s.au.samples ao
  h.take (h.length - s.blockSamples)

/-- The present block of an output. -/
def State.presentBlock (s : State) (ao : Nat) : List Int :=
  let h := Tbl.get [] s.au.samples ao
  h.drop (h.length - s.blockSamples)

/-- Mixes the coming block of one output on the MAC array: its samples are held and limited samples counted (R276). -/
def State.mixOutput (s : State) (inp : AudioIn) (t : State) (ao : Nat) : State :=
  let out := s.mixBlock inp ao
  let sat := (out.filter (fun q => q.2)).length
  { t with au := { t.au with
    samples := Tbl.set [] t.au.samples ao (t.heldBefore ao ++ out.zipIdx.map (fun q => limit24 (q.1.1 + wrongBy inp ao q.2)))
    sat := Tbl.set 0 t.au.sat ao (satAdd 65535 (Tbl.get 0 t.au.sat ao) sat) } }

/-- The outputs with a contribution, in ascending order. -/
def State.activeOuts (s : State) : List Nat :=
  let cs := s.contribs 0
  (range 0 s.channels).filter (fun o => cs.any (fun i => i / 4096 == o))

/-- Ramps have run on, by the samples since the last boundary, when boundary `b` comes (R286); one that has ended stays until
RAMP_END. -/
def State.runRamps (s : State) (b : Nat) : State :=
  let n := match s.au.boundary with
    | some p => (b - p) / s.sampleTu
    | none => 0
  { s with au := { s.au with
    ramps := s.au.ramps.map (fun p =>
      (p.1, p.2.map (fun r => { r with pos := min r.len (r.pos + n) }))) } }

/-- The verify pass takes the next output with a contribution: a shadow MAC computes it again from the gain table and the ramps of
`s`, and its result is compared with the main one, held in `t` (R288, R297, R298). -/
def State.verify (s : State) (inp : AudioIn) (t : State) : State :=
  let outs := s.activeOuts
  match (outs.find? (fun o => decide (s.au.verNext ≤ o))) <|> outs.head? with
  | none => t
  | some o =>
    let t : State := { t with au := { t.au with verNext := o + 1 } }
    if (s.mixBlock inp o).map (fun q => q.1) ≠ t.presentBlock o then
      ({ t with au := { t.au with
        mismatch := true
        verAo := o
        verCount := satAdd 65535 t.au.verCount 1 } } : State).strike 45 0xFFFF
    else t

/-- Counts slips of an audio receive flow (R293). -/
def State.countSlips (s : State) (af n : Nat) : State :=
  { s with rx := s.rx.map (fun e =>
    if (e.2.kind == 2 || e.2.kind == 3) && e.2.target == af then
      (e.1, { e.2 with slips := satAdd 4294967295 e.2.slips n }) else e) }

/-- The audio receive flows that are set. -/
def State.audioFlows (s : State) : List Nat :=
  ((s.rx.filter (fun e => e.2.kind == 2 || e.2.kind == 3)).map (fun e => e.2.target)).eraseDups

/-- Whole samples by which a flow's input is behind what LINK_OFFSET asks for, negative when it is ahead: `parts` is the media time
at the boundary and `due` the end of the block by the word clock (R293). -/
def slipOf (parts : Int) (due : Nat) : Int :=
  let g := rtpGap (parts / 12000000000 % 4294967296).toNat due 1
  if g < 0 && decide (parts % 12000000000 ≠ 0) then g + 1 else g

/-- The input of a receive flow takes in the block that ends at boundary `b`: it runs on by a block's samples, and drops or repeats
the whole samples by which it left LINK_OFFSET, each counted in SLIPS; what it has passed is let go (R165, R293). -/
def State.gather (s : State) (b af : Nat) : State :=
  match s.audioEntry af with
  | some f =>
    let n := s.flowBlock f
    let parts := s.mediaParts f.image b
    let slip : Int := match Tbl.get none s.au.readTs af with
      | some r => slipOf parts (r + n)
      | none => 0
    let r : Int := match Tbl.get none s.au.readTs af with
      | some r => (((r + n : Nat) : Int) + slip) % 4294967296
      | none => parts / 12000000000 % 4294967296
    let held := (Tbl.get [] s.au.flows af).filter (fun q => decide (rtpGap r.toNat q.1 1 ≤ 2 * n))
    let t : State := { s with au := { s.au with
      readTs := Tbl.set none s.au.readTs af (some r.toNat)
      flows := Tbl.set [] s.au.flows af held } }
    if slip = 0 then t else t.countSlips af slip.natAbs
  | none => s

/-- The inputs of all receive flows take in the block that ends at boundary `b`; a flow no longer set holds nothing. -/
def State.gatherAll (s : State) (b : Nat) : State :=
  let afs := s.audioFlows
  afs.foldl (fun t af => t.gather b af) { s with au := { s.au with
    readTs := s.au.readTs.filter (fun e => afs.contains e.1)
    flows := s.au.flows.filter (fun e => afs.contains e.1) } }

/-- Takes up the rate of the audio of a source against the word clock, in ppm: AUDIO_RATE beyond the converter's 100 (R169). -/
def State.rateOf (s : State) (p : Nat × Int) : State :=
  if (s.source p.1).state = .valid then s.updSource p.1 (fun k => { k with audioRate := decide (100 < p.2.natAbs) })
  else s

/-- Each link that is up carries the channels that its far end imports, at most 1,024, with the samples of the block just ended, whose
output hold is over (R332). -/
def State.sendExports (s : State) (ended : State) : State :=
  let t : State := { s with dt := s.dt.map (fun p => (p.1, if p.2.isUp then
      { p.2 with exports := (p.2.wanted.take 1024).map (fun ao => (ao, ended.presentBlock ao)) } else p.2)) }
  (range 0 3).foldl (fun u k =>
    if (s.link k).isUp then (t.link k).exports.foldl (fun v e => v.sendFrame k (.audio e.1 e.2)) u else u) t

/-- AUDIO_BLOCK_BOUNDARY: ramps have run on, banks swap, receive flows take in the block just ended, exported channels leave, the coming
block is mixed and verified (R271, R283, R286, R293, R297, R332). -/
def execAudioBlockBoundary (inp : AudioIn) (s : State) : Host.Outcome State Fault Refusal :=
  let b := s.boundaryNow
  if s.startup.ready && (match s.au.boundary with
      | some p => decide (p < b)
      | none => true) then
    let t := ((inp.rates.foldl (fun u p => u.rateOf p) ((s.runRamps b).swapBanks b)).gatherAll b).takeEmbedded
    let t := (({ t with au := { t.au with boundary := some b } } : State).sendExports s).ageSamples
    .next (t.verify inp (t.activeOuts.foldl (t.mixOutput inp) t))
  else .next s

/-- RAMP_END: a ramp whose last sample has gone ends; a crosspoint that ran to mute no longer contributes (R278, R286). -/
def execRampEnd (ai ao : Nat) (s : State) : Host.Outcome State Fault Refusal :=
  match s.ramp (4096 * ao + ai) with
  | some r => if ai < 4096 ∧ r.ended s.elapsed then .next (s.setRamp (4096 * ao + ai) none) else .next s
  | none => .next s

end Sys2Proof.Machine
end

