-- ==== Sys2Proof/Machine/Dovetail.lean ====
section
/-! DEFINITION. Dovetail links, groups and ties (chapter 12, 17 R473): DT_LINK_UP, DT_STATUS, DT_GROUP, DT_TIE_RESERVE and
the events of links and ties. -/
namespace Sys2Proof.Machine

/-! ## The use of a key slot (15 R410) -/

/-- The checks of a command that names a slot for a use: BAD_STATE for an EMPTY or PENDING one, KEY_REVOKED, KEY_ATTR. -/
def slotUse (s : State) (n attr : Nat) : List Check :=
  let k := s.slot n
  [(k.state == .empty || k.state == .pending, repBadState), (k.state == .revoked, repKeyRevoked n),
   (k.attr != attr, repKeyAttr n)]

/-! ## Links -/

/-- The code of a link state (Table DT_STATUS result). -/
def LinkState.code : LinkState → Nat
  | .down => 0
  | .negotiate => 1
  | .train56 => 2
  | .train112 => 3
  | .up56 => 4
  | .up112 => 5
  | .failed => 6

/-- The member that R322 puts at the far end of a link. -/
def State.farIndex (s : State) (k : Nat) : Nat := (s.straps.groupIdx + k + 1) % 4

/-- The first input port of a link; its first departure port lies 256 below (R201). -/
def arrivalBase (k : Nat) : Nat := 1280 + 320 * k

/-- What the two ends of a link agree on by ECDH: the far end's share times this end's private key (R336). -/
def Link.secret (l : Link) : Nat :=
  (ecAffine (ecTimes (beNat (slice l.peer 1 48), beNat (slice l.peer 49 48), 1) l.eph 384)).1

/-- The derived key of a direction of a link after some renewals; the share of the sending end names the direction (R336; how the key
is derived is not given, log 8). -/
def Link.derivedKey (l : Link) (receive : Bool) (renewed : Nat) : BitVec 256 :=
  Config.linkKey l.secret (if receive then l.peer else publicPoint l.eph) renewed

/-- A link carries ties in either direction. -/
def State.carriesTies (s : State) (k : Nat) : Bool :=
  s.ties.any (fun t => s.linkTo t.dev == k) || s.depart.any (fun t => s.linkTo t.dev == k)

/-- The device whose sources reach this device over a link. -/
def State.linkDev (s : State) (k : Nat) : Nat := s.farIndex k

/-- A change of a link's state, with its record (R340). -/
def State.linkGo (s : State) (k : Nat) (goal : LinkState) : State :=
  if (s.link k).state = goal then s
  else (s.updLink k (fun l => { l with state := goal, stepStart := s.clk })).stateEvent 7 k goal.code

/-- Completes the DT_LINK_UP commands in flight for a link. -/
def State.linkSettle (s : State) (k : Nat) (r : Rep) : State :=
  s.settleWhere (fun f => f.cmd.opcode == 0x0901 && f.cmd.u8 16 == k) r

/-- The traffic of a link is lost (R335, R339): its arrival ports deliver nothing, reservations not confirmed fail, its
departure ports are released at the next tick, and the group reference is gone. -/
def State.linkLost (s : State) (k : Nat) : State :=
  let dev := s.linkDev k
  let ties := s.carriesTies k
  let t := (s.updLink k (fun l => { l with aligned := 0, wanted := [], exports := [] })).unpaired k
  if s.pairLink k then t.level (97 + 4 * k) true 0xFFFF
  else
    let t := t.failRemote (fun q => q.dev == dev) (repUnreachable dev)
    let t : State := { t with
      ties := t.ties.filter (fun q => q.dev != dev)
      depart := t.depart.map (fun q =>
        if q.dev = dev then { q with ending := some ((s.dom q.td).nextTick) } else q) }
    let t := (t.de.filter (fun q => q.2.kind != 0 && (t.entryOf q.1).path == 2)).foldl (fun u q => u.destJudge q.1) t
    let t := t.level (if ties then 98 + 4 * k else 97 + 4 * k) true 0xFFFF
    if s.refLink k then ((t.disqualify 16).forgetEvent 16).level (99 + 4 * k) true 0xFFFF else t

/-- A link leaves UP for a state. -/
def State.linkFall (s : State) (k : Nat) (goal : LinkState) : State :=
  if (s.link k).isUp then (s.linkGo k goal).linkLost k else s.linkGo k goal

/-- Bring-up fails with a reason of R324. -/
def State.linkFail (s : State) (k reason : Nat) : State :=
  let t := s.linkFall k .failed
  (t.updLink k (fun l => { l with reason := reason })).linkSettle k (repByte 0x12 reason)

/-- The link comes up (R323): the causes of its faults end, and derived keys come into use (R336). -/
def State.linkUp (s : State) (k : Nat) (goal : LinkState) : State :=
  let t := s.linkGo k goal
  let t := ((t.fall (97 + 4 * k)).fall (98 + 4 * k))
  let l := t.link k
  let t := t.updLink k (fun l => { l with
    upAt := s.clk
    txFrames := 0
    rxFrames := 0
    rxCount := 0
    txSeq := 0
    rxSeq := 0
    kept := []
    resent := []
    asked := []
    authFails := 0
    txRenewed := 0
    rxRenewed := 0 })
  let t := if !l.crypt then t
    else if l.txSlot = 0xFFFF then
      (t.setLinkKey (2 * k) (l.derivedKey false 0)).setLinkKey (2 * k + 1) (l.derivedKey true 0)
    else (t.handKey l.txSlot).handKey l.rxSlot
  let t := if t.pr.link = k then t.forwardAll else t
  t.linkSettle k (repDone (leBytes 1 (if goal = .up112 then 0 else 1)))

/-- Loaded keys cannot be given a fresh nonce: the epoch is saturated or 16,383 bring-ups are used (R337). -/
def State.nonceSpent (s : State) (k : Nat) : Bool := decide (4096 ≤ s.fuses.epoch) || decide (16383 ≤ (s.link k).bringups)

/-- A link derives the keys of its frames (R336). -/
def Link.derives (l : Link) : Bool := l.crypt && l.txSlot == 0xFFFF

/-- A link that derives its keys draws a new private key for its share (R336). -/
def State.drawShare (s : State) (k : Nat) : State :=
  if (s.link k).derives then
    let r := s.ks.drbg.draw 4
    ({ s with ks := { s.ks with drbg := r.2 } } : State).updLink k (fun l => { l with eph := privateKey (r.1.take 56) })
  else s

/-- The negotiation record that this end sends on a link: with derived keys its share too, which its identity key signs; the signature
covers the 97 bytes of the share (R324, R336; the latter DESIGN CHOICE, log 8). -/
def State.negSent (s : State) (k : Nat) : NegSent where
  index := s.straps.groupIdx
  link := k
  tag := s.group.tag
  pairing := s.pairLink k
  crypt := (s.link k).crypt
  stepping := s.fuses.stepping
  variant := s.fuses.variant
  share := if (s.link k).derives then publicPoint (s.link k).eph else []
  sig := if (s.link k).derives then ecdsaSign s.ks.idKey (publicPoint (s.link k).eph) else []

/-- Bring-up begins at NEGOTIATE, in which this end sends its record, from the taps that LANE_EQ gave (R323, R324, R519); with loaded keys that cannot be given a fresh nonce it fails at once (R324, R337). -/
def State.linkBegin (s : State) (k : Nat) : State :=
  let l := s.link k
  if l.crypt && l.txSlot != 0xFFFF && s.nonceSpent k then s.linkFail k 7
  else
    let t := ((s.linkFall k .negotiate).untrain (range (384 + 32 * k) 32)).drawShare k
    t.updLink k (fun l => { l with
      record := some (t.negSent k)
      peer := []
      partner := 0xFF
      active := []
      spareLanes := []
      retried := false
      stepStart := s.clk
      bringups := l.bringups + 1 })

/-- A lane of a range is in test. -/
def State.anyTest (s : State) (l n : Nat) : Bool := s.ln.any (fun p => decide (l ≤ p.1 ∧ p.1 < l + n) && p.2.test != 0)

/-- The checks of a DT_LINK_UP with OP 1 (R7, R337, 15 R410, 19 R520). -/
def linkUpChecks (s : State) (c : Cmd) : List Check :=
  let tx := c.u16 20
  let rx := c.u16 22
  let loaded := c.u8 19 == 1 && tx != 0xFFFF
  [badIf (decide (2 ≤ c.u8 18)) 18, badIf (decide (2 ≤ c.u8 19)) 19, badIf (decide (1024 ≤ tx) && tx != 0xFFFF) 20,
   badIf ((decide (1024 ≤ rx) && rx != 0xFFFF) || (rx == 0xFFFF) != (tx == 0xFFFF)) 22]
  ++ [reserved c 24 64, (c.u8 19 == 1 && s.fuses.variant == 3, repBadState), (s.anyTest (384 + 32 * c.u8 16) 32, repBadState)]
  ++ (if loaded then slotUse s tx 1 ++ slotUse s rx 2 else [])

/-- DT_LINK_UP (R323, R324, R336, R337). -/
def cmdDtLinkUp : CmdSpec where
  opcode := 0x0901
  role := .engineering
  ptr := .never
  checks := fun s x =>
    let c := x.cmd
    [badIf (decide (3 ≤ c.u8 16)) 16, badIf (decide (2 ≤ c.u8 17)) 17]
      ++ (if c.u8 17 = 1 then linkUpChecks s c else [reserved c 24 64])
  effect := .later fun s x =>
    let c := x.cmd
    let k := c.u8 16
    if c.u8 17 = 0 then
      let t := s.settleWhere (fun f => f.cmd.opcode == 0x0901 && f.cmd.u8 16 == k && f.id != x.id) (repByte 0x12 1)
      ((t.linkFall k .down).updLink k (fun l => { l with active := [], spareLanes := [] })).settle x.id (repDone [])
    else
      let t := s.settleWhere (fun f => f.cmd.opcode == 0x0901 && f.cmd.u8 16 == k && f.id != x.id) (repByte 0x12 1)
      let t := (t.updFlight x.id (fun f => { f with data := [k] })).updLink k (fun l => { l with
        maxRate := c.u8 18
        crypt := c.u8 19 == 1
        txSlot := c.u16 20
        rxSlot := c.u16 22
        excluded := [] })
      t.linkBegin k

/-- DT_LINK_UP as a row. -/
def execDtLinkUp (mb : Nat) (c : Cmd) (s : State) : Host.Outcome State Fault Refusal :=
  .next (runCommand cmdDtLinkUp mb c s)

/-! ## Bring-up events (R323, R324) -/

/-- The limit of a bring-up step in ms (Table Link bring-up steps). -/
def stepLimit (st : LinkState) : Option Nat :=
  match st with
  | .negotiate => some 20
  | .train56 => some 150
  | .train112 => some 200
  | .down => none
  | .up56 => none
  | .up112 => none
  | .failed => none

/-- The bring-up step of a link is still within its limit, and its transmitters run: after ALIVE_RELEASE they have stopped, and no step
passes (R323, R384). -/
def State.inStep (s : State) (k : Nat) : Bool :=
  match stepLimit (s.link k).state with
  | some ms => !s.boot.dataStop && decide (s.clk ≤ (s.link k).stepStart + tuMs ms)
  | none => false

/-- The reason for which a negotiation record is refused, in the order of R324. -/
def State.negRefusal (s : State) (k : Nat) (r : NegRecord) : Option Nat :=
  let l := s.link k
  let pair := s.pairLink k
  if !pair ∧ !r.pairing ∧ (r.index ≠ s.farIndex k ∨ r.link ≠ 2 - k) then some 2
  else if r.tag ≠ s.group.tag ∨ r.pairing ≠ pair then some 3
  else if r.crypt ≠ l.crypt ∨ (l.crypt ∧ (r.variant = 3 ∨ s.fuses.variant = 3)) then some 4
  else if l.crypt ∧ l.txSlot = 0xFFFF ∧ r.auth = false then some 6
  else none

/-- DT_NEGOTIATION_RECORD: a record within the step's limit (R322 to R324, R336). -/
def execDtNegotiationRecord (link : Nat) (rec : NegRecord) (s : State) : Host.Outcome State Fault Refusal :=
  if link < 3 ∧ (s.link link).state = .negotiate ∧ s.inStep link then
    match s.negRefusal link rec with
    | some r => .next (s.linkFail link r)
    | none => .next ((s.linkGo link .train56).updLink link (fun l => { l with
        partner := rec.index
        peer := if l.derives then rec.share else [] }))
  else .next s

/-- DT_TRAINING_RESULT: `lanes` are the lanes that pass, lowest error ratio first; with 30 of them within its limit the step passes
(R323). -/
def execDtTrainingResult (link : Nat) (lanes : List Nat) (s : State) : Host.Outcome State Fault Refusal :=
  let l := s.link link
  let ok := (lanes.eraseDups.filter (fun x => decide (x < 32) && !l.excluded.contains x))
  if link < 3 ∧ (l.state = .train56 ∨ l.state = .train112) ∧ s.inStep link ∧ 30 ≤ ok.length then
    let t := (s.adapt (ok.map (fun x => 384 + 32 * link + x)) true).updLink link
      (fun l => { l with active := ok.take 30, spareLanes := ok.drop 30 })
    if l.state = .train112 then .next (t.linkUp link .up112)
    else if l.maxRate = 1 ∨ l.retried then .next (t.linkUp link .up56)
    else .next (t.linkGo link .train112)
  else .next s

/-- DT_STEP_TIMEOUT: step 3 falls back to step 2, any other step fails (R323, R324). -/
def execDtStepTimeout (link : Nat) (s : State) : Host.Outcome State Fault Refusal :=
  let l := s.link link
  match stepLimit l.state with
  | some ms =>
    if link < 3 ∧ s.passed l.stepStart (tuMs ms) then
      if l.state = .train112 then .next ((s.linkGo link .train56).updLink link (fun l => { l with retried := true }))
      else .next (s.linkFail link (if l.state = .negotiate then 1 else 5))
    else .next s
  | none => .next s

/-! ## A link that is up (R333 to R339) -/

/-- The full frame count whose low 16 bits a frame carries: the nearest to the count expected (R337). -/
def fullCount (expected low : Nat) : Nat :=
  let d := (low + 65536 - expected % 65536) % 65536
  if d < 32768 then expected + d else expected + d - 65536

/-- A frame that is not taken is asked for again, as long as the far end still holds it (R333). -/
def State.askAgain (s : State) (k : Nat) (f : LinkFrame) : State :=
  let want := (s.link k).rxSeq
  if f.cycles ≤ 512 then
    (s.updLink k (fun l => { l with asked := [want], replays := satAdd 65535 l.replays 1 })).sendFrame k (.again want)
  else s

/-- DT_LINK_FRAME: a frame in order that passes its checks is taken, and the frames of this end for which it asks are sent again; any
other is discarded and asked for again. One that needs a REVOKED slot is dropped and counted (R333, R337, R338, R418). -/
def execDtLinkFrame (link : Nat) (f : LinkFrame) (s : State) : Host.Outcome State Fault Refusal :=
  let l := s.link link
  if link < 3 ∧ l.isUp then
    if s.linkRevoked link l.rxSlot then .next (s.dropUnder l.rxSlot)
    else if f.crcOk && (!l.crypt || f.authOk) && f.seq == l.rxSeq then
      let n := fullCount l.rxFrames f.low
      .next ((s.setLink link { l with
        authFails := 0
        rxSeq := (l.rxSeq + 1) % 65536
        rxCount := n
        rxFrames := n + 1 }).resendFrames link f.asks)
    else
      .next ((s.setLink link { l with
        authFails := if l.crypt && !f.authOk && f.crcOk then l.authFails + 1 else l.authFails }).askAgain link f)
  else .next s

/-- DT_AUTH_FAIL_LIMIT: after 8 consecutive failures the link goes down (R338). -/
def execDtAuthFailLimit (link : Nat) (s : State) : Host.Outcome State Fault Refusal :=
  if link < 3 ∧ (s.link link).isUp ∧ 8 ≤ (s.link link).authFails then .next (s.linkFall link .down) else .next s

/-- DT_KEY_RENEWAL: a derived key is renewed before its count reaches 2^32, without a break; a loaded key's count of 2^63
makes the link go down and come up again with a new bring-up count (R336, R337). -/
def execDtKeyRenewal (link : Nat) (receive : Bool) (s : State) : Host.Outcome State Fault Refusal :=
  let l := s.link link
  let count := if receive then l.rxFrames else l.txFrames
  if link < 3 ∧ l.isUp ∧ l.crypt then
    if l.txSlot = 0xFFFF then
      if 4294967295 ≤ count then
        let t := s.setLink link (if receive then { l with rxFrames := 0, rxRenewed := l.rxRenewed + 1 }
          else { l with txFrames := 0, txRenewed := l.txRenewed + 1 })
        .next (t.setLinkKey (2 * link + flag receive)
          (l.derivedKey receive ((if receive then l.rxRenewed else l.txRenewed) + 1)))
      else .next s
    else if 9223372036854775808 ≤ count then .next (s.linkBegin link)
    else .next s
  else .next s

/-- DT_LANE_FAIL_NO_SPARE: bring-up runs again without the lane (R335). -/
def execDtLaneFailNoSpare (link lane : Nat) (s : State) : Host.Outcome State Fault Refusal :=
  let l := s.link link
  if link < 3 ∧ l.isUp ∧ l.active.contains lane ∧ l.spareLanes = [] then
    .next ((s.updLink link (fun k => { k with excluded := k.excluded ++ [lane] })).linkBegin link)
  else .next s

/-- DT_LINK_DOWN: loss of lane lock marks the link down (R339). -/
def execDtLinkDown (link : Nat) (s : State) : Host.Outcome State Fault Refusal :=
  if link < 3 ∧ (s.link link).isUp then .next (s.linkFall link .down) else .next s

/-! ## DT_STATUS -/

/-- The result of DT_STATUS (Table DT_STATUS result). -/
def State.dtStatus (s : State) (k : Nat) : List Byte :=
  let l := s.link k
  let ports := ((s.depart.filter (fun t => s.linkTo t.dev == k)).map (fun t => t.port)).eraseDups.length
  leBytes 1 l.state.code ++ leBytes 1 l.reason ++ leBytes 1 l.partner ++ leBytes 1 l.spareLanes.length
    ++ leBytes 1 l.aligned
    ++ leBytes 1 (flag (l.crypt && l.isUp) + 2 * flag (s.pairLink k) + 4 * flag (l.isUp && s.refLink k))
    ++ leBytes 2 ports ++ leBytes 4 (ofSigned 4 l.tbOffset) ++ leBytes 2 l.replays ++ leBytes 2 l.held

/-- DT_STATUS: reading clears its two counters. -/
def cmdDtStatus : CmdSpec where
  opcode := 0x0902
  role := .any
  ptr := .never
  checks := fun _ x => [badIf (decide (3 ≤ x.cmd.u8 16)) 16, reserved x.cmd 17 64]
  effect := .atOnce fun s x =>
    (s.updLink (x.cmd.u8 16) (fun l => { l with replays := 0, held := 0 }), repDone (s.dtStatus (x.cmd.u8 16)))

/-- DT_STATUS as a row. -/
def execDtStatus (mb : Nat) (c : Cmd) (s : State) : Host.Outcome State Fault Refusal :=
  .next (runCommand cmdDtStatus mb c s)

/-! ## DT_GROUP -/

/-- DT_GROUP (R325). -/
def cmdDtGroup : CmdSpec where
  opcode := 0x0903
  role := .engineering
  ptr := .never
  checks := fun s x =>
    let c := x.cmd
    [badIf (decide (16 ≤ c.u8 16) || !bit (c.u8 16) s.straps.groupIdx) 16,
     badIf (c.u8 17 != 0xFF && (decide (4 ≤ c.u8 17) || !bit (c.u8 16) (c.u8 17))) 17,
     badIf (decide (8 ≤ c.u8 18)) 18, badIf (c.u8 19 != 0xFF && decide (8 ≤ c.u8 19)) 19,
     badIf (decide (8 ≤ c.u8 24)) 24, reserved c 25 64,
     ((range 0 3).any (fun k => (s.link k).isUp), repBadState)]
  effect := .atOnce fun s x =>
    let c := x.cmd
    ({ s with group := {
        members := c.u8 16
        master := c.u8 17
        td := c.u8 18
        tb := c.u8 19
        tag := BitVec.ofNat 32 (c.u32 20)
        pairLinks := c.u8 24
        set := true } }, repDone [])

/-- DT_GROUP as a row. -/
def execDtGroup (mb : Nat) (c : Cmd) (s : State) : Host.Outcome State Fault Refusal :=
  .next (runCommand cmdDtGroup mb c s)

/-- DT_GROUP_TICK_STAMP: the master's stamp, in cycles of the link, is an event of candidate 16, at the rate of GROUP_TD (R326, R87). -/
def execDtGroupTickStamp (link cycles : Nat) (s : State) : Host.Outcome State Fault Refusal :=
  if link < 3 ∧ (s.link link).isUp ∧ s.refLink link then
    .next ((s.seeEvent 16 ((s.link link).instantOf cycles)).fall (99 + 4 * link))
  else .next s

/-- The master sends its group tick stamps of GROUP_TD on a link: a group link (R326). -/
def State.stampsOn (s : State) (k d : Nat) : Bool :=
  s.group.set && s.group.master == s.straps.groupIdx && s.group.td == d && !s.pairLink k

/-- What this device tells of a domain at its tick `n`, the instant of the tick translated to cycles of the link (R327). -/
def State.alignSent (s : State) (k d n inst : Nat) : AlignSent where
  td := d
  rate := (s.dom d).rate
  ref := (s.dom d).ref
  count := n
  instant := (s.link k).cyclesAt inst
  tbTime := if s.group.set ∧ s.group.tb < 8 then some (s.base s.group.tb).time else none

/-- At tick `n` of a domain each link that is up takes the master's stamp of GROUP_TD and the domain's exchange (R326, R327). -/
def State.tellLinks (s : State) (d n inst : Nat) : State :=
  (range 0 3).foldl (fun t k =>
    if (t.link k).isUp then
      let c := (s.link k).cyclesAt inst
      let t := if s.stampsOn k d then (t.updLink k (fun l => { l with stamp := some c })).sendFrame k (.stamp c) else t
      (t.updLink k (fun l => { l with
        told := l.told.filter (fun q => q.td != d) ++ [s.alignSent k d n inst] })).sendFrame k (.align (s.alignSent k d n inst))
    else t) s

/-- The trim of a paired lane against a skew, both in steps of 0.1 ns, over 200 ns either way: it cancels the skew and
BOARD_SKEW (R369; the sense of BOARD_SKEW DESIGN CHOICE, log 125). -/
def State.trimFor (s : State) (skew : Int) : Int :=
  max (-2000) (min 2000 (-((10 * skew + toSigned 2 s.pr.skew) / 10)))

/-- The standby takes up what it measures of a PAIRED SDI destination of a domain and trims the serialiser phase of each of its lanes
(R369). -/
def State.trimLanes (s : State) (d : Nat) (q : Nat × Int) : State :=
  let k := s.dest q.1
  if (k.kind = 1 ∨ k.kind = 2) ∧ k.pairMode = 1 ∧ k.td = d then
    let t : State := { s with pr := { s.pr with skews := Tbl.set 0 s.pr.skews q.1 q.2 } }
    if s.pr.state = .standby then
      let v := s.trimFor q.2
      k.lanes.foldl (fun u l => u.updLane (128 + l) (fun p => { p with trim := v }))
        { t with pr := { t.pr with trims := Tbl.set 0 t.pr.trims q.1 v } }
    else t
  else s

/-- What the exchange on the pairing link tells of a domain: pair-alignment, and the departures of its paired lanes (R365,
R369). -/
def State.pairExchange (s : State) (d : Nat) (ok : Bool) (departs : List (Nat × Int)) : State :=
  departs.foldl (fun t q => t.trimLanes d q)
    (State.pairLegs { s with pr := { s.pr with aligned := setBit s.pr.aligned d ok } })

/-- DT_ALIGN_EXCHANGE: a domain is group-aligned under the conditions of R327, and pair-aligned on the pairing link (13
R365). -/
def execDtAlignExchange (link d : Nat) (rec : AlignRecord) (s : State) : Host.Outcome State Fault Refusal :=
  let t := s.dom d
  if link < 3 ∧ d < 8 ∧ (s.link link).isUp then
    let skew : Int := (t.last : Int) - (s.link link).instantOf rec.instant
    let ok := rec.timeBase && t.ref.isSome && t.hasTicks && rec.rate == t.rate && rec.count == t.count
      && decide (skew.natAbs ≤ 1200)
    let u := s.updLink link (fun l => { l with
      aligned := setBit l.aligned d ok
      tbOffset := rec.offset
      wanted := rec.imports
      sources := l.sources.filter (fun r => r.td != d) ++ rec.sources.filter (fun r => r.td == d) })
    .next (if s.pr.link = link ∧ s.pairLink link then u.pairExchange d ok rec.departs else u)
  else .next s

/-! ## Ties: the destination device (R225 to R230, R330, R331) -/

/-- A tie is in use or wanted: selected by an entry, in work staged or sealed (R225, R229). -/
def State.tieUsed (s : State) (t : Tie) : Bool :=
  s.xp.any (fun p => p.2.selects t.src && s.portTd p.1 == t.td) || s.tieStaged t.src t.td

/-- A tie that a flip leaves unused and not reserved. -/
def State.tieIdle (s : State) (d : Nat) (t : Tie) : Bool := t.td == d && !t.reserved && t.confirmed && !s.tieUsed t

/-- The ties of a domain that a flip for tick `n` leaves unused are to be released for the tick after it (R229). -/
def State.releaseTies (s : State) (d n : Nat) : State :=
  { s with ties := s.ties.map (fun t =>
      if s.tieIdle d t && t.leaving.isNone then { t with leaving := some (n + 1) } else t) }

/-- The releases of a domain's ties for ticks up to `n` are sent, at the cutoff of that tick: until then a take uses the tie
(R229, which gives no instant; DESIGN CHOICE, log 103). -/
def State.sendReleases (s : State) (d n : Nat) : State :=
  let due := fun (t : Tie) => s.tieIdle d t && (match t.leaving with
    | some k => decide (k ≤ n)
    | none => false)
  (s.ties.filter due).foldl (fun u t => u.sendTie t.dev (.release t.src d (t.leaving.getD n)))
    { s with ties := (s.ties.filter (fun t => !due t)).map (fun t =>
        if t.td == d && !s.tieIdle d t then { t with leaving := none } else t) }

/-- The result of a DT_TIE_RESERVE: the tie's tick and arrival port (R330). -/
def tieResult (t : Tie) : Rep := repDone (leBytes 8 t.tick ++ leBytes 2 t.port)

/-- DT_TIE_RESERVE (R330, R225, R228). -/
def cmdDtTieReserve : CmdSpec where
  opcode := 0x0904
  role := .engineering
  ptr := .never
  checks := fun s x =>
    let c := x.cmd
    let g := c.u16 18
    [badIf (decide (2 ≤ c.u8 16)) 16, reserved c 17 18, badIf (!s.isRemote g || !s.member (g / 1024)) 18,
     badIf (decide (8 ≤ c.u8 20)) 20, reserved c 21 64,
     (c.u8 16 == 1 && !s.reachable (g / 1024), repUnreachable (g / 1024))]
  effect := .later fun s x =>
    let g := x.cmd.u16 18
    let d := x.cmd.u8 20
    if x.cmd.u8 16 = 0 then
      ((s.updTie g d (fun t => { t with reserved := false })).releaseTies d (s.dom d).count).settle x.id (repDone [])
    else
      match s.tie? g d with
      | some t =>
        let u := s.updTie g d (fun t => { t with reserved := true, leaving := none })
        if t.confirmed then u.settle x.id (tieResult t)
        else u.updFlight x.id (fun f => { f with data := [g, d] })
      | none =>
        let u : State := { s with
          ties := s.ties ++ [{ src := g, td := d, dev := g / 1024, port := 0, reserved := true }] }
        (u.sendTie (g / 1024) (.reserve g d (s.openTick d 0))).updFlight x.id (fun f => { f with data := [g, d] })

/-- DT_TIE_RESERVE as a row. -/
def execDtTieReserve (mb : Nat) (c : Cmd) (s : State) : Host.Outcome State Fault Refusal :=
  .next (runCommand cmdDtTieReserve mb c s)

/-- DT_RESERVATION_CONFIRM: the source device confirms a tie with its tick and port on the link, or refuses it (R226 to
R228, R330). -/
def execDtReservationConfirm (link : Nat) (r : TieAnswer) (s : State) : Host.Outcome State Fault Refusal :=
  match s.tie? r.src r.td with
  | some t =>
    if link < 3 ∧ (s.link link).isUp ∧ s.linkTo t.dev = link ∧ t.confirmed = false then
      match r.result with
      | some (tick, port) =>
        let t' : Tie := { t with
          tick := tick
          port := arrivalBase link + port % 320
          confirmed := true
          align := r.align }
        let u := s.updTie r.src r.td (fun _ => t')
        .next (u.settleWhere (fun f => f.cmd.opcode == 0x0904 && f.data == [r.src, r.td]) (tieResult t'))
      | none =>
        let u := s.failRemote (fun q => q.src == r.src && q.td == r.td) repNoResource
        .next { u with ties := u.ties.filter (fun q => !(q.src == r.src && q.td == r.td)) }
    else .next s
  | none => .next s

/-- The header of the line of a tie whose release instant is the latest at or before now, in the place of a header: the instant that
R200 gives for the line with the source's ALIGN_OFFSET, or 0 for a class F read-out, plus 0.5 line and 1.0 us (R331). -/
def State.tieDue (s : State) (t : Tie) (fmt : Nat) (h : LineHdr) : LineHdr :=
  let q := s.dueIn t.td fmt t.align (halfLine fmt + tuUs 1)
  { h with line := q.2.2, tick := q.1 % 16777216, parity := frameNumber fmt (s.dom t.td) q.1 q.2.1 % 2 }

/-- DT_TIE_LINE_RELEASE: at its instant a line that has arrived whole enters its arrival port; one that has not is replaced by the
last released, with the header of the line due and without packets, and counted (R331). -/
def execDtTieLineRelease (link src td : Nat) (l : Option FabLine) (s : State) : Host.Outcome State Fault Refusal :=
  match s.tie? src td with
  | some t =>
    if link < 3 ∧ (s.link link).isUp ∧ s.linkTo t.dev = link ∧ t.confirmed then
      match l.filter (fun w => s.tieDue t w.fmt w.hdr == w.hdr), t.last with
      | some w, _ =>
        if t.last.map (fun v => v.hdr) = some w.hdr then .next s
        else .next (s.updTie src td (fun q => { q with last := some w }))
      | none, some w =>
        let h := s.tieDue t w.fmt w.hdr
        if h = w.hdr then .next s
        else
          let u := s.updTie src td (fun q => { q with last := some { w with hdr := h, anc := [] } })
          .next (u.updLink link (fun k => { k with held := satAdd 65535 k.held 1 }))
      | none, none => .next s
    else .next s
  | none => .next s

/-! ## Ties: the source device (R226, R227, R229, R329) -/

/-- The share of a source on a departure port, in quarters of a Gb/s (R20, R329). -/
def State.tieShare (s : State) (src : Nat) : Nat :=
  match s.srcPic (src % 1024) with
  | some pic => classShare ((streamClass pic.1 pic.2.1 pic.2.2).getD 4)
  | none => 40

/-- A departure port has room for a share: at most four ties and 10.0 Gb/s (R329). -/
def State.portRoom (s : State) (share p : Nat) : Bool :=
  let on := s.depart.filter (fun t => t.port == p)
  decide (on.length < 4 ∧ on.foldl (fun k t => k + s.tieShare t.src) 0 + share ≤ 40)

/-- The departure port for a new tie on a link: the lowest with room (R329). -/
def State.departFor (s : State) (k src : Nat) : Option Nat :=
  firstFrom (s.portRoom (s.tieShare src)) (1024 + 320 * k) (if (s.link k).state = .up112 then 320 else 160)

/-- The first tick of a domain from `n` on whose cutoff has not passed and that has room for one take (bounded, R227). -/
def State.takeTick (s : State) (d : Nat) : Nat → Nat → Nat
  | 0, n => n
  | k + 1, n => if !s.cutPassed d n && s.fits d n { takes := 1 } then n else s.takeTick d k (n + 1)

/-- The places of a departure port that its ties leave free. -/
def State.freeSlot (s : State) (p : Nat) : Nat :=
  (firstFrom (fun i => !s.depart.any (fun t => t.port == p && t.slot == i)) 0 4).getD 0

/-- Puts a reserved tie on a departure port and stages its take for a tick (R226). -/
def State.placeTie (s : State) (r : TieRequest) (p n : Nat) : State :=
  let tie : Tie := { src := r.src, td := r.td, dev := r.dev, port := p, slot := s.freeSlot p, tick := n }
  let w : Staged := {
    id := s.newId
    td := r.td
    tick := n
    rank := 0
    mb := 0
    sess := 0
    order := s.bx.nextOrder
    op := 0x0904
    lateOk := true
    entries := [.take tie.outKey r.src] }
  let t : State := { s with
    depart := s.depart ++ [tie]
    bx := { s.bx with
      staged := s.bx.staged ++ [w]
      nextId := s.newId + 1
      nextOrder := s.bx.nextOrder + 1 } }
  (t.updOut tie.outKey (fun o => { o with trustB := (s.out p).trustB })).allot r.td n { takes := 1 }

/-- A reservation for a tie that is in place goes on with it: its release is cancelled, and one in force is confirmed again. -/
def State.keepTie (s : State) (r : TieRequest) (t : Tie) : State :=
  let u : State := { s with depart := s.depart.map (fun q =>
    if q.src == r.src && q.td == r.td && q.dev == r.dev then { q with ending := none } else q) }
  if t.confirmed then u.sendTie r.dev (.confirm r.src r.td t.tick t.port) else u

/-- DT_RESERVATION: a reservation is placed on a departure port and counts as one take of the tick asked for, or of the next
that can take it; without room, in a domain not aligned, or of a source that the domain may not take, it is refused (R172, R211,
R226 to R228, R328, R329). -/
def execDtReservation (link : Nat) (r : TieRequest) (s : State) : Host.Outcome State Fault Refusal :=
  if link < 3 ∧ (s.link link).isUp ∧ r.td < 8 ∧ s.linkTo r.dev = link ∧ (s.localOf r.src).isSome then
    match s.depart.find? (fun t => t.src == r.src && t.td == r.td && t.dev == r.dev) with
    | some t => .next (s.keepTie r t)
    | none =>
      if !(s.dom r.td).hasTicks || !s.alignedWith r.dev r.td || (s.classOf r.src).isNone || s.otherDomain r.src r.td
          || s.otherRate r.src r.td then
        .next (s.sendTie r.dev (.refuse r.src r.td))
      else
        match s.departFor link r.src with
        | some p => .next (s.placeTie r p (s.takeTick r.td 256 (max r.tick (s.openTick r.td 0))))
        | none => .next (s.sendTie r.dev (.refuse r.src r.td))
  else .next s

/-- DT_TIE_RELEASE: the destination device releases a tie from a tick (R229). -/
def execDtTieRelease (link src td tick : Nat) (s : State) : Host.Outcome State Fault Refusal :=
  if link < 3 ∧ (s.link link).isUp then
    .next { s with depart := s.depart.map (fun t =>
      if t.src == src && t.td == td && s.linkTo t.dev == link then { t with ending := some tick } else t) }
  else .next s

end Sys2Proof.Machine
end

