-- ==== Sys2Proof/Machine/System.lean ====
section
/-! DEFINITION. The system commands: DEVICE_INFO, FW_STATUS, SESSION_OPEN, SESSION_CLOSE, NOP_ECHO (17 R452 to R455,
03 R76 to R81). -/
namespace Sys2Proof.Machine

/-! ## DEVICE_INFO -/

/-- MACsec and Dovetail encryption are fused off, as on the DH1024-EC (R7). -/
def State.cryptoOff (s : State) : Bool := s.fuses.variant == 3

/-- The epoch field is full (R406). -/
def State.epochSaturated (s : State) : Bool := decide (4096 ≤ s.fuses.epoch)

/-- The result of DEVICE_INFO by PAGE (Table DEVICE_INFO result). -/
def State.deviceInfo (s : State) (page : Nat) : List Byte :=
  if page = 0 then s.identityBlock
  else
    leBytes 1 s.straps.groupIdx ++ leBytes 1 (flag s.straps.pairId) ++ leBytes 1 (flag s.startup.ready)
      ++ leBytes 1 (flag s.startup.bootLock + 2 * flag s.epochSaturated + 4 * flag s.cryptoOff)
      ++ leBytes 4 s.fuses.epoch ++ leBytes 4 s.glb.balixVer.toNat ++ leBytes 4 s.glb.romVer.toNat

/-- DEVICE_INFO (R453). -/
def cmdDeviceInfo : CmdSpec where
  opcode := 0x0101
  role := .any
  ptr := .never
  checks := fun _ x => [badIf (decide (2 ≤ x.cmd.u8 16)) 16, reserved x.cmd 17 64]
  effect := .atOnce fun s x => (s, repDone (s.deviceInfo (x.cmd.u8 16)))

/-- DEVICE_INFO as a row. -/
def execDeviceInfo (mb : Nat) (c : Cmd) (s : State) : Host.Outcome State Fault Refusal :=
  .next (runCommand cmdDeviceInfo mb c s)

/-! ## FW_STATUS -/

/-- The result of FW_STATUS (Table FW_STATUS result); the command itself is in flight. -/
def State.fwStatus (s : State) : List Byte :=
  leBytes 1 (flag s.boot.cc1)
    ++ leBytes 1 (flag (if s.boot.cc1 then s.boot.cc0Failed else s.boot.cc1Failed))
    ++ leBytes 2 (min 65535 s.boot.takeovers)
    ++ leBytes 4 ((s.clk - s.startup.upSince) / 12000000000)
    ++ leBytes 2 s.inflight ++ leBytes 1 s.openSessions

/-- FW_STATUS (R454). -/
def cmdFwStatus : CmdSpec where
  opcode := 0x0102
  role := .any
  ptr := .never
  checks := fun _ x => [reserved x.cmd 16 64]
  effect := .atOnce fun s _ => (s, repDone s.fwStatus)

/-- FW_STATUS as a row. -/
def execFwStatus (mb : Nat) (c : Cmd) (s : State) : Host.Outcome State Fault Refusal :=
  .next (runCommand cmdFwStatus mb c s)

/-! ## SESSION_OPEN -/

/-- Another session holds the security role. -/
def State.securityHeld (s : State) : Bool :=
  (range 0 16).any (fun n => (s.mbox n).isOpen && bit (s.mbox n).roles 2)

/-- Opens a session on a mailbox: the generation count rises by 1 modulo 16 (R76, R77). -/
def State.openSession (s : State) (n rank roles : Nat) : State :=
  s.updMbox n (fun m => { m with isOpen := true, rank := rank, roles := roles, gen := (m.gen + 1) % 16 })

/-- SESSION_OPEN (R76). -/
def cmdSessionOpen : CmdSpec where
  opcode := 0x0103
  role := .noSession
  ptr := .never
  checks := fun s x =>
    [badIf (x.cmd.session != x.mb) 4,
     badIf (decide (8 ≤ x.cmd.u8 16)) 16,
     badIf (x.cmd.u8 17 == 0 || decide (8 ≤ x.cmd.u8 17)) 17,
     badIf (bit (x.cmd.u8 17) 2 && x.cmd.u8 16 != 0) 17,
     reserved x.cmd 18 64,
     ((s.mbox x.mb).isOpen, repBadState),
     (bit (x.cmd.u8 17) 2 && s.securityHeld, repBadState)]
  effect := .atOnce fun s x =>
    let t := s.openSession x.mb (x.cmd.u8 16) (x.cmd.u8 17)
    (t, repDone (leBytes 1 (t.sessionByte x.mb)))

/-- SESSION_OPEN as a row. -/
def execSessionOpen (mb : Nat) (c : Cmd) (s : State) : Host.Outcome State Fault Refusal :=
  .next (runCommand cmdSessionOpen mb c s)

/-! ## SESSION_CLOSE -/

/-- An unconfirmed reservation of a source in a domain is released (R451): its member is told, with the next tick. A tie that staged
takes need as well stays for them. -/
def State.releaseTie (s : State) (src td : Nat) : State :=
  let s := s.updTie src td (fun t => { t with reserved := t.reserved && t.confirmed })
  let mine := fun (t : Tie) => !t.confirmed && t.src == src && t.td == td && !s.tieStaged src td
  (s.ties.filter mine).foldl (fun u t => u.sendTie t.dev (.release src td (s.dom td).nextTick))
    { s with ties := s.ties.filter (fun t => !mine t) }

/-- Undoes what a Later command had begun (R451): `data` holds what it acts on, and is empty while
it waits for a wake. -/
def State.undoLater (s : State) (f : Flight) : State :=
  let a := f.data.getD 0 0
  let b := f.data.getD 1 0
  if f.data.isEmpty then s
  else match f.cmd.opcode with
  | 0x0507 =>
    let back : PlaneState := if b = 1 then .offline else .inService
    s.setPlane (a == 1) { s.plane (a == 1) with state := back }
  | 0x0B05 =>
    if a = 1 then s.setPlane (b == 1) { s.plane (b == 1) with state := .offline, tested := false } else s
  | 0x0901 => (s.updLink a (fun l => { l with state := .down, active := [], spareLanes := [] })).stateEvent 7 a 0
  | 0x0904 => s.releaseTie a b
  | 0x0F05 => s.updLane a (fun l => { l with eyeDwell := none })
  | _ => s

/-- A Later command counted as sealed (R451): SESSION_CLOSE, KEY_INVALIDATE, PAIR_RESYNC, and a PAIR_SWITCH HANDOVER that
has shed ACTIVE. -/
def Flight.countsSealed (f : Flight) : Bool :=
  f.phase == .sealed || f.cmd.opcode == 0x0104 || f.cmd.opcode == 0x0C03 || f.cmd.opcode == 0x0A05
    || (f.cmd.opcode == 0x0A04 && f.cmd.u8 16 == 0 && f.phase == .begun)

/-- Aborts with a detail every command in flight that satisfies a test and is neither complete nor counted as sealed,
undoing what it had begun (R80, R86, R451). -/
def State.abortWhere (s : State) (p : Flight → Bool) (detail : Nat) : State :=
  let hit := fun f : Flight => p f && f.reply.isNone && !f.countsSealed
  let t := (s.bx.flights.filter hit).foldl (fun t f => (t.undoLater f).dropPending f) s
  t.settleWhere hit (repAborted detail)

/-- Closes the session of a mailbox (R80, R81): its commands are settled, its protects are released at the next tick of
each domain, its locks stay. -/
def State.closeSession (s : State) (n id : Nat) : State :=
  let sess := s.sessionByte n
  let t := s.abortWhere (fun f => f.mb == n && f.id != id) 2
  let t := t.updMbox n (fun m => { m with isOpen := false, rank := 0, roles := 0 })
  { t with bx := { t.bx with releases := t.bx.releases ++ (range 0 8).map (fun d => (d, sess)) } }

/-- The mailbox a SESSION_CLOSE names: its own for 0xFF. -/
def closeTarget (x : Ctx) : Nat := if x.cmd.u8 16 = 0xFF then x.mb else x.cmd.u8 16

/-- SESSION_CLOSE (R80). -/
def cmdSessionClose : CmdSpec where
  opcode := 0x0104
  role := .any
  ptr := .never
  checks := fun s x =>
    [badIf (decide (16 ≤ x.cmd.u8 16) && x.cmd.u8 16 != 0xFF) 16,
     reserved x.cmd 17 64,
     (closeTarget x != x.mb && !(x.rank == 0 && bit x.roles 1), repNotAuthority 1),
     (!(s.mbox (closeTarget x)).isOpen, repBadState)]
  effect := .later fun s x => (s.closeSession (closeTarget x) x.id).settle x.id (repDone [])

/-- SESSION_CLOSE as a row. -/
def execSessionClose (mb : Nat) (c : Cmd) (s : State) : Host.Outcome State Fault Refusal :=
  .next (runCommand cmdSessionClose mb c s)

/-! ## NOP_ECHO -/

/-- NOP_ECHO (R455). -/
def cmdNopEcho : CmdSpec where
  opcode := 0x0105
  role := .any
  ptr := .never
  checks := fun _ x => [reserved x.cmd 32 64]
  effect := .atOnce fun s x => (s, repDone (x.cmd.field 16 16))

/-- NOP_ECHO as a row. -/
def execNopEcho (mb : Nat) (c : Cmd) (s : State) : Host.Outcome State Fault Refusal :=
  .next (runCommand cmdNopEcho mb c s)

end Sys2Proof.Machine
end

