-- ==== Sys2Proof/Machine/Grain.lean ====
section
/-! DEFINITION. The Grain log: records chained, seals, RESUME and TAKEOVER, the Grain commands (chapter 16, 17 R477). -/
namespace Sys2Proof.Machine

/-! ## Records and the chain -/

/-- The staging ring's size (R438). -/
def grainRing : Nat := 4194304

/-- LENGTH of a record (R428). -/
def recLen (r : GrainRec) : Nat := 64 + r.body.length

/-- The bytes of a record at a position of the chain (Table Record header). -/
def recBytes (r : GrainRec) (count : Nat) (chain : BitVec 384) : List Byte :=
  leBytes 1 r.type ++ leBytes 1 r.flags ++ leBytes 2 (recLen r) ++ leBytes 2 r.epoch ++ leBytes 2 r.device
    ++ leBytes 8 count ++ beBytes 48 chain.toNat ++ r.body

/-- A record of this device. -/
def State.newRec (s : State) (type inst : Nat) (tick : Option (Nat × Nat)) (body : List Byte) : GrainRec :=
  ⟨type, s.grainFlags, s.fuses.epoch, s.straps.groupIdx + 4 * flag s.straps.pairId, s.grainStamp inst tick ++ body, none⟩

/-- A threshold of the fill: crossed above it, ended below it (R439). -/
def overMark (was : Bool) (mark n : Nat) : Bool := decide (mark < n) || (was && decide (mark ≤ n))

/-- The fill changes: shedding and refusing follow with source 178, and channel 7 starts at HIGH_WM (R438, R439). -/
def State.setFill (s : State) (n : Nat) : State :=
  let g := s.gr
  let t : State := { s with gr := { g with
    fill := n
    shedding := overMark g.shedding 2621440 n
    refusing := overMark g.refusing 3145728 n
    upload := g.upload || (g.started && decide (g.highWm ≤ n)) } }
  t.level 178 t.gr.refusing 0xFFFF

/-- A record has entered the chain, or never will: the command that waited for it waits no longer (R431). -/
def State.released (s : State) : Option Nat → State
  | none => s
  | some id => s.updFlight id (fun f => { f with records := f.records - 1 })

/-- Appends a record to the chain with a COUNT and a CHAIN, stages it, and mirrors the head (R428, R430, R361). -/
def State.chainAt (s : State) (r : GrainRec) (count : Nat) (chain : BitVec 384) : State :=
  let bs := recBytes r count chain
  let h := sha384 bs
  let t : State := { s with gr := { s.gr with
    head := h
    count := count
    staged := s.gr.staged ++ bs } }
  ((t.setFill (t.gr.fill + bs.length)).released r.flight).mirror 4 (.grain h count r.epoch)

/-- Appends a record after the newest one (R430). -/
def State.chainNext (s : State) (r : GrainRec) : State := s.chainAt r (s.gr.count + 1) s.gr.head

/-- Chains the records staged unchained, in order (R440, R445). -/
def State.chainStaged (s : State) : State :=
  let rs := s.gr.unchained
  let t : State := { s with gr := { s.gr with unchained := [], fill := s.gr.fill - (rs.map recLen).sum } }
  rs.foldl (fun u r => u.chainNext r) t

/-- A record found no room, or came after the log stopped (R439, R444). -/
def State.loseRecord (s : State) (r : GrainRec) : State :=
  State.released { s with gr := { s.gr with lost := s.gr.lost + 1 } } r.flight

/-- A FRAME_DIGEST not staged: counted in SHED and in its destination's MISSED (R439). -/
def State.shedDigest (s : State) (r : GrainRec) : State :=
  let dst := leNat (slice r.body 16 2)
  let missed := leNat (slice r.body 22 2)
  (State.updDest { s with gr := { s.gr with shed := satAdd 4294967295 s.gr.shed 1 } } dst
    (fun d => { d with witMissed := satAdd 65535 d.witMissed (missed + 1) }))

/-- The Grain block receives one record: chains it, stages it unchained and forwards it, sheds it or loses it (R426, R427, R430, R439,
R440). -/
def State.receive (s : State) (r : GrainRec) : State :=
  if s.pr.state = .frozen then s.released r.flight
  else if s.gr.stopped then s.loseRecord r
  else if r.type = 0x30 ∧ !s.signer then s
  else if r.type = 0x30 ∧ s.gr.shedding then s.shedDigest r
  else if grainRing < s.gr.fill + recLen r then s.loseRecord r
  else if s.gr.started && s.signer then s.chainNext r
  else (State.setFill { s with gr := { s.gr with unchained := s.gr.unchained ++ [r] } } (s.gr.fill + recLen r)).forward r

/-- GRAIN_RECORD: the oldest record given to the Grain block is received (R430). -/
def execGrainRecord (s : State) : Host.Outcome State Fault Refusal :=
  match s.gr.inbox with
  | [] => .next s
  | r :: rest => .next (State.receive { s with gr := { s.gr with inbox := rest } } r)

/-- Receives every record given (R443). -/
def State.receiveAll (s : State) : State :=
  s.gr.inbox.foldl (fun t r => t.receive r) { s with gr := { s.gr with inbox := [] } }

/-! ## Forwarding (R427) -/

/-- GRAIN_FORWARD_RECEIVE: the signer appends a forwarded record with FLAGS bit 2 set and acknowledges it. -/
def execGrainForwardReceive (rec' : GrainRec) (s : State) : Host.Outcome State Fault Refusal :=
  let r := { rec' with flags := rec'.flags + (if bit rec'.flags 2 then 0 else 4), flight := none }
  if s.pairUp && decide (s.pr.state ≠ .off) && s.signer && s.gr.started && !s.gr.stopped
      && decide (s.gr.fill + recLen r ≤ grainRing) then
    let t := s.chainNext r
    .next (State.sendFrame { t with gr := { t.gr with acks := t.gr.acks + 1 } } t.pr.link .recordAck)
  else .next s

/-- GRAIN_FORWARD_ACK: the oldest forwarded record leaves this device's staging ring. -/
def execGrainForwardAck (s : State) : Host.Outcome State Fault Refusal :=
  match s.gr.unchained with
  | [] => .next s
  | r :: rest =>
    if s.pairUp && !s.signer && s.gr.started then
      let t : State := { s with gr := { s.gr with unchained := rest } }
      .next ((t.setFill (t.gr.fill - recLen r)).released r.flight)
    else .next s

/-! ## Seals (R435 to R437) -/

/-- The result of GRAIN_SEAL: the SEAL's COUNT and the first 8 bytes of the head after it (R437). -/
def sealResult (count : Nat) (head : BitVec 384) : List Byte := leBytes 8 count ++ slice (beBytes 48 head.toNat) 0 8

/-- A GRAIN_SEAL command's SEAL is in the chain (R437). -/
def State.sealAnswered (s : State) (count : Nat) (head : BitVec 384) (id : Nat) : State :=
  (s.updFlight id (fun f => { f with res := sealResult count head })).effectDone id 1

/-- The sixteen GRAIN_LAST_SEAL registers of a SEAL (Table Grain registers, R616). -/
def sealWords (head : BitVec 384) (count reason epoch stampSec : Nat) : List Word :=
  (range 0 12).map (fun n => BitVec.ofNat 32 (leNat (slice (beBytes 48 head.toNat) (4 * n) 4)))
    ++ [BitVec.ofNat 32 count, BitVec.ofNat 32 (count / 4294967296),
        BitVec.ofNat 32 (2147483648 + 1073741824 * flag (reason == 2) + epoch), BitVec.ofNat 32 stampSec]

/-- The SEAL record with a reason (Table SEAL body): the signature covers bytes 0 to 111 (R403). -/
def State.sealRec (s : State) (reason inst : Nat) (tick : Option (Nat × Nat)) : GrainRec :=
  let r := s.newRec 0x40 inst tick
    (s.identityBlock ++ leBytes 4 s.gr.shed ++ leBytes 4 s.gr.lost ++ leBytes 8 reason)
  let open' := recBytes { r with body := r.body ++ List.replicate 96 0 } (s.gr.count + 1) s.gr.head
  { r with body := r.body ++ ecdsaSign s.ks.sealKey (slice open' 0 112) }

/-- The signer writes a SEAL: it enters the chain, loads GRAIN_LAST_SEAL, starts the upload and answers every GRAIN_SEAL
that waits (R435, R437, R438, R616). -/
def State.writeSeal (s : State) (reason inst : Nat) (tick : Option (Nat × Nat)) : State :=
  if s.signer && s.gr.started && !s.gr.stopped then
    let r := s.sealRec reason inst tick
    if grainRing < s.gr.fill + recLen r then s.loseRecord r
    else
      let t := s.chainNext r
      let c := t.gr.count
      let h := t.gr.head
      let ids := t.gr.sealReqs
      let t : State := { t with gr := { t.gr with
        shed := 0
        lost := 0
        drain := true
        sealReqs := []
        lastSeal := sealWords h c reason r.epoch (leNat (slice r.body 0 4))
        sealTick := tick.map (fun q => (q.1, q.2, c, h)) } }
      ids.foldl (fun u id => u.sealAnswered c h id) t
  else s

/-- A request for a SEAL at a tick: requests that fall at one tick give one SEAL (R435). -/
def State.sealAtTick (s : State) (reason inst d n : Nat) : State :=
  match s.gr.sealTick with
  | some (d', n', c, h) =>
    if d' = d ∧ n' = n then
      s.gr.sealReqs.foldl (fun u id => u.sealAnswered c h id) { s with gr := { s.gr with sealReqs := [] } }
    else s.writeSeal reason inst (some (d, n))
  | none => s.writeSeal reason inst (some (d, n))

/-- The effective tick of a GRAIN_SEAL: its SEAL is written, or the device is no longer the signer (R435, R437). -/
def State.grainSealAt (s : State) (id d n inst : Nat) : State :=
  if s.signer then
    State.sealAtTick { s with gr := { s.gr with sealReqs := s.gr.sealReqs ++ [id] } } 1 inst d n
  else s.failFlight id repBadState

/-- Whether a periodic seal is due, with its instant and tick (R436). -/
def State.periodicDue (s : State) : Option (Nat × Option (Nat × Nat)) :=
  let g := s.gr
  let d := s.dom g.sealTd
  if d.hasTicks then
    (if d.started then
      match g.lastPeriodic with
      | none => some (d.last, some (g.sealTd, d.count))
      | some p =>
        if decide (p < d.last) && decide (p + tuMs g.interval ≤ d.last) then some (d.last, some (g.sealTd, d.count))
        else none
    else none)
  else
    let every := tuMs (if g.interval = 0 then 20 else g.interval)
    match g.lastPeriodic with
    | none => some (s.clk, none)
    | some p => if p + every ≤ s.clk then some (p + every, none) else none

/-- GRAIN_PERIODIC_SEAL (R436). -/
def execGrainPeriodicSeal (s : State) : Host.Outcome State Fault Refusal :=
  match s.periodicDue with
  | none => .next s
  | some (inst, tick) =>
    if s.signer && s.gr.started && !s.gr.stopped then
      let t : State := { s with gr := { s.gr with lastPeriodic := some inst } }
      (match tick with
       | some (d, n) => .next (t.sealAtTick 0 inst d n)
       | none => .next (t.writeSeal 0 inst none))
    else .next s

/-! ## RESUME and TAKEOVER -/

/-- Writes a RESUME that cites a record: reason, CFLAGS, and the cited EPOCH, COUNT and head; none for a genesis record
(R441, R442). On a device that is not the signer it is staged before its other records and forwarded (R427). -/
def State.resumeWith (s : State) (reason cflags : Nat) (cited : Option (Nat × Nat × BitVec 384)) : State :=
  let r := s.newRec 0x41 s.clk none (match cited with
    | some (e, n, h) => s.resumeBody reason cflags e 0 n h
    | none => s.resumeBody 3 0 0 0 0 0)
  if s.signer then
    (match cited with
     | some (_, n, h) => s.chainAt r (n + 1) h
     | none => s.chainAt r 0 0)
  else State.setFill { s with gr := { s.gr with unchained := r :: s.gr.unchained } } (s.gr.fill + recLen r)

/-- The device takes the Grain signer role: a TAKEOVER continues the head mirrored to it, then its unacknowledged records
are chained (R445). -/
def State.takeSigner (s : State) : State :=
  if s.gr.started ∧ !s.gr.stopped then
    let r := fun (e n : Nat) (h : BitVec 384) => s.newRec 0x42 s.clk none (s.resumeBody s.pr.why 0 e s.pr.roleGen n h)
    let t := match s.gr.mirHead with
      | some (h, n, e) => s.chainAt (r e n h) (n + 1) h
      | none => s.chainAt (r 0 0 0) 0 0
    t.chainStaged
  else s

/-! ## GRAIN_CONFIG (R440, R441, R446) -/

/-- A GRAIN_CONFIG changes HOST_ADDR, HOST_LEN or SHADOW. -/
def State.movesRing (s : State) (c : Cmd) : Bool :=
  c.u64 40 != s.gr.hostAddr || c.u32 48 != s.gr.hostLen || c.u64 56 != s.gr.shadow

/-- The parameters of GRAIN_CONFIG (Table GRAIN_CONFIG payload). -/
def State.grainSet (s : State) (c : Cmd) : State :=
  { s with gr := { s.gr with
    tb := c.u8 29
    sealTd := c.u8 30
    interval := c.u32 32
    highWm := c.u32 36
    hostAddr := c.u64 40
    hostLen := c.u32 48
    lowWm := c.u32 52
    shadow := c.u64 56 } }

/-- OP 1: the chain starts with a RESUME, and the staged records follow it; they are forwarded where this device is not the signer
(R427, R440, R441). -/
def State.grainStart (s : State) (old : List Byte) : State :=
  let t : State := { s with gr := { s.gr with started := true } }
  let why := if s.startup.lastReset = .powerOn then 0 else 1
  let t := if old.isEmpty then t.resumeWith 3 0 none
    else t.resumeWith why (flag ((old.getD 104 0).toNat == 2))
      (some (leNat (slice old 4 2), leNat (slice old 8 8), sha384 old))
  let t := if t.signer then t.chainStaged else t.forwardAll
  if t.signer && !t.gr.sealReqs.isEmpty then t.writeSeal 1 t.clk none else t

/-- GRAIN_CONFIG (R446). -/
def cmdGrainConfig : CmdSpec where
  opcode := 0x0D01
  role := .security
  ptr := .may (fun c => c.u8 28 == 1) (fun n => n == 208)
  checks := fun s x =>
    [(!x.cmd.ptr && (x.cmd.firstNonZero 16 12).isSome, repBadArg ((x.cmd.firstNonZero 16 12).getD 16)),
     byteBelow x.cmd 28 2, byteBelow x.cmd 29 8, byteBelow x.cmd 30 8, reserved x.cmd 31 32,
     badIf (decide (10000 < x.cmd.u32 32)) 32,
     badIf (decide (x.cmd.u32 36 < 4096 ∨ 2097152 < x.cmd.u32 36)) 36,
     badIf (decide (x.cmd.u64 40 % 4096 ≠ 0)) 40,
     badIf (decide (x.cmd.u32 48 < 65536 ∨ 1073741824 < x.cmd.u32 48 ∨ x.cmd.u32 48 % 4096 ≠ 0)) 48,
     badIf (decide (x.cmd.u32 36 < x.cmd.u32 52)) 52,
     badIf (decide (x.cmd.u64 56 % 8 ≠ 0)) 56,
     badBufIf (x.cmd.ptr && decide (s.fuses.epoch < leNat (slice x.buf 4 2))) 4,
     badBufIf (x.cmd.ptr && decide (slice x.buf 80 16 ≠ s.identityBlock)) 80,
     badBufIf (x.cmd.ptr && !ecdsaChecks (ecPoint s.ks.sealKey) (slice x.buf 0 112) (slice x.buf 112 96)) 112,
     (x.cmd.u8 28 == 1 && s.gr.started, repBadState),
     (s.gr.started && s.movesRing x.cmd, repBadState)]
  effect := .atOnce fun s x =>
    let t := s.grainSet x.cmd
    (if x.cmd.u8 28 = 1 then t.grainStart x.buf else t, repDone [])

/-- GRAIN_CONFIG as a row. -/
def execGrainConfig (mb : Nat) (c : Cmd) (s : State) : Host.Outcome State Fault Refusal :=
  .next (runCommand cmdGrainConfig mb c s)

/-! ## GRAIN_WITNESS (R433) -/

/-- The witnessed destinations. -/
def State.witnessed (s : State) : List (Nat × Dest) := s.de.filter (fun p => p.2.witness)

/-- The stream share of a destination in units of 0.25 Gb/s. -/
def Dest.share (d : Dest) : Nat := classShare ((streamClass d.fmt d.sampling d.depth).getD (fmtClass d.fmt))

/-- A start would exceed 256 destinations or 640 Gb/s. -/
def State.witnessLacks (s : State) (dst : Nat) : Bool :=
  let others := s.witnessed.filter (fun p => p.1 != dst)
  decide (256 ≤ others.length)
    || decide (2560 < (others.map (fun p => p.2.share)).sum + (s.dest dst).share)

/-- GRAIN_WITNESS (R433). -/
def cmdGrainWitness : CmdSpec where
  opcode := 0x0D02
  role := .security
  ptr := .never
  checks := fun s x =>
    [badIf (decide (1024 ≤ x.cmd.u16 16)) 16, byteBelow x.cmd 18 2, byteBelow x.cmd 19 2, reserved x.cmd 20 64,
     (decide ((s.dest (x.cmd.u16 16)).kind = 0), repBadState),
     (x.cmd.u8 18 == 1 && s.witnessLacks (x.cmd.u16 16), repNoResource)]
  effect := .atOnce fun s x =>
    let on := x.cmd.u8 18 == 1
    (s.updDest (x.cmd.u16 16) (fun d =>
      { d with
        witness := on
        witAnc := if on then x.cmd.u8 19 == 1 else false
        witFrom := if on then s.clk + tuMs 1 else 0
        witMissed := 0
        witRepeat := false
        witLines := []
        witDone := if on then d.witDone else [] }), repDone [])

/-- GRAIN_WITNESS as a row. -/
def execGrainWitness (mb : Nat) (c : Cmd) (s : State) : Host.Outcome State Fault Refusal :=
  .next (runCommand cmdGrainWitness mb c s)

/-! ## GRAIN_SEAL, GRAIN_STATUS -/

/-- GRAIN_SEAL (R437). -/
def cmdGrainSeal : CmdSpec where
  opcode := 0x0D03
  role := .engineering
  ptr := .never
  checks := fun s x => [reserved x.cmd 16 64, (!s.signer, repBadState)]
  effect := .tick (fun _ x => [(x.cmd.td, [.sealAt])]) (fun s _ => s)

/-- GRAIN_SEAL as a row. -/
def execGrainSeal (mb : Nat) (c : Cmd) (s : State) : Host.Outcome State Fault Refusal :=
  .next (runCommand cmdGrainSeal mb c s)

/-- Bits [31:27] of GRAIN_STAT: STARTED, SIGNER, STOPPED, SHEDDING, REFUSING. -/
def State.grainBits (s : State) : Nat :=
  16 * flag s.gr.started + s.broughtUp (8 * flag s.signer) + 4 * flag s.gr.stopped + 2 * flag s.gr.shedding + flag s.gr.refusing

/-- HOST_HEAD set beyond the bytes uploaded or behind the present HOST_HEAD (R477). -/
def State.badHostHead (s : State) (v : Nat) : Bool :=
  decide ((s.gr.uploaded + 4294967296 - s.gr.hostHead) % 4294967296 < (v + 4294967296 - s.gr.hostHead) % 4294967296)

/-- GRAIN_STATUS (R477). -/
def cmdGrainStatus : CmdSpec where
  opcode := 0x0D04
  role := .any
  ptr := .never
  checks := fun s x =>
    [badIf (bit (x.cmd.u8 20) 0 && s.badHostHead (x.cmd.u32 16)) 16, byteBelow x.cmd 20 2, reserved x.cmd 21 64]
  effect := .atOnce fun s x =>
    let t : State := if bit (x.cmd.u8 20) 0 then { s with gr := { s.gr with hostHead := x.cmd.u32 16 } } else s
    (t, repDone (leBytes 8 t.gr.count ++ leBytes 4 t.gr.fill ++ leBytes 2 t.witnessed.length ++ leBytes 1 t.grainBits))

/-- GRAIN_STATUS as a row. -/
def execGrainStatus (mb : Nat) (c : Cmd) (s : State) : Host.Outcome State Fault Refusal :=
  .next (runCommand cmdGrainStatus mb c s)

/-! ## Power failure (R443) -/

/-- PWRFAIL_SEAL: the records already given are chained, a SEAL with REASON 2 follows, and the log stops. -/
def execPwrfailSeal (s : State) : Host.Outcome State Fault Refusal :=
  if s.pins.pwrfail ∧ !s.gr.stopped then
    let t := s.receiveAll.writeSeal 2 s.clk none
    .next { t with gr := { t.gr with stopped := true, drain := true } }
  else .next s

end Sys2Proof.Machine
end

