-- ==== Sys2Proof/Machine/Pair.lean ====
section
/-! DEFINITION. Pairing: the pairing commands, heartbeats, the partner's loss, CLAMP, DIVERGE (chapter 13, 17 R474). -/
namespace Sys2Proof.Machine

/-! ## Roles -/

/-- The partner is treated as not alive: PEER_ALIVE_N was high for 10 samples, or its last heard heartbeat has ALIVE clear
(R349). -/
def State.peerDead (s : State) : Bool := s.pins.peerNotAlive || (s.pr.pState.isSome && !bit s.pr.pFlags 0)

/-- The device may start to hold the arbitrated roles (R355). -/
def State.mayHold (s : State) : Bool :=
  s.pins.clampGnt && s.pins.clampReq && !s.pr.hold && !(s.straps.pairId && bit s.pr.pFlags 2)

/-- Takes the arbitrated roles when R355 allows, with its PAIR_EVENT, an event heartbeat, and TAKEOVER for the signer
role. -/
def State.tryHold (s : State) : State :=
  if s.mayHold then
    let t : State := { s with pr := { s.pr with hold := true } }
    let t := (t.pairEvent 3 t.pr.state.code t.pr.state.code []).eventBeat
    if t.signer then t.takeSigner else t
  else s

/-- A change of pair state, with what it does to the legs of destinations (R343, R350). -/
def State.pairMove (s : State) (goal : PairState) : State := (s.pairGo goal).pairLegs

/-- A transition of R350; the roles are taken at once where the grant is already stable (R355). -/
def State.pairEnter (s : State) (goal : PairState) : State := (s.pairMove goal).tryHold

/-- Completes the commands in flight with an opcode. -/
def State.completeAll (s : State) (op : Nat) (r : Rep) : State := s.settleWhere (fun f => f.cmd.opcode == op) r

/-- Promotion to ACTIVE for a reason of Table RESUME and TAKEOVER body; a hand-over that did not come about completes
BAD_STATE (DESIGN CHOICE, log 31). -/
def State.promote (s : State) (why : Nat) : State :=
  let t := match s.pr.handover with
    | some id => s.settle id repBadState
    | none => s
  State.pairEnter { t with pr := { t.pr with why := why, handover := none } } .active

/-! ## PAIR_CONFIG (R377) -/

/-- OP 1: pairing goes on and the device is ISOLATED with no role (R343, R350, R360). -/
def State.pairOn (s : State) (c : Cmd) : State :=
  let t : State := { s with pr := { s.pr with
    link := c.u8 17
    roles := c.u8 18
    tag := BitVec.ofNat 32 (c.u32 20)
    skew := c.u16 24
    pState := none
    pFlags := 0
    heardDowel := none
    heardLink := none
    partnerLost := false
    conflict := false
    hold := false
    why := 0
    onAt := s.clk
    lastBeat := none } }
  (t.pairMove .isolated).loseAuthority

/-- OP 0: pairing goes off with all roles held; a device that was not the signer takes that role, and what pairing's fault sources stood
for is over (R343, R377, R445). -/
def State.pairOff (s : State) (c : Cmd) : State :=
  let from' := s.pr.state.code
  let had := s.signer
  let t : State := { s with pr := { s.pr with
    state := .off
    link := c.u8 17
    roles := c.u8 18
    tag := BitVec.ofNat 32 (c.u32 20)
    skew := c.u16 24
    hold := false
    sync := false
    conflict := false
    followed := false
    handover := none } }
  if from' = 0 then t
  else
    let t := ((t.refreshClamp.pairEvent 0 from' 0 []).fall 128).fall 129
    let t := (t.level 130 false 0xFFFF).pairLegs
    if had then t else t.takeSigner

/-- PAIR_CONFIG (R377). -/
def cmdPairConfig : CmdSpec where
  opcode := 0x0A01
  role := .engineering
  ptr := .never
  checks := fun s x =>
    [byteBelow x.cmd 16 2,
     badIf (x.cmd.u8 17 != 0xFF && !(decide (x.cmd.u8 17 < 3) && s.pairLink (x.cmd.u8 17))) 17,
     byteBelow x.cmd 18 8, reserved x.cmd 19 20,
     badIf (decide (toSigned 2 (x.cmd.u16 24) < -5000 ∨ 5000 < toSigned 2 (x.cmd.u16 24))) 24,
     reserved x.cmd 26 64,
     (x.cmd.u8 16 == 1 && decide (s.pr.state ≠ .off), repBadState),
     (x.cmd.u8 16 == 0
        && decide (s.pr.state = .joining ∨ s.pr.state = .standby ∨ s.pr.state = .frozen), repBadState)]
  effect := .atOnce fun s x => (if x.cmd.u8 16 = 1 then s.pairOn x.cmd else s.pairOff x.cmd, repDone [])

/-- PAIR_CONFIG as a row. -/
def execPairConfig (mb : Nat) (c : Cmd) (s : State) : Host.Outcome State Fault Refusal :=
  .next (runCommand cmdPairConfig mb c s)

/-! ## PAIR_STATUS -/

/-- A destination is gated now (R343, R365, R367). -/
def State.gated (s : State) (dst : Nat) : Bool :=
  (s.dest dst).kind != 0 && decide ((s.dest dst).pairMode ≠ 0)
    && (if (s.dest dst).kind = 3 then s.legHeld dst 0 && s.legHeld dst 1 else s.legHeld dst 0)

/-- FLAGS of Table PAIR_STATUS result. -/
def State.pairFlags (s : State) : Nat :=
  flag (s.heardNow s.pr.heardDowel) + 2 * flag (s.heardNow s.pr.heardLink)
    + 4 * flag (decide (s.pr.state ≠ .off) && !s.peerDead) + 8 * flag s.pins.clampGnt + 16 * flag s.holdsRoles
    + 32 * flag (bit s.pr.pFlags 2) + 64 * flag s.pr.sync + 128 * flag s.pr.conflict

/-- The departure difference of the paired lanes of a domain in ps, after the trim (R369). -/
def State.departSkew (s : State) (dst : Nat) : Int := 100 * Tbl.get 0 s.pr.skews dst + 100 * Tbl.get 0 s.pr.trims dst

/-- The largest departure difference of the paired SDI destinations (Table PAIR_STATUS result). -/
def State.largestSkew (s : State) : Int :=
  (s.de.filter (fun p => (p.2.kind == 1 || p.2.kind == 2) && p.2.pairMode == 1)).foldl
    (fun m p => if m.natAbs < (s.departSkew p.1).natAbs then s.departSkew p.1 else m) 0

/-- The result of PAIR_STATUS (Table PAIR_STATUS result). -/
def State.pairStatus (s : State) : List Byte :=
  leBytes 1 s.pr.state.code ++ leBytes 1 (s.pr.pState.getD 0xFF) ++ leBytes 1 s.pairFlags ++ leBytes 1 s.pr.aligned
    ++ leBytes 2 s.pr.roleGen ++ leBytes 2 s.pr.missed
    ++ leBytes 2 (s.de.filter (fun p => s.gated p.1)).length ++ leBytes 2 0 ++ leBytes 4 (ofSigned 4 s.largestSkew)

/-- PAIR_STATUS (R474); reading clears MISSED. -/
def cmdPairStatus : CmdSpec where
  opcode := 0x0A02
  role := .any
  ptr := .never
  checks := fun _ x => [reserved x.cmd 16 64]
  effect := .atOnce fun s _ => ({ s with pr := { s.pr with missed := 0 } }, repDone s.pairStatus)

/-- PAIR_STATUS as a row. -/
def execPairStatus (mb : Nat) (c : Cmd) (s : State) : Host.Outcome State Fault Refusal :=
  .next (runCommand cmdPairStatus mb c s)

/-! ## PAIR_MIRROR_SET (R361, R367) -/

/-- Sets the pair mode of destinations from `n` on. -/
def State.setModes (s : State) (n : Nat) : List Byte → State
  | [] => s
  | b :: bs => (s.updDest n (fun d => { d with pairMode := b.toNat })).setModes (n + 1) bs

/-- Sets the pair modes of all destinations (R367). -/
def State.pairModes (s : State) (modes : List Byte) : State := (s.setModes 0 modes).pairLegs

/-- The mirrored configuration: pair modes, PAIR_CONFIG roles and PWR_TOLERANCE settings (Table Mirror categories). -/
def State.configItem (s : State) : MirrorItem :=
  .config ((range 0 1024).map (fun n => (s.dest n).pairMode)) s.pr.roles (s.tol.map (fun p => (p.1, p.2, 0)))

/-- PAIR_MIRROR_SET (R361, R367, R474). -/
def cmdPairMirrorSet : CmdSpec where
  opcode := 0x0A03
  role := .engineering
  ptr := .must (fun n => n == 1024)
  checks := fun s x =>
    [badIf (decide (64 ≤ x.cmd.u8 28)) 28, reserved x.cmd 29 64,
     (match x.buf.findIdx? (fun b => decide (2 < b.toNat)) with
      | some k => badBufIf true k
      | none => badBufIf false 0),
     (decide (s.pr.state ≠ .active), repBadState)]
  effect := .atOnce fun s x =>
    let t := s.pairModes x.buf
    let t : State := { t with pr := { t.pr with mask := x.cmd.u8 28 } }
    (t.mirror 5 t.configItem, repDone [])

/-- PAIR_MIRROR_SET as a row. -/
def execPairMirrorSet (mb : Nat) (c : Cmd) (s : State) : Host.Outcome State Fault Refusal :=
  .next (runCommand cmdPairMirrorSet mb c s)

/-! ## PAIR_SWITCH, PAIR_RESYNC (R371, R373) -/

/-- A partner is heard: pairing has not declared it lost and it has been heard. -/
def State.partnerHeard (s : State) : Bool := s.heardNow s.pr.heardDowel || s.heardNow s.pr.heardLink

/-- HANDOVER: a SEAL, ACTIVE is shed for STANDBY, and the completion waits for the partner's ACTIVE (R373, R435). -/
def State.handOver (s : State) (id : Nat) : State :=
  let t := (s.writeSeal 3 s.clk none).pairMove .standby
  { t with pr := { t.pr with handover := some id } }

/-- PAIR_SWITCH (R373). -/
def cmdPairSwitch : CmdSpec where
  opcode := 0x0A04
  role := .engineering
  ptr := .never
  checks := fun s x =>
    [(x.cmd.u8 16 == 1 && x.rank != 0, repNotAuthority 1),
     byteBelow x.cmd 16 2, reserved x.cmd 17 64,
     (x.cmd.u8 16 == 0
        && !(decide (s.pr.state = .active) && s.partnerHeard && decide (s.pr.pState = some 3) && bit s.pr.pFlags 4),
      repBadState),
     (x.cmd.u8 16 == 1 && (decide (s.pr.state ≠ .isolated) || s.partnerHeard), repBadState)]
  effect := .later fun s x =>
    if x.cmd.u8 16 = 0 then s.handOver x.id else (s.promote 0).settle x.id (repDone [])

/-- PAIR_SWITCH as a row. -/
def execPairSwitch (mb : Nat) (c : Cmd) (s : State) : Host.Outcome State Fault Refusal :=
  .next (runCommand cmdPairSwitch mb c s)

/-- PAIR_RESYNC (R371). -/
def cmdPairResync : CmdSpec where
  opcode := 0x0A05
  role := .engineering
  ptr := .never
  checks := fun s x =>
    [reserved x.cmd 16 64, (decide (s.pr.state ≠ .standby ∧ s.pr.state ≠ .joining), repBadState)]
  effect := .later fun s _ =>
    let t := s.pairMove .joining
    { t with pr := { t.pr with snapReq := true } }

/-- PAIR_RESYNC as a row. -/
def execPairResync (mb : Nat) (c : Cmd) (s : State) : Host.Outcome State Fault Refusal :=
  .next (runCommand cmdPairResync mb c s)

/-! ## Heartbeats (R344 to R352) -/

/-- HEARTBEAT_SEND: a periodic heartbeat every 250 us, SEQ raised; a period without a heard heartbeat counts in MISSED
(R344, R345). -/
def execHeartbeatSend (s : State) : Host.Outcome State Fault Refusal :=
  let due := match s.pr.lastBeat with
    | some t => s.passed t (tuUs 250)
    | none => true
  if decide (s.pr.state ≠ .off) && due then
    let heard := fun (o : Option Nat) => match o, s.pr.lastBeat with
      | some h, some t => decide (t ≤ h)
      | some _, none => true
      | none, _ => false
    let quiet := s.pr.lastBeat.isSome && !heard s.pr.heardDowel && !heard s.pr.heardLink
    let t : State := { s with pr := { s.pr with
      seq := (s.pr.seq + 1) % 4294967296
      lastBeat := some s.clk
      missed := if quiet then satAdd 65535 s.pr.missed 1 else s.pr.missed } }
    .next (t.sendBeat (t.beat 1))
  else .next s

/-- A heartbeat is heard (R346): CRC, TAG and the ACK window; on the link path only when PAIR_CONFIG names a link that is
up. -/
def State.hears (s : State) (path : PairPath) (bs : List Byte) : Bool :=
  decide (s.pr.state ≠ .off) && (decide (path = .dowel) || s.pairUp)
    && decide (bs.length = 32)
    && decide (leNat (slice bs 28 4) = (crc32c (slice bs 0 28)).toNat)
    && decide (leNat (slice bs 4 4) = s.pr.tag.toNat)
    && decide ((s.pr.seq + 4294967296 - leNat (slice bs 12 4)) % 4294967296 ≤ 4)

/-- The later of two sequence numbers modulo 2^32. -/
def laterSeq (last : Option Nat) (n : Nat) : Nat :=
  match last with
  | some m => if (n + 4294967296 - m) % 4294967296 < 2147483648 then n else m
  | none => n

/-- What a heard heartbeat records (R345 to R347): the path and the partner's report; a path that was silent is restored, be it the first
time that it delivers. -/
def State.noteBeat (s : State) (path : PairPath) (bs : List Byte) : State :=
  let was := if path = .dowel then s.pr.heardDowel else s.pr.heardLink
  let t : State := { s with pr := { s.pr with
    heardDowel := if path = .dowel then some s.clk else s.pr.heardDowel
    heardLink := if path = .link then some s.clk else s.pr.heardLink
    lastSeq := some (laterSeq s.pr.lastSeq (leNat (slice bs 8 4)))
    pState := some (bs.getD 2 0).toNat
    pFlags := (bs.getD 1 0).toNat
    pGen := leNat (slice bs 16 2)
    partnerLost := false
    conflict := bit (bs.getD 1 0).toNat 5 == s.straps.pairId } }
  let back := !s.heardNow was && (was.isSome || (s.fault 128).persists)
  let t := if back then (t.pairEvent 2 t.pr.state.code t.pr.state.code []).fall 128 else t
  t.level 130 t.pr.conflict 0xFFFF

/-- Whether a device in ACTIVE that hears its partner in ACTIVE keeps the role (R352). -/
def State.winsActive (s : State) : Bool :=
  if s.pr.roleGen = s.pr.pGen then !s.straps.pairId
  else decide ((s.pr.roleGen + 65536 - s.pr.pGen) % 65536 < 32768)

/-- The transition that a heard heartbeat brings (R350, R373); `before` is the partner's state as last reported. -/
def State.hearMove (s : State) (before : Option Nat) : State :=
  let p := s.pr.pState.getD 0xFF
  let lost := bit s.pr.pFlags 3
  match s.pr.state with
  | .isolated =>
    if s.pr.conflict then s
    else if p = 4 then s.pairEnter .joining
    else if p = 1 ∧ !s.straps.pairId then s.promote 0
    else s
  | .joining => if s.peerDead then s.pairEnter .isolated else s
  | .standby =>
    if lost then s.promote 2
    else if s.peerDead then s.promote 1
    else if p = 3 ∧ before = some 4 ∧ s.pr.handover.isNone then s.promote 3
    else s
  | .active => if p = 4 ∧ !s.winsActive then s.pairEnter .joining else s
  | .off => s
  | .frozen => s

/-- What follows a heard heartbeat besides the transition: a hand-over completes on the partner's ACTIVE (R373), a
synchronised standby ends source 129 (R363), PAIR_ID 1 drops its roles on HOLD (R357) and may take them on HOLD clear
(R355). -/
def State.hearAfter (s : State) : State :=
  let p := s.pr.pState.getD 0xFF
  let t := match s.pr.handover with
    | some id =>
      if p = 4 then State.settle { s with pr := { s.pr with handover := none } } id (repDone []) else s
    | none => s
  let t := if p = 3 ∧ bit t.pr.pFlags 4 ∧ t.pr.state = .active then t.fall 129 else t
  let t := if t.pr.hold && bit t.pr.pFlags 2 && t.straps.pairId then t.dropRoles.eventBeat else t
  t.tryHold

/-- HEARTBEAT_RECEIVE (R346 to R352, R357). -/
def execHeartbeatReceive (path : PairPath) (bytes : List Byte) (s : State) : Host.Outcome State Fault Refusal :=
  if s.hears path bytes then .next ((s.noteBeat path bytes).hearMove s.pr.pState).hearAfter else .next s

/-- A path has delivered no heard heartbeat for 1.0 ms (R347, R348). -/
def State.silent (s : State) : Option Nat → Bool
  | some t => s.passed t (tuMs 1)
  | none => s.passed s.pr.onAt (tuMs 1)

/-- PAIRING_PATH_LOST: one path silent for 1.0 ms while the other delivers drives source 128 (R347). -/
def execPairingPathLost (path : PairPath) (s : State) : Host.Outcome State Fault Refusal :=
  let mine := if path = .dowel then s.pr.heardDowel else s.pr.heardLink
  let other := if path = .dowel then s.pr.heardLink else s.pr.heardDowel
  if decide (s.pr.state ≠ .off) && (decide (path = .dowel) || decide (s.pr.link < 3)) && s.silent mine
      && s.heardNow other && !(s.fault 128).persists then
    .next ((s.pairEvent 1 s.pr.state.code s.pr.state.code []).level 128 true 0xFFFF)
  else .next s

/-- The transition of a partner that is lost, or found not alive (R350). -/
def State.lostMove (s : State) (why : Nat) : State :=
  match s.pr.state with
  | .isolated => if s.pr.partnerLost && s.peerDead then s.promote why else s
  | .joining => s.pairEnter .isolated
  | .standby => s.promote why
  | .active => if s.pr.partnerLost && !s.pins.peerNotAlive then s.pairEnter .isolated else s
  | .off => s
  | .frozen => s

/-- PARTNER_LOST (R348, R350); no heartbeat arrives any more with the same PAIR_ID (R341). -/
def execPartnerLost (s : State) : Host.Outcome State Fault Refusal :=
  if decide (s.pr.state ≠ .off) && s.silent s.pr.heardDowel && s.silent s.pr.heardLink && !s.pr.partnerLost then
    .next ((State.level { s with pr := { s.pr with partnerLost := true, conflict := false } } 130 false 0xFFFF).lostMove 0)
  else .next s

/-- PEER_NOT_ALIVE: `high` consecutive samples of PEER_ALIVE_N were high; ten make the partner not alive, and a low sample
ends it (R349, R350). Samples are ignored while RESET_N is low (R544). -/
def execPeerNotAlive (high : Nat) (s : State) : Host.Outcome State Fault Refusal :=
  if high = 0 then .next { s with pins := { s.pins with peerNotAlive := false } }
  else if high < 10 ∨ s.pins.peerNotAlive ∨ !s.pins.resetN then .next s
  else
    let t : State := { s with pins := { s.pins with peerNotAlive := true } }
    .next (if t.pr.state = .active then t else t.lostMove 1)

/-! ## CLAMP (R354 to R356) -/

/-- CLAMP_GNT_STABLE: the grant has been asserted for 250 us without a break (R355). -/
def execClampGntStable (s : State) : Host.Outcome State Fault Refusal :=
  if !s.pins.resetN then .next s
  else if s.pr.state = .off then .next { s with pins := { s.pins with clampGnt := true } }
  else
    let t : State := { s with pins := { s.pins with clampGnt := true } }
    let t := if s.pins.clampGnt then t else t.eventBeat
    .next t.tryHold

/-- CLAMP_GNT_DEASSERT: every arbitrated role is dropped (R356). -/
def execClampGntDeassert (s : State) : Host.Outcome State Fault Refusal :=
  if s.pins.clampGnt then
    let t : State := { s with pins := { s.pins with clampGnt := false } }
    .next (if t.pr.state = .off then t else t.dropRoles.eventBeat)
  else .next s

/-! ## The mirror's acknowledgements, DIVERGE, joining -/

/-- When the mirror of a domain's banks was sent, while it is awaited (R363). -/
def Domain.ackSince (k : Domain) : Option Nat := k.waitAck <|> k.auWait

/-- A domain's banks that waited are ready from now on, a fabric bank from 150 us on when it was sent as DIVERGE (R363, R375). -/
def State.bankAcked (s : State) (d : Nat) : State :=
  s.updDom d (fun k => { k with
    waitAck := none
    auWait := none
    bankReady := if k.waitAck.isSome then some (max s.clk (k.bankReady.getD 0)) else k.bankReady })

/-- MIRROR_ACK: the standby has acknowledged the mirror of a bank (R363). -/
def execMirrorAck (d tick : Nat) (s : State) : Host.Outcome State Fault Refusal :=
  if (s.dom d).ackSince.isSome ∧ (s.dom d).bankTick = tick then .next (s.bankAcked d) else .next s

/-- MIRROR_ACK_TIMEOUT: 200 us after sending, the bank is ready and the standby is out of step; as an event of the STANDBY device, it
is out of step and leaves STANDBY (R350, R363; DEDUCED, log 126). -/
def execMirrorAckTimeout (d : Nat) (s : State) : Host.Outcome State Fault Refusal :=
  if s.pr.state = .standby then .next (s.pairEnter .joining)
  else
    match (s.dom d).ackSince with
    | some t => if s.passed t (tuUs 200) then .next ((s.bankAcked d).level 129 true 0xFFFF) else .next s
    | none => .next s

/-- MIRROR_TB_OFFSET: a standby time base whose source is HOST takes its measured offset from the active's base as
TB_OFFSET would (R361). -/
def execMirrorTbOffset (base stepcnt : Nat) (theta : Int) (s : State) : Host.Outcome State Fault Refusal :=
  let b := s.base base
  if decide (s.pr.state = .standby ∨ s.pr.state = .joining) && s.pairUp && decide (base < 8) && b.configured
      && b.source.isNone then
    .next (s.offset base stepcnt theta).1
  else .next s

/-- DIVERGE_RECEIVE: a frozen device stops the paired destinations a DIVERGE names (R375). -/
def execDivergeReceive (map : BitVec 1024) (s : State) : Host.Outcome State Fault Refusal :=
  if s.pr.state = .frozen then
    .next { s with de := s.de.map (fun p =>
      if p.1 < 1024 ∧ p.2.pairMode = 1 ∧ map.getLsbD p.1 then (p.1, { p.2 with diverged := true }) else p) }
  else .next s

/-- Every domain with a paired destination is pair-aligned (R365). -/
def State.pairAligned (s : State) : Bool := 
  s.de.all (fun p => p.2.kind == 0 || p.2.pairMode != 1 || bit s.pr.aligned p.2.td)

/-- JOIN_COMPLETE: the snapshot and the differences are applied; with every paired domain aligned the device is STANDBY and
PAIR_RESYNC completes (R371). Without a pairing link a device never leaves JOINING (R366). -/
def execJoinComplete (s : State) : Host.Outcome State Fault Refusal :=
  if decide (s.pr.state = .joining) && s.pr.snapReq && s.pairUp && s.pairAligned then
    .next ((s.pairEnter .standby).completeAll 0x0A05 (repDone []))
  else .next s

end Sys2Proof.Machine
end

