-- ==== Sys2Proof/Machine/FaultCmds.lean ====
section
/-! DEFINITION. The fault commands, self-tests and the failure of the control clusters (chapter 14, 17 R475). -/
namespace Sys2Proof.Machine

/-! ## FAULT_READ -/

/-- SOURCE names a reserved source. -/
def badSource (n : Nat) : Bool := (faultRow n).isNone

/-- The result of FAULT_READ (Table FAULT_READ result). -/
def State.faultRead (s : State) (n : Nat) : List Byte :=
  let f := s.fault n
  leBytes 1 (flag f.latched + 2 * flag f.caused + 4 * flag f.escalated + 8 * flag f.injected + 16 * flag (s.faultIe n))
    ++ leBytes 1 (s.faultClasses n) ++ leBytes 2 f.count ++ leBytes 4 f.syndrome.toNat ++ leBytes 4 f.address.toNat
    ++ leBytes 2 f.merged

/-- FAULT_READ (R475). -/
def cmdFaultRead : CmdSpec where
  opcode := 0x0B01
  role := .any
  ptr := .never
  checks := fun _ x => [badIf (badSource (x.cmd.u16 16)) 16, reserved x.cmd 18 64]
  effect := .atOnce fun s x => (s, repDone (s.faultRead (x.cmd.u16 16)))

/-- FAULT_READ as a row. -/
def execFaultRead (mb : Nat) (c : Cmd) (s : State) : Host.Outcome State Fault Refusal :=
  .next (runCommand cmdFaultRead mb c s)

/-! ## FAULT_ACK -/

/-- The masked bits of a status word that satisfy a test, as a word. -/
def maskBits (mask : Nat) (p : Nat → Bool) : Nat :=
  (range 0 32).foldl (fun k i => if bit mask i && p i then k + 2 ^ i else k) 0

/-- FAULT_ACK of the masked sources of a word (R388). -/
def State.ackWord (s : State) (w mask : Nat) : State :=
  (range 0 32).foldl (fun t i => if bit mask i then t.ackFault (32 * w + i) else t) s

/-- FAULT_ACK (R388). -/
def cmdFaultAck : CmdSpec where
  opcode := 0x0B02
  role := .engineering
  ptr := .never
  checks := fun _ x => [byteBelow x.cmd 16 8, reserved x.cmd 17 20, reserved x.cmd 24 64]
  effect := .atOnce fun s x =>
    let w := x.cmd.u8 16
    let m := x.cmd.u32 20
    let had := fun (c : Bool) (i : Nat) => (s.fault (32 * w + i)).latched && (s.fault (32 * w + i)).caused == c
    (s.ackWord w m, repDone (leBytes 4 (maskBits m (had false)) ++ leBytes 4 (maskBits m (had true))))

/-- FAULT_ACK as a row. -/
def execFaultAck (mb : Nat) (c : Cmd) (s : State) : Host.Outcome State Fault Refusal :=
  .next (runCommand cmdFaultAck mb c s)

/-! ## FAULT_MAP -/

/-- The checks of FAULT_MAP (R389). -/
def faultMapChecks (c : Cmd) : List Check :=
  let n := c.u16 16
  if n = 0xFFFF then
    [badIf (c.u8 18 != 0) 18, badIf (c.u8 19 != 0) 19, badIf (c.u8 20 != 0) 20,
     badIf (decide (c.u8 21 = 0 ∨ 3 < c.u8 21)) 21, reserved c 22 64]
  else
    let r := (faultRow n).getD ⟨false, 0, 0⟩
    [badIf (badSource n) 16,
     badIf (decide (4 ≤ c.u8 18) || (faultClassFixed n && c.u8 18 != r.cls)) 18,
     badIf (decide (c.u8 19 ≠ 0 ∧ c.u8 19 ≠ r.action) || (decide (1 ≤ r.action ∧ r.action ≤ 4) && c.u8 19 != r.action)) 19,
     byteBelow c 20 2, badIf (c.u8 21 != 0) 21, reserved c 22 64]

/-- FAULT_MAP takes effect, with its record (R383, R389). -/
def State.faultMap (s : State) (c : Cmd) : State :=
  let n := c.u16 16
  if n = 0xFFFF then
    State.giveRecord { s with faultnLevel := c.u8 21 } 0x22 s.clk none
      (leBytes 2 0xFFFF ++ leBytes 2 3 ++ leBytes 2 0xFFFF ++ leBytes 10 0) none
  else
    (s.updFault n (fun f => { f with mapping := some (c.u8 18, c.u8 19, c.u8 20 == 1) })).faultEvent n 3 0xFFFF

/-- FAULT_MAP (R389). -/
def cmdFaultMap : CmdSpec where
  opcode := 0x0B03
  role := .engineering
  ptr := .never
  checks := fun _ x => faultMapChecks x.cmd
  effect := .atOnce fun s x => (s.faultMap x.cmd, repDone [])

/-- FAULT_MAP as a row. -/
def execFaultMap (mb : Nat) (c : Cmd) (s : State) : Host.Outcome State Fault Refusal :=
  .next (runCommand cmdFaultMap mb c s)

/-! ## FAULT_INJECT -/

/-- How FAULT_INJECT uses TARGET (R391): for sources 8 and 9 with an output port, for 96 + 4k with a physical lane. -/
def targetRange (n : Nat) (run : Bool) : Option (Nat × Nat) :=
  if !run then none
  else if n = 8 ∨ n = 9 then some (0, 1999)
  else if 96 ≤ n ∧ n ≤ 107 ∧ n % 4 = 0 then some (384 + 8 * (n - 96), 415 + 8 * (n - 96))
  else none

/-- A source whose action FAULT_INJECT may run. -/
def runnable (n : Nat) : Bool := ((faultRow n).map (fun r => r.action == 1 || r.action == 3)).getD false

/-- TARGET is out of its range, or set where it is not used. -/
def badTarget (n : Nat) (run : Bool) (t : Nat) : Bool :=
  match targetRange n run with
  | some (a, b) => decide (t < a ∨ b < t)
  | none => t != 0

/-- The lane of TARGET is not an active lane of a link that is UP. -/
def State.idleLane (s : State) (n t : Nat) : Bool :=
  let k := (n - 96) / 4
  !((s.link k).isUp && (s.link k).active.contains (t - (384 + 32 * k)))

/-- FAULT_INJECT latches the source as a firing would, marked injected, and holds the cause of a level source (R391). -/
def State.inject (s : State) (n hold target : Nat) (run : Bool) : State :=
  let row := (faultRow n).getD ⟨false, 0, 0⟩
  let was := (s.fault n).persists
  let subject := if (targetRange n run).isSome then target else 0xFFFF
  let t := (s.drawFree.drawFree.latch n (Config.freeWord s.bx.free) (Config.freeWord (s.bx.free + 1)) subject).updFault n (fun f =>
    { f with
      persists := was
      injected := true
      holdEnd := if row.level then some (s.clk + tuMs hold) else none })
  let t := t.faultEvent n 4 subject
  if run then t.act n row.action target else t

/-- FAULT_INJECT (R391). -/
def cmdFaultInject : CmdSpec where
  opcode := 0x0B04
  role := .engineering
  ptr := .never
  checks := fun s x =>
    let c := x.cmd
    let n := c.u16 16
    let run := c.u8 18 == 1
    let level := ((faultRow n).map (fun r => r.level)).getD false
    [badIf (badSource n) 16, badIf (decide (2 ≤ c.u8 18) || (run && !runnable n)) 18, reserved c 19 20,
     badIf (if level then decide (c.u16 20 = 0 ∨ 60000 < c.u16 20) else c.u16 20 != 0) 20,
     badIf (badTarget n run (c.u16 22)) 22, reserved c 24 64,
     (run && decide (96 ≤ n) && s.idleLane n (c.u16 22), repBadState)]
  effect := .atOnce fun s x =>
    (s.inject (x.cmd.u16 16) (x.cmd.u16 20) (x.cmd.u16 22) (x.cmd.u8 18 == 1), repDone [])

/-- FAULT_INJECT as a row. -/
def execFaultInject (mb : Nat) (c : Cmd) (s : State) : Host.Outcome State Fault Refusal :=
  .next (runCommand cmdFaultInject mb c s)

/-- INJECTED_HOLD_EXPIRY: the HOLD of an injection runs out and its cause stops persisting (R391). -/
def execInjectedHoldExpiry (source : Nat) (s : State) : Host.Outcome State Fault Refusal :=
  match (s.fault source).holdEnd with
  | some t =>
    if t ≤ s.clk then .next (s.updFault source (fun f => { f with holdEnd := none })) else .next s
  | none => .next s

/-! ## Self-tests (R396 to R398) -/

/-- The target of a self-test is one it takes (Table Self-tests). -/
def testTarget (test target : Nat) : Bool :=
  match test with
  | 1 => decide (target ≤ 1)
  | 2 => decide (target ≤ 3)
  | 3 => decide (1 ≤ target ∧ target ≤ 8)
  | 4 => target == 0
  | 5 => target == 0
  | _ => true

/-- The need of a self-test is met. -/
def State.testReady (s : State) (test target : Nat) : Bool :=
  match test with
  | 1 => (s.plane (target == 1)).state == .offline
  | 2 => (s.stack target).state == 1
  | _ => true

/-- The result of SELFTEST_RUN: PASS, the run time in us, the detail. -/
def testResult (pass : Bool) (us : Nat) (detail : List Byte) : List Byte :=
  leBytes 4 (flag (!pass)) ++ leBytes 4 us ++ slice detail 0 8

/-- A self-test begins; SCRUB_RATE ends at once, its detail a free value (R396; log 32). -/
def State.testStart (s : State) (x : Ctx) : State :=
  let target := x.cmd.u16 18
  let t := s.updFlight x.id (fun f => { f with data := [x.cmd.u8 16, target] })
  match x.cmd.u8 16 with
  | 1 =>
    let b := target == 1
    (t.setPlane b { t.plane b with tested := false }).planeGo b .testing
  | 3 =>
    let free := (range 0 8).map (fun i => Config.freeByte t.bx.free i)
    (State.drawFree { t with scrubRate := target }).settle x.id (repDone (testResult true 0 free))
  | _ => t

/-- SELFTEST_RUN (R396). -/
def cmdSelftestRun : CmdSpec where
  opcode := 0x0B05
  role := .engineering
  ptr := .never
  checks := fun s x =>
    [badIf (decide (x.cmd.u8 16 = 0 ∨ 6 ≤ x.cmd.u8 16)) 16, reserved x.cmd 17 18,
     badIf (!testTarget (x.cmd.u8 16) (x.cmd.u16 18)) 18, reserved x.cmd 20 64,
     (!s.testReady (x.cmd.u8 16) (x.cmd.u16 18), repBadState)]
  effect := .later fun s x => s.testStart x

/-- SELFTEST_RUN as a row. -/
def execSelftestRun (mb : Nat) (c : Cmd) (s : State) : Host.Outcome State Fault Refusal :=
  .next (runCommand cmdSelftestRun mb c s)

/-- What the end of a self-test changes (R196, R396). -/
def State.testEnd (s : State) (test target : Nat) (pass : Bool) : State :=
  match test with
  | 1 =>
    let b := target == 1
    let t := if (s.plane b).state = .testing then s.planeGo b .offline else s
    t.setPlane b { t.plane b with tested := pass }
  | 2 =>
    if pass ∧ (s.stack target).state = 1 then
      let t := s.updStack target (fun k => { k with state := 2, rejoinAt := some s.clk })
      { t with rings := t.rings.map (fun p => if p.2.pair = target % 2 then (p.1, { p.2 with since := 0 }) else p) }
    else s
  | 4 => if pass then s else s.strike 176 0xFFFF
  | 5 => if pass then s else s.strike 179 0xFFFF
  | _ => s

/-- SELFTEST_COMPLETE: the test of a SELFTEST_RUN in flight ends and its command completes (R396). -/
def execSelftestComplete (id : Nat) (result : TestResult) (s : State) : Host.Outcome State Fault Refusal :=
  match s.flight? id with
  | some f =>
    if f.cmd.opcode = 0x0B05 ∧ f.reply.isNone ∧ f.phase = .begun then
      .next ((s.testEnd (f.cmd.u8 16) (f.cmd.u16 18) result.pass).settle id
        (repDone (testResult result.pass result.us (leBytes 8 result.detail.toNat))))
    else .next s
  | none => .next s

/-! ## The control clusters (R392, R85, R86, R497) -/

/-- CC_FAILURE: a cluster pair fails. Its interconnect port closes; control is lost when the cluster in control fails and
the other has failed, or both fail within 2 ms (R392, R497). -/
def execCcFailure (cluster : Nat) (s : State) : Host.Outcome State Fault Refusal :=
  let one := cluster == 1
  let failed := if one then s.boot.cc1Failed else s.boot.cc0Failed
  if !s.startup.ready || failed || decide (2 ≤ cluster) then .next s
  else
    let other := if one then s.boot.cc0Failed else s.boot.cc1Failed
    let mine := s.boot.cc1 == one
    let t : State := { s with
      boot := { s.boot with
        cc0Failed := s.boot.cc0Failed || !one
        cc1Failed := s.boot.cc1Failed || one
        ccFailAt := if mine && !other then some s.clk else s.boot.ccFailAt }
      ic := { s.ic with
        cc0Closed := s.ic.cc0Closed || !one
        cc1Closed := s.ic.cc1Closed || one } }
    let t := t.level cluster true 0xFFFF
    .next (if other then t.level 2 true 0xFFFF else t)

/-- CC_TAKEOVER: CC1 is in control; commands that are neither sealed nor done complete ABORTED with detail 1. Every mailbox with
an open session sees TAKEOVER, now or once the last of those completions has been posted (R85, R86). -/
def execCcTakeover (s : State) : Host.Outcome State Fault Refusal :=
  if s.boot.ccFailAt.isSome ∧ s.boot.cc1Failed = false ∧ s.boot.freeze = false then
    let t : State := { s with
      boot := { s.boot with
        cc1 := true
        ccFailAt := none
        takeovers := s.boot.takeovers + 1 }
      bx := { s.bx with
        tookId := s.newId
        tookWait := true } }
    .next (t.abortWhere (fun _ => true) 1).takeoverDone
  else .next s

end Sys2Proof.Machine
end

