-- ==== Sys2Proof/Machine/Keys.lean ====
section
/-! DEFINITION. Key slots, key ticks, attestation and certificates (chapter 15, 17 R476). -/
namespace Sys2Proof.Machine

/-! ## Slots -/

/-- The code of a slot state (Table Slot states). -/
def SlotState.code : SlotState → Nat
  | .empty => 0
  | .pending => 1
  | .active => 2
  | .revoked => 3

/-- The secure associations of a channel that name a slot. -/
def scUses (c : Sc) (n : Nat) : Nat := (c.sas.filter (fun a => a.slot == n)).length

/-- A link names its slots from the begin of its bring-up until it goes down or its bring-up fails (R419; log 69). -/
def Link.names (l : Link) (n : Nat) : Bool :=
  l.state != .down && l.state != .failed && l.crypt && (l.txSlot == n || l.rxSlot == n)

/-- The users of a slot: the MACsec SAs and Dovetail links that name it (R419, R536). -/
def State.users (s : State) (n : Nat) : Nat :=
  (s.sub.map (fun p => scUses p.2.tx n + scUses p.2.rx n)).sum
    + (s.dt.filter (fun p => p.2.names n)).length

/-- The first key tick at or after an instant, in ns (R412). -/
def keyTickFrom (ns : Nat) : Nat := (ns + 124999) / 125000 * 125000

/-! ## KEY_LOAD, KEY_DERIVE (R413 to R415) -/

/-- ATTR is a code of Table Use attributes. -/
def badAttr (a : Nat) : Bool := decide (a = 0 ∨ 4 < a)

/-- The key a KEY_LOAD brings: in clear or unwrapped under WRAP_SLOT. -/
def State.loadedKey (s : State) (c : Cmd) : Option (BitVec 256) :=
  if c.u8 19 = 0 then some (BitVec.ofNat 256 (leNat (c.field 24 32)))
  else (unwrapBytes (leBytes 32 (s.slotKey (c.u16 20)).toNat) (c.field 24 40)).map (fun bs => BitVec.ofNat 256 (leNat bs))

/-- KEY_LOAD (R413). -/
def cmdKeyLoad : CmdSpec where
  opcode := 0x0C01
  role := .security
  ptr := .never
  checks := fun s x =>
    let c := x.cmd
    [badIf (decide (1024 ≤ c.u16 16)) 16, badIf (badAttr (c.u8 18)) 18, byteBelow c 19 2,
     badIf (if c.u8 19 = 0 then c.u16 20 != 0 else decide (1024 ≤ c.u16 20)) 20, reserved c 22 24]
      ++ (if c.u8 19 = 0 then [reserved c 56 64] else [])
      ++ [((s.slot (c.u16 16)).state != .empty, repBadState)]
      ++ (if c.u8 19 = 1 then slotUse s (c.u16 20) 3 else [])
      ++ [badIf (s.loadedKey c).isNone 24]
  effect := .tick (fun _ x => [(x.cmd.td, [.keyOp (x.cmd.u16 16)])])
    (fun s x =>
      let t := if x.cmd.u8 19 = 1 then s.handKey (x.cmd.u16 20) else s
      t.writeSlot (x.cmd.u16 16) {
        state := .pending
        attr := x.cmd.u8 18
        origin := x.cmd.u8 19 } ((s.loadedKey x.cmd).getD 0))

/-- KEY_LOAD as a row. -/
def execKeyLoad (mb : Nat) (c : Cmd) (s : State) : Host.Outcome State Fault Refusal :=
  .next (runCommand cmdKeyLoad mb c s)

/-- The key that a KEY_DERIVE makes of its parent's (R414). -/
def childKey (parent : BitVec 256) (c : Cmd) : BitVec 256 :=
  BitVec.ofNat 256 (leNat (counterKdf (leBytes 32 parent.toNat) (ascii "DIHAL-KDF-1" ++ c.field 18 1) (c.field 24 32)))

/-- KEY_DERIVE (R414, R415). -/
def cmdKeyDerive : CmdSpec where
  opcode := 0x0C02
  role := .security
  ptr := .never
  checks := fun s x =>
    let c := x.cmd
    [badIf (decide (1024 ≤ c.u16 16)) 16, badIf (badAttr (c.u8 18)) 18, reserved c 19 20,
     badIf (decide (1024 ≤ c.u16 20)) 20, reserved c 22 24, reserved c 56 64,
     ((s.slot (c.u16 16)).state != .empty, repBadState)]
      ++ slotUse s (c.u16 20) 4
      ++ [(decide (7 ≤ (s.slot (c.u16 20)).depth), repBadState)]
  effect := .tick (fun _ x => [(x.cmd.td, [.keyOp (x.cmd.u16 16)])])
    (fun s x =>
      s.writeSlot (x.cmd.u16 16) {
        state := .pending
        attr := x.cmd.u8 18
        parent := some (x.cmd.u16 20)
        depth := (s.slot (x.cmd.u16 20)).depth + 1
        origin := 2 } (childKey (s.slotKey (x.cmd.u16 20)) x.cmd))

/-- KEY_DERIVE as a row. -/
def execKeyDerive (mb : Nat) (c : Cmd) (s : State) : Host.Outcome State Fault Refusal :=
  .next (runCommand cmdKeyDerive mb c s)

/-! ## KEY_INVALIDATE, KEY_INFO -/

/-- KEY_INVALIDATE (R416): it acts at the first key tick after its acceptance stamp. -/
def cmdKeyInvalidate : CmdSpec where
  opcode := 0x0C03
  role := .security
  ptr := .never
  checks := fun s x =>
    [badIf (decide (1024 ≤ x.cmd.u16 16)) 16, reserved x.cmd 18 64,
     ((s.slot (x.cmd.u16 16)).state == .empty, repBadState)]
  effect := .later fun s _ => s

/-- KEY_INVALIDATE as a row. -/
def execKeyInvalidate (mb : Nat) (c : Cmd) (s : State) : Host.Outcome State Fault Refusal :=
  .next (runCommand cmdKeyInvalidate mb c s)

/-- The result of KEY_INFO (Table KEY_INFO result). -/
def State.keyInfo (s : State) (n : Nat) : List Byte :=
  let k := s.slot n
  leBytes 1 k.state.code ++ leBytes 1 k.attr ++ leBytes 2 k.parentCode ++ leBytes 1 k.depth ++ leBytes 1 k.origin
    ++ leBytes 2 (s.users n) ++ beBytes 3 (s.slotCheck n) ++ [0] ++ leBytes 4 k.drops

/-- KEY_INFO: reading clears DROPS. -/
def cmdKeyInfo : CmdSpec where
  opcode := 0x0C04
  role := .any
  ptr := .never
  checks := fun _ x => [badIf (decide (1024 ≤ x.cmd.u16 16)) 16, reserved x.cmd 18 64]
  effect := .atOnce fun s x =>
    (s.updSlot (x.cmd.u16 16) (fun k => { k with drops := 0 }), repDone (s.keyInfo (x.cmd.u16 16)))

/-- KEY_INFO as a row. -/
def execKeyInfo (mb : Nat) (c : Cmd) (s : State) : Host.Outcome State Fault Refusal :=
  .next (runCommand cmdKeyInfo mb c s)

/-! ## Attestation (R423) -/

/-- The Grain head and its COUNT that an attestation carries: the chain's, on a device that does not extend it the last
mirrored head (DEDUCED, log 33). -/
def State.grainHead (s : State) : BitVec 384 × Nat :=
  if s.signer then (s.gr.head, s.gr.count)
  else match s.gr.mirHead with
    | some (h, n, _) => (h, n)
    | none => (s.gr.head, s.gr.count)

/-- Bytes 0 to 335 of Table Attestation structure. -/
def State.attestBody (s : State) (nonce : List Byte) : List Byte :=
  let t := s.base s.gr.tb
  [0x41, 0x54, 0x53, 0x54] ++ leBytes 2 1 ++ leBytes 2 432 ++ s.identityBlock ++ leBytes 2 s.fuses.epoch
    ++ leBytes 1 (flag s.epochSaturated + 2 * flag s.startup.bootLock + 4 * flag s.ks.debugSeen)
    ++ leBytes 1 (flag s.boot.cc1) ++ leBytes 4 0 ++ nonce
    ++ sha384Bytes ((range 0 262144).map Config.bootRom)
    ++ beBytes 48 s.startup.mBalix.toNat ++ beBytes 48 s.bx.digest.toNat
    ++ beBytes 48 s.grainHead.1.toNat ++ leBytes 8 s.grainHead.2
    ++ leBytes 6 t.sec ++ leBytes 4 t.nanos ++ leBytes 1 s.gr.tb ++ leBytes 1 t.state.code
    ++ leBytes 8 s.nowNs ++ leBytes 4 0
    ++ sha384Bytes (publicPoint s.ks.idKey)

/-- The signed attestation (R403, R423). -/
def State.attestation (s : State) (nonce : List Byte) : List Byte :=
  let b := s.attestBody nonce
  b ++ ecdsaSign s.ks.idKey b

/-- ATTEST (R423). -/
def cmdAttest : CmdSpec where
  opcode := 0x0C05
  role := .any
  ptr := .never
  checks := fun _ x =>
    [badIf (decide (x.cmd.u64 48 % 8 ≠ 0)) 48, badIf (decide (x.cmd.u32 56 < 432)) 56, reserved x.cmd 60 64]
  effect := .atOnce fun s x =>
    s.answer (x.cmd.u64 48) (s.attestation (x.cmd.field 16 32)) (repDone (leBytes 8 432 ++ leBytes 8 s.nowNs))

/-- ATTEST as a row. -/
def execAttest (mb : Nat) (c : Cmd) (s : State) : Host.Outcome State Fault Refusal :=
  .next (runCommand cmdAttest mb c s)

/-- A certificate object: 0 and 1 from the fuses, 2 made here (R399, R425, Table Certificate objects). -/
def State.certificate (s : State) (n : Nat) : List Byte :=
  if n = 2 then s.sealStatement else s.fuses.certs.getD n []

/-- ID_CERT_READ (R425). -/
def cmdIdCertRead : CmdSpec where
  opcode := 0x0C06
  role := .any
  ptr := .never
  checks := fun _ x =>
    [byteBelow x.cmd 16 3, reserved x.cmd 17 24, badIf (decide (x.cmd.u32 32 < 2048)) 32, reserved x.cmd 36 64]
  effect := .atOnce fun s x =>
    let b := s.certificate (x.cmd.u8 16)
    s.answer (x.cmd.u64 24) b (repDone (leBytes 2 b.length))

/-- ID_CERT_READ as a row. -/
def execIdCertRead (mb : Nat) (c : Cmd) (s : State) : Host.Outcome State Fault Refusal :=
  .next (runCommand cmdIdCertRead mb c s)

/-! ## Key ticks (R412, R416 to R419) -/

/-- A slot is one of some slots or descends from one, by at most `fuel` parents. -/
def State.descends (s : State) (roots : List Nat) : Nat → Nat → Bool
  | 0, n => roots.contains n
  | fuel + 1, n => roots.contains n || (match (s.slot n).parent with
      | some p => s.descends roots fuel p
      | none => false)

/-- The slots a revocation reaches: PENDING or ACTIVE, and a root or a descendant (R416). -/
def State.reached (s : State) (roots : List Nat) : List Nat :=
  (s.ks.slots.map (fun p => p.1)).filter (fun n =>
    ((s.slot n).state == .pending || (s.slot n).state == .active) && s.descends roots 8 n)

/-- One slot is revoked: an ACTIVE one becomes REVOKED with its record, stamped with the key tick (R412, R429), and its links go down, one in bring-up with its
DT_LINK_UP KEY_REVOKED (R338, R416; log 69); a PENDING one is
EMPTY again and its command completes KEY_REVOKED (R417). -/
def State.revokeSlot (s : State) (n : Nat) : State :=
  if (s.slot n).state = .pending then
    (s.emptySlot n).settleWhere (fun f =>
      (f.cmd.opcode == 0x0C01 || f.cmd.opcode == 0x0C02) && f.cmd.u16 16 == n) (repKeyRevoked n)
  else
    let t := s.keyEvent n 2 (12 * s.ks.lastTick)
    let t := (t.eraseKey n).updSlot n (fun k => { k with state := .revoked, tag := 0 })
    (range 0 3).foldl (fun u k =>
      if (u.link k).names n then (u.linkFall k .down).linkSettle k (repKeyRevoked n) else u) t

/-- Revokes slots and all their descendants together; answers how many became REVOKED. -/
def State.revoke (s : State) (roots : List Nat) : State × Nat :=
  let hit := s.reached roots
  (hit.foldl (fun t n => t.revokeSlot n) s, (hit.filter (fun n => (s.slot n).state == .active)).length)

/-- The KEY_INVALIDATE commands that act at a key tick, in order of acceptance (R416). -/
def State.invalidates (s : State) (k : Nat) : List Flight :=
  s.bx.flights.filter (fun f => f.cmd.opcode == 0x0C03 && f.reply.isNone && decide (f.stamp < k))

/-- One KEY_INVALIDATE acts and completes (R416). -/
def State.invalidate (s : State) (k : Nat) (f : Flight) : State :=
  let r := s.revoke [f.cmd.u16 16]
  r.1.settle f.id (repDone (leBytes 8 r.2 ++ leBytes 8 k))

/-- REVOKED slots of an earlier tick without users return to EMPTY (R419). -/
def State.emptyRevoked (s : State) : State :=
  let gone := (s.ks.slots.map (fun p => p.1)).filter (fun n => (s.slot n).state == .revoked && s.users n == 0)
  gone.foldl (fun t n => t.emptySlot n) s

/-- PENDING slots whose instant has come become ACTIVE and their commands' work is done (R413). -/
def State.activate (s : State) (k n : Nat) : State :=
  let v := s.slot n
  if v.state = .pending ∧ v.activateAt.isSome ∧ v.activateAt.getD 0 ≤ k then
    let t := s.setSlot n { v with state := .active, activateAt := none }
    let res := beBytes 3 (t.slotCheck n) ++ leBytes 1 v.depth ++ leBytes 4 0 ++ leBytes 8 k
    let mine := fun (f : Flight) =>
      (f.cmd.opcode == 0x0C01 || f.cmd.opcode == 0x0C02) && f.cmd.u16 16 == n && f.reply.isNone
    (s.bx.flights.filter mine).foldl (fun u f => (u.updFlight f.id (fun g => { g with res := res })).effectDone f.id 1) t
  else s

/-- What happens at a key tick, in this order: slots revoked earlier empty, revocations act, activations follow (R413, R416,
R417, R419). -/
def State.keyTick (s : State) (k : Nat) : State :=
  let t : State := State.emptyRevoked { s with ks := { s.ks with lastTick := k } }
  let t := (t.invalidates k).foldl (fun u f => u.invalidate k f) t
  let bad := (t.ks.slots.filter (fun p => p.2.tagFault)).map (fun p => p.1)
  let t := (t.revoke bad).1
  let t := bad.foldl (fun u n => u.updSlot n (fun v => { v with tagFault := false })) t
  (t.ks.slots.map (fun p => p.1)).foldl (fun u n => u.activate k n) t

/-- KEY_TICK: the next key tick, once the window clock has reached it (R412). -/
def execKeyTick (s : State) : Host.Outcome State Fault Refusal :=
  let k := s.ks.lastTick + 125000
  if k ≤ s.nowNs then .next (s.keyTick k) else .next s

/-- The effective tick of a KEY_LOAD or KEY_DERIVE at an instant: its slot becomes ACTIVE at the first key tick from then on
(R413). -/
def State.keyOpAt (s : State) (n inst : Nat) : State :=
  s.updSlot n (fun k =>
    if k.state = .pending then { k with activateAt := some (keyTickFrom ((inst + 11) / 12)) } else k)

/-- FAULT_LATCH: an error line rises and its source latches or counts and acts, or falls and its cause is gone (R379,
R380). The error line of source 177 names its slot as the subject (DESIGN CHOICE, log 34). -/
def execFaultLatch (source : Nat) (line : FaultLine) (s : State) : Host.Outcome State Fault Refusal :=
  if line.rise then
    let t := s.fire source line.syndrome line.address line.subject
    .next (if source = 177 then t.tagFails line.subject else t)
  else .next (s.fall source)

/-- The generator after a reseed with new entropy (R409). -/
def Ks.reseeded (k : Ks) : Ks := { k with drbg := k.drbg.seeded (Config.entropy k.drbg.seeds) }

/-- DRBG_RESEED: after 2^20 requests the generator reseeds from the entropy source (R409). -/
def execDrbgReseed (s : State) : Host.Outcome State Fault Refusal :=
  if reseedAfter ≤ s.ks.drbg.requests then .next { s with ks := s.ks.reseeded } else .next s

end Sys2Proof.Machine
end

