-- ==== Sys2Proof/Machine/Lanes.lean ====
section
/-! DEFINITION. Physical lanes: LANE_CONFIG, LANE_EQ, LANE_BITSLIP, LANE_PRBS, LANE_EYESCAN, and the lanes' events
(chapter 19 R512 to R527, 17 R482 to R485). -/
namespace Sys2Proof.Machine

/-! ## Where a lane lies (R543) -/

/-- The block row and column of a position of the lane ring (Table Lane block order). -/
def laneBlock (k : Nat) : Nat × Nat :=
  if k < 150 then (k / 30, k % 30)
  else if k < 250 then (5 + (k - 150) % 20, 29 - (k - 150) / 20)
  else if k < 400 then (29 - (k - 250) / 30, 29 - (k - 250) % 30)
  else (24 - (k - 400) % 20, (k - 400) / 20)

/-- The balls of physical lane `l`, row and column each: TX_P, TX_N, RX_P and RX_N (Table Lane block). -/
def laneBalls (l : Nat) : List (Nat × Nat) :=
  let b := laneBlock l
  [(3 * b.1 + 1, 3 * b.2 + 2), (3 * b.1 + 1, 3 * b.2 + 3), (3 * b.1 + 3, 3 * b.2 + 1), (3 * b.1 + 3, 3 * b.2 + 2)]

/-! ## What uses a lane -/

/-- A physical lane is an SDI lane (R512). -/
def isSdiLane (l : Nat) : Bool := decide (128 ≤ l ∧ l < 384)

/-- A source or destination is bound to SDI lane `n`. -/
def State.sdiBound (s : State) (n : Nat) : Bool :=
  s.sr.any (fun p => p.2.lanes.contains n) || s.de.any (fun p => p.2.lanes.contains n)

/-- An SDI slot of REF_CONFIG names SDI lane `n`. -/
def State.sdiSlot (s : State) (n : Nat) : Bool := s.rf.cands.any (fun p => p.2.lane == some n)

/-- The port of an Ethernet lane is OFF, or the link of a Dovetail lane DOWN or FAILED. -/
def State.linkIdle (s : State) (l : Nat) : Bool :=
  if l < 128 then (s.port (l / 8)).mode == 0
  else
    let k := s.link ((l - 384) / 32)
    decide (k.state = .down) || decide (k.state = .failed)

/-- A lane is in use (R484), which is when it carries traffic (R519). -/
def State.laneInUse (s : State) (l : Nat) : Bool :=
  if isSdiLane l then s.sdiBound (l - 128) || s.sdiSlot (l - 128) else !s.linkIdle l

/-- The RATES bit of a rate code of PL_STAT. -/
def rateBit (code : Nat) : Nat := code / 2

/-- The rate code of a RATES bit and family: 1 of the pair at 1/1.001 (Table PL_STAT). -/
def laneCode (b family : Nat) : Nat := if b = 0 then 1 else 2 * b + min 1 family

/-- The RATES bits hunted, highest first; 0 hunts every rate (R513, Table LANE_CONFIG payload). -/
def huntBits (rates : Nat) : List Nat := ([4, 3, 2, 1, 0] : List Nat).filter (fun b => rates == 0 || bit rates b)

/-- A lane hunts from the highest enabled rate (R513, R514). -/
def Lane.huntFresh (l : Lane) (now : Nat) : Lane :=
  { l with locked := false, lost := false, rate := 0, hunt := (huntBits l.rates).headD 4, huntSince := now }

/-- The RATES bit of the signal of a transport on one lane; none for a packet or no transport. -/
def transportBit (tr : Nat) : Option Nat :=
  match tr with
  | 1 => some 0
  | 2 => some 1
  | 3 => some 2
  | 4 => some 2
  | 5 => some 2
  | 6 => some 3
  | 7 => some 4
  | 8 => some 2
  | 9 => some 2
  | _ => none

/-- A frame rate of the 1/1.001 family (R515). -/
def rateSlow (r : Nat) : Bool := r == 0 || r == 3 || r == 6

/-- The rate code of an SDI output lane: that of its destination's TRANSPORT and FMT (R515). -/
def State.outRate (s : State) (n : Nat) : Nat :=
  match s.de.find? (fun p => p.2.lanes.contains n) with
  | some (_, d) => (transportBit d.transport).elim 0 (fun b => laneCode b (flag (rateSlow (fmtRate d.fmt))))
  | none => 0

/-- RATE of PL_STAT (R515, R522, Table PL_STAT). -/
def State.laneRate (s : State) (l : Nat) : Nat :=
  let k := s.lane l
  if k.test ≠ 0 then bitsOf k.testCtrl.toNat 15 12
  else if l < 128 then (if s.linkIdle l then 0 else 12)
  else if l < 384 then (if k.role = 1 then k.rate else if k.role = 2 then s.outRate (l - 128) else 0)
  else match (s.link ((l - 384) / 32)).state with
    | .negotiate => 10
    | .train56 => 11
    | .up56 => 11
    | .train112 => 13
    | .up112 => 13
    | .down => 0
    | .failed => 0

/-! ## LANE_CONFIG (R482, R516) -/

/-- LANE_CONFIG acts on a lane. -/
def State.laneConfig (s : State) (l role pol rates : Nat) : State :=
  let k := s.lane l
  let k1 := { k with role := role, pol := pol, rates := rates }
  let stays := k.role == 1 && role == 1 && k.locked && (huntBits rates).contains (rateBit k.rate)
  s.setLane l (if !isSdiLane l || stays then k1
    else if role = 1 then k1.huntFresh s.clk
    else { k1 with locked := false, rate := 0 })

/-- LANE_CONFIG (R482). -/
def cmdLaneConfig : CmdSpec where
  opcode := 0x0F01
  role := .engineering
  ptr := .never
  checks := fun s x =>
    let c := x.cmd
    let l := c.u16 16
    let sdi := isSdiLane l
    [badIf (decide (480 ≤ l)) 16, badIf (if sdi then decide (3 ≤ c.u8 18) else c.u8 18 != 0) 18, byteBelow c 19 4,
     badIf (if sdi then decide (32 ≤ c.u8 20) else c.u8 20 != 0) 20, reserved c 21 64,
     (if sdi then s.sdiBound (l - 128) || s.sdiSlot (l - 128) || (s.lane l).test != 0 else !s.linkIdle l, repBadState)]
  effect := .atOnce fun s x => (s.laneConfig (x.cmd.u16 16) (x.cmd.u8 18) (x.cmd.u8 19) (x.cmd.u8 20), repDone [])

/-- LANE_CONFIG as a row. -/
def execLaneConfig (mb : Nat) (c : Cmd) (s : State) : Host.Outcome State Fault Refusal :=
  .next (runCommand cmdLaneConfig mb c s)

/-! ## LANE_EQ, LANE_BITSLIP (R483, R518, R525) -/

/-- A lane transmits: an SDI output, or an Ethernet or Dovetail lane. -/
def State.transmits (s : State) (l : Nat) : Bool := !isSdiLane l || (s.lane l).role == 2

/-- A peaking code after a number of intervals of 10 ms from an instant in which an adaptive lane tracks: each moves it by one code at
most (R517). -/
def trackCtle (l since : Nat) : Nat → Nat → Nat
  | 0, code => code
  | n + 1, code =>
    let c := trackCtle l since n code
    let m := Config.ctleMove l (since + n * tuMs 10)
    if 0 < m then min 15 (c + 1) else if m < 0 then c - 1 else c

/-- The peaking code that a lane uses: the one it was given, or the one an adaptive lane has tracked to (R517). -/
def State.ctleNow (s : State) (l : Nat) : Nat :=
  let k := s.lane l
  if k.fixedEq then k.ctle else trackCtle l k.eqSince ((s.clk - k.eqSince) / tuMs 10) k.ctle

/-- The transmit taps that a lane uses: after link training, or bring-up, those it arrived at; else those of LANE_EQ, or of reset (R518,
R519). -/
def State.tapsNow (s : State) (l : Nat) : Nat × Nat × Nat :=
  let k := s.lane l
  let given := k.taps.getD (if isSdiLane l then (0, 48, 6) else (4, 52, 7))
  if l < 128 ∧ !(s.port (l / 8)).an then given else k.trained.getD given

/-- The peaking of a lane's equaliser in tenths of a dB (R517, Table CTLE peaking). -/
def State.peaking (s : State) (l : Nat) : Nat := (if isSdiLane l then 10 else 12) * s.ctleNow l

/-- The transition and the settled amplitude of a lane's transmitter in 63rds of its full swing, and the full swing in mV differential
(R518, R600). -/
def State.txSwing (s : State) (l : Nat) : Nat × Int × Nat :=
  let t := s.tapsNow l
  (t.1 + t.2.1 + t.2.2, (t.2.1 : Int) - t.1 - t.2.2, if isSdiLane l then 800 else 1000)

/-- LANE_EQ (R483, R518). -/
def cmdLaneEq : CmdSpec where
  opcode := 0x0F02
  role := .engineering
  ptr := .never
  checks := fun s x =>
    let c := x.cmd
    let l := c.u16 16
    [badIf (decide (480 ≤ l)) 16, byteBelow c 18 2, badIf (if c.u8 18 = 1 then decide (16 ≤ c.u8 19) else c.u8 19 != 0) 19]
      ++ (if s.transmits l then
          [byteBelow c 20 16, badIf (decide (c.u8 21 < 24 ∨ 64 ≤ c.u8 21)) 21, byteBelow c 22 32,
           badIf (decide (63 < c.u8 20 + c.u8 21 + c.u8 22)) 20]
        else [reserved c 20 23])
      ++ [reserved c 23 64, (s.laneInUse l, repBadState)]
  effect := .atOnce fun s x =>
    let c := x.cmd
    let now := s.ctleNow (c.u16 16)
    let taps := s.transmits (c.u16 16)
    (s.updLane (c.u16 16) (fun k =>
      { k with
        fixedEq := c.u8 18 == 1
        ctle := if c.u8 18 = 1 then c.u8 19 else now
        eqSince := s.clk
        trained := none
        taps := if taps then some (c.u8 20, c.u8 21, c.u8 22) else k.taps }), repDone [])

/-- LANE_EQ as a row. -/
def execLaneEq (mb : Nat) (c : Cmd) (s : State) : Host.Outcome State Fault Refusal :=
  .next (runCommand cmdLaneEq mb c s)

/-- LANE_BITSLIP (R483, R525). -/
def cmdLaneBitslip : CmdSpec where
  opcode := 0x0F03
  role := .engineering
  ptr := .never
  checks := fun s x =>
    [badIf (decide (480 ≤ x.cmd.u16 16)) 16, badIf (decide (x.cmd.u8 18 = 0 ∨ 79 < x.cmd.u8 18)) 18,
     reserved x.cmd 19 64, (decide ((s.lane (x.cmd.u16 16)).test < 2), repBadState)]
  effect := .atOnce fun s x =>
    (s.updLane (x.cmd.u16 16) (fun k => { k with slip := (k.slip + x.cmd.u8 18) % 80 }), repDone [])

/-- LANE_BITSLIP as a row. -/
def execLaneBitslip (mb : Nat) (c : Cmd) (s : State) : Host.Outcome State Fault Refusal :=
  .next (runCommand cmdLaneBitslip mb c s)

/-! ## LANE_PRBS (R484, R520 to R525) -/

/-- The test rate on entering test (R522). -/
def testRate (l : Nat) : Nat := if l < 128 then 12 else if l < 384 then 8 else 13

/-- A rate code that a lane's type can run (R522). -/
def runsRate (l code : Nat) : Bool :=
  if l < 128 then code == 12 else if l < 384 then decide (1 ≤ code ∧ code ≤ 9) else code == 10 || code == 11 || code == 13

/-- A lane enters, goes on in, or leaves test (R484, R522 to R525). -/
def State.lanePrbs (s : State) (l op pattern invert inject : Nat) : State :=
  let k := s.lane l
  if op = 0 then
    let k1 := { k with
      test := 0
      bits := 0
      errors := 0
      lock := false
      run := 0
      recent := []
      inject := 0
      slip := 0
      testCtrl := 0 }
    s.setLane l (if k.test ≠ 0 ∧ k.role = 1 then k1.huntFresh s.clk else k1)
  else
    let fresh := k.test == 0
    let again := fresh || k.test != op || k.pattern != pattern
    s.setLane l { k with
      test := op
      pattern := pattern
      invert := invert
      bits := if again then 0 else k.bits
      errors := if again then 0 else k.errors
      lock := if again then false else k.lock
      run := if again then 0 else k.run
      recent := if again then [] else k.recent
      inject := min 65535 ((if fresh then 0 else k.inject) + inject)
      testCtrl := if fresh then BitVec.ofNat 32 (4096 * testRate l) else k.testCtrl
      locked := if fresh then false else k.locked
      rate := if fresh then 0 else k.rate }

/-- LANE_PRBS (R484, R524). -/
def cmdLanePrbs : CmdSpec where
  opcode := 0x0F04
  role := .engineering
  ptr := .never
  checks := fun s x =>
    let c := x.cmd
    [badIf (decide (480 ≤ c.u16 16)) 16, byteBelow c 18 4, byteBelow c 19 5, byteBelow c 20 4, reserved c 21 24,
     badIf (decide (65535 < c.u32 24) || (c.u8 18 == 2 && c.u32 24 != 0)) 24, reserved c 28 64,
     (s.laneInUse (c.u16 16), repBadState)]
  effect := .atOnce fun s x =>
    let c := x.cmd
    let k := s.lane (c.u16 16)
    (s.lanePrbs (c.u16 16) (c.u8 18) (c.u8 19) (c.u8 20) (c.u32 24),
      repDone (leBytes 8 k.bits ++ leBytes 4 k.errors ++ leBytes 1 (flag k.lock)))

/-- LANE_PRBS as a row. -/
def execLanePrbs (mb : Nat) (c : Cmd) (s : State) : Host.Outcome State Fault Refusal :=
  .next (runCommand cmdLanePrbs mb c s)

/-- The two terms of a pattern's polynomial above 1 (Table PRBS patterns). -/
def prbsTaps (pattern : Nat) : Nat × Nat :=
  match pattern with
  | 0 => (7, 6)
  | 1 => (9, 5)
  | 2 => (15, 14)
  | 3 => (23, 18)
  | _ => (31, 28)

/-- The next `n` bits of a pattern after the bits in a register, the latest its bit 0 (R521). -/
def prbsBits (taps : Nat × Nat) : Nat → Nat → List Bool
  | 0, _ => []
  | n + 1, r =>
    let b := bit r (taps.1 - 1) != bit r (taps.2 - 1)
    b :: prbsBits taps n ((2 * r + flag b) % 2 ^ taps.1)

/-- Bits as symbols: pairs on PAM4 rates, first bit most significant and Gray-coded, else one by one (R521). -/
def prbsSymbols (pam4 : Bool) : List Bool → List Nat
  | a :: b :: rest =>
    if pam4 then (2 * flag a + flag (a != b)) :: prbsSymbols pam4 rest
    else flag a :: flag b :: prbsSymbols pam4 rest
  | [a] => if pam4 then [] else [flag a]
  | [] => []

/-- A rate code is a PAM4 rate (Table PL_STAT). -/
def pam4Rate (code : Nat) : Bool := decide (11 ≤ code)

/-- The symbols of the first `n` bits that a lane's generator sends: the pattern, inverted whole by bit 0 of INVERT, with one bit in error
for each pending error, 10,000 bits apart (R521, R524; the distance and the start DESIGN CHOICE, log 127). -/
def State.prbsSent (s : State) (l n : Nat) : List Nat :=
  let k := s.lane l
  let taps := prbsTaps k.pattern
  let bits := prbsBits taps n (1 + Config.prbsStart l % (2 ^ taps.1 - 1))
  prbsSymbols (pam4Rate (bitsOf k.testCtrl.toNat 15 12)) (bits.zipIdx.map (fun q =>
    (q.1 != bit k.invert 0) != (q.2 % 10000 == 0 && decide (q.2 / 10000 < k.inject))))

/-- The checker of a lane can lock: with OP 3 only on a loop delay of 80 times DELAY plus the slip (R523). -/
def Lane.canLock (k : Lane) (loop : Nat) : Bool := k.test != 3 || loop == 80 * bitsOf k.testCtrl.toNat 23 16 + k.slip

/-- The checker compares a bit: it locks after 1,024 correct ones in a row, counts while it is locked, and loses lock with 256 or more
errors in 1,024 bits (R523). -/
def Lane.checkBit (loop : Nat) (k : Lane) (good : Bool) : Lane :=
  if k.lock then
    let recent := ((!good) :: k.recent).take 1024
    let lost := decide (256 ≤ (recent.filter id).length)
    { k with
      lock := !lost
      recent := if lost then [] else recent
      bits := satAdd 18446744073709551615 k.bits 1
      errors := satAdd 4294967295 k.errors (flag !good) }
  else
    let run := if good && k.canLock loop then k.run + 1 else 0
    { k with lock := decide (1024 ≤ run), run := if 1024 ≤ run then 0 else run }

/-- PRBS_CHECKER_LOCK: a checking lane compares the next bits (R523). -/
def execPrbsCheckerLock (lane : Nat) (seen : PrbsBits) (s : State) : Host.Outcome State Fault Refusal :=
  if 2 ≤ (s.lane lane).test then .next (s.updLane lane (fun k => seen.correct.foldl (Lane.checkBit seen.loop) k))
  else .next s

/-! ## Masters (R488, R489, R497) -/

/-- The code of a master in IC_ERR. -/
def Master.code : Master → Nat
  | .debug => 0
  | .cc0 => 1
  | .cc1 => 2
  | .dma => 3
  | .host => 4

/-- Records a decode error or timeout in IC_ERR (Table IC_ERR). -/
def State.icError (s : State) (m : Master) (timeout write space : Bool) (addr : Nat) : State :=
  { s with ic := { s.ic with
      valid := true
      timeout := timeout
      write := write
      master := Master.code m
      count := satAdd 65535 s.ic.count 1
      addr := addr % 1099511627776 + 9223372036854775808 * flag space } }

/-- A master has a path to the block registers for a read; the host's is the UCIe link (R14, R488, R497). -/
def State.mayRead (s : State) (m : Master) : Bool :=
  match m with
  | .debug => true
  | .cc0 => !s.ic.cc0Closed
  | .cc1 => !s.ic.cc1Closed
  | .dma => false
  | .host => s.ucieUp

/-- The debug port leaves its mark (R489). -/
def State.seenDebug (s : State) (m : Master) : State :=
  if m = .debug then { s with ks := { s.ks with debugSeen := true } } else s

/-- A refused host write is counted, with its offset (R609). -/
def State.denied (s : State) (o : Nat) : State :=
  { s with glb := { s.glb with
      accessValid := true
      accessDenied := satAdd 65535 s.glb.accessDenied 1
      accessAddr := o % 67108864 } }

/-- One write of a register by a master, which the host may make or not (R12, R609) and which reaches nothing while the UCIe
link is down (R14). The DMA engine has no path to registers, nor the debug port a writing one once BOOT_LOCK is set: a decode error (R488, R489). A closed cluster port
issues nothing (R497). -/
def State.writeReg (s : State) (m : Master) (o : Nat) (hostMay : Bool) (act : State → State) : State :=
  let t := s.seenDebug m
  match m with
  | .host => if !s.ucieUp then t else if hostMay then act t else t.denied o
  | .cc0 => if s.ic.cc0Closed then t else act t
  | .cc1 => if s.ic.cc1Closed then t else act t
  | .debug => if s.startup.bootLock then t.icError m false true false (0x40000000 + o) else act t
  | .dma => t.icError m false true false (0x40000000 + o)

/-- PL_TEST_CTRL as written: a RATE the lane cannot run and a reserved LOOP keep what was there (R522; LOOP log 35). -/
def testCtrlOf (l : Nat) (old v : Word) : Word :=
  let o := old.toNat
  let n := v.toNat
  let rate := if runsRate l (bitsOf n 15 12) then bitsOf n 15 12 else bitsOf o 15 12
  let loop := if bitsOf n 1 0 < 2 then bitsOf n 1 0 else bitsOf o 1 0
  BitVec.ofNat 32 (65536 * bitsOf n 23 16 + 4096 * rate + loop)

/-- A write to PL_TEST_CTRL: ignored while the lane is not in test; INJ_ONE adds one pending error (R522, R524, R525). -/
def State.testCtrlWrite (s : State) (l : Nat) (value : Word) : State :=
  if (s.lane l).test = 0 then s
  else s.updLane l (fun k =>
    { k with
      testCtrl := testCtrlOf l k.testCtrl value
      inject := min 65535 (k.inject + flag (bit value.toNat 8)) })

/-- PL_TEST_CTRL_WRITE; the host may write it while the lane is in test (R12). -/
def execPlTestCtrlWrite (m : Master) (lane : Nat) (value : Word) (s : State) : Host.Outcome State Fault Refusal :=
  if lane < 480 then
    .next (s.writeReg m (0x1000010 + 0x1000 * lane) ((s.lane lane).test != 0) (fun t => t.testCtrlWrite lane value))
  else .next s

/-- INJ_ONE: PL_TEST_CTRL written with INJ_ONE and its other fields as they are (R524). -/
def execInjOne (m : Master) (lane : Nat) (s : State) : Host.Outcome State Fault Refusal :=
  if lane < 480 then
    .next (s.writeReg m (0x1000010 + 0x1000 * lane) ((s.lane lane).test != 0)
      (fun t => t.testCtrlWrite lane ((t.lane lane).testCtrl ||| 0x100)))
  else .next s

/-! ## LANE_EYESCAN (R485, R526, R527) -/

/-- A lane receives: an SDI input, a lane whose port or link is not off, or one whose checker runs. -/
def State.receives (s : State) (l : Nat) : Bool :=
  decide (2 ≤ (s.lane l).test) || (if isSdiLane l then (s.lane l).role == 1 else !s.linkIdle l)

/-- LANE_EYESCAN (R485, R527). -/
def cmdLaneEyescan : CmdSpec where
  opcode := 0x0F05
  role := .engineering
  ptr := .never
  checks := fun s x =>
    let c := x.cmd
    [badIf (decide (480 ≤ c.u16 16)) 16, badIf (decide (c.u8 18 < 6 ∨ 9 < c.u8 18)) 18, reserved c 19 24,
     badIf (decide (c.u32 32 < 49152)) 32, reserved c 36 64,
     (!s.receives (c.u16 16), repBadState), ((s.lane (c.u16 16)).eyeDwell.isSome, repBadState)]
  effect := .later fun s x =>
    let t := s.updFlight x.id (fun f => { f with data := [x.cmd.u16 16] })
    t.updLane (x.cmd.u16 16) (fun k => { k with eyeDwell := some (x.cmd.u8 18) })

/-- LANE_EYESCAN as a row. -/
def execLaneEyescan (mb : Nat) (c : Cmd) (s : State) : Host.Outcome State Fault Refusal :=
  .next (runCommand cmdLaneEyescan mb c s)

/-- The eyes of a lane: three for PAM4, one for NRZ (R526). -/
def State.eyes (s : State) (l : Nat) : Nat := if 11 ≤ s.laneRate l then 3 else 1

/-- The count of a point: eye, row from the top, phase from the earliest. -/
def eyePoint (e : EyeScan) (eye row phase : Nat) : Nat := min 4294967295 (e.points.getD (4096 * eye + 64 * row + phase) 4294967295)

/-- The zeros of a line of counts that run on without a break from a place, upwards. -/
def zerosFrom (f : Nat → Nat) (i : Nat) : Nat → Nat
  | 0 => 0
  | n + 1 => if i < 64 ∧ f i = 0 then 1 + zerosFrom f (i + 1) n else 0

/-- The longest run of zero counts that contains a place (R527). -/
def zeroRun (f : Nat → Nat) (i : Nat) : Nat :=
  if f i = 0 then zerosFrom f i 64 + zerosFrom (fun j => f (63 - j)) (64 - i) 64 else 0

/-- The smallest of the eyes' values. -/
def minEye (n : Nat) (f : Nat → Nat) : Nat := (range 0 n).foldl (fun k e => min k (f e)) 64

/-- EYESCAN_COMPLETE: the grid is written and the scan's command completes (R485, R526, R527). -/
def execEyescanComplete (lane : Nat) (scan : EyeScan) (s : State) : Host.Outcome State Fault Refusal :=
  match (s.lane lane).eyeDwell,
    s.bx.flights.find? (fun f => f.cmd.opcode == 0x0F05 && f.cmd.u16 16 == lane && f.reply.isNone) with
  | some _, some f =>
    let n := s.eyes lane
    let row := fun e => scan.samplerRow.getD e 32
    let width := minEye n (fun e => zeroRun (eyePoint scan e (row e)) 32)
    let height := minEye n (fun e => zeroRun (fun r => eyePoint scan e r 32) (row e))
    let bytes := (range 0 (4096 * n)).flatMap (fun i => leBytes 4 (min 4294967295 (scan.points.getD i 4294967295)))
    let t := s.updLane lane (fun k => { k with eyeDwell := none })
    let r := t.answer (f.cmd.u64 24) bytes
      (repDone (leBytes 4 bytes.length ++ leBytes 2 width ++ leBytes 2 height ++ leBytes 4 scan.ms))
    .next (r.1.settle f.id r.2)
  | _, _ => .next s

/-! ## SDI inputs hunt and lock (R513, R514) -/

/-- The rate below a RATES bit in the hunt, or the highest again. -/
def nextHunt (rates b : Nat) : Nat :=
  let bs := huntBits rates
  match bs.find? (fun x => decide (x < b)) with
  | some x => x
  | none => bs.headD 4

/-- A lane hunts now. -/
def State.hunting (s : State) (l : Nat) : Bool :=
  isSdiLane l && (s.lane l).role == 1 && !(s.lane l).locked && (s.lane l).test == 0

/-- SDI_HUNT_DWELL: after 2 ms a hunting lane moves to the next rate (R513). -/
def execSdiHuntDwell (lane : Nat) (s : State) : Host.Outcome State Fault Refusal :=
  if s.hunting lane && s.passed (s.lane lane).huntSince (tuMs 2) then
    .next (s.updLane lane (fun k => { k with hunt := nextHunt k.rates k.hunt, huntSince := s.clk }))
  else .next s

/-- SDI_LANE_LOCK: a hunting lane locks at the rate it dwells at; an adaptive lane chooses its peaking code (R513, R517). -/
def execSdiLaneLock (lane family ctle : Nat) (s : State) : Host.Outcome State Fault Refusal :=
  if s.hunting lane then
    .next ((s.updLane lane (fun k =>
      { k with
        locked := true
        lost := false
        rate := laneCode k.hunt family
        ctle := if k.fixedEq then k.ctle else min 15 ctle
        eqSince := s.clk })).groupFault ((lane - 128) / 32))
  else .next s

/-- SDI_LOCK_LOSS: a locked lane loses lock and hunts again; a bound source goes to NO_SIGNAL (R514). -/
def execSdiLockLoss (lane : Nat) (s : State) : Host.Outcome State Fault Refusal :=
  if isSdiLane lane && (s.lane lane).locked then
    let t := s.updLane lane (fun k => { k.huntFresh s.clk with lost := true })
    let hit := (t.sr.filter (fun p => p.2.lanes.contains (lane - 128))).map (fun p => p.1)
    let t := hit.foldl (fun u n =>
      u.noSignal n) t
    let t := (t.slotsOf (lane - 128)).foldl (fun u c => (u.disqualify c).forgetEvent c) t
    .next (t.groupFault ((lane - 128) / 32))
  else .next s

end Sys2Proof.Machine
end

