-- ==== Sys2Proof/Machine/Ports.lean ====
section
/-! DEFINITION. Ethernet ports, MACsec channels and the host packet path (chapter 19 R528 to R539, 06 R157, 17 R486,
R487). -/
namespace Sys2Proof.Machine

/-! ## Links of subports -/

/-- A port of a given number has a subport. -/
def State.hasSub (s : State) (port sub : Nat) : Bool := decide (port < 16) && decide (sub < subCount (s.port port).mode)

/-- Fault source 144 + p: a subport of a port that is not OFF is down (R531). -/
def State.portFault (s : State) (p : Nat) : State :=
  let down := firstFrom (fun k => !(s.subport (8 * p + k)).up) 0 (subCount (s.port p).mode)
  s.level (144 + p) down.isSome (down.getD 0)

/-- The destinations whose legs leave on a subport are judged for a lost leg (R269, R531). -/
def State.legsOf (s : State) (coded : Nat) : State :=
  (s.tx.filter (fun e => e.2.enabled && e.2.port == coded && decide (e.1 < 2048))).foldl
    (fun t e => t.destFaults (e.1 / 2)) s

/-- The physical lanes of a subport (R528). -/
def State.subLanes (s : State) (port sub : Nat) : List Nat :=
  (range (8 * port) 8).filter (fun l => l % 8 * subCount (s.port port).mode / 8 == sub)

/-- ETH_SUBPORT_LINK_UP: after negotiation and training, which replaces the taps of its lanes, or PCS alignment (R519, R529). -/
def execEthSubportLinkUp (port sub : Nat) (s : State) : Host.Outcome State Fault Refusal :=
  if s.hasSub port sub && !(s.subport (8 * port + sub)).up then
    let t := (s.adapt (s.subLanes port sub) (s.port port).an).updSubport (8 * port + sub) (fun k => { k with
      up := true
      anDone := true
      trained := true
      localFault := false
      remoteFault := false })
    .next ((t.portFault port).legsOf (16 * port + sub))
  else .next s

/-- A subport goes down: counted, with its fault (R531). -/
def State.subDown (s : State) (port sub : Nat) (fault : LinkFault) : State :=
  let was := (s.subport (8 * port + sub)).up
  let t := s.updSubport (8 * port + sub) (fun k => { k with
    up := false
    anDone := false
    trained := false
    localFault := fault.localFault
    remoteFault := fault.remoteFault
    linkDowns := if was then satAdd 65535 k.linkDowns 1 else k.linkDowns })
  (t.portFault port).legsOf (16 * port + sub)

/-- ETH_SUBPORT_LINK_DOWN (R531). -/
def execEthSubportLinkDown (port sub : Nat) (fault : LinkFault) (s : State) : Host.Outcome State Fault Refusal :=
  if s.hasSub port sub then .next (s.subDown port sub fault) else .next s

/-! ## PORT_CONFIG (R486, R520, R530) -/

/-- A flow entry, PTP instance or MACsec channel names a subport of a port. -/
def State.portNamed (s : State) (p : Nat) : Bool :=
  s.rx.any (fun e => !e.2.image.isEmpty && byteAt e.2.image 2 / 16 == p)
    || s.tx.any (fun e => !e.2.image.isEmpty && byteAt e.2.image 2 / 16 == p)
    || s.ptp.any (fun e => e.2.used && e.2.ports.any (fun q => q.coded / 16 == p))
    || s.sub.any (fun e => e.1 / 8 == p && (e.2.tx.used || e.2.rx.used))

/-- A lane of a port is in test. -/
def State.portInTest (s : State) (p : Nat) : Bool := (range (8 * p) 8).any (fun l => (s.lane l).test != 0)

/-- PORT_CONFIG acts: a change of MODE or AN restarts the port's links (R530). -/
def State.portConfig (s : State) (c : Cmd) : State :=
  let p := c.u8 16
  let k := s.port p
  let restart := k.mode != c.u8 17 || k.an != (c.u8 18 == 1)
  let t := if restart then (range 0 8).foldl (fun u i =>
      if (u.subport (8 * p + i)).up then u.subDown p i ⟨false, false⟩ else u) s
    else s
  (t.setPort p { k with
    mode := c.u8 17
    an := c.u8 18 == 1
    macsecReq := c.u8 19
    hostFlt := c.u8 20
    mtu := c.u16 22
    mac := c.field 24 6 }).portFault p

/-- PORT_CONFIG (R486). -/
def cmdPortConfig : CmdSpec where
  opcode := 0x0F06
  role := .engineering
  ptr := .never
  checks := fun s x =>
    let c := x.cmd
    [byteBelow c 16 16, byteBelow c 17 5, byteBelow c 18 2, byteBelow c 20 8, reserved c 21 22,
     badIf (decide (c.u16 22 < 1518 ∨ 9600 < c.u16 22)) 22, badIf (c.u8 29 % 8 != 0) 29, reserved c 30 64,
     ((s.port (c.u8 16)).mode != c.u8 17 && s.portNamed (c.u8 16), repBadState),
     (c.u8 17 != 0 && s.portInTest (c.u8 16), repBadState)]
  effect := .atOnce fun s x => (s.portConfig x.cmd, repDone [])

/-- PORT_CONFIG as a row. -/
def execPortConfig (mb : Nat) (c : Cmd) (s : State) : Host.Outcome State Fault Refusal :=
  .next (runCommand cmdPortConfig mb c s)

/-! ## MACSEC_SC (R487, R536, R537) -/

/-- The index of a coded subport. -/
def subIndex (coded : Nat) : Nat := 8 * (coded / 16) + coded % 8

/-- The channel of a subport in a direction. -/
def State.chanSc (s : State) (i dir : Nat) : Sc := if dir = 0 then (s.subport i).tx else (s.subport i).rx

/-- Writes the channel of a subport in a direction. -/
def State.setSc (s : State) (i dir : Nat) (c : Sc) : State :=
  s.updSubport i (fun p => if dir = 0 then { p with tx := c } else { p with rx := c })

/-- The SA of a channel with an AN. -/
def scSa (c : Sc) (an : Nat) : Option Sa := c.sas.find? (fun a => a.an == an)

/-- The fields of MACSEC_SC that each OP names; the others are reserved (Table MACSEC_SC payload). -/
def macsecFields (s : State) (c : Cmd) : List Check :=
  let op := c.u8 18
  let xpn := (s.chanSc (subIndex (c.u8 16)) (c.u8 17)).xpn
  (if op = 2 then [badIf (decide (1024 ≤ c.u16 28)) 28] else [reserved c 28 30])
    ++ (if op = 1 then [byteBelow c 30 2, byteBelow c 31 8] else [reserved c 30 32])
    ++ (if op = 2 then [badIf (!xpn && decide (4294967296 ≤ c.u64 32)) 32] else [reserved c 32 40])
    ++ (if op = 1 ∧ c.u8 17 = 1 then [] else [reserved c 40 44])
    ++ (if op = 2 ∧ xpn then [] else [reserved c 44 60])
    ++ [reserved c 60 64]

/-- What OP 0 to 4 of MACSEC_SC change, with the result. -/
def State.macsec (s : State) (c : Cmd) : State × List Byte :=
  let i := subIndex (c.u8 16)
  let dir := c.u8 17
  let k := s.chanSc i dir
  let an := c.u8 19
  match c.u8 18 with
  | 0 => (s.setSc i dir {}, [])
  | 1 =>
    (s.setSc i dir {
      used := true
      sci := c.field 20 8
      xpn := c.u8 30 == 1
      flags := c.u8 31
      window := c.u32 40 }, [])
  | 2 =>
    ((s.handKey (c.u16 28)).setSc i dir { k with
      sas := k.sas ++ [{ an := an, slot := c.u16 28, pn := c.u64 32, ssci := c.u32 44, salt := c.field 48 12 }] }, [])
  | 3 =>
    (s.setSc i dir { k with
      sas := k.sas.filter (fun a => a.an != an)
      an := if k.an = some an then none else k.an },
     if dir = 0 then leBytes 8 (((scSa k an).map (fun a => a.pn)).getD 0) else [])
  | _ =>
    let pn := ((scSa k an).map (fun a => a.pn)).getD 0
    (s.setSc i dir { k with
      an := some an
      warn := decide ((pnLimits k.xpn).2 + 1 < pn)
      exhausted := decide ((pnLimits k.xpn).1 < pn) }, [])

/-- MACSEC_SC (R487, R7, R528). -/
def cmdMacsecSc : CmdSpec where
  opcode := 0x0F07
  role := .security
  ptr := .never
  checks := fun s x =>
    let c := x.cmd
    let op := c.u8 18
    let k := s.chanSc (subIndex (c.u8 16)) (c.u8 17)
    let has := (scSa k (c.u8 19)).isSome
    [badIf (bit (c.u8 16) 3) 16, byteBelow c 17 2, byteBelow c 18 5, byteBelow c 19 4]
      ++ macsecFields s c
      ++ [(s.cryptoOff, repBadState), (!s.subExists (c.u8 16), repBadState),
          (op == 1 && k.used, repBadState), (op != 1 && !k.used, repBadState), (op == 2 && has, repBadState),
          ((op == 3 || op == 4) && !has, repBadState), (op == 4 && c.u8 17 == 1, repBadState)]
      ++ (if op = 2 then slotUse s (c.u16 28) (if c.u8 17 = 0 then 1 else 2) else [])
  effect := .atOnce fun s x =>
    let r := s.macsec x.cmd
    (r.1, repDone r.2)

/-- MACSEC_SC as a row. -/
def execMacsecSc (mb : Nat) (c : Cmd) (s : State) : Host.Outcome State Fault Refusal :=
  .next (runCommand cmdMacsecSc mb c s)

/-! ## The host packet path (R532 to R534) -/

/-- The host packet area of a port (R532). -/
def hpArea (p : Nat) : Nat := 0x1150000000 + 0x1000000 * p

/-- The time and base of a frame's stamp now (R133). -/
def State.frameStamp (s : State) (port sub : Nat) : List Byte :=
  let n := s.stampBase port sub
  leBytes 1 n ++ leBytes 4 (s.base n).sec ++ leBytes 4 (s.base n).nanos

/-- Passes a frame to the host: into the receive descriptor, or discarded and counted (R534). -/
def State.toHost (s : State) (port sub : Nat) (bytes : List Byte) : State :=
  let p := s.port port
  let i := p.rxTail % 512
  let a := hpArea port + 0x4000 + 32 * i
  let ctrl := (s.hbmByte a).toNat
  if bit ctrl 0 then
    let d := leBytes 1 (ctrl - 1) ++ leBytes 1 sub ++ leBytes 2 bytes.length
      ++ s.hbmRead (a + 4) 2 ++ [0] ++ s.frameStamp port sub ++ leBytes 8 s.nowNs
    let t := (s.hbmWrite (hpArea port + 0x600000 + 10240 * i) bytes).hbmWrite a d
    let raise := match p.vectorAt with
      | some t => s.passed t (tuUs 100)
      | none => true
    let t := t.setPort port { p with
      rxTail := (p.rxTail + 1) % 65536
      vectorAt := if raise then some s.clk else p.vectorAt }
    if raise then t.raiseVector (25 + port) else t
  else s.setPort port { p with hpDrops := satAdd 4294967295 p.hpDrops 1 }

/-- The STATUS of a host frame, and the state after it was sent or refused (R530, R531, R533, R537). -/
def State.sendHost (s : State) (port sub len : Nat) (stamp : Bool) : State × Nat :=
  if (s.port port).mtu < len + 4 then (s, 1)
  else if !(s.hasSub port sub && (s.subport (8 * port + sub)).up) || s.boot.dataStop then (s, 2)
  else
    let r := s.macsecTake (8 * port + sub) 1
    if r.2 = 0 then (r.1, 3) else (r.1, if stamp && s.balixQueue port then 4 else 0)

/-- HP_TX_POLL: the transmit descriptor at ETH_HP_TX_HEAD is examined and an owned frame sent (R533). -/
def execHpTxPoll (port : Nat) (s : State) : Host.Outcome State Fault Refusal :=
  let p := s.port port
  let i := p.txHead % 512
  let a := hpArea port + 32 * i
  let d := s.hbmRead a 32
  let ctrl := byteAt d 0
  if decide (port < 16) && p.mode != 0 && bit ctrl 0 then
    let len := leNat (slice d 2 2)
    let r := s.sendHost port (byteAt d 1) len (bit ctrl 1)
    let gone := decide (r.2 = 0 ∨ r.2 = 4)
    let frame := s.hbmRead (hpArea port + 0x100000 + 10240 * i) (min len 10240)
    let t := (r.1.hbmWrite a (leBytes 1 (ctrl - 1))).hbmWrite (a + 6) (leBytes 1 r.2)
    let t := if gone then t.hbmWrite (a + 16) (leBytes 8 s.nowNs) else t
    .next (t.setPort port { p with
      txHead := (p.txHead + 1) % 65536
      stampReqs := if r.2 = 0 ∧ bit ctrl 1 = true then p.stampReqs ++ [(byteAt d 1, leNat (slice d 4 2))] else p.stampReqs
      sent := if gone then p.sent ++ [frame] else p.sent })
  else .next s

/-! ## Receiving (R157, R538) -/

/-- A frame failed verification: its count rises, and ICV and replay failures fire source 168 (R538). -/
def State.secFail (s : State) (i why : Nat) : State :=
  let t := s.updSubport i (fun k =>
    if why = 0 then { k with noSa := satAdd 255 k.noSa 1 }
    else if why = 1 then { k with icvFail := satAdd 4095 k.icvFail 1 }
    else { k with replay := satAdd 255 k.replay 1 })
  if why = 0 then t else t.strike 168 0xFFFF

/-- A protected frame is verified with the SA its AN names (R538, R418, R408); none when it is discarded. -/
def State.verifyFrame (s : State) (i : Nat) (tag : SecTag) : State × Bool :=
  let c := (s.subport i).rx
  match scSa c tag.an with
  | none => (s.secFail i 0, false)
  | some a =>
    let t := if tag.tagIntegrity then s else (s.strike 177 a.slot).tagFails a.slot
    if (t.slot a.slot).state = .revoked then
      (t.updSlot a.slot (fun k => { k with drops := satAdd 4294967295 k.drops 1 }), false)
    else if !tag.icvOk then (t.secFail i 1, false)
    else if bit c.flags 1 && decide (tag.pn < a.pn) then (t.secFail i 2, false)
    else
      let low := max a.pn (tag.pn + 1 - c.window)
      (t.updSubport i (fun p => { p with rx := { c with
        sas := c.sas.map (fun b => if b.an = tag.an then { b with pn := low } else b) } }), true)

/-- A frame that no PTP instance or flow takes goes to the host when the port's filter accepts it, else it is discarded and
counted (R157). -/
def State.hostFrame (s : State) (port : Nat) (f : EthFrame) (cls : HostClass) : State :=
  let flt := (s.port port).hostFlt
  let ok := match cls with
    | .multicast => bit flt 0
    | .unicastMine => bit flt 1
    | .broadcast => bit flt 2
    | .other => false
  if ok then s.toHost port f.sub f.bytes
  else s.updPort port (fun p => { p with discarded := p.discarded + 1 })

/-- Classifies a verified frame (R157). -/
def State.classify (s : State) (port : Nat) (f : EthFrame) : State :=
  match f.kind with
  | .pause => s
  | .ptp msg cls =>
    (match firstFrom (fun i => (s.inst i).used && (s.inst i).domain == msg.domain
        && (s.inst i).ports.any (fun q => q.coded == 16 * port + f.sub)) 0 4 with
     | some i => s.ptpReceive i (16 * port + f.sub) msg
     | none => s.hostFrame port f cls)
  | .udp hdr pkt cls =>
    (match s.matchFlow port f.sub hdr with
     | some n => s.mediaPacket n pkt
     | none => s.hostFrame port f cls)
  | .plain cls => s.hostFrame port f cls

/-- ETH_FRAME_RECEIVE (R157, R529, R530, R538). -/
def execEthFrameReceive (port : Nat) (f : EthFrame) (s : State) : Host.Outcome State Fault Refusal :=
  let i := 8 * port + f.sub
  if !(s.hasSub port f.sub && (s.subport i).up) || decide ((s.port port).mtu < f.bytes.length + 4) then .next s
  else match f.sec with
    | some tag =>
      let r := s.verifyFrame i tag
      if r.2 then .next (r.1.classify port f) else .next r.1
    | none =>
      if bit (s.port port).macsecReq f.sub then .next (s.secFail i 0) else .next (s.classify port f)

end Sys2Proof.Machine
end

