-- ==== Sys2Proof/Machine/Power.lean ====
section
/-! DEFINITION. Power domains, temperatures, the local oscillator and PWRFAIL_N: PWR_TOLERANCE, PWR_STATUS, PWR_PIN and the
events of chapters 21 (R583 to R586), 22 (R603), 20 (R549, R557). Wakes that end are in `Waking`. -/
namespace Sys2Proof.Machine

/-! ## Live service (Table Power domains) -/

/-- A command of an opcode and self-test runs. -/
def State.testRuns (s : State) (test : Nat) : Bool :=
  s.bx.flights.any (fun f => f.cmd.opcode == 0x0B05 && f.cmd.u8 16 == test && f.reply.isNone && f.phase == .begun)

/-- Some output channel of Bramble quadrant `q` has a contribution or a running ramp, or feeds a slot, a flow channel or an
export. -/
def State.quadLive (s : State) (q : Nat) : Bool :=
  (s.contribs s.elapsed).any (fun i => i / 4194304 == q) ||
    s.au.ramps.any (fun p => p.1 / 4194304 == q && p.2.any (fun r => !r.ended s.elapsed))
    || s.au.outMap.any (fun p => p.2 / 1024 == q)
    || s.dt.any (fun p => p.2.isUp && p.2.wanted.any (fun ao => ao / 1024 == q))
    || s.de.any (fun p => (s.followQuads (s.entryOf p.1).src p.2.followed).contains (9 + q) && (s.entryOf p.1).valid)

/-- A domain carries live service (R583). -/
def State.live (s : State) (n : Nat) : Bool :=
  if n < 7 then true
  else if n = 7 then
    s.sub.any (fun p => p.2.tx.used || p.2.rx.used)
      || s.dt.any (fun p => p.2.crypt && decide (p.2.state ≠ .down ∧ p.2.state ≠ .failed)) || s.testRuns 4
  else if n = 8 then s.de.any (fun p => p.2.witness) || s.testRuns 5
  else if n < 13 then s.quadLive (n - 9)
  else if n < 21 then (s.engine (n - 13)).mode != 0 || (s.engine (n - 13)).setMode != 0
  else if n < 37 then (s.port (n - 21)).mode != 0 || s.anyTest (8 * (n - 21)) 8
  else if n < 45 then
    s.ln.any (fun p => decide (128 + 32 * (n - 37) ≤ p.1 ∧ p.1 < 160 + 32 * (n - 37)) && p.2.role != 0)
      || s.anyTest (128 + 32 * (n - 37)) 32
  else
    decide ((s.link (n - 45)).state ≠ .down ∧ (s.link (n - 45)).state ≠ .failed) || s.anyTest (384 + 32 * (n - 45)) 32

/-! ## Tolerances (R479, R586) -/

/-- The tolerance that a domain's group has: its key is 16 times the group, plus the index (Table Power domains). -/
def toleranceKey (n : Nat) : Nat :=
  if n = 7 then 80 else if n = 8 then 96 else if n < 13 then 48 + (n - 9) else if n < 21 then 64 + (n - 13)
  else if n < 37 then n - 21 else if n < 45 then 16 + (n - 37) else 32 + (n - 45)

/-- The tolerance of a domain in us: 0 after reset, and for the domains that have none. -/
def State.tolerance (s : State) (n : Nat) : Nat := if n < 7 then 0 else Tbl.get 0 s.tol (toleranceKey n)

/-- The lowest state whose wake time a tolerance admits (R586). -/
def State.lowestState (s : State) (n : Nat) : Nat :=
  let t := s.tolerance n
  if offWakeUs n ≤ t then 3 else if 150 ≤ t then 2 else if 2 ≤ t then 1 else 0

/-- A domain has gone 10 ms without live service and is not pinned. -/
def State.idleLong (s : State) (n : Nat) : Bool :=
  !s.live n && !(s.pdom n).pinned
    && (match (s.pdom n).idleSince with
        | some t => s.passed t (tuMs 10)
        | none => false)

/-- An idle domain goes to the lowest state its tolerance admits: a lower one is entered, a higher one needs a wake; a wake
under way is not interrupted (R586, R588). -/
def State.settlePower (s : State) (n : Nat) : State :=
  let d := s.pdom n
  let want := s.lowestState n
  let have' := d.entering.getD d.state
  if d.waking then s
  else if have' < want then s.setPdom n { d with entering := some want }
  else if want < have' then s.startWake n
  else s

/-- A domain in OFF loses its state (R585); the bring-ups of a link since reset go on counting (R337). -/
def State.losePower (s : State) (n : Nat) : State :=
  let lanes := fun (l k : Nat) (t : State) => { t with ln := t.ln.filter (fun p => !decide (l ≤ p.1 ∧ p.1 < l + k)) }
  if n < 9 then s
  else if n < 13 then
    { s with au := { s.au with
      sat := s.au.sat.filter (fun p => p.1 / 1024 != n - 9)
      samples := s.au.samples.filter (fun p => p.1 / 1024 != n - 9) } }
  else if n < 21 then
    { (s.setEngine (n - 13) {}) with veneers := s.veneers.filter (fun p => p.1 / 4 != n - 13) }
  else if n < 37 then
    lanes (8 * (n - 21)) 8 { (s.setPort (n - 21) { sent := (s.port (n - 21)).sent }) with
      sub := s.sub.filter (fun p => p.1 / 8 != n - 21) }
  else if n < 45 then lanes (128 + 32 * (n - 37)) 32 s
  else lanes (384 + 32 * (n - 45)) 32 (s.setLink (n - 45) { bringups := (s.link (n - 45)).bringups })

/-! ## Commands -/

/-- The greatest INDEX of each GROUP of PWR_TOLERANCE (Table PWR_TOLERANCE payload). -/
def toleranceMax (group : Nat) : Nat := ([15, 7, 2, 3, 7, 0, 0] : List Nat).getD group 0

/-- PWR_TOLERANCE (R479); a change applies at once to domains already idle (R586). -/
def cmdPwrTolerance : CmdSpec where
  opcode := 0x0E01
  role := .engineering
  ptr := .never
  checks := fun _ x =>
    let c := x.cmd
    [byteBelow c 16 7, badIf (decide (toleranceMax (c.u8 16) < c.u8 17)) 17, reserved c 18 20, reserved c 24 64]
  effect := .atOnce fun s x =>
    let key := 16 * x.cmd.u8 16 + x.cmd.u8 17
    let t : State := { s with tol := Tbl.set 0 s.tol key (x.cmd.u32 20) }
    let t := (range 7 41).foldl (fun u n => if toleranceKey n = key ∧ u.idleLong n then u.settlePower n else u) t
    (t.mirror 5 t.configItem, repDone [])

/-- PWR_TOLERANCE as a row. -/
def execPwrTolerance (mb : Nat) (c : Cmd) (s : State) : Host.Outcome State Fault Refusal :=
  .next (runCommand cmdPwrTolerance mb c s)

/-- PWR_STATUS (R480); reading its result clears WAKES. -/
def cmdPwrStatus : CmdSpec where
  opcode := 0x0E02
  role := .any
  ptr := .never
  checks := fun _ x => [byteBelow x.cmd 16 48, reserved x.cmd 17 64]
  effect := .atOnce fun s x =>
    let n := x.cmd.u8 16
    let d := s.pdom n
    (s.setPdom n { d with wakes := 0 },
      repDone (leBytes 1 d.state ++ leBytes 1 (flag d.pinned + 2 * flag (s.live n)) ++ leBytes 2 0
        ++ leBytes 4 (s.tolerance n) ++ leBytes 4 d.wakes ++ leBytes 4 d.lastWake))

/-- PWR_STATUS as a row. -/
def execPwrStatus (mb : Nat) (c : Cmd) (s : State) : Host.Outcome State Fault Refusal :=
  .next (runCommand cmdPwrStatus mb c s)

/-- PWR_PIN (R480); for PD00 to PD06 it changes nothing (R584). -/
def cmdPwrPin : CmdSpec where
  opcode := 0x0E03
  role := .engineering
  ptr := .never
  checks := fun _ x => [byteBelow x.cmd 16 48, byteBelow x.cmd 17 2, reserved x.cmd 18 64]
  effect := .atOnce fun s x =>
    let n := x.cmd.u8 16
    (if n < 7 then s else s.updPdom n (fun d => { d with pinned := x.cmd.u8 17 == 1 }), repDone [])

/-- PWR_PIN as a row. -/
def execPwrPin (mb : Nat) (c : Cmd) (s : State) : Host.Outcome State Fault Refusal :=
  .next (runCommand cmdPwrPin mb c s)

/-! ## Events of the power controller -/

/-- PWR_DOMAIN_IDLE: the power controller looks at a domain. It notes from when the domain has carried no live service, and
after 10 ms of that begins the entry of the lowest state the tolerance admits (R586; log 36). -/
def execPwrDomainIdle (dom : Nat) (s : State) : Host.Outcome State Fault Refusal :=
  if dom < 7 ∨ 48 ≤ dom then .next s
  else if s.live dom then .next (s.wakeAll [dom])
  else if (s.pdom dom).idleSince.isNone then .next (s.updPdom dom (fun d => { d with idleSince := some s.clk }))
  else if s.idleLong dom then .next (s.settlePower dom)
  else .next s

/-- PWR_DOMAIN_ENTRY_COMPLETE: the entry under way ends and the domain is in that state; in OFF it loses its own (R585). -/
def execPwrDomainEntryComplete (dom : Nat) (s : State) : Host.Outcome State Fault Refusal :=
  match (s.pdom dom).entering with
  | some n =>
    let t := s.updPdom dom (fun d => { d with state := n, entering := none })
    .next (if n = 3 then t.losePower dom else t)
  | none => .next s

/-! ## Temperature and the local oscillator -/

/-- The hottest router-die sensor in units of 1/16 °C; none before a reading (R603). -/
def State.hottest (s : State) : Option Int :=
  match s.glb.temps.take 24 with
  | [] => none
  | t :: ts => some (ts.foldl (fun m x => if m < x then x else m) t)

/-- A thermal source follows the hottest sensor: it fires at its threshold, and its cause persists until 2 °C below. -/
def State.thermal (s : State) (source limit : Nat) (t : Int) : State :=
  s.level source (if (s.fault source).persists then decide (16 * (limit : Int) - 32 < t) else decide (16 * (limit : Int) ≤ t))
    0xFFFF

/-- TEMPERATURE_SAMPLE: the 32 sensors are read; sources 208 and 209 compare the hottest of the router die (R603). -/
def execTemperatureSample (readings : List Int) (s : State) : Host.Outcome State Fault Refusal :=
  if readings.length = 32 then
    let t : State := { s with glb := { s.glb with temps := readings } }
    .next (match t.hottest with
      | some h => (t.thermal 208 100 h).thermal 209 105 h
      | none => t)
  else .next s

/-- OSC_IN_LOSS: source 115 latches, whose action releases ALIVE_N (R557). -/
def execOscInLoss (s : State) : Host.Outcome State Fault Refusal :=
  .next (State.level { s with pins := { s.pins with oscLost := true } } 115 true 0xFFFF)

/-! ## PWRFAIL_N (R443, R444, R549) -/

/-- PWRFAIL_ASSERT, ignored while RESET_N is low (R544): source 210 latches; from then no record of a later event is accepted and digests of frames in progress
are abandoned. -/
def execPwrfailAssert (s : State) : Host.Outcome State Fault Refusal :=
  if s.pins.pwrfail ∨ !s.pins.resetN then .next s
  else
    let t := s.level 210 true 0xFFFF
    .next { t with
      pins := { t.pins with pwrfail := true }
      de := t.de.map (fun p => (p.1, { p.2 with witLines := [], witDone := [] })) }

/-- PWRFAIL_DEASSERT: PWRFAIL_N has been high at every sample for 10 ms; source 210's cause ends, and a log that stopped
goes on with a RESUME of REASON 2 that cites the power-fail SEAL (R444). -/
def execPwrfailDeassert (s : State) : Host.Outcome State Fault Refusal :=
  if s.pins.pwrfail then
    let t := State.level { s with pins := { s.pins with pwrfail := false } } 210 false 0xFFFF
    if t.gr.stopped then
      let t : State := { t with gr := { t.gr with stopped := false } }
      .next (if t.signer && t.gr.started then t.resumeWith 2 1 (some (t.fuses.epoch, t.gr.count, t.gr.head)) else t)
    else .next t
  else .next s

end Sys2Proof.Machine
end

