-- ==== Sys2Proof/Machine/Mailbox.lean ====
section
/-! DEFINITION. The mailbox registers as the host writes them: MB_DOORBELL, MB_ENABLE, the ring bases, MB_CPL_HEAD,
MB_IRQ_CTRL, MB_RESET, and GO of MBX_BOOT_CTRL (03 R57, R58, 23 R612, 21 R571 to R575, R578). -/
namespace Sys2Proof.Machine

/-- A difference of two free-running 16-bit counts (R56). -/
def ahead (new' old : Nat) : Nat := (new' % 65536 + 65536 - old % 65536) % 65536

/-! ## The doorbell (R58, R36) -/

/-- A write to MB_DOORBELL: a valid one stamps every command it makes visible. -/
def State.doorbell (s : State) (mb : Nat) (value : Word) : State :=
  if 16 ≤ mb then s
  else
    let m := s.mbox mb
    let v := value.toNat % 65536
    if !m.en then s.setErr mb 3
    else if ahead v m.cmdTail = 0 ∨ 256 < ahead v m.cmdTail ∨ 256 < ahead v m.cmdHead then s.setErr mb 2
    else s.setMbox mb { m with cmdTail := v, stamps := m.stamps ++ [(v, s.nowNs)] }

/-- A write of the host arrives over the UCIe link, its only path (R14). -/
def State.fromHost (s : State) (t : State) : State := if s.ucieUp then t else s

/-- MB_DOORBELL. -/
def execMbDoorbell (mb : Nat) (value : Word) (s : State) : Host.Outcome State Fault Refusal :=
  .next (s.fromHost (s.doorbell mb value))

/-! ## MB_ENABLE (R57, R621) -/

/-- A write of 1 to EN. -/
def State.enableSet (s : State) (mb : Nat) : State :=
  if 16 ≤ mb ∨ (s.mbox mb).en then s
  else if !s.startup.ready then s.setErr mb 8
  else s.updMbox mb (fun m => { m with
    en := true
    faulted := false
    cmdTail := 0
    cmdHead := 0
    cplTail := 0
    cplHead := 0
    stamps := [] })

/-- MB_ENABLE_SET. -/
def execMbEnableSet (mb : Nat) (s : State) : Host.Outcome State Fault Refusal := .next (s.fromHost (s.enableSet mb))

/-- A write of 0 to EN. -/
def State.enableClear (s : State) (mb : Nat) : State :=
  let m := s.mbox mb
  if 16 ≤ mb ∨ !m.en then s
  else if s.inflightOf mb ≠ 0 ∧ !m.faulted then s.setErr mb 7
  else s.setMbox mb { m with en := false }

/-- MB_ENABLE_CLEAR. -/
def execMbEnableClear (mb : Nat) (s : State) : Host.Outcome State Fault Refusal :=
  .next (s.fromHost (s.enableClear mb))

/-! ## Base and shadow registers (R57) -/

/-- A 64-bit register pair after a write of one half, reserved low bits read as 0. -/
def setHalf (old : Nat) (high : Bool) (low : Nat) (v : Word) : Nat :=
  if high then old % 4294967296 + 4294967296 * v.toNat
  else old / 4294967296 * 4294967296 + v.toNat / 2 ^ low * 2 ^ low

/-- A write to MB_CMD_BASE, MB_CPL_BASE or MB_SHADOW, which takes effect only while EN is 0. -/
def State.ringBase (s : State) (mb off : Nat) (value : Word) : State :=
  let m := s.mbox mb
  if 16 ≤ mb ∨ 0x14 < off ∨ off % 4 ≠ 0 then s
  else if m.en then s.setErr mb 1
  else
    let high := off % 8 == 4
    s.setMbox mb
      (if off < 8 then { m with cmdBase := setHalf m.cmdBase high 12 value }
       else if off < 16 then { m with cplBase := setHalf m.cplBase high 12 value }
       else { m with shadow := setHalf m.shadow high 3 value })

/-- MB_RING_BASE_WRITE. -/
def execMbRingBaseWrite (mb off : Nat) (value : Word) (s : State) : Host.Outcome State Fault Refusal :=
  .next (s.fromHost (s.ringBase mb off value))

/-! ## MB_CPL_HEAD and MB_IRQ_CTRL (R612) -/

/-- A write to MB_CPL_HEAD: the host consumes completions; a move backwards or beyond the tail is refused. -/
def State.consumeCpl (s : State) (mb : Nat) (value : Word) : State :=
  let m := s.mbox mb
  if 16 ≤ mb then s
  else if ahead m.cplTail m.cplHead < ahead value.toNat m.cplHead then s.setErr mb 5
  else s.setMbox mb { m with cplHead := value.toNat % 65536 }

/-- MB_CPL_HEAD. -/
def execMbCplHead (mb : Nat) (value : Word) (s : State) : Host.Outcome State Fault Refusal :=
  .next (s.fromHost (s.consumeCpl mb value))

/-- A write to MB_IRQ_CTRL: a CNT of 0 is refused. -/
def State.irqCtrl (s : State) (mb : Nat) (value : Word) : State :=
  let v := value.toNat
  if 16 ≤ mb then s
  else if bitsOf v 23 16 = 0 then s.setErr mb 4
  else s.updMbox mb (fun m => { m with
    tkoEn := bit v 26
    errEn := bit v 25
    cplEn := bit v 24
    cnt := bitsOf v 23 16
    holdoff := bitsOf v 15 0 })

/-- MB_IRQ_CTRL. -/
def execMbIrqCtrl (mb : Nat) (value : Word) (s : State) : Host.Outcome State Fault Refusal :=
  .next (s.fromHost (s.irqCtrl mb value))

/-! ## MB_RESET (R571 to R573, R575) -/

/-- ALIVE_N is released by the power controller (R551, R572). -/
def State.releaseAlive (s : State) : State :=
  (State.refreshClamp { s with pins := { s.pins with alive := false } }).eventBeat

/-- A device reset fires: ALIVE_N is released, a Balix that runs on the signer writes a SEAL of REASON 4, and the arbitrated roles
are dropped (R356, R572). -/
def State.fireDevice (s : State) : State :=
  let t := s.releaseAlive
  let seals := t.balixUp && t.signer && t.gr.started && !t.gr.stopped
  let t := if seals then t.writeSeal 4 t.clk none else t
  let t : State := { t with boot := { t.boot with armed := [], firing := some (.device, t.clk), sealing := seals } }
  if t.pr.state = .off then t else t.dropRoles.eventBeat

/-- A CC-only reset fires: the clusters go into reset under FREEZE, every mailbox is disabled and its session closed, and
what Balix held is gone, with what its discarded commands had begun undone (R573, Table What each reset clears; log 37). -/
def State.fireCcOnly (s : State) : State :=
  let s := (s.bx.flights.filter (fun f => f.reply.isNone && !f.countsSealed)).foldl
    (fun t f => (t.undoLater f).dropPending f) s
  { s with
    boot := { s.boot with
      armed := []
      firing := some (.ccOnly, s.clk)
      freeze := true
      ccFailAt := none }
    startup := { ({} : Startup) with
      stage := 2
      ccOnly := true
      mBalix := s.startup.mBalix
      lastReset := s.startup.lastReset
      upSince := s.startup.upSince
      burns := s.startup.burns }
    mb := (range 0 16).foldl (fun t n =>
      let m := s.mbox n
      Tbl.set ({} : Mailbox) t n { m with
        en := false
        isOpen := false
        roles := 0
        rank := 0
        cmdTail := 0
        cmdHead := 0
        cplTail := 0
        cplHead := 0
        stamps := []
        sinceIrq := 0
        oldest := none }) []
    bx := { s.bx with
      flights := []
      staged := []
      alloted := []
      salvos := []
      tookWait := false
      releases := s.bx.releases ++ ((range 0 16).filter (fun n => (s.mbox n).isOpen)).flatMap (fun n =>
        (range 0 8).map (fun d => (d, s.sessionByte n))) }
    au := { s.au with waiting := [] } }

/-- A write to MB_RESET: its conditions hold, or it is ignored with ERR; a second one with the same value within 1 ms
fires, and any other write disarms. Its reserved bits have no effect (R10). -/
def State.resetWrite (s : State) (mb : Nat) (value : Word) : State :=
  let kind := value.toNat % 4
  let v := value.toNat / 65536 * 65536 + kind
  let m := s.mbox mb
  let ok := bitsOf v 31 16 == 0xD1A1 && (kind == 1 || kind == 2) && m.isOpen && m.rank == 0 && bit m.roles 1
    && (kind == 1 || (s.fault 2).latched)
  let same := s.boot.armed.any (fun a => a.1 == mb && a.2.1 == v && decide (s.clk < a.2.2 + tuMs 1))
  let rest := s.boot.armed.filter (fun a => a.1 != mb)
  if s.boot.firing.isSome then s
  else if !ok then State.setErr { s with boot := { s.boot with armed := rest } } mb 6
  else if same then (if kind = 1 then s.fireDevice else s.fireCcOnly)
  else { s with boot := { s.boot with armed := rest ++ [(mb, v, s.clk)] } }

/-- MB_RESET_DEVICE: a write to MB_RESET with KIND 1 (R571, R572). -/
def execMbResetDevice (mb : Nat) (value : Word) (s : State) : Host.Outcome State Fault Refusal :=
  if mb < 16 then .next (s.fromHost (s.resetWrite mb value)) else .next s

/-- MB_RESET_CC_ONLY: a write to MB_RESET with KIND 2 (R571, R573). -/
def execMbResetCcOnly (mb : Nat) (value : Word) (s : State) : Host.Outcome State Fault Refusal :=
  if mb < 16 then .next (s.fromHost (s.resetWrite mb value)) else .next s

/-- MB_RESET_ARM_EXPIRY: a reset armed 1 ms ago without its firing write is disarmed (R571). -/
def execMbResetArmExpiry (s : State) : Host.Outcome State Fault Refusal :=
  .next { s with boot := { s.boot with armed := s.boot.armed.filter (fun a => decide (s.clk < a.2.2 + tuMs 1)) } }

/-! ## Naming the image (R578) -/

/-- BOOT_GO: GO in MBX_BOOT_CTRL moves start-up from STAGE 4 to the copy of the image. -/
def execBootGo (value : Word) (s : State) : Host.Outcome State Fault Refusal :=
  if s.startup.stage = 4 ∧ !s.startup.stopped ∧ bit value.toNat 0 then
    .next { s with startup := { s.startup with stage := 5 } }
  else .next s

end Sys2Proof.Machine
end

