-- ==== Sys2Proof/Machine/Regs.lean ====
section
/-! DEFINITION. Reading the register window: the value of every register of chapter 23 and of the chapters it names, what a
read clears, latches and removes (R605 to R608, R616, R135 to R138). -/
namespace Sys2Proof.Machine

/-! ## Registers by block -/

/-- A 64-bit crosspoint entry (R204). -/
def XEntry.image (e : XEntry) : Nat :=
  9223372036854775808 * flag e.valid + 2305843009213693952 * (e.path % 4) + 562949953421312 * (e.port % 4096)
    + 137438953472 * (e.src % 4096) + 16777216 * (e.setBy % 256) + e.tick % 16777216

/-- A value with some of its bits inverted: an uncorrectable entry as it reads (R204). -/
def flipBits (bs : List Nat) (v : Nat) : Nat := bs.eraseDups.foldl (fun k i => k ^^^ 2 ^ i) v

/-- The low or high word of a 64-bit value. -/
def half (v : Nat) (high : Bool) : Nat := if high then v / 4294967296 % 4294967296 else v % 4294967296

/-- GLB_TEMP: the hottest of the 32 sensors (R604). -/
def State.glbTemp (s : State) : Nat :=
  let best := s.glb.temps.zipIdx.foldl
    (fun (b : Option (Int × Nat)) p => match b with
      | some q => if q.1 < p.1 then some p else b
      | none => some p) none
  match best with
  | some (t, i) => 2147483648 * flag s.glb.tempTripped + 16777216 * i + ofSigned 2 t
  | none => 2147483648 * flag s.glb.tempTripped

/-- What a register shows of the fuses: 0 until fuse sensing has ended (Tables Global registers, KS_EPOCH). -/
def State.sensed (s : State) (n : Nat) : Nat := if s.glb.fuseSensed then n else 0

/-- GLB_INFO. -/
def State.glbInfo (s : State) : Nat :=
  2147483648 * flag s.startup.ready + 1073741824 * flag s.startup.bootLock
    + s.sensed (536870912 * flag s.epochSaturated + 268435456 * flag s.cryptoOff) + 134217728 * flag s.boot.cc1
    + 67108864 * flag (if s.boot.cc1 then s.boot.cc0Failed else s.boot.cc1Failed)
    + s.sensed (65536 * s.fuses.variant + 256 * s.fuses.stepping) + 4 * flag s.straps.pairId + s.straps.groupIdx

/-- GLB_PAIR_STAT. -/
def State.glbPair (s : State) : Nat :=
  536870912 * s.pr.state.code + s.broughtUp (67108864 * s.pr.pState.getD 7) + 33554432 * flag (s.heardNow s.pr.heardDowel)
    + 16777216 * flag (s.heardNow s.pr.heardLink) + 8388608 * flag (decide (s.pr.state ≠ .off) && !s.peerDead)
    + 4194304 * flag s.pins.clampGnt + s.broughtUp (2097152 * flag s.holdsRoles) + 1048576 * flag (decide (s.pr.state = .frozen))
    + 524288 * flag s.pr.sync + 262144 * flag s.pr.conflict + s.pr.roleGen

/-- GLOBAL/ID. -/
def State.globalReg (s : State) (o : Nat) : Nat :=
  match o with
  | 0x10 => s.glbInfo
  | 0x14 => flag s.startup.bootLock
  | 0x18 => s.glb.balixVer.toNat
  | 0x1C => s.glb.romVer.toNat
  | 0x20 => half s.nowNs false
  | 0x24 => half s.nowNs true
  | 0x40 => s.glbTemp
  | 0x48 => 2147483648 * flag s.glb.accessValid + s.glb.accessDenied
  | 0x4C => s.glb.accessAddr
  | 0x80 => s.glbPair
  | _ => if o < 16 then s.sensed (leNat (slice s.identityBlock o 4)) else 0

/-- MAILBOX, one mailbox. -/
def State.mailboxReg (s : State) (n o : Nat) : Nat :=
  let m := s.mbox n
  match o with
  | 0x00 => half m.cmdBase false
  | 0x04 => half m.cmdBase true
  | 0x08 => half m.cplBase false
  | 0x0C => half m.cplBase true
  | 0x10 => half m.shadow false
  | 0x14 => half m.shadow true
  | 0x18 => flag m.en
  | 0x24 => m.cmdHead
  | 0x28 => m.cplTail
  | 0x2C => m.cplHead
  | 0x30 => 67108864 * flag m.tkoEn + 33554432 * flag m.errEn + 16777216 * flag m.cplEn + 65536 * m.cnt + m.holdoff
  | 0x34 => 256 * m.cause + 4 * flag m.takeover + 2 * flag m.err + flag m.cpl
  | 0x38 => 2147483648 * flag m.isOpen + 268435456 * m.roles + 33554432 * m.rank + 65536 * s.sessionByte n
      + s.inflightOf n
  | _ => 0

/-- MAILBOX, the device-wide registers from 0x0011_0000. -/
def State.mailboxWide (s : State) (o : Nat) : Nat :=
  match o with
  | 0x00 => 65536 * (s.poolSize - s.poolUsed) + s.inflight
  | 0x10 => half s.startup.bootAddr false
  | 0x14 => half s.startup.bootAddr true
  | 0x18 => s.startup.bootLen
  | 0x20 => 268435456 * s.startup.stage + 134217728 * flag s.startup.stopped + 65536 * s.startup.stop + 256 * s.startup.attempts
      + flag s.startup.ccOther
  | _ => 0

/-- FAULT. -/
def State.faultReg (s : State) (o : Nat) : Nat :=
  let bits := fun (f : FaultSrc → Bool) (k : Nat) =>
    (range 0 32).foldl (fun v b => v + 2 ^ b * flag (f (s.fault (32 * k + b)))) 0
  let listed := s.fc.filter (fun p => p.2.latched)
  if o < 0x20 then bits (fun f => f.latched) (o / 4)
  else if o < 0x40 then bits (fun f => f.latched && f.escalated) ((o - 0x20) / 4)
  else if o = 0x40 then
    2147483648 * flag s.faultN + 1073741824 * flag s.boot.freeze
      + 268435456 * listed.foldl (fun m p => max m p.2.effClass) 0 + 67108864 * s.faultnLevel + listed.length
  else if 0x1000 ≤ o ∧ o < 0x1400 then
    let n := (o - 0x1000) / 4
    let f := s.fault n
    2147483648 * flag f.latched + 1073741824 * flag f.caused + 536870912 * flag f.escalated
      + 268435456 * flag f.injected + 134217728 * flag (s.faultIe n) + 16777216 * s.faultAction n
      + 4194304 * f.effClass + 1048576 * s.faultClass n + f.count
  else if 0x2000 ≤ o ∧ o < 0x2800 then
    let f := s.fault ((o - 0x2000) / 8)
    if o % 8 = 0 then f.syndrome.toNat else f.address.toNat
  else 0

/-- REF. -/
def State.refReg (s : State) (o : Nat) : Nat :=
  if o = 0 then 536870912 * s.rf.state.code + s.broughtUp (65536 * candCode s.rf.cand)
  else if 0x10 ≤ o ∧ o < 0x30 then ofSigned 4 (s.pendingNs ((o - 0x10) / 4))
  else 0

/-- The six words of a time base: SEC low and high, NS, FRAC, RATE, STAT (R138). -/
def State.tbWords (s : State) (n : Nat) : List Word :=
  let b := s.base n
  [BitVec.ofNat 32 b.sec, BitVec.ofNat 32 (b.sec / 4294967296), BitVec.ofNat 32 b.nanos, BitVec.ofNat 32 b.frac,
   BitVec.ofNat 32 (ofSigned 4 b.rate), BitVec.ofNat 32 (b.state.code + 256 * (b.stepcnt % 256))]

/-- A time-stamp queue is closed to a master: the host's reads return 0 while Balix owns it (R135). -/
def State.queueShut (s : State) (m : Master) (p : Nat) : Bool := m == .host && s.balixQueue p

/-- TIME: a base's registers with the snapshot of the reading master, and the queues (R136 to R138). -/
def State.timeReg (s : State) (m : Master) (o : Nat) : Nat :=
  if o < 0x800 then
    let n := o / 0x100
    let i := o % 0x100 / 4
    let snap := Tbl.get [] s.glb.tbSnap (8 * Master.code m + n)
    if i = 0 ∨ i = 4 then ((s.tbWords n).getD i 0).toNat
    else if i < 6 then (snap.getD i 0).toNat else 0
  else if 0x1000 ≤ o then
    let p := (o - 0x1000) / 0x40
    let r := (o - 0x1000) % 0x40
    let q := s.queue p
    if r = 0 then 65536 * q.drops + 32768 * flag (s.balixQueue p) + 256 * flag q.overflow + q.entries.length
    else if 0x10 ≤ r ∧ r < 0x20 ∧ !s.queueShut m p then
      (((q.entries.head?.map (fun e => e.words)).getD []).getD ((r - 0x10) / 4) 0).toNat
    else 0
  else 0

/-- The number of the source bound to an SDI lane. -/
def State.laneSource (s : State) (n : Nat) : Option Nat :=
  (s.sr.find? (fun p => p.2.lanes.contains n)).map (fun p => p.1)

/-- The destination bound to an SDI lane. -/
def State.laneDest (s : State) (n : Nat) : Option Dest :=
  (s.de.find? (fun p => p.2.lanes.contains n)).map (fun p => p.2)

/-- A lane of a port or link is up with its subport or link (log 38). -/
def State.laneUp (s : State) (l : Nat) : Bool :=
  if l < 128 then
    let n := subCount (s.port (l / 8)).mode
    n != 0 && (s.subport (8 * (l / 8) + l % 8 * n / 8)).up
  else
    let k := s.link ((l - 384) / 32)
    (decide (k.state = .up56) || decide (k.state = .up112)) && k.active.contains ((l - 384) % 32)

/-- ROLE, LOCK and RATE of a lane, at their places in PL_STAT. -/
def State.laneHead (s : State) (l : Nat) : Nat :=
  let k := s.lane l
  let role := if isSdiLane l then k.role else if s.linkIdle l then 0 else 3
  let locked := if k.test != 0 then k.lock else if isSdiLane l then k.locked else s.laneUp l
  1073741824 * role + 536870912 * flag locked + 65536 * s.laneRate l

/-- SDI lanes: SDI_STAT and SDI_ERR (Table Summary registers). -/
def State.sdiReg (s : State) (n o : Nat) : Nat :=
  match o with
  | 0 =>
    let f := match s.laneSource n, s.laneDest n with
      | some k, _ => s.shownFormat k
      | none, some d => (d.fmt, d.transport)
      | none, none => (0, 0)
    s.laneHead (128 + n) + 256 * f.1 + f.2
  | 4 =>
    (match s.laneSource n with
     | some k => (s.source k).crcErrors
     | none => 0)
  | _ => 0

/-- The bytes of a receive flow table entry (R153, R154). -/
def RxFlow.bytes (e : RxFlow) : List Byte :=
  slice e.image 0 80 ++ leBytes 8 e.pkts ++ leBytes 4 e.seqGaps ++ leBytes 4 e.dups ++ leBytes 4 e.late
    ++ leBytes 4 e.malformed ++ leBytes 8 e.lastRx ++ leBytes 4 e.slips ++ List.replicate 12 0

/-- The bytes of a transmit flow table entry (R257, R258). -/
def TxFlow.bytes (e : TxFlow) : List Byte :=
  slice e.image 0 128 ++ leBytes 8 e.pkts ++ leBytes 8 e.octets ++ leBytes 4 e.late ++ leBytes 4 0
    ++ leBytes 8 e.lastTx ++ List.replicate 96 0

/-- ETH_SUB_STAT of a subport. -/
def State.subReg (s : State) (p sub : Nat) : Nat :=
  let k := s.subport (8 * p + sub)
  let noAn := !(s.port p).an && s.hasSub p sub
  2147483648 * flag k.up + 1073741824 * flag (k.anDone || noAn) + 536870912 * flag (k.trained || noAn)
    + 268435456 * flag k.localFault + 134217728 * flag k.remoteFault + 67108864 * flag k.tx.used
    + 33554432 * flag k.rx.used + 8388608 * (k.tx.an.getD 0 % 4) + 4194304 * flag k.tx.warn
    + 2097152 * flag k.tx.exhausted + k.linkDowns

/-- ETH ports and the flow tables. -/
def State.ethReg (s : State) (o : Nat) : Nat :=
  if o < 0x10000 then
    let p := o / 0x1000
    let r := o % 0x1000
    let k := s.port p
    if r < 0x200 then
      let sub := r / 0x40
      let u := s.subport (8 * p + sub)
      (match r % 0x40 with
       | 0 => s.subReg p sub
       | 4 => 1048576 * u.icvFail + 4096 * u.replay + 16 * u.noSa
       | _ => 0)
    else if r = 0x800 then k.txHead
    else if r = 0x804 then k.rxTail
    else if r = 0x808 then k.hpDrops
    else 0
  else if 0x200000 ≤ o ∧ o < 0x300000 then
    leNat (slice (RxFlow.bytes (s.rxFlow ((o - 0x200000) / 0x80))) (o % 0x80) 4)
  else if 0x300000 ≤ o then leNat (slice (TxFlow.bytes (s.txFlow ((o - 0x300000) / 0x100))) (o % 0x100) 4)
  else 0

/-- PHY lanes (Table Lane test registers). -/
def State.laneReg (s : State) (l o : Nat) : Nat :=
  let k := s.lane l
  match o with
  | 0x00 => s.laneHead l + 268435456 * flag (k.test != 0) + 134217728 * flag k.eyeDwell.isSome + 4096 * (s.ctleNow l % 16)
  | 0x10 => k.testCtrl.toNat
  | 0x18 => half k.bits false
  | 0x1C => half k.bits true
  | 0x20 => k.errors
  | _ => 0

/-- DOVETAIL: DT_LINK_STAT. -/
def State.dovetailReg (s : State) (k o : Nat) : Nat :=
  if o = 0 then
    let l := s.link k
    268435456 * l.state.code + 16777216 * l.spareLanes.length
      + ((s.depart.filter (fun t => s.linkTo t.dev == k)).map (fun t => t.port)).eraseDups.length
  else 0

/-- READY of XPT_BANK_STAT: the bank of a domain is marked ready and not yet armed (R206, R207). -/
def State.bankMarked (s : State) (d : Domain) : Bool :=
  !d.bankArmed && d.waitAck.isNone && (match d.bankReady with
    | some r => decide (r ≤ s.clk)
    | none => false)

/-- ARMED of XPT_BANK_STAT: a domain is armed and has a flip to come (R207, R208). -/
def State.bankFlipping (s : State) (d : Nat) : Bool :=
  (s.dom d).bankArmed && s.xp.any (fun p => p.2.pend && s.portTd p.1 == d)

/-- FABRIC (Table Fabric status registers). -/
def State.fabricReg (s : State) (o : Nat) : Nat :=
  if o < 0x80 then
    let d := s.dom (o / 16)
    (match o % 16 with
     | 0 => 2147483648 * flag (s.bankMarked d) + 1073741824 * flag (s.bankFlipping (o / 16)) + d.overruns
     | 4 => d.bankTick % 4294967296
     | _ => 0)
  else if 0x10000 ≤ o ∧ o < 0x30000 then
    let n := o % 0x10000 / 16
    let b := decide (0x20000 ≤ o)
    half (flipBits (((s.out n).wrongBits b (bit o 3)).filter (fun i => decide (i < 64)))
      ((s.out n).entry b (bit o 3)).image) (bit o 2)
  else if 0x30000 ≤ o then
    let p := s.out ((o - 0x30000) / 4)
    2147483648 * flag p.cur + 1073741824 * flag p.pend + 536870912 * flag p.trustB + 268435456 * flag p.protect.isSome
      + 134217728 * flag p.lock.isSome + p.repeats
  else 0

/-- AUDIO (Table Bramble registers). -/
def State.audioReg (s : State) (o : Nat) : Nat :=
  if o = 0 then 2147483648 * flag s.au.khz96 + 1073741824 * flag s.au.blk125 + 536870912 * flag s.au.bank + s.au.overruns
  else if o = 4 then (s.contribs s.elapsed).length
  else if o = 8 then 2147483648 * flag s.au.mismatch + 65536 * s.au.verAo + s.au.verCount
  else if 0x10000 ≤ o then
    let ao := (o - 0x10000) / 4
    65536 * (s.contribsOf s.elapsed ao).length + Tbl.get 0 s.au.sat ao
  else 0

/-- MARQUETRY: MQ_ENG_STAT. -/
def State.mqReg (s : State) (m o : Nat) : Nat :=
  if o = 0 then
    let g := s.engine m
    1073741824 * g.setMode + s.broughtUp (268435456 * min 3 (g.newest.getD 3)) + g.writes % 16777216
  else 0

/-- KEYSTORE. -/
def State.keyReg (s : State) (o : Nat) : Nat :=
  if o = 0 then
    2147483648 * flag s.ks.derived + s.sensed (1073741824 * flag s.cryptoOff) + 536870912 * flag s.ks.debugSeen
      + 65536 * (s.ks.slots.filter (fun p => p.2.state == .revoked)).length
      + (s.ks.slots.filter (fun p => p.2.state != .empty)).length
  else if o = 4 then s.sensed (2147483648 * flag s.epochSaturated + s.fuses.epoch)
  else 0

/-- GRAIN; GRAIN_LAST_SEAL1 to 15 from the snapshot of the reading master (R616). -/
def State.grainReg (s : State) (m : Master) (o : Nat) : Nat :=
  if o = 0 then 134217728 * s.grainBits
  else if o = 4 then s.gr.fill
  else if o = 0x100 then (s.gr.lastSeal.getD 0 0).toNat
  else if 0x100 < o then ((Tbl.get [] s.glb.sealSnap (Master.code m)).getD ((o - 0x100) / 4) 0).toNat
  else 0

/-- DMA (Table DMA channel registers). -/
def State.dmaReg (s : State) (o : Nat) : Nat :=
  let c := s.chan (o / 0x100)
  if o = 0x1000 then
    (range 0 16).foldl (fun v n => v + 2 ^ n * flag (s.chan n).irq + 2 ^ (16 + n) * flag ((s.chan n).state == 5)) 0
  else if 0x1000 < o then 0
  else match o % 0x100 with
    | 0x00 => 1073741824 * flag c.pause + flag c.irqEn
    | 0x04 => 536870912 * c.state + 67108864 * c.cause + 33554432 * flag c.errDir + 16777216 * flag c.req + flag c.irq
    | 0x08 => half c.desc false
    | 0x0C => half c.desc true
    | 0x10 => half c.cqBase false
    | 0x14 => half c.cqBase true
    | 0x18 => c.cqSize
    | 0x1C => c.cqTail
    | 0x20 => c.cqHead
    | 0x24 => c.budget
    | 0x28 => c.pace
    | 0x2C => c.highWm
    | 0x30 => c.lowWm
    | 0x38 => half c.cur false
    | 0x3C => half c.cur true
    | 0x40 => c.remain
    | 0x48 => half c.errAddr false
    | 0x4C => half c.errAddr true
    | 0x50 => c.flushCnt
    | _ => 0

/-- POWER: PWR_DOM_STAT. -/
def State.powerReg (s : State) (n : Nat) : Nat :=
  let d := s.pdom n
  1073741824 * d.state + 536870912 * flag d.pinned + s.broughtUp (268435456 * flag (s.live n)) + 134217728 * flag d.waking
    + 67108864 * flag d.failed + min 65535 d.wakes

/-- INTERCONNECT (Table Interconnect registers). -/
def State.icReg (s : State) (o : Nat) : Nat :=
  match o with
  | 0 => flag s.startup.mapSwap
  | 4 => 2147483648 * flag s.ic.valid + 1073741824 * flag s.ic.timeout + 536870912 * flag s.ic.write
      + 16777216 * s.ic.master + s.ic.count
  | 8 => half s.ic.addr false
  | 0xC => half s.ic.addr true
  | _ => 0

/-- HBM: FS_STACK_STAT; no stack serves reads before it has trained (R197). -/
def State.stackReg (s : State) (n : Nat) : Nat :=
  let k := s.stack n
  16777216 * k.ue + 256 * k.ce + 4 * flag (k.serves && (s.startup.ready || s.startup.ccOnly)) + k.state

/-- The value of the register at a word-aligned offset; an offset that holds none reads 0 (R605). -/
def State.regNow (s : State) (m : Master) (o : Nat) : Nat :=
  if o < 0x84 then s.globalReg o
  else if 0x100000 ≤ o ∧ o < 0x110000 then s.mailboxReg ((o - 0x100000) / 0x1000) (o % 0x1000)
  else if 0x110000 ≤ o ∧ o < 0x110024 then s.mailboxWide (o - 0x110000)
  else if 0x200000 ≤ o ∧ o < 0x202800 then s.faultReg (o - 0x200000)
  else if 0x300000 ≤ o ∧ o < 0x300030 then s.refReg (o - 0x300000)
  else if 0x400000 ≤ o ∧ o < 0x401400 then s.timeReg m (o - 0x400000)
  else if 0x800000 ≤ o ∧ o < 0x840000 then s.sdiReg ((o - 0x800000) / 0x400) (o % 0x400)
  else if 0xC00000 ≤ o ∧ o < 0x1000000 then s.ethReg (o - 0xC00000)
  else if 0x1000000 ≤ o ∧ o < 0x11E0000 then s.laneReg ((o - 0x1000000) / 0x1000) (o % 0x1000)
  else if 0x1400000 ≤ o ∧ o < 0x1400300 then s.dovetailReg ((o - 0x1400000) / 0x100) (o % 0x100)
  else if 0x1800000 ≤ o ∧ o < 0x1831F40 then s.fabricReg (o - 0x1800000)
  else if 0x1C00000 ≤ o ∧ o < 0x1C14000 then s.audioReg (o - 0x1C00000)
  else if 0x2000000 ≤ o ∧ o < 0x2000800 then s.mqReg ((o - 0x2000000) / 0x100) (o % 0x100)
  else if 0x2400000 ≤ o ∧ o < 0x2400008 then s.keyReg (o - 0x2400000)
  else if 0x2800000 ≤ o ∧ o < 0x2800140 then s.grainReg m (o - 0x2800000)
  else if 0x2C00000 ≤ o ∧ o < 0x2C01004 then s.dmaReg (o - 0x2C00000)
  else if 0x3000000 ≤ o ∧ o < 0x30000C0 then s.powerReg ((o - 0x3000000) / 4)
  else if 0x3400000 ≤ o ∧ o < 0x3400010 then s.icReg (o - 0x3400000)
  else if 0x3800000 ≤ o ∧ o < 0x3800010 then s.stackReg ((o - 0x3800000) / 4)
  else 0

/-- The _L registers of two that hold one value the device changes (R608). -/
def lowHalf (o : Nat) : Bool :=
  o == 0x20 || o == 0x3400008
    || (decide (0x1000000 ≤ o ∧ o < 0x11E0000) && o % 0x1000 == 0x18)
    || (decide (0x2C00000 ≤ o ∧ o < 0x2C01000) && (o % 0x100 == 0x38 || o % 0x100 == 0x48))

/-- The key of a master's latch of a register. -/
def latchKey (m : Master) (o : Nat) : Nat := 67108864 * Master.code m + o

/-- The value that a read by a master returns: the latched half of an _H register, else the register (R607, R608). -/
def State.regRead (s : State) (m : Master) (o : Nat) : Word :=
  if 4 ≤ o ∧ lowHalf (o - 4) then Tbl.get 0 s.glb.latchH (latchKey m o) else BitVec.ofNat 32 (s.regNow m o)

/-! ## What a read changes -/

/-- Clears the RC fields of the register at an offset (R607). DESIGN CHOICE (log 112): the queue that R135 closes to the host is
TSQ_ENTRY0 to TSQ_ENTRY3, not TSQ_STAT, which the host reads and clears while Balix owns the queue. -/
def State.clearRead (s : State) (o : Nat) : State :=
  if o = 0x40 then { s with glb := { s.glb with tempTripped := false } }
  else if o = 0x48 then { s with glb := { s.glb with accessValid := false, accessDenied := 0 } }
  else if 0x401000 ≤ o ∧ o < 0x401400 ∧ o % 0x40 = 0 then
    s.updQueue ((o - 0x401000) / 0x40) (fun q => { q with overflow := false, drops := 0 })
  else if 0x800000 ≤ o ∧ o < 0x840000 ∧ o % 0x400 = 4 then
    (match s.laneSource ((o - 0x800000) / 0x400) with
     | some k => s.updSource k (fun x => { x with crcErrors := 0 })
     | none => s)
  else if 0xC00000 ≤ o ∧ o < 0xC10000 then
    let p := (o - 0xC00000) / 0x1000
    let r := o % 0x1000
    let i := 8 * p + r / 0x40
    if r < 0x200 ∧ r % 0x40 = 0 then s.updSubport i (fun k => { k with linkDowns := 0 })
    else if r < 0x200 ∧ r % 0x40 = 4 then s.updSubport i (fun k => { k with icvFail := 0, replay := 0, noSa := 0 })
    else if r = 0x808 then s.updPort p (fun k => { k with hpDrops := 0 })
    else s
  else if 0x1800000 ≤ o ∧ o < 0x1800080 ∧ o % 16 = 0 then
    s.updDom ((o - 0x1800000) / 16) (fun d => { d with overruns := 0 })
  else if 0x1830000 ≤ o ∧ o < 0x1831F40 then s.updOut ((o - 0x1830000) / 4) (fun p => { p with repeats := 0 })
  else if o = 0x1C00000 then { s with au := { s.au with overruns := 0 } }
  else if o = 0x1C00008 then { s with au := { s.au with mismatch := false, verCount := 0 } }
  else if 0x1C10000 ≤ o ∧ o < 0x1C14000 then
    { s with au := { s.au with sat := Tbl.set 0 s.au.sat ((o - 0x1C10000) / 4) 0 } }
  else if 0x3000000 ≤ o ∧ o < 0x30000C0 then s.updPdom ((o - 0x3000000) / 4) (fun d => { d with wakes := 0 })
  else if o = 0x3400004 then
    { s with ic := { s.ic with valid := false, timeout := false, write := false, master := 0, count := 0 } }
  else if 0x3800000 ≤ o ∧ o < 0x3800010 then s.updStack ((o - 0x3800000) / 4) (fun k => { k with ue := 0, ce := 0 })
  else s

/-- The bytes that a master's last read returned (log 6). -/
def State.dataOf (s : State) (m : Master) : List Byte := Tbl.get [] s.glb.readData (Master.code m)

/-- Returns data to a reading master (log 6). -/
def State.returnData (s : State) (m : Master) (bs : List Byte) : State :=
  { s with glb := { s.glb with readData := Tbl.set [] s.glb.readData (Master.code m) bs } }

/-- The side effects of a read of one register, after its value was taken: TSQ_ENTRY3 removes a stamp, TB_SEC_L and
GRAIN_LAST_SEAL0 take their snapshots, an _L register latches its _H, RC fields clear (R136, R138, R607, R608, R616). -/
def State.readEffect (s : State) (m : Master) (o : Nat) : State :=
  if 0x401000 ≤ o ∧ o < 0x401400 ∧ o % 0x40 = 0x1C then
    let p := (o - 0x401000) / 0x40
    if s.queueShut m p then s else s.updQueue p (fun q => { q with entries := q.entries.drop 1 })
  else if 0x400000 ≤ o ∧ o < 0x400800 ∧ o % 0x100 = 0 then
    let n := (o - 0x400000) / 0x100
    { s with glb := { s.glb with tbSnap := Tbl.set [] s.glb.tbSnap (8 * Master.code m + n) (s.tbWords n) } }
  else if o = 0x2800100 then
    { s with glb := { s.glb with sealSnap := Tbl.set [] s.glb.sealSnap (Master.code m) s.gr.lastSeal } }
  else if lowHalf o then
    { s with glb := { s.glb with
      latchH := Tbl.set 0 s.glb.latchH (latchKey m (o + 4)) (BitVec.ofNat 32 (s.regNow m (o + 4))) } }
  else s.clearRead o

/-! ## Accesses of any width (R606) -/

/-- One 32-bit read in a master's access: the register's value follows what the access has returned so far. -/
def State.readOne (s : State) (m : Master) (o : Nat) : State :=
  (s.readEffect m o).returnData m (s.dataOf m ++ leBytes 4 (s.regRead m o).toNat)

/-- The 32-bit reads of an access, in ascending address order (R606). -/
def State.readAll (s : State) (m : Master) (os : List Nat) : State := os.foldl (fun t o => t.readOne m o) (s.returnData m [])

/-- A read of registers by a master: a wide one as 32-bit reads in ascending order, a narrow one reads the register once and
returns the bytes addressed (R606, R607). A master without the path gets a decode error and reaches no register (R488); a closed
cluster port issues nothing (R497), nor does the host while its link is down (R14). -/
def State.readReg (s : State) (m : Master) (a : Access) : State :=
  let t := s.seenDebug m
  if m = .dma then t.icError m false false false (0x40000000 + a.off)
  else if t.mayRead m then
    let u := t.readAll m a.words
    u.returnData m (slice (u.dataOf m) (a.off % 4) a.size)
  else t

/-! ## Rows -/

/-- TSQ_ENTRY3_READ: the oldest stamp is returned and removed (R136). -/
def execTsqEntry3Read (m : Master) (q : UnitAccess) (s : State) : Host.Outcome State Fault Refusal :=
  if q.unit < 16 ∧ q.acc.words.contains (0x40101C + 0x40 * q.unit) then .next (s.readReg m q.acc) else .next s

/-- TB_SEC_L_READ: the time and TB_STAT are latched for the reading master (R138). -/
def execTbSecLRead (m : Master) (q : UnitAccess) (s : State) : Host.Outcome State Fault Refusal :=
  if q.unit < 8 ∧ q.acc.words.contains (0x400000 + 0x100 * q.unit) then .next (s.readReg m q.acc) else .next s

/-- GRAIN_LAST_SEAL0_READ: all sixteen registers are snapshot for the reading master (R616). -/
def execGrainLastSeal0Read (r : MasterAccess) (s : State) : Host.Outcome State Fault Refusal :=
  if r.acc.words.contains 0x2800100 then .next (s.readReg r.master r.acc) else .next s

/-- LOW_HALF_READ: a read of an _L register latches its _H (R608). -/
def execLowHalfRead (m : Master) (a : Access) (s : State) : Host.Outcome State Fault Refusal :=
  if a.words.any lowHalf then .next (s.readReg m a) else .next s

/-- The registers with fields of access RC, but for TSQ_ENTRY3 (R607). -/
def hasRc (o : Nat) : Bool :=
  o == 0x40 || o == 0x48 || (decide (0x401000 ≤ o ∧ o < 0x401400) && o % 0x40 == 0)
    || (decide (0x800000 ≤ o ∧ o < 0x840000) && o % 0x400 == 4)
    || (decide (0xC00000 ≤ o ∧ o < 0xC10000)
        && ((decide (o % 0x1000 < 0x200) && (o % 0x40 == 0 || o % 0x40 == 4)) || o % 0x1000 == 0x808))
    || (decide (0x1800000 ≤ o ∧ o < 0x1800080) && o % 16 == 0)
    || (decide (0x1830000 ≤ o ∧ o < 0x1831F40) && o % 4 == 0)
    || o == 0x1C00000 || o == 0x1C00008 || (decide (0x1C10000 ≤ o ∧ o < 0x1C14000) && o % 4 == 0)
    || (decide (0x3000000 ≤ o ∧ o < 0x30000C0) && o % 4 == 0) || o == 0x3400004
    || (decide (0x3800000 ≤ o ∧ o < 0x3800010) && o % 4 == 0)

/-- CLEAR_ON_READ: a register with RC fields is returned and those fields cleared (R607). -/
def execClearOnRead (m : Master) (a : Access) (s : State) : Host.Outcome State Fault Refusal :=
  if a.words.any hasRc then .next (s.readReg m a) else .next s

end Sys2Proof.Machine
end

