-- ==== Sys2Proof/Machine/Dma.lean ====
section
/-! DEFINITION. The DMA engine: its channels' control writes and events, the moves of blocks between host memory, the HBM
window and control SRAM, and the Grain upload of channel 7 (18 R498 to R511, 16 R438). -/
namespace Sys2Proof.Machine

/-! ## Addresses and paths (R488, R490, R498, R500) -/

/-- Control SRAM at its two addresses: the offset of a device address, at 0 only after MAP_SWAP (R490, R491). -/
def State.sramOffset (s : State) (a : Nat) : Option Nat :=
  if 0x10000000 ≤ a ∧ a < 0x10800000 then some (a - 0x10000000)
  else if s.startup.mapSwap ∧ a < 0x800000 then some a
  else none

/-- A device range lies within one part of the HBM window (R490). -/
def inHbm (a n : Nat) : Bool :=
  decide (0x1000000000 ≤ a ∧ a + n ≤ 0x10C0000000) || decide (0x1100000000 ≤ a ∧ a + n ≤ 0x1160000000)

/-- A range of one space lies on a path of a channel for reading or writing (Table Interconnect paths, R498). -/
def State.onPath (s : State) (ch : Nat) (host write : Bool) (a n : Nat) : Bool :=
  if host then decide (a + n ≤ 18446744073709551616)
  else inHbm a n
    || (decide (ch < 7) && (match s.sramOffset a with
        | some o => decide (o + n ≤ 0x800000)
        | none => false))
    || (ch == 7 && !write && decide (0x20000000 ≤ a ∧ a + n ≤ 0x20400000))

/-- Reads bytes of one space. The staging ring's bytes have no stated place: free values (log 40). -/
def State.dmaRead (s : State) (host : Bool) (a n : Nat) : List Byte :=
  if host then s.hostMem.readBytes a n
  else if inHbm a n then s.hbmRead a n
  else match s.sramOffset a with
    | some o => s.sram.readBytes o n
    | none => (range 0 n).map (fun i => Config.freeByte s.bx.free i)

/-- Writes bytes of one space. -/
def State.dmaWrite (s : State) (host : Bool) (a : Nat) (bs : List Byte) : State :=
  if host then s.putHost a bs
  else if inHbm a bs.length then s.hbmWrite a bs
  else match s.sramOffset a with
    | some o => { s with sram := s.sram.writeBytes o bs }
    | none => s

/-- The first byte of a host range that gives a bus error. -/
def State.firstBad (s : State) (a n : Nat) : Option Nat := firstFrom (fun k => !s.hostOk k 1) a n

/-! ## Descriptors (R499, R500) -/

/-- A field of the descriptor in progress. -/
def Chan.le (c : Chan) (o n : Nat) : Nat := leNat (slice c.image o n)

/-- LEN of the descriptor in progress. -/
def Chan.len (c : Chan) : Nat := c.le 16 4

/-- FLAGS of the descriptor in progress. -/
def Chan.flags (c : Chan) : Nat := c.le 20 1

/-- A descriptor is bad (R500). -/
def State.badDescriptor (s : State) (ch : Nat) (c : Chan) : Bool :=
  let f := c.flags
  let src := c.le 0 8
  let dst := c.le 8 8
  decide (32 ≤ f) || c.le 21 1 != 0 || c.len == 0 || decide (1073741824 < c.len)
    || c.le 24 8 % 32 != 0 || (bit f 3 && c.le 24 8 != 0)
    || !s.onPath ch (bit f 0) false src c.len || !s.onPath ch (bit f 1) true dst c.len
    || (decide (8 ≤ ch) && bit f 0 && bit f 1)

/-! ## Completions, halts and interrupts -/

/-- Whether the completion queue has room for one more entry (R502). -/
def Chan.room (c : Chan) : Bool := decide ((c.cqTail + 65536 - c.cqHead) % 65536 < 2 ^ c.cqSize)

/-- Sets IRQ of a channel; a host channel raises its vector when IRQ_EN is set (R498). -/
def State.dmaIrq (s : State) (ch : Nat) : State :=
  let t := s.updChan ch (fun c => { c with irq := true })
  if 8 ≤ ch ∧ (s.chan ch).irqEn ∧ !(s.chan ch).irq then t.raiseVector (9 + ch) else t

/-- Where a channel's descriptors and completions lie: host memory for the host's, control SRAM for Balix's (R498). -/
def State.dmaPut (s : State) (ch a : Nat) (bs : List Byte) : State := s.dmaWrite (decide (8 ≤ ch)) a bs

/-- Whether a channel's queue or descriptor memory answers. -/
def State.dmaOk (s : State) (ch a n : Nat) : Bool :=
  if 8 ≤ ch then s.hostOk a n else (s.sramOffset a).isSome

/-- A channel's access found no target that the engine has a path to (R488): the interconnect records a decode error. A host channel's
lies in host memory. -/
def State.noPath (s : State) (ch a : Nat) (write : Bool) : State :=
  if ch < 8 then s.icError .dma false write false a else s

/-- Stops a channel as HALTED with a cause, sets IRQ and latches source 192 + n (R508). -/
def State.haltOnly (s : State) (ch cause : Nat) : State :=
  let t := s.updChan ch (fun c => { c with state := 5, cause := cause })
  (t.dmaIrq ch).level (192 + ch) true 0xFFFF

/-- Appends a completion (Table DMA completion record); a bus error at the queue halts the channel. -/
def State.dmaComplete (s : State) (ch id status flags done : Nat) : State :=
  let c := s.chan ch
  let a := c.cqBase + 16 * (c.cqTail % 2 ^ c.cqSize)
  let bs := leBytes 2 id ++ leBytes 1 status ++ leBytes 1 flags ++ leBytes 4 done ++ leBytes 4 c.seq
    ++ leBytes 4 s.nowNs
  if s.dmaOk ch a 16 then
    (s.dmaPut ch a bs).updChan ch (fun k => { k with
      cqTail := (k.cqTail + 1) % 65536
      seq := (k.seq + 1) % 4294967296 })
  else ((s.noPath ch a true).updChan ch (fun k => { k with errAddr := a, errDir := true })).haltOnly ch 1

/-- A channel halts: the completion of the descriptor in progress, then HALTED (R508, R500). -/
def State.dmaHalted (s : State) (ch cause : Nat) : State :=
  let c := s.chan ch
  (s.dmaComplete ch (if cause = 3 then 0 else c.le 22 2) cause 0 c.moved).haltOnly ch cause

/-- An access of a channel fails at an address. -/
def State.dmaError (s : State) (ch a : Nat) (write : Bool) (cause : Nat) : State :=
  (s.updChan ch (fun c => { c with errAddr := a, errDir := write })).dmaHalted ch cause

/-! ## Control (R502, R505, R510, R511) -/

/-- START: an idle channel begins the chain at DMA_DESC. -/
def Chan.start (c : Chan) : Chan :=
  if c.state = 0 then
    { c with
      state := if c.pause then 4 else 1
      cause := 0
      cur := c.desc
      image := []
      moved := 0
      remain := 0
      done := 0
      seq := 0
      budgetIn := c.budget }
  else c

/-- PAUSE set: what was issued completes first (R505). -/
def Chan.paused (c : Chan) : Chan :=
  { c with
    pause := true
    state := if c.state = 1 ∨ c.state = 2 then
        (if !c.image.isEmpty ∧ c.moved = c.len then 3 else 4)
      else c.state }

/-- PAUSE cleared: the transfer resumes from the point reached. -/
def Chan.resumed (c : Chan) : Chan :=
  { c with pause := false, state := if c.state = 3 ∨ c.state = 4 then 1 else c.state }

/-- CONTINUE on a HALTED channel: the descriptor at DMA_CUR is fetched again with a fresh budget (R510). -/
def Chan.continued (c : Chan) : Chan :=
  if c.state = 5 then
    { c with
      state := if c.pause then 4 else 1
      cause := 0
      image := []
      moved := 0
      remain := 0
      done := 0
      budgetIn := c.budget }
  else c

/-- ABORT: the channel returns to IDLE without a completion. -/
def Chan.aborted (c : Chan) : Chan := { c with state := 0, cause := 0, image := [], moved := 0, remain := 0 }

/-- Changes a channel; leaving HALTED ends the cause of source 192 + n (R508, R510). -/
def State.steer (s : State) (ch : Nat) (f : Chan → Chan) : State :=
  let t := s.updChan ch f
  if (t.chan ch).state = 5 then t else t.level (192 + ch) false 0xFFFF

/-- A write to DMA_CTRL: ABORT is obeyed alone, else PAUSE, CONTINUE and START (R511). -/
def State.dmaCtrl (s : State) (ch v : Nat) : State :=
  let t := s.updChan ch (fun c => { c with irqEn := bit v 0 })
  if bit v 28 then t.steer ch Chan.aborted
  else
    let t := t.steer ch (fun c => if bit v 30 then c.paused else c.resumed)
    let t := if bit v 29 then t.steer ch Chan.continued else t
    if bit v 31 then t.steer ch Chan.start else t

/-- The value DMA_CTRL reads: PAUSE and IRQ_EN. -/
def Chan.ctrl (c : Chan) : Nat := 1073741824 * flag c.pause + flag c.irqEn

/-- The offset of a register of a channel. -/
def dmaOff (ch r : Nat) : Nat := 0x2C00000 + 0x100 * ch + r

/-- A write to DMA_CTRL by a master; the host may write only channels 8 to 15 (R12, R498). -/
def State.ctrlWrite (s : State) (m : Master) (ch v : Nat) : State :=
  s.writeReg m (dmaOff ch 0) (decide (8 ≤ ch)) (fun t => t.dmaCtrl ch v)

/-- DMA_START: DMA_CTRL written with START, its other fields as they are. -/
def execDmaStart (m : Master) (ch : Nat) (s : State) : Host.Outcome State Fault Refusal :=
  if ch < 16 then .next (s.ctrlWrite m ch ((s.chan ch).ctrl + 2147483648)) else .next s

/-- DMA_PAUSE: DMA_CTRL written with PAUSE 1. -/
def execDmaPause (m : Master) (ch : Nat) (s : State) : Host.Outcome State Fault Refusal :=
  if ch < 16 then .next (s.ctrlWrite m ch (1073741824 + flag (s.chan ch).irqEn)) else .next s

/-- DMA_RESUME: DMA_CTRL written with PAUSE 0. -/
def execDmaResume (m : Master) (ch : Nat) (s : State) : Host.Outcome State Fault Refusal :=
  if ch < 16 then .next (s.ctrlWrite m ch (flag (s.chan ch).irqEn)) else .next s

/-- DMA_CONTINUE: DMA_CTRL written with CONTINUE. -/
def execDmaContinue (m : Master) (ch : Nat) (s : State) : Host.Outcome State Fault Refusal :=
  if ch < 16 then .next (s.ctrlWrite m ch ((s.chan ch).ctrl + 536870912)) else .next s

/-- DMA_ABORT: DMA_CTRL written with ABORT. -/
def execDmaAbort (m : Master) (ch : Nat) (s : State) : Host.Outcome State Fault Refusal :=
  if ch < 16 then .next (s.ctrlWrite m ch ((s.chan ch).ctrl + 268435456)) else .next s

/-- DMA_CQ_HEAD: a move backwards or beyond the tail has no effect (R615). -/
def Chan.consume (c : Chan) (v : Nat) : Chan :=
  if ahead c.cqTail c.cqHead < ahead v c.cqHead then c else { c with cqHead := v % 65536 }

/-- DMA_CQ_HEAD_WRITE: the consumer advances a channel's completion queue head (R615). -/
def execDmaCqHeadWrite (m : Master) (ch : Nat) (value : Word) (s : State) : Host.Outcome State Fault Refusal :=
  if ch < 16 then
    .next (s.writeReg m (dmaOff ch 0x20) (decide (8 ≤ ch)) (fun t => t.updChan ch (fun c => c.consume value.toNat)))
  else .next s

/-! ## Descriptors and blocks -/

/-- DMA_DESCRIPTOR_START: a running channel without a descriptor fetches the one at DMA_CUR when its queue has room and
its budget is not spent; a bad descriptor halts it (R500, R502, R509). -/
def execDmaDescriptorStart (ch : Nat) (s : State) : Host.Outcome State Fault Refusal :=
  let c := s.chan ch
  if 16 ≤ ch ∨ (c.state ≠ 1 ∧ c.state ≠ 2) ∨ !c.image.isEmpty ∨ c.pause ∨ c.budgetIn ≤ c.done then .next s
  else if !c.room then .next (s.updChan ch (fun k => { k with state := 2 }))
  else if !s.dmaOk ch c.cur 32 then .next ((s.noPath ch c.cur false).dmaError ch c.cur false 1)
  else
    let bs := s.dmaRead (decide (8 ≤ ch)) c.cur 32
    let t := s.updChan ch (fun k => { k with state := 1, image := bs, moved := 0 })
    if t.badDescriptor ch (t.chan ch) then .next (t.dmaHalted ch 4)
    else .next (t.updChan ch (fun k => { k with remain := k.len }))

/-- A channel moves a block when its turn comes: RUNNING or WAITING for its request, with bytes left and not paused
(R501, R505 to R507). -/
def Chan.ready (c : Chan) : Bool :=
  (c.state == 1 || c.state == 2) && !c.image.isEmpty && decide (c.moved < c.len) && !c.pause
    && (c.pace == 0 || (c.req && c.fill != 0))

/-- The bytes of the host log ring that hold no unread record (R438). -/
def State.logFree (s : State) : Nat := s.gr.hostLen - (s.gr.uploaded + 4294967296 - s.gr.hostHead) % 4294967296

/-- Channel 7 has a Grain upload to run: its request stands, records are staged and the host ring has room (R438). -/
def State.uploads (s : State) : Bool :=
  s.gr.started && (s.gr.upload || s.gr.drain) && !s.gr.staged.isEmpty && s.logFree != 0 && (s.chan 7).state != 5
    && !(s.chan 7).pause && s.gr.hostLen != 0

/-- The channel that the engine serves next: channel 7 when it is ready, else the ready channels in turn (R501). -/
def State.serves (s : State) : Option Nat :=
  if s.uploads || (s.chan 7).ready then some 7
  else ((range 1 16).map (fun k => (s.dmaLast + k) % 16)).find? (fun n => n != 7 && (s.chan n).ready)

/-- The bytes of a channel's next block (R501, R506). -/
def Chan.block (c : Chan) : Nat :=
  let src := c.le 0 8 + c.moved
  let dst := c.le 8 8 + c.moved
  let k := min (min (4096 - src % 4096) (4096 - dst % 4096)) (c.len - c.moved)
  if c.pace = 0 then k else min k c.fill

/-- Moves one block of a channel, reading outward to 64-byte boundaries (R501, R504, R507, R508). -/
def State.moveBlock (s : State) (ch : Nat) : State :=
  let c := s.chan ch
  let f := c.flags
  let k := c.block
  let src := c.le 0 8 + c.moved
  let dst := c.le 8 8 + c.moved
  let lo := src / 64 * 64
  let hi := (src + k + 63) / 64 * 64
  let badRead := if bit f 0 then s.firstBad lo (hi - lo) else none
  let badWrite := if bit f 1 then s.firstBad dst k else none
  match badRead, badWrite with
  | some a, _ => s.dmaError ch a false 1
  | none, some a => s.dmaError ch a true 1
  | none, none =>
    let t := (s.dmaWrite (bit f 1) dst (s.dmaRead (bit f 0) src k)).updChan ch (fun x =>
      let fill := x.fill - k
      let req := if x.pace = 0 then x.req else pacing x.req x.marks.1 x.marks.2 fill
      { x with
        moved := x.moved + k
        remain := x.remain - k
        fill := fill
        req := req
        state := if x.pace ≠ 0 ∧ !req ∧ x.moved + k < x.len then 2 else 1 })
    if ch = 7 then t else { t with dmaLast := ch }

/-- Writes the count of bytes uploaded to the Grain SHADOW; an address of 0 names none (R438; log 41). -/
def State.grainShadow (s : State) : State :=
  if s.gr.shadow = 0 then s
  else if s.hostOk s.gr.shadow 4 then s.putHost s.gr.shadow (leBytes 4 s.gr.uploaded)
  else (s.updChan 7 (fun c => { c with errAddr := s.gr.shadow, errDir := true })).haltOnly 7 1

/-- One block of the Grain upload: staged bytes into the host log ring, up to its end and never past HOST_HEAD (R438). -/
def State.uploadBlock (s : State) : State :=
  let off := s.gr.uploaded % s.gr.hostLen
  let dst := s.gr.hostAddr + off
  let k := min (min (4096 - dst % 4096) (s.gr.hostLen - off)) (min s.gr.staged.length s.logFree)
  if s.hostOk dst k then
    let left := s.gr.staged.drop k
    let t : State := { (s.putHost dst (s.gr.staged.take k)) with gr := { s.gr with
      staged := left
      uploaded := (s.gr.uploaded + k) % 4294967296
      drain := s.gr.drain && !left.isEmpty } }
    let t := t.setFill (t.gr.fill - k)
    let t : State := { t with gr := { t.gr with upload := pacing t.gr.upload t.gr.highWm t.gr.lowWm t.gr.fill } }
    (t.updChan 7 (fun c => { c with
      req := t.gr.upload || t.gr.drain
      state := if t.gr.upload || t.gr.drain then 1 else 2 })).grainShadow
  else (s.updChan 7 (fun c => { c with errAddr := (s.firstBad dst k).getD dst, errDir := true })).haltOnly 7 1

/-- DMA_BLOCK: the engine moves one block for the channel whose turn it is (R501). -/
def execDmaBlock (ch : Nat) (s : State) : Host.Outcome State Fault Refusal :=
  if s.serves = some ch then
    .next (if ch = 7 ∧ s.uploads then s.uploadBlock else s.moveBlock ch)
  else .next s

/-- DMA_DESCRIPTOR_COMPLETE: all bytes of the descriptor are written; FLUSH counts, the completion is appended, and the
chain ends at LAST or goes on to NEXT (R503, R505). -/
def execDmaDescriptorComplete (ch : Nat) (s : State) : Host.Outcome State Fault Refusal :=
  let c := s.chan ch
  if 16 ≤ ch ∨ c.image.isEmpty ∨ c.moved ≠ c.len ∨ c.state = 0 ∨ c.state = 4 ∨ c.state = 5 then .next s
  else
    let f := c.flags
    let t := s.updChan ch (fun k => { k with
      flushCnt := if bit f 2 then (k.flushCnt + 1) % 4294967296 else k.flushCnt })
    let t := t.dmaComplete ch (c.le 22 2) 0 (flag (bit f 2) + 2 * flag (bit f 3)) c.len
    if (t.chan ch).state = 5 then .next t
    else
      let t := t.updChan ch (fun k => { k with
        image := []
        moved := 0
        done := k.done + 1
        cur := if bit f 3 then k.cur else c.le 24 8
        state := if bit f 3 then 0 else if k.pause then 4 else 1 })
      .next (if bit f 4 then t.dmaIrq ch else t)

/-- DMA_HALT: a bus error, decode error or timeout of the descriptor in progress (R508). -/
def execDmaHalt (ch : Nat) (err : DmaError) (s : State) : Host.Outcome State Fault Refusal :=
  let c := s.chan ch
  if 16 ≤ ch ∨ c.image.isEmpty ∨ c.state = 0 ∨ c.state = 4 ∨ c.state = 5 then .next s
  else .next (s.dmaError ch err.addr err.write (if err.timeout then 2 else 1))

/-- DMA_LOOP_SUSPECT: the budget is spent without LAST; the channel halts before it fetches the next descriptor, once its
queue has room for the completion (R509, R502). -/
def execDmaLoopSuspect (ch : Nat) (s : State) : Host.Outcome State Fault Refusal :=
  let c := s.chan ch
  if 16 ≤ ch ∨ (c.state ≠ 1 ∧ c.state ≠ 2) ∨ !c.image.isEmpty ∨ c.done < c.budgetIn ∨ !c.room then .next s
  else .next (s.dmaHalted ch 3)

/-- DMA_PACE_REQUEST: the fill of a channel's pacing source is compared with its watermarks (R506). Channel 7 follows the
staging ring under GRAIN_CONFIG's watermarks, whatever fill is named (R438). -/
def execDmaPaceRequest (ch : Nat) (fill : Nat) (s : State) : Host.Outcome State Fault Refusal :=
  if 16 ≤ ch then .next s
  else if ch = 7 ∧ s.gr.started then
    let on := pacing s.gr.upload s.gr.highWm s.gr.lowWm s.gr.fill
    .next (State.updChan { s with gr := { s.gr with upload := on } } 7 (fun c => { c with
      fill := s.gr.fill
      req := on || s.gr.drain }))
  else if (s.chan ch).pace = 0 then .next s
  else .next (s.updChan ch (fun c => c.filled fill))

/-- IC_TIMEOUT: the interconnect ends an unanswered transaction with an error and fires source 5 (R496). -/
def execIcTimeout (m : Master) (write space : Bool) (addr : Nat) (s : State) : Host.Outcome State Fault Refusal :=
  .next ((s.icError m true write space addr).strike 5 0xFFFF)

end Sys2Proof.Machine
end

