-- ==== Sys2Proof/Machine/RegWrites.lean ====
section
/-! DEFINITION. Register writes by any master and the debug port: REGISTER_WRITE (R10, R12, R605 to R609, R615, R578) and
DEBUG_PORT_TRANSACTION (R488 to R491, R611). -/
namespace Sys2Proof.Machine

/-! ## What a write of a register does -/

/-- Runs a meaning that is a step and keeps its next state. -/
def nextOf (o : Host.Outcome State Fault Refusal) (s : State) : State :=
  match o with
  | .next t => t
  | .fault _ => s
  | .refused _ => s

/-- A write to a register of mailbox `n` (Table Mailbox registers). -/
def State.writeMailbox (s : State) (n o : Nat) (v : Word) : State :=
  match o with
  | 0x18 => if bit v.toNat 0 then s.enableSet n else s.enableClear n
  | 0x20 => s.doorbell n v
  | 0x2C => s.consumeCpl n v
  | 0x30 => s.irqCtrl n v
  | 0x34 => s.updMbox n (fun m => { m with
      takeover := m.takeover && !bit v.toNat 2
      err := m.err && !bit v.toNat 1
      cpl := m.cpl && !bit v.toNat 0 })
  | 0x3C => s.resetWrite n v
  | _ => if o ≤ 0x14 then s.ringBase n o v else s

/-- A write to a device-wide MAILBOX register: the boot registers, only while STAGE is 4 (R578). -/
def State.writeBoot (s : State) (o : Nat) (v : Word) : State :=
  if s.startup.stage ≠ 4 ∨ s.startup.stopped then s
  else match o with
    | 0x10 => { s with startup := { s.startup with bootAddr := setHalf s.startup.bootAddr false 6 v } }
    | 0x14 => { s with startup := { s.startup with bootAddr := setHalf s.startup.bootAddr true 0 v } }
    | 0x18 => { s with startup := { s.startup with bootLen := v.toNat } }
    | 0x1C => nextOf (execBootGo v s) s
    | _ => s

/-- A write to a register of a DMA channel; those that need an idle channel are ignored on another (R615). The fill of a new pacing
source is counted from there on (R506; DESIGN CHOICE, log 151). -/
def State.writeChan (s : State) (ch o : Nat) (v : Word) : State :=
  let n := v.toNat
  let idle := (s.chan ch).state == 0
  let whenIdle := fun (f : Chan → Chan) => if idle then s.updChan ch f else s
  match o with
  | 0x00 => s.dmaCtrl ch n
  | 0x04 => s.updChan ch (fun c => { c with irq := c.irq && !bit n 0 })
  | 0x08 => whenIdle (fun c => { c with desc := setHalf c.desc false 5 v })
  | 0x0C => whenIdle (fun c => { c with desc := setHalf c.desc true 0 v })
  | 0x10 => whenIdle (fun c => { c with cqBase := setHalf c.cqBase false 12 v })
  | 0x14 => whenIdle (fun c => { c with cqBase := setHalf c.cqBase true 0 v })
  | 0x18 => if 4 ≤ n % 32 ∧ n % 32 ≤ 16 then whenIdle (fun c => { c with cqSize := n % 32 }) else s
  | 0x20 => s.updChan ch (fun c => c.consume n)
  | 0x24 => if 1 ≤ n ∧ n ≤ 16777216 then s.updChan ch (fun c => { c with budget := n }) else s
  | 0x28 =>
    let p := n % 16
    if (p = 1 ∧ ch ≠ 7) ∨ 9 < p then s else s.updChan ch (fun c => { c with pace := p, fill := if p = c.pace then c.fill else 0 })
  | 0x2C => s.updChan ch (fun c => { c with highWm := n })
  | 0x30 => s.updChan ch (fun c => { c with lowWm := n })
  | _ => s

/-- A write to the register at an offset, where its access allows one; an RWL field is read-only once BOOT_LOCK is set
(R605, R611). -/
def State.regWrite (s : State) (o : Nat) (v : Word) : State :=
  if 0x100000 ≤ o ∧ o < 0x110000 then s.writeMailbox ((o - 0x100000) / 0x1000) (o % 0x1000) v
  else if 0x110000 ≤ o ∧ o < 0x110024 then s.writeBoot (o - 0x110000) v
  else if 0x1000000 ≤ o ∧ o < 0x11E0000 ∧ o % 0x1000 = 0x10 then s.testCtrlWrite ((o - 0x1000000) / 0x1000) v
  else if 0x2C00000 ≤ o ∧ o < 0x2C01000 then s.writeChan ((o - 0x2C00000) / 0x100) (o % 0x100) v
  else if o = 0x14 ∧ bit v.toNat 0 then { s with startup := { s.startup with bootLock := true } }
  else if o = 0x3400000 ∧ bit v.toNat 0 ∧ !s.startup.bootLock then { s with startup := { s.startup with mapSwap := true } }
  else s

/-- The registers that the host may write: MAILBOX, its own DMA channels, and the test registers of a lane in test
(R12). -/
def State.hostMay (s : State) (o : Nat) : Bool :=
  decide (0x100000 ≤ o ∧ o < 0x110024) || decide (0x2C00800 ≤ o ∧ o < 0x2C01000)
    || (decide (0x1000000 ≤ o ∧ o < 0x11E0000) && (s.lane ((o - 0x1000000) / 0x1000)).test != 0)

/-- An offset lies in a range and, within its stride, at one of some places. -/
def atPlace (o lo hi stride : Nat) (places : List Nat) : Bool :=
  decide (lo ≤ o ∧ o < hi) && places.contains ((o - lo) % stride)

/-- Whether an offset outside MAILBOX and the DMA channels holds a register (R610, Table Register blocks and the tables it
names). -/
def isRegister (o : Nat) : Bool :=
  (o % 4 == 0 && (decide (o ≤ 0x24) || [0x40, 0x48, 0x4C, 0x80].contains o
    || decide (0x200000 ≤ o ∧ o ≤ 0x200040) || decide (0x201000 ≤ o ∧ o < 0x201400) || decide (0x202000 ≤ o ∧ o < 0x202800)
    || o == 0x300000 || decide (0x300010 ≤ o ∧ o < 0x300030)
    || decide (0xE00000 ≤ o ∧ o < 0x1000000)
    || decide (0x1810000 ≤ o ∧ o < 0x1817D00) || decide (0x1820000 ≤ o ∧ o < 0x1827D00)
    || decide (0x1830000 ≤ o ∧ o < 0x1831F40)
    || decide (0x1C00000 ≤ o ∧ o ≤ 0x1C00008) || decide (0x1C10000 ≤ o ∧ o < 0x1C14000)
    || decide (0x2400000 ≤ o ∧ o < 0x2400008)
    || o == 0x2800000 || o == 0x2800004 || decide (0x2800100 ≤ o ∧ o < 0x2800140)
    || o == 0x2C01000 || decide (0x3000000 ≤ o ∧ o < 0x30000C0)
    || decide (0x3400000 ≤ o ∧ o < 0x3400010) || decide (0x3800000 ≤ o ∧ o < 0x3800010)))
    || atPlace o 0x400000 0x400800 0x100 [0, 4, 8, 12, 16, 20]
    || atPlace o 0x401000 0x401400 0x40 [0, 16, 20, 24, 28]
    || atPlace o 0x800000 0x840000 0x400 [0, 4]
    || (decide ((o - 0xC00000) % 0x1000 < 0x200) && atPlace o 0xC00000 0xC10000 0x40 [0, 4])
    || atPlace o 0xC00000 0xC10000 0x1000 [0x800, 0x804, 0x808]
    || atPlace o 0x1000000 0x11E0000 0x1000 [0, 0x10, 0x18, 0x1C, 0x20]
    || atPlace o 0x1400000 0x1400300 0x100 [0]
    || atPlace o 0x1800000 0x1800080 0x10 [0, 4]
    || atPlace o 0x2000000 0x2000800 0x100 [0]
    || atPlace o 0x2C00000 0x2C00800 0x100
        [0, 4, 8, 12, 16, 20, 24, 28, 32, 36, 40, 44, 48, 56, 60, 64, 72, 76, 80]

/-- An offset lies in the scan, fuse-sense and debug controls, whose effect the spec does not give. -/
def inDebugBlock (o : Nat) : Bool := decide (0x3C00000 ≤ o ∧ o < 0x4000000)

/-- One 32-bit write of a register by a master; `whole` is false for a write of fewer bytes, which has no effect (R606). A write
to an offset that holds no register has no effect, and is no refused write either (R605, R609; log 44). -/
def State.writeOne (s : State) (m : Master) (whole : Bool) (o : Nat) (v : Word) : State :=
  s.writeReg m o (s.hostMay o || !(isRegister o || inDebugBlock o)) (fun t => if whole then t.regWrite o v else t)

/-- A write of registers by a master: a wide one as 32-bit writes in ascending address order (R606). -/
def State.writeAcc (s : State) (m : Master) (a : Access) (value : Nat) : State :=
  a.words.zipIdx.foldl (fun t q => t.writeOne m (decide (4 ≤ a.size)) q.1 (BitVec.ofNat 32 (value / 2 ^ (32 * q.2)))) s

/-- A master's writes reach the registers of the debug unit. -/
def State.reachesDebug (s : State) (m : Master) : Bool :=
  match m with
  | .host => false
  | .cc0 => !s.ic.cc0Closed
  | .cc1 => !s.ic.cc1Closed
  | .debug => !s.startup.bootLock
  | .dma => false

/-- REGISTER_WRITE: a write of one register or several by a master. -/
def execRegisterWrite (m : Master) (a : Access) (value : Nat) (s : State) : Host.Outcome State Fault Refusal :=
  if a.words.any inDebugBlock && s.reachesDebug m then .refused .debugUnit
  else .next (s.writeAcc m a value)

/-! ## The debug port (R488, R489) -/

/-- The paths of the debug port to memories for an access of `n` bytes: boot ROM and staging ring for reading, control SRAM
and the HBM window for both (Table Interconnect paths). -/
def State.debugPath (s : State) (write : Bool) (a n : Nat) : Bool :=
  let rom := decide (0xF0000000 ≤ a ∧ a + n ≤ 0xF0040000) || (!s.startup.mapSwap && decide (a + n ≤ 0x40000))
  !s.startup.bootLock
    && (inHbm a n || ((s.sramOffset a).any (fun o => decide (o + n ≤ 0x800000)))
        || (!write && (rom || decide (0x20000000 ≤ a ∧ a + n ≤ 0x20400000))))

/-- The bytes at a device address that the debug port may read. -/
def State.debugBytes (s : State) (a n : Nat) : List Byte :=
  if 0xF0000000 ≤ a ∧ a < 0xF0040000 ∨ (!s.startup.mapSwap ∧ a < 0x40000) then
    (range 0 n).map (fun i => Config.bootRom (a % 0x40000 + i))
  else s.dmaRead false a n

/-- DEBUG_PORT_TRANSACTION: an access at a device address, which is a register access, a memory access, or a decode error; any sets DEBUG_SEEN. Its controls in
DEBUG/TEST are not described and are refused. -/
def execDebugPortTransaction (write : Bool) (a : Access) (value : Nat) (s : State) : Host.Outcome State Fault Refusal :=
  let t := s.seenDebug .debug
  if 0x40000000 ≤ a.off ∧ a.off < 0x44000000 then
    let r : Access := ⟨a.off - 0x40000000, a.size⟩
    if r.words.any inDebugBlock && (!write || !s.startup.bootLock) then .refused .debugUnit
    else .next (if write then s.writeAcc .debug r value else s.readReg .debug r)
  else if s.debugPath write a.off a.size then
    .next (if write then t.dmaWrite false a.off (leBytes a.size value)
      else t.drawFree.returnData .debug (t.debugBytes a.off a.size))
  else .next (t.icError .debug false write false a.off)

end Sys2Proof.Machine
end

