-- ==== Sys2Proof/Machine/Specs.lean ====
section
/-! DEFINITION. The table of the Balix commands by opcode (17 R446, R447 step 1): what Balix knows of each opcode. -/
namespace Sys2Proof.Machine

/-- The commands by opcode, part A. -/
def specsA : List CmdSpec :=
  [cmdDeviceInfo, cmdFwStatus, cmdSessionOpen, cmdSessionClose, cmdNopEcho, cmdTdConfig, cmdRefConfig,
   cmdRefPriority, cmdRefStatus, cmdRefForce, cmdFpRealign, cmdCutoffSet, cmdTbConfig, cmdTbOffset, cmdTbStep,
   cmdPtpInstance, cmdTbStatus, cmdSrcBind, cmdSrcStatus, cmdRxFlowSet]

/-- The commands by opcode, part B. -/
def specsB : List CmdSpec :=
  [cmdRxFlowClear, cmdSrcSyncMode, cmdXptTake, cmdXptSalvoLoad, cmdXptSalvoFire, cmdXptProtect, cmdXptLock,
   cmdXptQuery, cmdPlaneControl, cmdPlaneStatus, cmdDstBind, cmdTxFlowSet, cmdDstStatus, cmdDstMitreSet,
   cmdAudGainSet, cmdAudGainBlock, cmdAudMapIn, cmdAudMapOut, cmdAudRampSet, cmdAudStatus]

/-- The commands by opcode, part C. -/
def specsC : List CmdSpec :=
  [cmdAudFollow, cmdMqLayout, cmdMqVeneer, cmdMqFenceGroup, cmdMqOutput, cmdMqCompare, cmdMqStatus, cmdDtLinkUp,
   cmdDtStatus, cmdDtGroup, cmdDtTieReserve, cmdPairConfig, cmdPairStatus, cmdPairMirrorSet, cmdPairSwitch,
   cmdPairResync, cmdFaultRead, cmdFaultAck, cmdFaultMap, cmdFaultInject]

/-- The commands by opcode, part D. -/
def specsD : List CmdSpec :=
  [cmdSelftestRun, cmdKeyLoad, cmdKeyDerive, cmdKeyInvalidate, cmdKeyInfo, cmdAttest, cmdIdCertRead, cmdGrainConfig,
   cmdGrainWitness, cmdGrainSeal, cmdGrainStatus, cmdPwrTolerance, cmdPwrStatus, cmdPwrPin, cmdLaneConfig, cmdLaneEq,
   cmdLaneBitslip, cmdLanePrbs, cmdLaneEyescan, cmdPortConfig]

/-- The commands by opcode, part E. -/
def specsE : List CmdSpec :=
  [cmdMacsecSc]

/-- The command of an opcode; none when Balix does not define it (R65). -/
def specOf (op : Nat) : Option CmdSpec :=
  (specsA ++ specsB ++ specsC ++ specsD ++ specsE).find? (fun p => p.opcode == op)

/-- The kind of an opcode for R73: tick-applied or not; none for an undefined one. -/
def kindOf (op : Nat) : Option Bool := (specOf op).map CmdSpec.isTick

end Sys2Proof.Machine
end

