-- ==== Sys2Proof/Machine/Fetch.lean ====
section
/-! DEFINITION. Balix fetches commands and chains, posts completions, and lets commands that waited for a power domain act
(chapter 03, 15 R424, 21 R587 to R589). -/
namespace Sys2Proof.Machine

/-! ## Reading a command ring (R55, R63, R72, R621) -/

/-- A mailbox becomes faulted: ERR with CAUSE 9, and no completion of its commands in flight is written (R621). -/
def State.faultRing (s : State) (n : Nat) : State :=
  let t := s.setErr n 9
  let t := t.updMbox n (fun m => { m with faulted := true })
  { t with bx := { t.bx with flights := t.bx.flights.map (fun f => if f.mb = n then { f with mute := true } else f) } }

/-- The host address of the slot of a free-running count (R55, R56). -/
def Mailbox.cmdSlot (m : Mailbox) (count : Nat) : Nat := m.cmdBase + 64 * (count % 256)

/-- Commands visible and not fetched (R58). -/
def Mailbox.visible (m : Mailbox) : Nat := ahead m.cmdTail m.cmdHead

/-- What a visit to a mailbox finds in its ring. -/
inductive Found where
  | nothing
  | unreadable
  | commands (cs : List Cmd)
  deriving DecidableEq, Repr

/-- Reads on from slot `i` of what is visible until a command without CHAIN, or until the commands left to read are used
up; a chain not yet wholly visible waits (R72). -/
def State.readRing (s : State) (n : Nat) : Nat → Nat → List Cmd → Found
  | 0, _, got => .commands got
  | k + 1, i, got =>
    let m := s.mbox n
    let a := m.cmdSlot (m.cmdHead + i)
    if m.visible ≤ i then .nothing
    else if !s.hostOk a 64 then .unreadable
    else
      let c : Cmd := { bytes := s.hostMem.readBytes a 64 }
      if c.chain then s.readRing n k (i + 1) (got ++ [c]) else .commands (got ++ [c])

/-- What a visit to a mailbox finds: a chain is cut at its 17th member (R72, R73). -/
def State.visit (s : State) (n : Nat) : Found :=
  let m := s.mbox n
  if m.en && !m.faulted && s.hasRoom n 1 then s.readRing n 17 0 [] else .nothing

/-- A visit brings something about: a fetch with room for every member (R62) and with no KEY_EVENT to be written first (15 R422), or a
ring failure. -/
def State.fetchable (s : State) (n : Nat) : Bool :=
  match s.visit n with
  | .nothing => false
  | .unreadable => true
  | .commands cs => s.hasRoom n cs.length && cs.all s.keysLogged

/-- The mailbox visited next with something to fetch, round robin after the last (R63). -/
def State.nextVisit (s : State) : Option Nat :=
  ((range 1 16).map (fun i => (s.bx.lastMb + i) % 16)).find? s.fetchable

/-- The acceptance stamp of the command at place `i` of what is visible: that of the first doorbell write that made it
visible (R36, R72). -/
def State.stampAt (s : State) (n i : Nat) : Nat :=
  let m := s.mbox n
  ((m.stamps.find? (fun p => decide (i < ahead p.1 m.cmdHead))).map (fun p => p.2)).getD s.nowNs

/-- `k` commands have been fetched: MB_CMD_HEAD passes them (R56, R59). -/
def Mailbox.pass (m : Mailbox) (k : Nat) : Mailbox :=
  let h := (m.cmdHead + k) % 65536
  { m with
    cmdHead := h
    stamps := m.stamps.filter (fun p => decide (0 < ahead p.1 h ∧ ahead p.1 h ≤ 256)) }

/-! ## Chains (R73, R74) -/

/-- The byte that R73 reports when members break its rule; none when they keep it. -/
def chainFault (cs : List Cmd) : Option Nat :=
  let known := cs.filter (fun c => (specOf c.opcode).isSome)
  match known with
  | [] => if 16 < cs.length then some 5 else none
  | f :: rest =>
    if 16 < cs.length then some 5
    else if rest.any (fun c => kindOf c.opcode != kindOf f.opcode) then some 0
    else if kindOf f.opcode = some true then
      (if rest.any (fun c => c.atTick != f.atTick || c.lateOk != f.lateOk) then some 5
       else if rest.any (fun c => c.td != f.td) then some 6
       else if rest.any (fun c => c.tick != f.tick) then some 8
       else none)
    else none

/-- Settles the members of a chain that is refused: each with a reply of its own where the first function gives one, the
rest alike. -/
def State.settleChain (s : State) (ids : List (Nat × Option Rep)) (rest : Rep) : State :=
  ids.foldl (fun t q => t.settle q.1 (q.2.getD rest)) s

/-- The members' own refusals: BAD_OPCODE for each undefined opcode, and that of member `id` when one is named. -/
def ownReplies (ids : List (Nat × Cmd)) (one : Option (Nat × Rep)) : List (Nat × Option Rep) :=
  ids.map (fun q =>
    (q.1,
      if (specOf q.2.opcode).isNone then some repBadOpcode
      else one.bind (fun r => if r.1 = q.1 then some r.2 else none)))

/-- The outcome of judging and carrying out the members of a chain that is not tick-applied. -/
inductive ChainOutcome where
  | refused (id : Nat) (r : Rep)
  | acted (s : State)

/-- Judges each member against the state that those before it leave, and carries it out (R74). A member whose own act fails
counts as refused. -/
def State.actChain (s : State) (mb stamp : Nat) : List (Nat × Cmd) → ChainOutcome
  | [] => .acted s
  | (id, c) :: rest =>
    let x := s.ctxOf mb c stamp id
    match specOf c.opcode with
    | none => .refused id repBadOpcode
    | some p =>
      match judge p s x with
      | some r => .refused id r
      | none =>
        let t := (s.updFlight id (fun f => { f with sess := x.sess, rank := x.rank, roles := x.roles })).carryOut p x
        match p.isTick, t.flight? id with
        | false, some f =>
          (match f.reply with
           | some r => if r.ok then t.actChain mb stamp rest else .refused id r
           | none => t.actChain mb stamp rest)
        | _, _ => t.actChain mb stamp rest

/-- A chain that is not tick-applied and accepted whole: it acts, or waits as one for the domains its members need
(R74, R587). -/
def State.acceptPlain (s : State) (mb stamp : Nat) (ms : List (Nat × Cmd)) : State :=
  match s.actChain mb stamp ms with
  | .refused id r => s.settleChain (ownReplies ms (some (id, r))) (repAborted 4)
  | .acted t =>
    let needs := ms.flatMap (fun q => commandNeeds q.2.opcode q.2)
    let u := s.wakeAll needs
    match u.asleep needs with
    | none => t
    | some n => ms.foldl (fun v q => v.updFlight q.1 (fun f => { f with phase := .waking n })) u

/-- A chain that is tick-applied: one unit of R46 and R74. -/
def State.acceptTicks (s : State) (mb stamp : Nat) (ms : List (Nat × Cmd)) : State :=
  match s.tickUnit (ms.filterMap (fun q => (specOf q.2.opcode).map (fun p => (p, s.ctxOf mb q.2 stamp q.1)))) with
  | .member id r => s.settleChain (ownReplies ms (some (id, r))) (repAborted 4)
  | .all r => s.settleChain (ms.map (fun q => (q.1, none))) r
  | .staged t => t

/-- A chain of two or more members in flight. -/
def State.acceptChain (s : State) (mb stamp : Nat) (ms : List (Nat × Cmd)) : State :=
  let cs := ms.map (fun q => q.2)
  match chainFault cs with
  | some off => s.settleChain (ownReplies ms none) (repBadArg off)
  | none =>
    if cs.any (fun c => (specOf c.opcode).isNone) then s.settleChain (ownReplies ms none) (repAborted 4)
    else if cs.any (fun c => kindOf c.opcode == some true) then s.acceptTicks mb stamp ms
    else s.acceptPlain mb stamp ms

/-! ## COMMAND_FETCH -/

/-- Puts fetched commands in flight as one chain. -/
def State.enterAll (s : State) (mb stamp : Nat) (ids : List Nat) : List Cmd → State
  | [] => s
  | c :: cs => (s.enter mb c stamp ids).enterAll mb stamp ids cs

/-- Fetches what a visit found in a mailbox (R58, R63, R72). -/
def State.fetch (s : State) (n : Nat) (cs : List Cmd) : State :=
  let stamp := s.stampAt n (cs.length - 1)
  let ids := range s.newId cs.length
  let t := (s.updMbox n (fun m => m.pass cs.length)).enterAll n stamp ids cs
  match cs with
  | [c] =>
    (match specOf c.opcode with
     | some p => t.acceptOne p (t.ctxOf n c stamp s.newId)
     | none => t.settle s.newId repBadOpcode)
  | _ => t.acceptChain n stamp (ids.zip cs)

/-- COMMAND_FETCH: one command, or one whole chain, of the next mailbox in turn (R61 to R67, R72 to R74). What is fetched
together in the sense of R46 is this one command or chain; mailboxes are not ordered by their stamps (DESIGN CHOICE, log 102). -/
def execCommandFetch (s : State) : Host.Outcome State Fault Refusal :=
  if s.balixUp then
    match s.nextVisit with
    | none => .next s
    | some n =>
      let t : State := { s with bx := { s.bx with lastMb := n } }
      (match s.visit n with
       | .nothing => .next s
       | .unreadable => .next (t.faultRing n)
       | .commands cs => .next (t.fetch n cs))
  else .next s

/-! ## COMPLETION_POST (R51, R54, R60, R71, R75, R80, R86) -/

/-- The members of a flight's chain, in ring order. -/
def State.chainOf (s : State) (f : Flight) : List Flight :=
  s.bx.flights.filter (fun g => g.id == f.id || f.chain.contains g.id)

/-- A flight's completion is decided and its records are in the chain (R431). -/
def Flight.due (f : Flight) : Bool :=
  match f.reply with
  | some r => !r.ok || decide (f.records = 0)
  | none => false

/-- A completion that must be posted before that of `f`: the ABORTED ones of a session closed by it (R80), and those of a
takeover before a command fetched after it (R86). -/
def State.goesBefore (s : State) (f g : Flight) : Bool :=
  !(g.id == f.id || f.chain.contains g.id)
    && ((f.cmd.opcode == 0x0104 && g.abortedBy 2
          && g.mb == (if f.cmd.u8 16 = 0xFF then f.mb else f.cmd.u8 16))
        || (decide (s.bx.tookId ≤ f.id ∧ g.id < s.bx.tookId) && g.abortedBy 1))

/-- The low 16 bits of a salvo's tick in each domain but its own, with the domains that had entries (Table Salvo completion
result). -/
def Flight.salvoResult (f : Flight) : List Byte :=
  let has := fun (d : Nat) => f.ticks.find? (fun q => q.1 == d)
  leBytes 2 ((range 0 8).foldl (fun k d => k + (if (has d).isSome then 2 ^ d else 0)) 0)
    ++ ((range 0 8).filter (fun d => d != f.cmd.td)).flatMap (fun d => leBytes 2 (((has d).map (fun q => q.2)).getD 0))

/-- RESULT as it is posted: a salvo's from its ticks, a take's with the plane trusted now (Table XPT_TAKE result). -/
def State.resultNow (s : State) (f : Flight) (r : Rep) : List Byte :=
  if r.ok && f.cmd.opcode == 0x0503 then resultOf f.salvoResult
  else if r.ok && f.cmd.opcode == 0x0501 then
    resultOf (slice r.result 0 3 ++ leBytes 1 (flag (s.out (f.cmd.u16 16)).trustB) ++ slice r.result 4 4)
  else resultOf r.result

/-- Whether the command of a flight is tick-applied. -/
def Flight.isTick (f : Flight) : Bool := kindOf f.cmd.opcode == some true

/-- EFF_TICK of the completion of a flight, one for its chain (R75): that of R42 of its first member that is not tick-applied;
without one, that of the tick-applied members, and a free value, which the spec does not state, when none of them had an
effect (DEDUCED, log 77). -/
def State.effOf (s : State) (f : Flight) : List Byte :=
  let c := s.chainOf f
  match c.find? (fun g => !g.isTick) with
  | some g => leBytes 8 g.eff
  | none =>
    if c.all (fun g => !((g.reply.getD {}).ok)) then (range 0 8).map (Config.freeByte s.bx.free)
    else leBytes 8 (c.foldl (fun k g => max k g.eff) 0)

/-- The 32 bytes of a completion entry (Table Completion format). -/
def State.cplEntry (s : State) (f : Flight) : List Byte :=
  let r := f.reply.getD {}
  leBytes 2 f.cmd.tag ++ leBytes 2 f.cmd.opcode ++ leBytes 1 r.status ++ leBytes 3 0 ++ s.effOf f ++ s.resultNow f r

/-- A mailbox raises CPL: its count and hold-off start afresh (R84). -/
def State.raiseCpl (s : State) (n : Nat) : State :=
  let t := s.updMbox n (fun m => { m with cpl := true, sinceIrq := 0, oldest := none })
  if (s.mbox n).cplEn then t.raiseVector n else t

/-- A completion has been posted: it counts towards CPL (R84). -/
def State.countCpl (s : State) (n : Nat) : State :=
  let t := s.updMbox n (fun m => { m with sinceIrq := m.sinceIrq + 1, oldest := m.oldest <|> some s.clk })
  if (s.mbox n).cnt ≤ (s.mbox n).sinceIrq + 1 then t.raiseCpl n else t

/-- Writes one completion entry, then the tail, the shadow and the interrupt (R60, R621). A completion whose shadow could not
be written has passed the tail but does not count towards CPL (R621 says neither; DESIGN CHOICE, log 101). -/
def State.writeCpl (s : State) (f : Flight) : State :=
  let m := s.mbox f.mb
  let a := m.cplBase + 32 * (m.cplTail % 256)
  if f.mute || m.faulted then s
  else if !s.hostOk a 32 then s.faultRing f.mb
  else
    let tail := (m.cplTail + 1) % 65536
    let t := (s.putHost a (s.cplEntry f)).updMbox f.mb (fun k => { k with cplTail := tail })
    if m.shadow = 0 then t.countCpl f.mb
    else if t.hostOk m.shadow 4 then (t.putHost m.shadow (leBytes 4 tail)).countCpl f.mb
    else t.faultRing f.mb

/-! ### The configuration digest (R424) -/

/-- The commands of Table Configuration commands. -/
def isConfig (c : Cmd) : Bool :=
  [0x0201, 0x0207, 0x0202, 0x0203, 0x0301, 0x0304, 0x0401, 0x0405, 0x0403, 0x0404, 0x0601, 0x0602, 0x0604, 0x0703,
    0x0704, 0x0804, 0x0901, 0x0903, 0x0A01, 0x0A03, 0x0B03, 0x0E01, 0x0E03, 0x0F01, 0x0F02, 0x0F06, 0x0F07, 0x0C01,
    0x0C02, 0x0C03, 0x0D01, 0x0D02].contains c.opcode
    || (c.opcode == 0x0705 && c.u8 16 == 1)

/-- The image of a configuration command: bytes 2 to 4 zero, and bytes 24 to 63 of KEY_LOAD. -/
def configImage (f : Flight) (eff : List Byte) : List Byte :=
  let c := f.cmd.field 0 2 ++ leBytes 3 0 ++ f.cmd.field 5 59
  let c := if f.cmd.opcode = 0x0C01 then slice c 0 24 ++ List.replicate 40 0 else c
  c ++ eff ++ (if f.cmd.ptr then sha384Bytes f.buf else [])

/-- A completed configuration command extends the digest. -/
def State.extendDigest (s : State) (f : Flight) (eff : List Byte) : State :=
  if isConfig f.cmd && (f.reply.getD {}).ok then
    { s with bx := { s.bx with
      digest := sha384 (beBytes 48 s.bx.digest.toNat ++ configImage f eff) } }
  else s

/-- What follows the posting of one completion: the digest, and the KEY_EVENT of a load or derive (R422). -/
def State.afterPost (s : State) (f : Flight) (eff : List Byte) (written : Bool) : State :=
  let t := s.extendDigest f eff
  if written && (f.reply.getD {}).ok && (f.cmd.opcode == 0x0C01 || f.cmd.opcode == 0x0C02) then
    t.keyEvent (f.cmd.u16 16) (if f.cmd.opcode = 0x0C01 then 0 else 1) t.clk
  else t

/-- Posts one completion of a chain. -/
def State.postOne (s : State) (f : Flight) : State :=
  let eff := s.effOf f
  let t := s.writeCpl f
  t.afterPost f eff (decide ((t.mbox f.mb).cplTail ≠ (s.mbox f.mb).cplTail))

/-- A chain of completions may be posted now. -/
def State.mayPost (s : State) (f : Flight) : Bool :=
  (s.chainOf f).all (fun g => g.due && s.bx.flights.all (fun k => !s.goesBefore g k))

/-- COMPLETION_POST: the completions of a command's chain are posted together and their places are free (R51, R60, R75, R86). -/
def execCompletionPost (id : Nat) (s : State) : Host.Outcome State Fault Refusal :=
  match s.flight? id with
  | none => .next s
  | some f =>
    if s.balixUp && s.mayPost f then
      let t := ((s.chainOf f).foldl (fun u g => u.postOne g) s).drawFree
      .next (State.takeoverDone { t with bx := { t.bx with
        flights := t.bx.flights.filter (fun g => !(g.id == f.id || f.chain.contains g.id)) } })
    else .next s

/-- CPL_HOLDOFF_EXPIRY: the hold-off has passed since the oldest completion not signalled (R84). -/
def execCplHoldoffExpiry (mb : Nat) (s : State) : Host.Outcome State Fault Refusal :=
  match (s.mbox mb).oldest with
  | some t => if s.passed t (tuUs (s.mbox mb).holdoff) then .next (s.raiseCpl mb) else .next s
  | none => .next s

/-! ## Wakes that end (R587, R589) -/

/-- A flight waits for a power domain. -/
def Flight.isWaking (f : Flight) : Bool :=
  match f.phase with
  | .waking _ => f.reply.isNone
  | .staged => false
  | .sealed => false
  | .begun => false

/-- The domains that a flight's chain needs. -/
def State.chainNeeds (s : State) (f : Flight) : List Nat :=
  (s.chainOf f).flatMap (fun g => commandNeeds g.cmd.opcode g.cmd)

/-- A command that waited for its domains takes effect, as its chain does, without being judged again. -/
def State.wakeOne (s : State) (f : Flight) : State :=
  match s.asleep (s.chainNeeds f), specOf f.cmd.opcode with
  | some n, _ => s.updFlight f.id (fun g => { g with phase := .waking n })
  | none, none => s
  | none, some p =>
    (s.updFlight f.id (fun g => { g with phase := .begun })).carryOut p
      { id := f.id, mb := f.mb, cmd := f.cmd, stamp := f.stamp, sess := f.sess, rank := f.rank, roles := f.roles,
        buf := f.buf }

/-- A command acts when its turn comes if it still waits then: one before it may have settled it (R69, R80). -/
def State.wakeFlight (s : State) (id : Nat) : State :=
  match s.flight? id with
  | some f => if f.isWaking then s.wakeOne f else s
  | none => s

/-- The commands that waited act, in the order in which they were fetched. -/
def State.wakeFlights (s : State) : State :=
  ((s.bx.flights.filter Flight.isWaking).map (fun f => f.id)).foldl State.wakeFlight s

/-- The duration of a wake that ends now in whole microseconds, the part of one left out (R480; DESIGN CHOICE, log 149). -/
def PwrDomain.wakeTook (d : PwrDomain) (now : Nat) : Nat := min 4294967295 ((now - d.wakeFrom) / tuUs 1)

/-- PWR_WAKE_COMPLETE: a waking domain is ON, no later than its wake time, and what waited for it takes effect (R587). How long the wake
took is counted, whatever the row says. -/
def execPwrWakeComplete (dom _us : Nat) (s : State) : Host.Outcome State Fault Refusal :=
  let d := s.pdom dom
  if d.waking ∧ s.clk ≤ d.wakeAt then
    .next (s.setPdom dom { d with
      state := 0
      waking := false
      second := false
      lastWake := d.wakeTook s.clk }).wakeFlights
  else .next s

/-- The staged work that needs a domain has not been sealed: its commands (R587, R589). -/
def State.stagedFor (s : State) (dom : Nat) : List Nat :=
  (s.bx.staged.filter (fun w => !w.isSealed && (w.entries.flatMap s.entryNeeds).contains dom)).map (fun w => w.id)

/-- The commands that wait for a domain whose wake failed twice complete BAD_STATE with 0x20; the other members of their
chains complete ABORTED with detail 4 (R589, R74). -/
def State.wakeFailed (s : State) (dom : Nat) : State :=
  let hit := fun (f : Flight) => f.reply.isNone
    && ((f.isWaking && (commandNeeds f.cmd.opcode f.cmd).contains dom) || (s.stagedFor dom).contains f.id)
  let chains := ((s.bx.flights.filter hit).flatMap (fun f => f.chain))
  let t := s.refuseWhere hit (repByte 0x12 0x20)
  t.refuseWhere (fun f => chains.contains f.id) (repAborted 4)

/-- PWR_WAKE_TIMEOUT: a wake that has not ended in its time fires source 212. The first goes to OFF and wakes once more from
there; the second leaves the domain OFF (R589). -/
def execPwrWakeTimeout (dom : Nat) (s : State) : Host.Outcome State Fault Refusal :=
  let d := s.pdom dom
  if d.waking ∧ d.wakeAt < s.clk then
    let t := (s.losePower dom).strike 212 0xFFFF
    if d.second then
      .next ((t.setPdom dom { d with state := 3, waking := false, second := false, failed := true }).wakeFailed dom)
    else .next (t.setPdom dom { d with state := 3, second := true, wakeFrom := s.clk, wakeAt := s.clk + tuUs (offWakeUs dom) })
  else .next s

end Sys2Proof.Machine
end

