-- ==== Sys2Proof/Machine/Cutoff.lean ====
section
/-! DEFINITION. The cutoff of a tick (02 R37 to R53, 03 R82, R83, 08 R206, R210 to R230, R363, R375): deferral, the checks
made again, contention, read-outs, and the sealing of the bank. -/
namespace Sys2Proof.Machine

/-! ## Work that a cutoff seals -/

/-- The unsealed work of a domain for ticks up to `n`, in allotment order. -/
def State.due (s : State) (d n : Nat) : List Staged :=
  s.bx.staged.filter (fun w => w.td == d && !w.isSealed && decide (w.tick ≤ n))

/-- The work of a command in a domain goes to another tick: the effective tick of its command follows (R42, R49, R54). -/
def State.retick (s : State) (id d n : Nat) (late : Bool) : State :=
  let t := s.updWork id d (fun w => { w with tick := n })
  t.updFlight id (fun f => { f with
    late := f.late || late
    eff := if f.cmd.td = d then n else f.eff
    ticks := f.ticks.map (fun q => if q.1 = d then (d, n) else q) })

/-! ## Salvos at their common cutoff (R223, R224) -/

/-- The protect of a destination, or its lock, that governs a take for a tick: the one in force after the sealed ones of
earlier ticks (R215, R223). -/
def State.heldAt (s : State) (lk : Bool) (dst tick : Nat) : Option Nat :=
  (s.bx.staged.filter (fun w => w.isSealed && decide (w.tick < tick))).foldl (fun h w =>
    w.entries.foldl (fun h e => match e with
      | .protect k op => if !lk && k == dst then holdAfter h op w.sess else h
      | .lock k op => if lk && k == dst then holdAfter h op w.sess else h
      | _ => h) h) (s.holder lk dst)

/-- The checks of R211 for a salvo's entry at its common cutoff. -/
def State.salvoChecks (s : State) (dst src td tick sess : Nat) : List Check :=
  let lock := s.heldAt true dst tick
  let prot := s.heldAt false dst tick
  (takeChecks s dst src td sess 16 16 16).zipIdx.map (fun q =>
    if q.2 = 10 then (lock.isSome, repLocked (lock.getD 0))
    else if q.2 = 11 then (prot.isSome && prot != some sess, repProtected (prot.getD 0))
    else q.1)

/-- The destinations of a salvo's part that are held against its session. -/
def State.heldDsts (s : State) (w : Staged) : List Nat :=
  w.entries.filterMap (fun e => match e with
    | .take dst _ =>
      let prot := s.heldAt false dst w.tick
      if (s.heldAt true dst w.tick).isSome || (prot.isSome && prot != some w.sess) then some dst else none
    | _ => none)

/-- The check of one salvo at its common cutoff: a refusal fails it whole; with SKIP_HELD the held entries are skipped. -/
def State.salvoCut (s : State) (f : Flight) : State :=
  let ws := s.bx.staged.filter (fun w => w.id == f.id)
  let skip := ws.any (fun w => w.skip)
  let checks := ws.flatMap (fun w => w.entries.filterMap (fun e => match e with
    | .take dst src => some (s.salvoChecks dst src w.td w.tick w.sess)
    | _ => none))
  match firstOf (checks.filter (fun l => !(skip && heldFirst l))) with
  | some r => s.failFlight f.id r
  | none =>
    let t := s.updFlight f.id (fun g => { g with data := [1] })
    if skip then ws.foldl (fun u w => u.skipTakes f.id w.td (s.heldDsts w)) t else t

/-- The salvos whose common cutoff is that of tick `n` of a domain, or that have a part for it, and that are not checked
yet. -/
def State.salvosDue (s : State) (d n : Nat) : List Flight :=
  s.bx.flights.filter (fun f => f.cmd.opcode == 0x0503 && f.reply.isNone && f.data.isEmpty && f.phase == .staged
    && ((f.cmd.td == d && decide (f.eff ≤ n)) || (s.due d n).any (fun w => w.id == f.id)))

/-! ## Deferral (R46, R47, R227, R587) -/

/-- The tick from which a take can go because of its tie: none for a local one, 0 when its tie is not confirmed or is to be had
afresh, else the tick after the tie's. A take whose tie is lost with its device waits for nothing: it is judged again (R212, R226,
R227, R339). -/
def State.tieFloor (s : State) (d : Nat) (e : Entry) : Option Nat :=
  match e with
  | .take _ src =>
    if s.isRemote src then
      (match s.tie? src d with
       | some t => if t.confirmed then some (t.tick + 1) else some 0
       | none => if s.reachable (src / 1024) then some 0 else none)
    else none
  | _ => none

/-- The tick that ties force on work for tick `n`: none when all its ties are in force. -/
def State.tieMove (s : State) (d n : Nat) (es : List Entry) : Option Nat :=
  let fl := es.filterMap (s.tieFloor d)
  if fl.any (fun k => k == 0 || decide (n < k)) then some (fl.foldl max (n + 1)) else none

/-- Moves a unit of work in a domain to a later tick, behind what is allotted there, and allots it what it can (R46). -/
def State.defer (s : State) (chain : List Nat) (d n : Nat) : State :=
  let mine := fun (w : Staged) => w.td == d && !w.isSealed && chain.contains w.id
  let ws := s.bx.staged.filter mine
  let c := costOf (ws.flatMap (fun w => w.entries))
  let fits := s.fits d n c && s.wakesBy (s.stagedNeeds chain d) d n
  let t : State := { s with bx := { s.bx with
    staged := s.bx.staged.filter (fun w => !mine w) ++ ws.map (fun w => { w with fits := fits }) } }
  let t := if fits then t.allot d n c else t
  chain.foldl (fun u id => u.retick id d n true) t

/-- One unit at the cutoff of tick `n`: it stays, is deferred, or is rejected. -/
def State.deferUnit (s : State) (d n : Nat) (chain : List Nat) : State :=
  let ws := (s.due d n).filter (fun w => chain.contains w.id)
  let es := ws.flatMap (fun w => w.entries)
  if ws.isEmpty then s
  else
    match s.tieMove d n es with
    | some m => (s.defer chain d m).reserveFor chain
    | none =>
      if ws.any (fun w => !w.fits) || (s.asleep (es.flatMap s.entryNeeds)).isSome then
        (if ws.all (fun w => w.lateOk) then s.defer chain d (n + 1)
         else s.refuseWhere (fun f => chain.contains f.id) repRejectedLate)
      else ws.foldl (fun t w => if w.tick < n then t.retick w.id d n true else t) s

/-- Every unit of a domain at its cutoff. -/
def State.deferAll (s : State) (d n : Nat) : State :=
  (((s.due d n).map (fun w => if w.chain.isEmpty then [w.id] else w.chain)).eraseDups).foldl
    (fun t c => t.deferUnit d n c) s

/-! ## The checks made again (R212) -/

/-- The refusal of one entry at its cutoff. -/
def State.recheck (s : State) (w : Staged) (e : Entry) : Option Rep :=
  match e with
  | .take dst src =>
    if dst < 1024 then
      firstFail (if w.op = 0x0503 then takeChecks s dst src w.td w.sess 16 16 16
        else takeChecks s dst src w.td w.sess 16 18 6)
    else firstFail [badIf (s.otherDomain src w.td || s.otherRate src w.td) 18]
  | .protect dst op =>
    firstFail ([badIf ((s.dest dst).kind != 0 && (s.dest dst).td != w.td) 6, ((s.dest dst).kind == 0, repBadState)]
      ++ s.heldRefusal false dst op w.sess true)
  | .lock dst op =>
    firstFail ([badIf ((s.dest dst).kind != 0 && (s.dest dst).td != w.td) 6, ((s.dest dst).kind == 0, repBadState)]
      ++ s.heldRefusal true dst op w.sess true)
  | .mapOut slot _ =>
    if slot.1 = 1 then (if (s.slotCount (s.dest slot.2.1)).isNone then some repBadState else none)
    else if (s.tfEntry slot.2.1).image == [] then some repBadState else none
  | .followDst dst _ => if (s.slotCount (s.dest dst)).isNone then some repBadState else none
  | _ => none

/-- The tie of a departure entry is refused: it goes, and the device that asked for it is told (R228). -/
def State.refuseTie (s : State) (d p : Nat) : State :=
  match s.depart.find? (fun t => t.td == d && t.outKey == p) with
  | some t => State.sendTie { s with depart := s.depart.filter (fun q => !(q.td == d && q.outKey == p)) } t.dev (.refuse t.src d)
  | none => s

/-- Takes of taps and departure ports that cannot be made are left out, and a departure tie is refused (R212, R228, R316). -/
def State.barTakes (s : State) (w : Staged) (dsts : List Nat) : State :=
  (if w.op = 0x0904 then dsts.foldl (fun t p => t.refuseTie w.td p) s else s).skipTakes w.id w.td dsts

/-- One work is checked again. A command fails whole, a salvo too, but that one with SKIP_HELD skips the entries refused for
a lock or a protect (R212, R224). -/
def State.recheckWork (s : State) (w : Staged) : State :=
  let held := w.entries.filterMap (fun e => match e with
    | .take dst _ => if w.skip && ((s.recheck w e).map Rep.isHeld).getD false then some dst else none
    | _ => none)
  let barred := w.entries.filterMap (fun e => match e with
    | .take dst _ => if 1024 ≤ dst ∧ (s.recheck w e).isSome then some dst else none
    | _ => none)
  if w.op = 0x0805 ∨ w.op = 0x0904 then s.barTakes w barred
  else
    match w.entries.findSome? (fun e => (s.recheck w e).filter (fun r => !(w.skip && r.isHeld))) with
    | none => s.skipTakes w.id w.td held
    | some r => s.failRest w.id r

/-! ## Contention (R82, R83, R219, R620) -/

/-- The item that an entry contends for: none for work that does not contend. -/
def Staged.itemOf (w : Staged) (e : Entry) : Option (Nat × Nat × Nat) :=
  if w.op = 0x0904 then none
  else match e with
    | .realign => none
    | e => e.item

/-- Work contends for the item of an entry. -/
def Staged.wants (v : Staged) (item : Option (Nat × Nat × Nat)) : Bool :=
  item.isSome && v.entries.any (fun k => v.itemOf k == item)

/-- The work that takes an entry's item from it: the one that no other contender for the item beats (R68, R82). -/
def Staged.beatenIn (ws : List Staged) (w : Staged) (e : Entry) : Option Staged :=
  let all := ws.filter (fun v => v.wants (w.itemOf e))
  (all.find? (fun v => all.all (fun u => !u.beats v))).filter (fun v => v.beats w)

/-- One work loses the entries whose items other work takes. Where they went to several winners, the session byte reported is
that of the first entry lost, and the latest domain's where a salvo loses in several (R83 names none; DESIGN CHOICE, log 98). -/
def State.contend (s : State) (ws : List Staged) (w : Staged) : State :=
  let lost := w.entries.filter (fun e => (Staged.beatenIn ws w e).isSome)
  match lost with
  | [] => s
  | e :: _ =>
    let t := s.updWork w.id w.td (fun v => { v with entries := v.entries.filter (fun k => !lost.contains k) })
    (t.entriesLost w.id lost.length (((Staged.beatenIn ws w e).map (fun v => v.sess)).getD 0)).dropEmpty

/-! ## Read-outs (R212, R213) -/

/-- The takes of work that a cutoff seals: command, output port, source. -/
def State.takesDue (s : State) (d n : Nat) : List (Staged × Nat × Nat) :=
  (s.due d n).flatMap (fun w => w.entries.filterMap (fun e => match e with
    | .take dst src => some (w, dst, src)
    | _ => none))

/-- The source that an output port will select when the domain's bank is taken up. -/
def State.willShow (s : State) (takes : List (Staged × Nat × Nat)) (p : Nat) : Nat :=
  match takes.find? (fun q => q.2.1 == p) with
  | some q => q.2.2
  | none =>
    let o := s.out p
    if o.pend then (o.next o.trustB).shown else (o.now o.trustB).shown

/-- The output ports that can show something in a domain. -/
def State.portsOf (s : State) (d : Nat) (takes : List (Staged × Nat × Nat)) : List Nat :=
  ((s.xp.map (fun p => p.1)).filter (fun p => s.portTd p == d) ++ takes.map (fun q => q.2.1)).eraseDups

/-- The read-outs that stay in force once a domain's bank is taken up (R213). -/
def State.readsKept (s : State) (d : Nat) (takes : List (Staged × Nat × Nat)) : List ReadUse :=
  let shown := (s.portsOf d takes).map (s.willShow takes)
  s.readsNow.filter (fun r => r.2.1 != d || shown.contains (s.global r.1)
    || s.depart.any (fun t => t.src == s.global r.1 && t.td == d))

/-- The first take, in allotment order, that finds no read-out port or breaks R21. -/
def State.readLacks (s : State) (d : Nat) : List ReadUse → List (Staged × Nat × Nat) → Option (Staged × Nat)
  | _, [] => none
  | rs, (w, dst, src) :: rest =>
    match s.addRead rs src d with
    | some rs' => s.readLacks d rs' rest
    | none => some (w, dst)

/-- Judges the read-outs again until every take left has what it needs: a take without fails NO_RESOURCE, and with it its
salvo (R212, R230). -/
def State.judgeReads (s : State) (d n : Nat) : Nat → State
  | 0 => s
  | k + 1 =>
    let takes := s.takesDue d n
    match s.readLacks d (s.readsKept d takes) takes with
    | none => s
    | some (w, dst) =>
      if w.op == 0x0805 || w.op == 0x0904 then (s.barTakes w [dst]).judgeReads d n k
      else (s.failRest w.id repNoResource).judgeReads d n k

/-! ## Writing the bank (R206, R208, R210, R50) -/

/-- The input port of a source in a domain: PATH and PORT (R201, R204, R213). -/
def State.inputPort (s : State) (d src : Nat) : Nat × Nat :=
  if s.isRemote src then (2, ((s.tie? src d).map (fun t => t.port)).getD 0)
  else
    let n := src % 1024
    if (s.source n).classF then
      (match s.readout? n d with
       | some r => (if r.port < 1024 then (0, r.port) else (1, r.port))
       | none => (0, n))
    else (0, n)

/-- The read-out that a take creates (R187, R213); the places of read-outs that end with the bank are free. -/
def State.createRead (s : State) (d n : Nat) (kept : List ReadUse) (src : Nat) : State :=
  match s.localOf src with
  | none => s
  | some k =>
    if src = 0xFFFF ∨ (s.source k).classF = false ∨ (s.readout? k d).isSome then s
    else
      let mine := s.readsNow.filter (fun r => kept.contains r || s.readouts.any (fun q =>
        q.src == r.1 && q.td == r.2.1 && q.startTick == n && q.frame.isNone && q.td == d))
      match s.addRead mine src d with
      | some rs =>
        (match rs.getLast? with
         | some r => { s with readouts := s.readouts ++ [{ src := k, td := d, port := r.2.2, startTick := n }] }
         | none => s)
      | none => s

/-- The entry that a take writes (Table Crosspoint entry). -/
def State.newEntry (s : State) (d n sess src : Nat) : XEntry :=
  if src = 0xFFFF then { setBy := sess, tick := n % 16777216 }
  else
    let p := s.inputPort d src
    { valid := true, path := p.1, port := p.2, src := src, setBy := sess, tick := n % 16777216 }

/-- Two entries select the same input. -/
def XEntry.same (a b : XEntry) : Bool :=
  a.valid == b.valid && (!a.valid || (a.path == b.path && a.port == b.port && a.src == b.src))

/-- Writes the next entry of an output port in a plane (R204, R206). -/
def OutPort.setNext (o : OutPort) (pb : Bool) (e : XEntry) : OutPort :=
  let o := o.mend pb (!o.cur)
  match pb, o.cur with
  | false, true => { o with a0 := e }
  | false, false => { o with a1 := e }
  | true, true => { o with b0 := e }
  | true, false => { o with b1 := e }

/-- A plane's entries are written by Balix: it is in service, or on its way back and loaded (R206, R237, R238). -/
def Plane.written (p : Plane) : Bool := p.state == .inService || p.state == .shadow

/-- Writes a next entry in the planes that Balix writes; a port that stays on its input is not changed and has no PEND (R206,
R208, R210). -/
def State.writeNext (s : State) (dst : Nat) (e : XEntry) : State :=
  s.updOut dst (fun o =>
    if XEntry.same e (o.now o.trustB) then { o with pend := false }
    else
      let o := if s.planeA.written then o.setNext false e else o
      let o := if s.planeB.written then o.setNext true e else o
      { o with pend := true })

/-- Work of a moved bank for a destination loses it to later work (R50, R210). -/
def State.supersede (s : State) (d dst winner : Nat) : State :=
  let hit := fun (e : Entry) => match e with
    | .take k _ => k == dst
    | _ => false
  let ws := s.bx.staged.filter (fun w => w.td == d && w.isSealed && w.op != 0x0904 && w.entries.any hit)
  ws.foldl (fun t w =>
    ((t.updWork w.id d (fun v => { v with entries := v.entries.filter (fun e => !hit e) })).entriesLost w.id 1
      winner).dropEmpty) s

/-- Writes one take into the bank for tick `n`. -/
def State.writeTake (s : State) (d n : Nat) (kept : List ReadUse) (w : Staged) (dst src : Nat) : State :=
  let t := s.supersede d dst w.sess
  let t := t.createRead d n kept src
  t.writeNext dst (t.newEntry d n w.sess src)

/-! ## Audio, realignment and guards at a cutoff -/

/-- Whether an entry is taken up by Bramble at a block boundary. -/
def Entry.isAudio : Entry → Bool
  | .gain _ _ _ => true
  | .mapIn _ _ _ _ => true
  | .mapOut _ _ => true
  | .followDst _ _ => true
  | .followSrc _ _ => true
  | .take _ _ => false
  | .protect _ _ => false
  | .lock _ _ => false
  | .veneer _ _ => false
  | .keyOp _ => false
  | .realign => false
  | .guard _ => false
  | .sealAt => false

/-- The audio work of a command at its cutoff; an entry's place is that in its command (R280). -/
def State.cutAudio (s : State) (w : Staged) (all : List Entry) : State :=
  let es := all.zipIdx.filterMap (fun q => if w.entries.contains q.1 && q.1.isAudio then some (q.2, q.1) else none)
  if es.isEmpty then s else s.audioCut w es

/-- The instant at which a domain's time base reads the instant of tick `n` (R105), past or to come: predicted at its nominal
rate. -/
def State.tbInstant (s : State) (d n : Nat) (shift : Int) : Int :=
  let k := s.dom d
  match k.rate, k.ref with
  | some r, some tb =>
    let f := rateFraction r
    let target := (n * tbSecond * f.2 + f.1 - 1) / f.1
    (s.clk : Int) + (((target : Int) - (((s.base tb).time : Int) - shift)) * 12 + 4294967295) / 4294967296
  | _, _ => k.tickAt n

/-- The step of an FP_REALIGN measured at the cutoff of tick `n`: the move of tick n + 1 in twelfths of a nanosecond, or
the refusal of R107 (R106): a step of the base between this cutoff and the tick is left to the next FP_REALIGN, as R106 measures
here. DESIGN CHOICE (log 105): the difference is given in the nearest number of whole ticks, a tie away
from zero. -/
def State.realignStep (s : State) (d n : Nat) : Except Rep Int :=
  let k := s.dom d
  if k.ref.isSome then
    let move : Int := s.tbInstant d (n + 1) 0 - (k.tickAt (n + 1) : Int)
    if (k.period : Int) < 2 * move.natAbs then
      .error { status := 0x12
               result := resultOf (leBytes 4 (ofSigned 4 (roundDiv move k.period))) }
    else .ok move
  else .ok (s.pendingTu d)

/-- The FP_REALIGN commands of a cutoff: all share one step, or all are refused (R106, R107, R620). -/
def State.cutRealign (s : State) (d n : Nat) : State :=
  let ws := (s.due d n).filter (fun w => w.entries.contains .realign)
  if ws.isEmpty then s
  else
    match s.realignStep d n with
    | .error r => ws.foldl (fun t w => t.failFlight w.id r) s
    | .ok m =>
      let t := s.updDom d (fun k => { k with pending := some m, realignAt := some n, absorb := k.shift })
      ws.foldl (fun u w =>
        let u := u.updFlight w.id (fun f => { f with res := leBytes 4 (ofSigned 4 (Int.tdiv m 12)) })
        match u.flight? w.id with
        | some f => u.mirror 3 (.ref (f.cmd.withTick n))
        | none => u) t

/-- CUTOFF_SET: the guard of tick n + 1 and after is known from the cutoff of tick `n` on (R39). -/
def State.cutGuards (s : State) (d n : Nat) : State :=
  (s.due d n).foldl (fun t w => w.entries.foldl (fun u e => match e with
    | .guard us => u.updDom d (fun k => { k with guards := k.guards ++ [(n + 1, us)] })
    | _ => u) t) s

/-! ## TICK_CUTOFF -/

/-- The entries of a bank, as (output port, source, session). -/
def State.bankEntries (s : State) (d n : Nat) : List (Nat × Nat × Nat) :=
  (s.takesDue d n).map (fun q => (q.2.1, q.2.2, q.1.sess))

/-- A map of 1,024 destinations. -/
def dstMap (dsts : List Nat) : BitVec 1024 := dsts.foldl (fun m k => m ||| BitVec.ofNat 1024 (2 ^ k)) 0

/-- The destinations whose sound an entry of Bramble work changes: those with a slot fed by an output that it touches, the one whose
slot or follow setting it sets, and those that follow a source whose base it sets (R290, R294, R375). -/
def State.soundOf (s : State) (e : Entry) : List Nat :=
  let fed := fun (p : Nat → Bool) => (s.au.outMap.filter (fun q => q.1.1 == 1 && p q.2)).map (fun q => q.1.2.1)
    ++ (s.de.filter (fun q => (range 0 q.2.followed).any (fun i => match s.slotFeed q.1 i with
      | some ao => p ao
      | none => false))).map (fun q => q.1)
  match e with
  | .gain _ ao _ => fed (fun o => o == ao)
  | .mapIn ai _ _ _ => fed (fun o => (s.contribsOf 0 o).any (fun i => i % 4096 == ai))
  | .mapOut slot _ => if slot.1 = 1 then [slot.2.1] else []
  | .followDst dst _ => [dst]
  | .followSrc src _ => (s.de.filter (fun q => q.2.followed != 0 && (s.entryOf q.1).src == src)).map (fun q => q.1)
  | .take _ _ => []
  | .protect _ _ => []
  | .lock _ _ => []
  | .veneer _ _ => []
  | .keyOp _ => []
  | .realign => []
  | .guard _ => []
  | .sealAt => []

/-- The paired destinations among some, when a bank that changes them is told with DIVERGE: the partner reports CONTROL_LOST and this
device is control authority (R375). -/
def State.diverges (s : State) (dsts : List Nat) : List Nat :=
  if decide (s.pr.state ≠ .off) && s.authority && bit s.pr.pFlags 3 && s.partnerHeard then
    dsts.filter (fun k => decide (k < 1024) && (s.dest k).pairMode == 1)
  else []

/-- DIVERGE: a frozen partner is told which paired destinations a bank changes, with its PAIR_EVENT record (R375). -/
def State.sendDiverge (s : State) (paired : List Nat) : State :=
  let m := dstMap paired
  let t := State.sendFrame { s with pr := { s.pr with sentMaps := s.pr.sentMaps ++ [m] } } s.pr.link (.diverge m)
  t.pairEvent 5 t.pr.state.code t.pr.state.code (leBytes 128 m.toNat)

/-- The fabric and the Bramble bank of a domain are ready from now on, each that changes paired destinations of a frozen partner no
earlier than 150 us after its DIVERGE (R375). -/
def State.readyBanks (s : State) (d : Nat) (dsts sound : List Nat) : State :=
  let f := s.diverges dsts
  let g := s.diverges sound
  let later := s.clk + tuUs 150
  let t := if f.isEmpty then s else s.sendDiverge f
  let t := if g.isEmpty then t else t.sendDiverge g
  t.updDom d (fun k => { k with
    bankReady := some (if f.isEmpty then s.clk else later)
    auReady := if g.isEmpty then s.clk else later })

/-- What the active mirrors of the protects and locks of work that a cutoff seals for tick `n`. -/
def Staged.holds (w : Staged) (n : Nat) : List (Nat × MirrorItem) :=
  w.entries.filterMap (fun e => match e with
    | .protect dst op => some (0, .hold false dst op w.sess w.td n)
    | .lock dst op => some (0, .hold true dst op w.sess w.td n)
    | _ => none)

/-- The bank of a domain is sealed: the mirror of the protects and locks `hs`, of the audio work `ws` and of the takes `es` is sent, and
the banks that it tells of wait for its acknowledgement while there is a standby; else they are ready (R206, R361, R363). -/
def State.bankSealed (s : State) (d n : Nat) (hs : List (Nat × MirrorItem)) (ws : List AuWork) (es : List (Nat × Nat × Nat)) : State :=
  let au := ws.flatMap AuWork.items
  let t := s.readyBanks d (es.map (fun e => e.1)) (ws.flatMap (fun w => w.entries.flatMap s.soundOf))
  if decide (s.pr.state = .active) && s.pairUp then
    let on := fun (q : Nat × MirrorItem) => bit s.pr.mask q.1
    let takes := if bit s.pr.mask 0 then es else []
    let ends := !takes.isEmpty || au.any on
    let items := ((hs ++ au).filter on).map (fun q => q.2) ++ (if ends then [.xpt d n takes] else [])
    (items.foldl State.sendItem t).updDom d (fun k => { k with
      waitAck := if takes.isEmpty then k.waitAck else some s.clk
      auWait := if au.any on then some s.clk else k.auWait })
  else t

/-- The departure ties whose entries a cutoff seals are confirmed to the devices that asked for them, with the tick at which they
take effect (R226). -/
def State.confirmTies (s : State) (d n : Nat) (ports : List Nat) : State :=
  let mine := fun (t : Tie) => t.td == d && ports.contains t.outKey
  (s.depart.filter mine).foldl (fun u t => u.sendTie t.dev (.confirm t.src d n t.port))
    { s with depart := s.depart.map (fun t => if mine t then { t with confirmed := true, tick := n } else t) }

/-- Seals the work of a domain for tick `n`; `all` holds the entries that each work had before contention. Once one part of a salvo is
sealed the whole command counts as sealed (R80; DESIGN CHOICE, log 129). -/
def State.sealWork (s : State) (d n : Nat) (all : List (Nat × List Entry)) : State :=
  let ws := s.due d n
  let takes := s.takesDue d n
  let es := s.bankEntries d n
  let kept := s.readsKept d takes
  let t := takes.foldl (fun u q => u.writeTake d n kept q.1 q.2.1 q.2.2) s
  let t := t.confirmTies d n (takes.filterMap (fun q => if q.1.op = 0x0904 then some q.2.1 else none))
  let t := ws.foldl (fun u w => u.cutAudio w (((all.find? (fun q => q.1 == w.order)).map (fun q => q.2)).getD w.entries)) t
  let ids := ws.map (fun w => w.id)
  let t : State := { t with bx := { t.bx with
    staged := t.bx.staged.map (fun w =>
      if w.td = d ∧ !w.isSealed ∧ w.tick ≤ n then { w with isSealed := true } else w)
    flights := t.bx.flights.map (fun f =>
      if ids.contains f.id && f.phase == .staged then { f with phase := .sealed } else f) } }
  let au := t.au.waiting.filter (fun w => w.td == d && w.tick == n && ids.contains w.id)
  t.bankSealed d n (ws.flatMap (fun w => w.holds n)) au es

/-- The cutoff of tick `n` of a domain (R206): deferral, the checks again, contention, read-outs, then the bank. -/
def State.cutoffAt (s : State) (d n : Nat) : State :=
  let t := s.updDom d (fun k => { k with
    cutDone := some n
    bankReady := none
    bankArmed := false
    waitAck := none
    auWait := none
    bankTick := n })
  let t := t.sendReleases d n
  let t := (t.salvosDue d n).foldl (fun u f => u.salvoCut f) t
  let t := t.deferAll d n
  let t := (t.due d n).foldl (fun u w => u.recheckWork w) t
  let ws := t.due d n
  let t := ws.foldl (fun u w => u.contend ws w) t
  let t := t.judgeReads d n 4096
  let t := (t.cutRealign d n).cutGuards d n
  t.sealWork d n (ws.map (fun w => (w.order, w.entries)))

/-- TICK_CUTOFF: the cutoff of the next tick of a domain has come. No bank is sealed while no cluster is in control, nor
under FREEZE (R86, R393). -/
def execTickCutoff (d : Nat) (s : State) : Host.Outcome State Fault Refusal :=
  let k := s.dom d
  let n := k.nextTick
  let done := match k.cutDone with
    | some m => decide (n ≤ m)
    | none => false
  if d < 8 ∧ k.hasTicks ∧ k.cutoff n ≤ s.nowNs ∧ !done ∧ s.balixUp then .next (s.cutoffAt d n) else .next s

end Sys2Proof.Machine
end

