-- ==== Sys2Proof/Machine/Ticks.lean ====
section
/-! DEFINITION. Ticks, arming, flips, and time between commands: TD_TICK, DOMAIN_ARMING, MITRE_FLIP (02 R30 to R32, R49 to
R54, 08 R207 to R210, R213, R214, R229, 04 R105 to R108), and the cycle of the time-base clock (05 R113). -/
namespace Sys2Proof.Machine

/-! ## The arming instant (R207) -/

/-- An output port has VALID in either entry, or PEND. -/
def OutPort.busy (o : OutPort) : Bool := o.pend || o.a0.valid || o.a1.valid || o.b0.valid || o.b1.valid

/-- Some departure port or comparator tap of a domain is in use. -/
def State.flipsAtTick (s : State) (d : Nat) : Bool :=
  s.xp.any (fun p => decide (1024 ≤ p.1) && p.2.busy && s.portTd p.1 == d)

/-- The start of a destination's mitre line for tick `n`. -/
def State.mitreStart (s : State) (k : Dest) (n : Nat) : Nat :=
  (((s.dom k.td).tickAt n : Int) + mitreRel k.fmt (k.mitreFor n) k.offset).toNat

/-- The arming instant of a domain for tick `n` (R207). -/
def State.armInstant (s : State) (d n : Nat) : Nat :=
  let t := (s.dom d).tickAt n
  if s.flipsAtTick d then t
  else
    match (s.de.filter (fun p => p.2.kind != 0 && p.2.td == d)).map (fun p => s.mitreStart p.2 n) with
    | [] => t
    | m :: ms => ms.foldl min m

/-- The tick that a domain is judged for next. -/
def Domain.armTick (k : Domain) : Nat :=
  let base := if k.started then k.count else k.nextTick
  match k.armDone with
  | some m => max (m + 1) base
  | none => base

/-! ## Taking up a bank (R19, R206, R208, 16 Record types) -/

/-- The sealed work of a domain with takes for ticks up to `n`. -/
def State.bankWork (s : State) (d n : Nat) : List Staged :=
  s.bx.staged.filter (fun w => w.td == d && w.isSealed && decide (w.tick ≤ n) && w.entries.any (fun e => match e with
    | .take _ _ => true
    | _ => false))

/-- The entry that a destination will have once it has flipped for the bank. -/
def OutPort.coming (o : OutPort) : XEntry := if o.pend then o.next o.trustB else o.now o.trustB

/-- A command completes late so far. -/
def State.lateNow (s : State) (id : Nat) : Bool :=
  match s.flight? id with
  | some f => f.late
  | none => false

/-- The TAKE record of a take and its result (Table Record types, Table XPT_TAKE result). -/
def State.takeRecord (s : State) (d n : Nat) (w : Staged) (dst src : Nat) : State :=
  let o := s.out dst
  let prev := (o.now o.trustB).shown
  let e := o.coming
  let path := if e.valid then e.path else 3
  let t := s.giveRecord 0x01 ((s.dom d).tickAt n) (some (d, n))
    (leBytes 2 dst ++ leBytes 2 src ++ leBytes 2 prev ++ leBytes 1 w.sess ++ leBytes 1 (flag (s.lateNow w.id))
      ++ leBytes 2 w.tag ++ leBytes 1 path ++ leBytes 5 0) (some w.id)
  t.updFlight w.id (fun f => { f with
    res := leBytes 2 prev ++ leBytes 1 path ++ leBytes 1 0 ++ leBytes 4 (if e.valid then e.port else 4294967295) })

/-- The (DST, SRC) pairs of work. -/
def Staged.pairs (w : Staged) : List (Nat × Nat) :=
  w.entries.filterMap (fun e => match e with
    | .take dst src => some (dst, src)
    | _ => none)

/-- The SALVO records of one domain's part: 232 entries to a record (16 Record types). -/
def State.salvoRecords (s : State) (d n : Nat) (w : Staged) : State :=
  let ps := w.pairs
  let parts := (ps.length + 231) / 232
  let salvo := match s.flight? w.id with
    | some f => f.cmd.u8 16
    | none => 0
  (range 0 parts).foldl (fun t i =>
    let mine := (ps.drop (232 * i)).take 232
    t.giveRecord 0x02 ((s.dom d).tickAt n) (some (d, n))
      (leBytes 1 salvo ++ leBytes 1 w.sess ++ leBytes 2 w.tag ++ leBytes 1 i ++ leBytes 1 parts
        ++ leBytes 2 mine.length ++ leBytes 2 w.skipped.length ++ leBytes 1 (flag (s.lateNow w.id)) ++ leBytes 5 0
        ++ pad8 (mine.flatMap (fun p => leBytes 2 p.1 ++ leBytes 2 p.2))) (some w.id)) s

/-- The records of one work of a bank: none for taps and departure ports. -/
def State.bankRecords (s : State) (d n : Nat) (w : Staged) : State :=
  if w.op = 0x0501 then w.pairs.foldl (fun t p => t.takeRecord d n w p.1 p.2) s
  else if w.op = 0x0503 then s.salvoRecords d n w
  else s

/-- One take of a bank has taken effect: its command counts it, and it is no longer held. -/
def State.takeDone (s : State) (d dst : Nat) : State :=
  let hit := fun (e : Entry) => match e with
    | .take k _ => k == dst
    | _ => false
  let ws := s.bx.staged.filter (fun w => w.td == d && w.isSealed && w.entries.any hit)
  (ws.foldl (fun t w =>
    (t.updWork w.id d (fun v => { v with entries := v.entries.filter (fun e => !hit e) })).effectDone w.id 1) s).dropEmpty

/-- The bank of tick `n` is taken up: its records are written (R208, R214). Its takes take effect at their flips, and those
that flip nothing at the same line (R51). -/
def State.takeUpBank (s : State) (d n : Nat) : State := (s.bankWork d n).foldl (fun u w => u.bankRecords d n w) s

/-- A take of an output port has been taken up in a bank for a tick up to `n` and is not done yet. -/
def State.takeOpen (s : State) (d n p : Nat) : Bool :=
  (s.bankWork d n).any (fun w => w.pairs.any (fun q => q.1 == p))

/-! ## DOMAIN_ARMING (R19, R49, R207) -/

/-- The bank of a domain is not ready: what it holds, and the read-outs it creates, move to the next tick and complete late, with
a compile overrun (R19, R49, R213). -/
def State.moveBank (s : State) (d n : Nat) : State :=
  let ws := s.bankWork d n
  let held := !ws.isEmpty || s.xp.any (fun p => p.2.pend && s.portTd p.1 == d)
  let t := s.updDom d (fun k => { k with armDone := some n, bankArmed := false, overruns := satAdd 65535 k.overruns 1 })
  let t := ws.foldl (fun u w => (u.retick w.id d (n + 1) true).updWork w.id d (fun v => { v with moved := true })) t
  let t : State := { t with readouts := t.readouts.map (fun r =>
    if r.td = d ∧ r.startTick = n then { r with startTick := n + 1 } else r) }
  if held then t.strike 22 0xFFFF else t

/-- Read-outs that a tick's bank replaced at their port end with it (R213), each after the lines that its frame still has to deliver
(R187); only once the bank is armed, since a bank that is not moves with its read-outs. -/
def State.replaceReads (s : State) (d n : Nat) : State :=
  let fresh := s.readouts.filter (fun r => r.td == d && r.startTick == n && !r.tail)
  let gone := fun (r : Readout) => !r.tail && fresh.any (fun q => q.port == r.port && !(q.src == r.src && q.td == r.td))
  (s.readouts.filter gone).foldl State.leaveTail { s with readouts := s.readouts.filter (fun r => !gone r) }

/-- A domain is judged at its arming instant for tick `n` (R207). -/
def State.judgeArming (s : State) (d n : Nat) : State :=
  let k := s.dom d
  let arm := s.armInstant d n
  let ready := k.waitAck.isNone && (match k.bankReady with
    | some r => decide (r / 8 < arm / 8)
    | none => false)
  if ready then
    let t := (s.updDom d (fun k => { k with
      bankReady := none
      bankArmed := true
      bankTick := n
      armDone := some n })).takeUpBank d n
    if k.started && decide (n ≤ k.count) then t.replaceReads d n else t
  else s.moveBank d n

/-- DOMAIN_ARMING: the arming instant of the next tick to be judged has come; under FREEZE no bank is taken up (R393). -/
def execDomainArming (d : Nat) (s : State) : Host.Outcome State Fault Refusal :=
  let k := s.dom d
  let n := k.armTick
  if d < 8 ∧ k.hasTicks ∧ n ≤ k.nextTick ∧ s.armInstant d n ≤ s.clk ∧ !s.boot.freeze then .next (s.judgeArming d n)
  else .next s

/-! ## Flips (R17, R208, R209) -/

/-- A read-out of a domain is still to begin, or something there selects it. -/
def State.readUsed (s : State) (d : Nat) (r : Readout) : Bool :=
  r.td != d || r.tail || decide ((s.dom d).count < r.startTick)
    || s.xp.any (fun p => p.2.selects (s.global r.src) && s.portTd p.1 == d)
    || s.depart.any (fun t => t.src == s.global r.src && t.td == d)

/-- Read-outs of a domain that no port selects once its flips are done end, and their ports are free (R213); each goes on to the end
of its frame where its port has no other (R187). -/
def State.pruneReads (s : State) (d : Nat) : State :=
  let ends := s.readouts.filter (fun r => !s.readUsed d r)
  ends.foldl (fun t r => if t.readouts.any (fun q => q.port == r.port && !q.tail) then t else t.leaveTail r)
    { s with readouts := s.readouts.filter (s.readUsed d) }

/-- The tick at which an entry took effect. -/
def XEntry.tookAt (e : XEntry) (n : Nat) : XEntry := { e with tick := n % 16777216 }

/-- An output port flips at tick `n`: CUR toggles in both planes and PEND clears; TICK is written in the entries of the planes
that Balix writes, A when `a` and B when `b` (R204, R208, R237). -/
def OutPort.flip (o : OutPort) (n : Nat) (a b : Bool) : OutPort :=
  let e := if o.cur then (o.a0, o.b0) else (o.a1, o.b1)
  let o := if a then o.setNext false (e.1.tookAt n) else o
  let o := if b then o.setNext true (e.2.tookAt n) else o
  { o with cur := !o.cur, pend := false }

/-- The flip of an output port at tick `n`. -/
def State.flipEntries (s : State) (p n : Nat) : State :=
  s.updOut p (fun o => o.flip n s.planeA.written s.planeB.written)

/-- The line of an armed port of a domain passes: it flips when it is pending, its take is done, and read-outs and ties left
unused end (R51, R208, R213, R229). -/
def State.flipPort (s : State) (d n p : Nat) : State :=
  let t := if (s.out p).pend then s.flipEntries p n else s
  ((t.takeDone d p).pruneReads d).releaseTies d n

/-- MITRE_FLIP (the flip may move the departure of the mitre line, R250): a destination's mitre line passes while its domain is armed: a pending one flips, and a take that leaves it
on its source is done (R17, R51, R208, R393). -/
def execMitreFlip (dst : Nat) (s : State) : Host.Outcome State Fault Refusal :=
  let v := s.dest dst
  let k := s.dom v.td
  if dst < 1024 ∧ v.kind ≠ 0 ∧ k.bankArmed ∧ ((s.out dst).pend ∨ s.takeOpen v.td k.bankTick dst) ∧ !s.boot.freeze
      ∧ s.mitreStart v k.bankTick ≤ s.clk then
    let t := s.flipPort v.td k.bankTick dst
    let lasts := s.destState dst == 2 && t.destState dst == 2
    .next ((t.updDest dst (fun d => { d with
      stretch := if lasts then t.phase dst - s.phase dst else 0 })).destJudge dst)
  else .next s

/-! ## TD_TICK -/

/-- The sealed protects and locks of a tick are in force from now on (R215 to R219). -/
def State.applyHold (s : State) (lk : Bool) (dst op sess : Nat) : State :=
  let h := holdAfter (s.holder lk dst) op sess
  s.updOut dst (fun o => if lk then { o with lock := h } else { o with protect := h })

/-- The veneers that the entries of work name. -/
def Staged.veneers (w : Staged) : List Nat :=
  w.entries.filterMap (fun e => match e with
    | .veneer g v => some (4 * g + v)
    | _ => none)

/-- One sealed entry of work takes effect at tick `n`, whose instant is `inst`. Takes and audio work wait for their own
instants. -/
def State.applyEntry (s : State) (d n inst : Nat) (w : Staged) (e : Entry) : State :=
  match e with
  | .protect dst op => (s.applyHold false dst op w.sess).effectDone w.id 1
  | .lock dst op => (s.applyHold true dst op w.sess).effectDone w.id 1
  | .realign => (s.realignEvent d n inst).effectDone w.id 1
  | .guard _ => s.effectDone w.id 1
  | .sealAt => s.grainSealAt w.id d n inst
  | .keyOp k => s.keyOpAt k inst
  | .veneer _ _ => s
  | .take _ _ => s
  | .gain _ _ _ => s
  | .mapIn _ _ _ _ => s
  | .mapOut _ _ => s
  | .followDst _ _ => s
  | .followSrc _ _ => s

/-- The sealed work of a tick that is not a take takes effect, and is no longer held. -/
def State.applyWork (s : State) (d n inst : Nat) (w : Staged) : State :=
  let t := if w.veneers.isEmpty then s else s.beginFlip w.id w.veneers
  let t := w.entries.foldl (fun u e => u.applyEntry d n inst w e) t
  (t.updWork w.id d (fun v => { v with
    entries := v.entries.filter (fun e => match e with
      | .take _ _ => true
      | _ => false) })).dropEmpty

/-- The sealed work of a domain up to tick `n`. -/
def State.sealedWork (s : State) (d n : Nat) : List Staged :=
  s.bx.staged.filter (fun w => w.td == d && w.isSealed && decide (w.tick ≤ n))

/-- Protects of sessions that have closed are released at a domain's tick, after the sealed protects of the tick are in
force: one that such a session had sealed for this tick goes with the rest (R81; DEDUCED, log 97). -/
def State.releaseProtects (s : State) (d : Nat) : State :=
  let gone := (s.bx.releases.filter (fun r => r.1 == d)).map (fun r => r.2)
  let hit := (s.xp.filter (fun p => (match p.2.protect with
    | some h => gone.contains h
    | none => false) && (s.dest p.1).td == d)).map (fun p => p.1)
  let t := hit.foldl (fun u p => (u.updOut p (fun o => { o with protect := none })).mirror 0 (.protect p none)) s
  { t with bx := { t.bx with releases := t.bx.releases.filter (fun r => r.1 != d) } }

/-- The pending departure ports and comparator taps of an armed domain flip at line 1 of the tick's frame, where the takes
that leave one on its source are done too (R51, R209). -/
def State.flipTaps (s : State) (d n : Nat) : State :=
  if (s.dom d).bankArmed && (s.dom d).bankTick == n then
    ((s.xp.filter (fun p => decide (1024 ≤ p.1) && (p.2.pend || s.takeOpen d n p.1) && s.portTd p.1 == d)).map
      (fun p => p.1)).foldl (fun t p => t.flipPort d n p) s
  else s

/-- Both entries of a port go dark in the planes that Balix writes, A when `a` and B when `b` (R229, R237). -/
def OutPort.darken (o : OutPort) (a b : Bool) : OutPort :=
  let o := if a then (({ o with a0 := {}, a1 := {} } : OutPort).mend false false).mend false true else o
  let o := if b then (({ o with b0 := {}, b1 := {} } : OutPort).mend true false).mend true true else o
  { o with pend := false }

/-- Departure ties whose release takes effect by tick `n` end, and their ports go dark (R229). -/
def State.endTies (s : State) (d n : Nat) : State :=
  let past := fun (t : Tie) => t.td == d && (match t.ending with
    | some k => decide (k ≤ n)
    | none => false)
  let bare := (s.depart.filter past).map Tie.outKey
  let t : State := { s with depart := s.depart.filter (fun t => !past t) }
  (bare.foldl (fun u p => u.updOut p (fun o => o.darken s.planeA.written s.planeB.written)) t).pruneReads d

/-- The FP_REALIGN commands of tick `n` that came from the mirror: each leaves its REF_EVENT with its step here too (R111,
R361). -/
def State.mirroredRealigns (s : State) (d n : Nat) : State :=
  let k := s.dom d
  if k.realignAt = some n then
    (range 0 k.mirrored).foldl (fun t _ => t.realignEvent d n k.last)
      (s.updDom d (fun q => { q with mirrored := 0 }))
  else s

/-- The instant of the tick after `n`, which fell at `last`: one period on, moved by an FP_REALIGN of this tick, or as the
time base gives it with the shift that is left (R103, R105 to R107). -/
def State.scheduleNext (s : State) (d n : Nat) : State :=
  let k := s.dom d
  let move := k.realignAt == some n
  let s := s.mirroredRealigns d n
  let s := if move && k.ref.isNone && k.pending.getD 0 != 0 then s.realignAudio else s
  let t := s.updDom d (fun k => { k with
    realignAt := if move then none else k.realignAt
    shift := if move && k.ref.isSome then k.shift - k.absorb else k.shift
    next := ((k.last + k.period : Nat) : Int).toNat })
  if k.ref.isSome then
    t.updDom d (fun q => { q with next := (t.tbInstant d (n + 1) (t.dom d).shift).toNat })
  else if move then t.updDom d (fun q => { q with next := ((q.next : Int) + q.pending.getD 0).toNat })
  else t

/-- Guards given for ticks up to `n` are folded into the guard in force (R39). -/
def Domain.foldGuards (k : Domain) (n : Nat) : Domain :=
  { k with guard := k.guardAt n, guards := k.guards.filter (fun p => decide (n < p.1)) }

/-- The FP_OUT pulses bound to a domain start at its tick (R108). -/
def State.pulse (s : State) (d inst : Nat) : State :=
  (range 0 4).foldl (fun t i =>
    if (t.fpOut i).td = some d then t.updFpOut i (fun f => { f with lastPulse := some inst }) else t) s

/-- Tick `n` of a domain falls at `inst`: the count advances by one, the links are told, frames start, and sealed work takes effect
(R32, R326, R327). -/
def State.tickAt (s : State) (d n inst : Nat) : State :=
  let t := s.updDom d (fun k => ({ k with
    started := true
    count := n
    last := inst
    fallen := (n, inst, k.guardAt n) :: k.fallen } : Domain).foldGuards n)
  let t := ((t.scheduleNext d n).pulse d inst).tellLinks d n inst
  if s.boot.freeze then t
  else
    let t := if (t.dom d).armTick ≤ n ∧ t.armInstant d n ≤ inst then t.judgeArming d n else t
    let t := t.flipTaps d n
    let t := if (t.dom d).bankArmed && (t.dom d).bankTick == n then t.replaceReads d n else t
    let t := (t.sealedWork d n).foldl (fun u w => u.applyWork d n inst w) t
    ((t.releaseProtects d).testFlips d n).endTies d n

/-- TD_TICK: the next tick of a domain falls (R30 to R32, R209, R309). -/
def execTdTick (d : Nat) (s : State) : Host.Outcome State Fault Refusal :=
  let k := s.dom d
  if d < 8 ∧ k.hasTicks ∧ k.next ≤ s.clk then .next (s.tickAt d k.nextTick k.next) else .next s

/-! ## The passing of time (04 R104, 05 R113; log 1) -/

/-- One cycle of the 250 MHz time-base clock on a time base: 4 ns plus RATE x 2^-32 ns. -/
def TimeBase.cycle (b : TimeBase) : TimeBase :=
  { b with time := (((b.time : Int) + 17179869184 + b.rate) % tbRange).toNat }

/-- The frequency of the pulled clock against the local oscillator, in parts per 10^12: that of the loop's output, and during
a pull the slope limit in the direction that moves the output by the pull (R97, R101, R104). -/
def Rf.clockPpt (r : Rf) : Int :=
  match r.pullEnd with
  | some _ => r.outPpt - r.pullDelta.sign * (1000 * r.slope : Nat)
  | none => r.outPpt

/-- One cycle of the time-base clock: the time bases advance, the window clock counts as much of the pulled clock, and the
next ticks of domains on time bases follow (R104, R105, R113). -/
def State.advance (s : State) : State :=
  let frac := s.clkFrac + 48 * s.rf.clockPpt
  let carry := frac / 1000000000000
  let t : State := { s with
    cycles := s.cycles + 1
    clk := ((s.clk : Int) + 48 + carry).toNat
    clkFrac := frac - carry * 1000000000000 }
  let t := (range 0 8).foldl (fun u n => u.updBase n TimeBase.cycle) t
  (range 0 8).foldl (fun u d =>
    let k := u.dom d
    if k.hasTicks && k.ref.isSome then
      u.updDom d (fun q => { q with next := (u.tbInstant d k.nextTick k.shift).toNat })
    else u) t

end Sys2Proof.Machine
end

