-- ==== Sys2Proof/Machine/Mirror.lean ====
section
/-! DEFINITION. The mirror between the devices of a pair: what a standby applies, and the snapshot that the active sends
(13 R361 to R364, R371). -/
namespace Sys2Proof.Machine

/-! ## The standby -/

/-- A mirrored entry that the standby's own bindings refuse puts the mirror out of step, and the device leaves STANDBY
(R362, R363, R350). -/
def State.outOfStep (s : State) : State := if s.pr.state = .standby then s.pairEnter .joining else s

/-- Applies a change when its entry is not refused, else the mirror is out of step. -/
def State.orStep (s : State) (ok : Bool) (t : State) : State := if ok then t else s.outOfStep

/-- The standby's own bindings accept a mirrored take: the checks of R211 but for locks and protects, and its read-out
(R212, R362). -/
def State.mirrorTakeOk (s : State) (d dst src : Nat) : Bool :=
  (firstFail (if dst < 1024 then (takeChecks s dst src d 0 0 0 0).take 10 else if src = 0xFFFF then [] else compareInput s d src 0)).isNone
    && (s.addRead s.readsNow src d).isSome

/-- One mirrored crosspoint entry, written for its tick (R363). A departure port or tap that is of another domain here, or of none, is
left as it is: no binding of the standby's refuses the entry (DESIGN CHOICE, log 126). -/
def State.mirrorTake (s : State) (d n : Nat) (e : Nat × Nat × Nat) : State :=
  if 1024 ≤ e.1 ∧ s.portTd e.1 ≠ d then s
  else if s.mirrorTakeOk d e.1 e.2.1 then
    let t := s.createRead d n s.readsNow e.2.1
    t.writeNext e.1 (t.newEntry d n e.2.2 e.2.1)
  else s.outOfStep

/-- Mirrored work waits for its block boundary as the active's did, without a command or a record of its own. -/
def State.mirrorAudio (s : State) (d n : Nat) (es : List Entry) : State :=
  { s with
    au := { s.au with waiting := s.au.waiting ++ [{
      id := s.newId
      td := d
      tick := n
      op := 0
      sess := 0
      tag := 0
      rank := 0
      mb := 0
      order := s.bx.nextOrder
      cut := (s.dom d).cutoff n
      entries := es }] }
    bx := { s.bx with nextId := s.newId + 1, nextOrder := s.bx.nextOrder + 1 } }

/-- The entry of AUD_FOLLOW that mirrored bytes give (R294). -/
def followEntry (e : List Byte) : Entry :=
  if byteAt e 0 = 0 then .followDst (le16 e 2) (byteAt e 1) else .followSrc (le16 e 4) (le16 e 6)

/-- Mirrored audio work: that of a snapshot, at td 8, also takes back what it does not name (R361, R371). -/
def State.mirrorWork (s : State) (d n : Nat) (es own : List Entry) : State :=
  s.mirrorAudio d n (if d = 8 then es ++ own.filter (fun e => !es.any (fun k => k.item == e.item)) else es)

/-- The entries that mute every crosspoint that is not. -/
def State.muteAll (s : State) : List Entry :=
  (s.au.gains.filter (fun p => p.2.code != 0)).map (fun p => .gain (p.1 % 4096) (p.1 / 4096) 0)

/-- The entries that take every input, or output, map back. -/
def State.unmapAll (s : State) (out : Bool) : List Entry :=
  if out then s.au.outMap.map (fun p => .mapOut p.1 0xFFFF) else s.au.inMap.map (fun p => .mapIn p.1 0 0 0)

/-- The entries that take every follow setting and source base back. -/
def State.unfollowAll (s : State) : List Entry :=
  (s.de.filter (fun p => p.2.followed != 0)).map (fun p => .followDst p.1 0)
    ++ s.au.bases.map (fun p => .followSrc p.1 0xFFFF)
/-- The context in which a mirrored command is judged. -/
def State.mirrorCtx (s : State) (c : Cmd) : Ctx :=
  { id := s.newId, mb := 0, cmd := c, stamp := s.nowNs, sess := 0, rank := 0, roles := 7, buf := [] }

/-- A mirrored reference command (R361): its own checks refuse it or it acts; FP_REALIGN moves at its tick by the step
measured here. -/
def State.mirrorRef (s : State) (c : Cmd) : State :=
  let x := s.mirrorCtx c
  if c.opcode = 0x0202 then s.orStep (firstFail (refConfigChecks s x)).isNone (s.refConfig c)
  else if c.opcode = 0x0203 then s.setRanks c
  else if c.opcode = 0x0205 then s.orStep (firstFail (cmdRefForce.checks s x)).isNone (s.refForce (forceOf c))
  else if c.opcode = 0x0206 then
    (match s.realignStep c.td c.tick with
     | .ok m => s.orStep (s.dom c.td).hasTicks
         (s.updDom c.td (fun k => { k with
           pending := some m
           realignAt := some c.tick
           absorb := k.shift
           mirrored := if k.realignAt = some c.tick then k.mirrored + 1 else 1 }))
     | .error _ => s.outOfStep)
  else s

/-- Mirrored map entries wait for their tick unless the standby's own bindings refuse one. -/
def State.mirrorMap (s : State) (d n : Nat) (out : Bool) (es : List (List Byte)) : State :=
  s.orStep (es.all (fun e => if out then !(mapOutState s e).1 else decide (le16 e 0 < s.channels)))
    (s.mirrorWork d n (es.map (fun e =>
      if out then .mapOut (byteAt e 2, leNat (slice e 4 4), byteAt e 3) (le16 e 0)
      else .mapIn (le16 e 0) (byteAt e 2) (leNat (slice e 4 4)) (byteAt e 3))) (s.unmapAll out))

/-- A mirrored protect or lock is sealed for its tick here as on the active (R361, R363). -/
def State.mirrorHold (s : State) (e : Entry) (sess d n : Nat) : State :=
  { s with bx := { s.bx with
      staged := s.bx.staged ++ [{
        id := s.newId
        td := d
        tick := n
        rank := 0
        mb := 0
        sess := sess
        order := s.bx.nextOrder
        isSealed := true
        entries := [e] }]
      nextId := s.newId + 1
      nextOrder := s.bx.nextOrder + 1 } }

/-- What a standby does with one item of the mirror. -/
def State.applyItem (s : State) (item : MirrorItem) : State :=
  match item with
  | .xpt d n es =>
    let t := es.foldl (fun u e => u.mirrorTake d n e) s
    let t := t.updDom d (fun k => { k with bankReady := some s.clk, bankTick := n })
    if t.pr.state = s.pr.state then
      State.sendFrame { t with pr := { t.pr with sentAcks := t.pr.sentAcks ++ [(d, n)] } } t.pr.link (.ack d n)
    else t
  | .protect dst h => s.orStep ((s.dest dst).kind != 0) (s.updOut dst (fun o => { o with protect := h }))
  | .lock dst h => s.orStep ((s.dest dst).kind != 0) (s.updOut dst (fun o => { o with lock := h }))
  | .hold lk dst op sess d n =>
    s.orStep ((s.dest dst).kind != 0) (s.mirrorHold (if lk then .lock dst op else .protect dst op) sess d n)
  | .gain d n es =>
    s.orStep (es.all (fun e => decide (e.1 < s.channels ∧ e.2.1 < s.channels)))
      (s.mirrorWork d n (es.map (fun e => .gain e.1 e.2.1 e.2.2)) s.muteAll)
  | .rampLen ao k len =>
    { s with au := { s.au with rampLen := (range ao k).foldl (fun t o => Tbl.set 480 t o len) s.au.rampLen } }
  | .mapIn d n es => s.mirrorMap d n false es
  | .mapOut d n es => s.mirrorMap d n true es
  | .follow d n es =>
    s.orStep (es.all (fun e => byteAt e 0 != 0 || (s.slotCount (s.dest (le16 e 2))).isSome))
      (s.mirrorWork d n (es.map followEntry) s.unfollowAll)
  | .ref c => s.mirrorRef c
  | .grain h n e => { s with gr := { s.gr with mirHead := some (h, n, e) } }
  | .config modes roles tols =>
    let t := s.pairModes (modes.map (BitVec.ofNat 8))
    { t with
      pr := { t.pr with roles := roles }
      tol := tols.foldl (fun m q => Tbl.set 0 m q.1 q.2.1) t.tol }
  | .readout src td choice => { s with pr := { s.pr with choices := s.pr.choices ++ [(src, td, choice)] } }

/-- An item is a read-out's choice (R364). -/
def isChoice : MirrorItem → Bool
  | .readout _ _ _ => true
  | .xpt _ _ _ => false
  | .protect _ _ => false
  | .lock _ _ => false
  | .gain _ _ _ => false
  | .rampLen _ _ _ => false
  | .hold _ _ _ _ _ _ => false
  | .mapIn _ _ _ => false
  | .mapOut _ _ _ => false
  | .follow _ _ _ => false
  | .ref _ => false
  | .grain _ _ _ => false
  | .config _ _ _ => false

/-- MIRROR_RECEIVE: a device in STANDBY or JOINING applies what its partner mirrors over the pairing link, and a standby that froze still
the choices of read-outs (R361 to R364, 14 R393). -/
def execMirrorReceive (item : MirrorItem) (s : State) : Host.Outcome State Fault Refusal :=
  if (decide (s.pr.state = .standby ∨ s.pr.state = .joining) || (s.pr.followed && isChoice item)) && s.pairUp then
    .next (s.applyItem item)
  else .next s

/-! ## The snapshot (R361, R371) -/

/-- Category 0: the current crosspoint entry of every bound destination, departure port and tap of a domain with ticks, dark ones too,
and the protect and lock of every bound destination, none too. -/
def State.snapXpt (s : State) : List MirrorItem :=
  let on := (s.de.filter (fun p => p.2.kind != 0)).map (fun p => p.1)
  let ports := on ++ (s.xp.filter (fun p => decide (1024 ≤ p.1))).map (fun p => p.1)
  ((range 0 8).filter (fun d => (s.dom d).hasTicks)).flatMap (fun d =>
    let es := (ports.filter (fun p => s.portTd p == d)).map (fun p =>
      let e := s.entryOf p
      (p, if e.valid then e.src else 0xFFFF, e.setBy))
    if es.isEmpty then [] else [.xpt d (s.dom d).count es])
  ++ on.map (fun p => .protect p (s.out p).protect)
  ++ on.map (fun p => .lock p (s.out p).lock)

/-- Category 1: the non-mute codes and the ramp lengths. -/
def State.snapGain (s : State) : List MirrorItem :=
  [.gain 8 0 ((s.au.gains.filter (fun p => p.2.code != 0)).map (fun p => (p.1 % 4096, p.1 / 4096, p.2.code))),
   .rampLen 0 4096 480]
    ++ s.au.rampLen.map (fun p => .rampLen p.1 1 p.2)

/-- Category 2: the maps, the follow settings and the source bases. -/
def State.snapMaps (s : State) : List MirrorItem :=
  [.mapIn 8 0 (s.au.inMap.filterMap (fun p => p.2.map (fun q => (Entry.mapIn p.1 q.1 q.2.1 q.2.2).bytes))),
   .mapOut 8 0 (s.au.outMap.map (fun p => (Entry.mapOut p.1 p.2).bytes)),
   .follow 8 0 ((s.de.filter (fun p => p.2.followed != 0)).map (fun p => (Entry.followDst p.1 p.2.followed).bytes)
      ++ s.au.bases.map (fun p => (Entry.followSrc p.1 p.2).bytes))]

/-- The REF_CONFIG that sets a candidate as it is. -/
def State.candCmd (s : State) (c : Nat) : Cmd :=
  let k := s.cand c
  mkCmd 0x0202 0 0 (leBytes 1 0 ++ leBytes 1 c ++ leBytes 2 (if c ≤ 1 then s.candRate c else 0)
    ++ leBytes 2 (if 12 ≤ c ∧ c ≤ 15 then k.lane.getD 0 else 0) ++ leBytes 2 k.qual ++ leBytes 4 (s.candBw c))

/-- Category 3: the reference block's configuration, priorities and force, as the commands that set them. -/
def State.snapRef (s : State) : List MirrorItem :=
  (range 0 17).map (fun c => .ref (s.candCmd c))
    ++ [.ref (mkCmd 0x0202 0 0 (leBytes 8 1 ++ leBytes 4 s.rf.thresh ++ leBytes 4 s.rf.slope ++ leBytes 4 s.rf.hold))]
    ++ (range 0 4).map (fun i =>
        let f := s.fpOut i
        .ref (mkCmd 0x0202 0 0 (leBytes 1 2 ++ leBytes 1 i ++ leBytes 1 (f.td.getD 0xFF) ++ leBytes 1 (flag f.activeLow)
          ++ leBytes 1 f.widthUs)))
    ++ [.ref (mkCmd 0x0203 0 0 ((range 0 17).flatMap (fun c => leBytes 1 (s.cand c).rank))),
        .ref (mkCmd 0x0205 0 0 (match s.rf.force with
          | .auto => leBytes 2 0
          | .candidate c => leBytes 2 (1 + 256 * c)
          | .holdover => leBytes 2 2))]

/-- The items of one category. -/
def State.snapItems (s : State) (category : Nat) : List MirrorItem :=
  match category with
  | 0 => s.snapXpt
  | 1 => s.snapGain
  | 2 => s.snapMaps
  | 3 => s.snapRef
  | 4 => [.grain s.gr.head s.gr.count s.fuses.epoch]
  | _ => [s.configItem]

/-- MIRROR_SNAPSHOT_REQUEST: the active sends every enabled category (R361, R371). -/
def execMirrorSnapshotRequest (s : State) : Host.Outcome State Fault Refusal :=
  if s.pr.state = .active ∧ s.pairUp then
    .next ((range 0 6).foldl (fun t c => (s.snapItems c).foldl (fun u i => u.mirror c i) t) s)
  else .next s

end Sys2Proof.Machine
end

