-- ==== Sys2Proof/Machine/Reset.lean ====
section
/-! DEFINITION. The four kinds of reset, start-up with its holds and refusals, READY, and the thermal trip (chapter 21, 15
R405 to R407, 20 R546, R547, 22 R604). -/
namespace Sys2Proof.Machine

/-! ## What a reset clears (R570) -/

/-- The machine after a reset other than a CC-only one. What is outside the router die and what no reset clears stays:
identity and fuses, the pins driven from outside, host memory, the window clock while powered (R36), the sensors and TRIPPED
(R604), and the count of takeovers since power-on. The key slots are empty (R420); the random generator runs on but after a power-on,
whose first request seeds it (DESIGN CHOICE, log 8). -/
def State.cleared (s : State) (kind : ResetKind) : State :=
  let up := decide (kind ≠ .powerOn)
  let z : State := {}
  { z with
    pending := s.pending
    clk := if up then s.clk else 0
    clkFrac := if up then s.clkFrac else 0
    cycles := if up then s.cycles else 0
    hostMem := s.hostMem
    hostBad := s.hostBad
    fuses := s.fuses
    straps := s.straps
    startup := { z.startup with
      lastReset := kind
      burns := if up then s.startup.burns else none }
    glb := { z.glb with
      temps := if up then s.glb.temps else []
      tempTripped := up && s.glb.tempTripped
      thermalHold := up && s.glb.thermalHold
      irqs := s.glb.irqs }
    pins := { z.pins with
      resetN := s.pins.resetN
      pwrfail := s.pins.pwrfail
      oscLost := up && s.pins.oscLost }
    boot := { z.boot with
      takeovers := if up then s.boot.takeovers else 0 }
    bx := { z.bx with
      free := s.bx.free
      nextId := s.bx.nextId
      nextOrder := s.bx.nextOrder }
    ks := { z.ks with
      drbg := if up then s.ks.drbg else { seeds := s.ks.drbg.seeds }
      lastTick := if up then s.nowNs / 125000 * 125000 else 0 } }

/-! ## Start-up (R576, R580) -/

/-- Start-up is held at a step with a stop code; STOPPED asserts FAULT_N (R580). -/
def State.holdAt (s : State) (stage code : Nat) : State :=
  { s with startup := { s.startup with stage := stage, stopped := true, stop := code } }

/-- Step 3: the clusters' lockstep tests. Start-up is held when both fail; CC1 alone failing sets CC_OTHER, and CC0 alone
failing leaves CC1 in control (R580, R581; the latter DESIGN CHOICE, log 42). -/
def State.clusterTests (s : State) (t : BootTests) : State :=
  if !t.cc0Ok && !t.cc1Ok then s.holdAt 2 4
  else
    { s with
      startup := { s.startup with ccOther := !t.cc1Ok }
      boot := { s.boot with
        cc0Failed := !t.cc0Ok
        cc1Failed := !t.cc1Ok
        cc1 := !t.cc0Ok
        ccFailAt := none }
      ic := { s.ic with
        cc0Closed := !t.cc0Ok
        cc1Closed := !t.cc1Ok } }

/-- The level sources whose causes outlast a reset: OSC_IN lost, and the router die's temperature (R381, R557, R603). -/
def State.boardLevels (s : State) : State :=
  let t := s.level 115 s.pins.oscLost 0xFFFF
  match t.hottest with
  | some h => (t.thermal 208 100 h).thermal 209 105 h
  | none => t

/-- Bits that may still be burned at a power-on: three, and no more than are unblown (R405, R406). -/
def burnable (epoch : Nat) : Nat := min 3 (4096 - epoch)

/-- After fuse sensing a power-on burns an epoch bit: the waiting outcomes say of each bit burned in turn whether it reads blown. When
none does, the power-on does not reach CC0: start-up is held with FUSE_SENSE (R405, R406; the latter DEDUCED, log 43). -/
def State.burnEpoch (s : State) : State :=
  match s.startup.burns with
  | none => s
  | some burns =>
    let t : State := { s with startup := { s.startup with burns := none } }
    if 4096 ≤ t.fuses.epoch then t
    else if (burns.take (burnable t.fuses.epoch)).any id then
      { t with fuses := { t.fuses with epoch := t.fuses.epoch + 1 } }
    else t.holdAt 1 2

/-- Inserts a drawn number with its index among others in order. -/
def insertDrawn (p : Nat × Nat) : List (Nat × Nat) → List (Nat × Nat)
  | [] => [p]
  | q :: rest => if p.1 ≤ q.1 then p :: q :: rest else q :: insertDrawn p rest

/-- The permutation of `n` numbers that 8 random bytes for each of them give: in the order of those bytes (how one is drawn DESIGN
CHOICE, log 8). -/
def drawnOrder (n : Nat) (bs : List Byte) : List Nat :=
  ((((chunks 8 n bs).map leNat).zip (range 0 n)).foldr insertDrawn []).map (fun p => p.2)

/-- The masks of `k` more slots, each from a request of its own. -/
def drawMasks : Nat → Drbg → List (BitVec 256) × Drbg
  | 0, d => ([], d)
  | k + 1, d =>
    let r := d.draw 2
    let q := drawMasks k r.2
    (BitVec.ofNat 256 (leNat r.1) :: q.1, q.2)

/-- The key store draws its address permutation, its data permutation, the per-boot key and the mask of each slot (R407). -/
def Ks.scrambled (k : Ks) : Ks :=
  let a := k.drbg.draw 512
  let b := a.2.draw 128
  let c := b.2.draw 2
  let m := drawMasks 1024 c.2
  { k with
    addrs := drawnOrder 1024 a.1
    bits := drawnOrder 256 b.1
    bootKey := BitVec.ofNat 256 (leNat c.1)
    masks := m.1
    drbg := m.2 }

/-- The check at fuse sensing of the root secret (R400). -/
def Fuses.rootGood (f : Fuses) : Bool := f.rootCheck == Config.rootCheck f.root

/-- `n` bytes derived from the root secret with a label (R401, R402). -/
def State.fromRoot (s : State) (label : String) (n : Nat) : List Byte :=
  hkdf384 (leBytes 32 s.fuses.root.toNat) s.identityBlock (ascii label) n

/-- The keys of Table Keys derived from the root, in their registers (R402). -/
def State.deriveKeys (s : State) : State :=
  { s with ks := { s.ks with
    idKey := privateKey (s.fromRoot "DIHAL-ID-1" 56)
    sealKey := privateKey (s.fromRoot "DIHAL-SEAL-1" 56)
    linkKek := BitVec.ofNat 256 (leNat (s.fromRoot "DIHAL-DTKEK-1" 32))
    derived := true } }

/-- The key store's scrambling is drawn afresh (R407). -/
def State.scramble (s : State) : State := { s with ks := s.ks.scrambled }

/-- The clusters run the boot ROM, which shows its version (R576, Table Global registers). -/
def State.romRuns (s : State) : State := { s with glb := { s.glb with romVer := Config.romVersion } }

/-- Steps 3 and 4: the reset-only tests and UCIe training (R580). -/
def State.pastKeys (s : State) (t : BootTests) : State :=
  if !t.romOk then s.holdAt 2 3
  else
    let u := s.clusterTests t
    if u.startup.stopped then u
    else { u with startup := { u.startup with stage := if t.ucieOk then 4 else 3 } }

/-- Steps 1 to 4 from the end of a reset: fuse sensing and the root check, the epoch bit of a power-on, the keys of R402 and the
scrambling of R407, the reset-only tests, and UCIe training, which has 200 ms (R400, R402, R405 to R407, R580). `rootOk` says whether
the root secret and its check were sensed as they are blown. -/
def State.startUp (s : State) (t : BootTests) : State :=
  let s : State := { s with
    startup := { s.startup with stage := 1, upSince := s.clk }
    glb := { s.glb with fuseSensed := t.fuseOk } }
  let s := s.boardLevels
  if !t.fuseOk then s.holdAt 1 2
  else if !(t.rootOk && s.fuses.rootGood) then s.holdAt 1 1
  else if s.burnEpoch.startup.stopped then s.burnEpoch
  else
    let s := s.burnEpoch
    (s.level 180 s.epochSaturated 0xFFFF).deriveKeys.scramble.romRuns.pastKeys t

/-! ## Power-on (R405, R566, R570) -/

/-- POWER_ON_RESET: the supply ramp with RESET_N held low. `burns` says of each epoch bit that start-up will burn in turn whether it
reads blown (R405). -/
def execPowerOnReset (burns : List Bool) (s : State) : Host.Outcome State Fault Refusal :=
  let t := s.cleared .powerOn
  .next { t with
    pins := { t.pins with resetN := false, pwrfail := false }
    startup := { t.startup with burns := some burns } }

/-! ## RESET_N (R546, R547, R567) -/

/-- RESET_N_ASSERT: RESET_N has been low for 1 µs; any other reset and start-up are abandoned (R575). -/
def execResetNAssert (s : State) : Host.Outcome State Fault Refusal :=
  if s.pins.resetN then
    let t := s.cleared .resetN
    .next { t with pins := { t.pins with resetN := false } }
  else .next s

/-- The release of RESET_N ends a thermal trip's hold only while every router-die sensor reads below 100 °C (R604). -/
def State.coolEnough (s : State) : Bool :=
  match s.hottest with
  | some h => decide (h < 1600)
  | none => true

/-- RESET_N_RELEASE: the straps are sampled, PWRFAIL_N starts deasserted, and start-up runs. -/
def execResetNRelease (index : Nat) (pairId : Bool) (t : BootTests) (s : State) : Host.Outcome State Fault Refusal :=
  if s.pins.resetN then .next s
  else
    let u : State := { s with
      straps := { groupIdx := index % 4, pairId := pairId }
      pins := { s.pins with resetN := true, pwrfail := false } }
    if u.startup.stopped ∨ (u.glb.thermalHold ∧ !u.coolEnough) then .next u
    else .next (State.startUp { u with glb := { u.glb with thermalHold := false } } t)

/-! ## Resets by command (R572, R573) -/

/-- The upload of the SEAL of REASON 4 has finished (R572). -/
def State.sealUploaded (s : State) : Bool := s.boot.sealing && s.gr.staged.isEmpty

/-- The wait of R572 is over: the upload has finished or 2.0 ms have passed, and with PWRFAIL_N asserted STOPPED is set. -/
def State.routerDue (s : State) (since : Nat) : Bool :=
  if s.pins.pwrfail then s.gr.stopped else s.sealUploaded || s.passed since (tuMs 2)

/-- DEVICE_RESET_ROUTER_DIE: the router die is reset, the host die runs on, and start-up runs from step 2. -/
def execDeviceResetRouterDie (t : BootTests) (s : State) : Host.Outcome State Fault Refusal :=
  match s.boot.firing with
  | some (.device, since) =>
    if s.routerDue since then .next ((s.cleared .device).startUp t) else .next s
  | _ => .next s

/-- CC_ONLY_RESET_RELEASE: after 10 µs the clusters leave reset, and start-up runs from step 3, without step 4. -/
def execCcOnlyResetRelease (t : BootTests) (s : State) : Host.Outcome State Fault Refusal :=
  match s.boot.firing with
  | some (.ccOnly, since) =>
    if s.passed since (tuUs 10) then
      let u : State := { s with boot := { s.boot with firing := none } }
      if !t.romOk then .next (u.holdAt 2 3)
      else
        let v := u.clusterTests t
        if v.startup.stopped then .next v
        else .next { v with startup := { v.startup with stage := 4 } }
    else .next s
  | _ => .next s

/-- UCIE_TRAIN_TIMEOUT: the UCIe link has not trained within 200 ms of step 4 (R580). -/
def execUcieTrainTimeout (s : State) : Host.Outcome State Fault Refusal :=
  if s.startup.stage = 3 ∧ !s.startup.stopped ∧ s.passed s.startup.upSince (tuMs 200) then .next (s.holdAt 3 5) else .next s

/-! ## The image (R574, R579) -/

/-- The image as copied from host memory. -/
def State.bootImage (s : State) : List Byte := s.hostMem.readBytes s.startup.bootAddr s.startup.bootLen

/-- MBX_BOOT_LEN holds a length an image may have (Table Boot registers). -/
def bootLenOk (n : Nat) : Bool := decide (65536 ≤ n ∧ n ≤ 4194304) && n % 64 == 0

/-- The stop code that refuses an image, none when it is accepted (R574, R579). -/
def State.imageStop (s : State) (img : Image) : Option Nat :=
  if s.startup.ccOnly && sha384 s.bootImage != s.startup.mBalix then some 7
  else if img.keyHashOk && img.sigOk && img.hdrLen == s.startup.bootLen && bootLenOk s.startup.bootLen
      && s.hostOk s.startup.bootAddr s.startup.bootLen then none
  else some 6

/-- IMAGE_ACCEPT: the copied image is accepted and measured into M_BALIX, where the configuration digest starts (R424) but
after a CC-only reset, and MAP_SWAP is set; or it is refused and start-up waits for another. -/
def execImageAccept (img : Image) (s : State) : Host.Outcome State Fault Refusal :=
  if s.startup.stage = 5 ∧ !s.startup.stopped then
    match s.imageStop img with
    | some code =>
      .next { s with startup := { s.startup with
        stage := 4
        stop := code
        attempts := satAdd 255 s.startup.attempts 1 } }
    | none =>
      let m := sha384 s.bootImage
      .next { s with
        startup := { s.startup with
          stage := 6
          mBalix := m
          mapSwap := true }
        glb := { s.glb with balixVer := img.version }
        bx := { s.bx with digest := if s.startup.ccOnly then s.bx.digest else m } }
  else .next s

/-! ## READY (R573, R581, R582) -/

/-- Whether HBM stack `n` trained at step 7. -/
def trained (hbm : List Bool) (n : Nat) : Bool := hbm.getD n true

/-- The stacks that did not train are degraded, and the source of their controller or PHY latches (R581). -/
def State.untrained (s : State) (hbm : List Bool) : State :=
  (range 0 4).foldl (fun t n => if trained hbm n then t else t.level (26 + 4 * n) true 0xFFFF) s

/-- BOOT_LOCK is set, ALIVE_N asserted but after a CC-only reset, and the device is READY (R582). -/
def State.readyUp (s : State) : State :=
  { s with
    startup := { s.startup with
      stage := 7
      bootLock := true
      ready := true
      ccOnly := false }
    boot := { s.boot with freeze := false }
    pins := { s.pins with alive := if s.startup.ccOnly then s.pins.alive else !s.boot.dataStop } }

/-- The sources of the cluster pairs at READY: a pair that failed its test latches, the causes of the others end (R581,
R573). -/
def State.clusterSources (s : State) : State :=
  ((s.level 0 s.boot.cc0Failed 0xFFFF).level 1 s.boot.cc1Failed 0xFFFF).fall 2

/-- The pairing logic leaves FROZEN for ISOLATED: what DIVERGE stopped is no longer stopped by it, and a partner already lost and not
alive makes the device ACTIVE (R343, R350, R573). -/
def State.thaw (s : State) : State :=
  if s.pr.state = .frozen then
    let t := s.pairMove .isolated
    (State.pairLegs { t with de := t.de.map (fun p => (p.1, { p.2 with diverged := false })) }).lostMove 0
  else s

/-- READY: `hbm` says of each of the four stacks whether it trained. A CC-only reset trains nothing; its pairing logic
leaves FROZEN for ISOLATED (R573, R577). -/
def execReady (hbm : List Bool) (s : State) : Host.Outcome State Fault Refusal :=
  if s.startup.stage ≠ 6 ∨ s.startup.stopped then .next s
  else if s.startup.ccOnly then
    .next s.readyUp.thaw.clusterSources
  else if (!trained hbm 0 && !trained hbm 2) || (!trained hbm 1 && !trained hbm 3) then .next (s.holdAt 6 8)
  else .next (((s.untrained hbm).readyUp).refreshClamp.clusterSources)

/-! ## The thermal trip (R604) -/

/-- THERMAL_TRIP: a router-die sensor reads 120 °C or more; the device goes into a reset that only RESET_N ends. -/
def execThermalTrip (s : State) : Host.Outcome State Fault Refusal :=
  match s.hottest with
  | some h =>
    if 1920 ≤ h then
      let t := s.cleared .thermal
      .next { t with glb := { t.glb with tempTripped := true, thermalHold := true } }
    else .next s
  | none => .next s

end Sys2Proof.Machine
end

