-- ==== Sys2Proof/Machine/Dispatch.lean ====
section
/-! DEFINITION. What each command does: one arm per constructor, each one direct call of its meaning. -/
namespace Sys2Proof.Machine

/-- The effect of a command on everything but the queue. -/
def exec (i : Instr) (s : State) : Host.Outcome State Fault Refusal :=
  match i with
  | .deviceInfo mb c => Sys2Proof.Machine.execDeviceInfo mb c s
  | .fwStatus mb c => Sys2Proof.Machine.execFwStatus mb c s
  | .sessionOpen mb c => Sys2Proof.Machine.execSessionOpen mb c s
  | .sessionClose mb c => Sys2Proof.Machine.execSessionClose mb c s
  | .nopEcho mb c => Sys2Proof.Machine.execNopEcho mb c s
  | .tdConfig mb c => Sys2Proof.Machine.execTdConfig mb c s
  | .refConfig mb c => Sys2Proof.Machine.execRefConfig mb c s
  | .refPriority mb c => Sys2Proof.Machine.execRefPriority mb c s
  | .refStatus mb c => Sys2Proof.Machine.execRefStatus mb c s
  | .refForce mb c => Sys2Proof.Machine.execRefForce mb c s
  | .fpRealign mb c => Sys2Proof.Machine.execFpRealign mb c s
  | .cutoffSet mb c => Sys2Proof.Machine.execCutoffSet mb c s
  | .tbConfig mb c => Sys2Proof.Machine.execTbConfig mb c s
  | .tbOffset mb c => Sys2Proof.Machine.execTbOffset mb c s
  | .tbStep mb c => Sys2Proof.Machine.execTbStep mb c s
  | .ptpInstance mb c => Sys2Proof.Machine.execPtpInstance mb c s
  | .tbStatus mb c => Sys2Proof.Machine.execTbStatus mb c s
  | .srcBind mb c => Sys2Proof.Machine.execSrcBind mb c s
  | .srcStatus mb c => Sys2Proof.Machine.execSrcStatus mb c s
  | .rxFlowSet mb c => Sys2Proof.Machine.execRxFlowSet mb c s
  | .rxFlowClear mb c => Sys2Proof.Machine.execRxFlowClear mb c s
  | .srcSyncMode mb c => Sys2Proof.Machine.execSrcSyncMode mb c s
  | .xptTake mb c => Sys2Proof.Machine.execXptTake mb c s
  | .xptSalvoLoad mb c => Sys2Proof.Machine.execXptSalvoLoad mb c s
  | .xptSalvoFire mb c => Sys2Proof.Machine.execXptSalvoFire mb c s
  | .xptProtect mb c => Sys2Proof.Machine.execXptProtect mb c s
  | .xptLock mb c => Sys2Proof.Machine.execXptLock mb c s
  | .xptQuery mb c => Sys2Proof.Machine.execXptQuery mb c s
  | .planeControl mb c => Sys2Proof.Machine.execPlaneControl mb c s
  | .planeStatus mb c => Sys2Proof.Machine.execPlaneStatus mb c s
  | .dstBind mb c => Sys2Proof.Machine.execDstBind mb c s
  | .txFlowSet mb c => Sys2Proof.Machine.execTxFlowSet mb c s
  | .dstStatus mb c => Sys2Proof.Machine.execDstStatus mb c s
  | .dstMitreSet mb c => Sys2Proof.Machine.execDstMitreSet mb c s
  | .audGainSet mb c => Sys2Proof.Machine.execAudGainSet mb c s
  | .audGainBlock mb c => Sys2Proof.Machine.execAudGainBlock mb c s
  | .audMapIn mb c => Sys2Proof.Machine.execAudMapIn mb c s
  | .audMapOut mb c => Sys2Proof.Machine.execAudMapOut mb c s
  | .audRampSet mb c => Sys2Proof.Machine.execAudRampSet mb c s
  | .audStatus mb c => Sys2Proof.Machine.execAudStatus mb c s
  | .audFollow mb c => Sys2Proof.Machine.execAudFollow mb c s
  | .mqLayout mb c => Sys2Proof.Machine.execMqLayout mb c s
  | .mqVeneer mb c => Sys2Proof.Machine.execMqVeneer mb c s
  | .mqFenceGroup mb c => Sys2Proof.Machine.execMqFenceGroup mb c s
  | .mqOutput mb c => Sys2Proof.Machine.execMqOutput mb c s
  | .mqCompare mb c => Sys2Proof.Machine.execMqCompare mb c s
  | .mqStatus mb c => Sys2Proof.Machine.execMqStatus mb c s
  | .dtLinkUp mb c => Sys2Proof.Machine.execDtLinkUp mb c s
  | .dtStatus mb c => Sys2Proof.Machine.execDtStatus mb c s
  | .dtGroup mb c => Sys2Proof.Machine.execDtGroup mb c s
  | .dtTieReserve mb c => Sys2Proof.Machine.execDtTieReserve mb c s
  | .pairConfig mb c => Sys2Proof.Machine.execPairConfig mb c s
  | .pairStatus mb c => Sys2Proof.Machine.execPairStatus mb c s
  | .pairMirrorSet mb c => Sys2Proof.Machine.execPairMirrorSet mb c s
  | .pairSwitch mb c => Sys2Proof.Machine.execPairSwitch mb c s
  | .pairResync mb c => Sys2Proof.Machine.execPairResync mb c s
  | .faultRead mb c => Sys2Proof.Machine.execFaultRead mb c s
  | .faultAck mb c => Sys2Proof.Machine.execFaultAck mb c s
  | .faultMap mb c => Sys2Proof.Machine.execFaultMap mb c s
  | .faultInject mb c => Sys2Proof.Machine.execFaultInject mb c s
  | .selftestRun mb c => Sys2Proof.Machine.execSelftestRun mb c s
  | .keyLoad mb c => Sys2Proof.Machine.execKeyLoad mb c s
  | .keyDerive mb c => Sys2Proof.Machine.execKeyDerive mb c s
  | .keyInvalidate mb c => Sys2Proof.Machine.execKeyInvalidate mb c s
  | .keyInfo mb c => Sys2Proof.Machine.execKeyInfo mb c s
  | .attest mb c => Sys2Proof.Machine.execAttest mb c s
  | .idCertRead mb c => Sys2Proof.Machine.execIdCertRead mb c s
  | .grainConfig mb c => Sys2Proof.Machine.execGrainConfig mb c s
  | .grainWitness mb c => Sys2Proof.Machine.execGrainWitness mb c s
  | .grainSeal mb c => Sys2Proof.Machine.execGrainSeal mb c s
  | .grainStatus mb c => Sys2Proof.Machine.execGrainStatus mb c s
  | .pwrTolerance mb c => Sys2Proof.Machine.execPwrTolerance mb c s
  | .pwrStatus mb c => Sys2Proof.Machine.execPwrStatus mb c s
  | .pwrPin mb c => Sys2Proof.Machine.execPwrPin mb c s
  | .laneConfig mb c => Sys2Proof.Machine.execLaneConfig mb c s
  | .laneEq mb c => Sys2Proof.Machine.execLaneEq mb c s
  | .laneBitslip mb c => Sys2Proof.Machine.execLaneBitslip mb c s
  | .lanePrbs mb c => Sys2Proof.Machine.execLanePrbs mb c s
  | .laneEyescan mb c => Sys2Proof.Machine.execLaneEyescan mb c s
  | .portConfig mb c => Sys2Proof.Machine.execPortConfig mb c s
  | .macsecSc mb c => Sys2Proof.Machine.execMacsecSc mb c s
  | .mbDoorbell mb value => Sys2Proof.Machine.execMbDoorbell mb value s
  | .mbEnableSet mb => Sys2Proof.Machine.execMbEnableSet mb s
  | .mbEnableClear mb => Sys2Proof.Machine.execMbEnableClear mb s
  | .mbRingBaseWrite mb off value => Sys2Proof.Machine.execMbRingBaseWrite mb off value s
  | .mbCplHead mb value => Sys2Proof.Machine.execMbCplHead mb value s
  | .mbIrqCtrl mb value => Sys2Proof.Machine.execMbIrqCtrl mb value s
  | .mbResetDevice mb value => Sys2Proof.Machine.execMbResetDevice mb value s
  | .mbResetCcOnly mb value => Sys2Proof.Machine.execMbResetCcOnly mb value s
  | .mbResetArmExpiry => Sys2Proof.Machine.execMbResetArmExpiry s
  | .bootGo value => Sys2Proof.Machine.execBootGo value s
  | .tsqEntry3Read m q => Sys2Proof.Machine.execTsqEntry3Read m q s
  | .tbSecLRead m q => Sys2Proof.Machine.execTbSecLRead m q s
  | .grainLastSeal0Read r => Sys2Proof.Machine.execGrainLastSeal0Read r s
  | .lowHalfRead m a => Sys2Proof.Machine.execLowHalfRead m a s
  | .clearOnRead m a => Sys2Proof.Machine.execClearOnRead m a s
  | .dmaStart m ch => Sys2Proof.Machine.execDmaStart m ch s
  | .dmaPause m ch => Sys2Proof.Machine.execDmaPause m ch s
  | .dmaResume m ch => Sys2Proof.Machine.execDmaResume m ch s
  | .dmaContinue m ch => Sys2Proof.Machine.execDmaContinue m ch s
  | .dmaAbort m ch => Sys2Proof.Machine.execDmaAbort m ch s
  | .dmaCqHeadWrite m ch value => Sys2Proof.Machine.execDmaCqHeadWrite m ch value s
  | .plTestCtrlWrite m lane value => Sys2Proof.Machine.execPlTestCtrlWrite m lane value s
  | .injOne m lane => Sys2Proof.Machine.execInjOne m lane s
  | .registerWrite m a value => Sys2Proof.Machine.execRegisterWrite m a value s
  | .commandFetch => Sys2Proof.Machine.execCommandFetch s
  | .completionPost id => Sys2Proof.Machine.execCompletionPost id s
  | .cplHoldoffExpiry mb => Sys2Proof.Machine.execCplHoldoffExpiry mb s
  | .tdTick d => Sys2Proof.Machine.execTdTick d s
  | .tickCutoff d => Sys2Proof.Machine.execTickCutoff d s
  | .domainArming d => Sys2Proof.Machine.execDomainArming d s
  | .mitreFlip dst => Sys2Proof.Machine.execMitreFlip dst s
  | .veneerWaitExpiry id => Sys2Proof.Machine.execVeneerWaitExpiry id s
  | .audioBlockBoundary inp => Sys2Proof.Machine.execAudioBlockBoundary inp s
  | .rampEnd ai ao => Sys2Proof.Machine.execRampEnd ai ao s
  | .keyTick => Sys2Proof.Machine.execKeyTick s
  | .drbgReseed => Sys2Proof.Machine.execDrbgReseed s
  | .refEvaluation meas => Sys2Proof.Machine.execRefEvaluation meas s
  | .candidateQualify cand => Sys2Proof.Machine.execCandidateQualify cand s
  | .candidateDisqualify cand why => Sys2Proof.Machine.execCandidateDisqualify cand why s
  | .pullEnd => Sys2Proof.Machine.execPullEnd s
  | .lockDwellExpiry => Sys2Proof.Machine.execLockDwellExpiry s
  | .holdoverHistoryValid => Sys2Proof.Machine.execHoldoverHistoryValid s
  | .holdoverLimit => Sys2Proof.Machine.execHoldoverLimit s
  | .ptpOffset inst stepcnt theta gm => Sys2Proof.Machine.execPtpOffset inst stepcnt theta gm s
  | .masterTimeout base => Sys2Proof.Machine.execMasterTimeout base s
  | .grandmasterChange inst gm => Sys2Proof.Machine.execGrandmasterChange inst gm s
  | .ptpSyncSend inst port => Sys2Proof.Machine.execPtpSyncSend inst port s
  | .ppsOutPulse => Sys2Proof.Machine.execPpsOutPulse s
  | .txTimestamp port sub id => Sys2Proof.Machine.execTxTimestamp port sub id s
  | .sdiHuntDwell lane => Sys2Proof.Machine.execSdiHuntDwell lane s
  | .sdiLaneLock lane family ctle => Sys2Proof.Machine.execSdiLaneLock lane family ctle s
  | .sdiLockLoss lane => Sys2Proof.Machine.execSdiLockLoss lane s
  | .formatValid src sig => Sys2Proof.Machine.execFormatValid src sig s
  | .budgetHoldResume => Sys2Proof.Machine.execBudgetHoldResume s
  | .lineArrival src l => Sys2Proof.Machine.execLineArrival src l s
  | .outOfWindow src => Sys2Proof.Machine.execOutOfWindow src s
  | .lineRelease src => Sys2Proof.Machine.execLineRelease src s
  | .ethFrameReceive port f => Sys2Proof.Machine.execEthFrameReceive port f s
  | .lineClose src line => Sys2Proof.Machine.execLineClose src line s
  | .legTimeout src leg => Sys2Proof.Machine.execLegTimeout src leg s
  | .readoutFrameStart src td => Sys2Proof.Machine.execReadoutFrameStart src td s
  | .lossHoldExpiry src td => Sys2Proof.Machine.execLossHoldExpiry src td s
  | .readoutLineRelease src td line => Sys2Proof.Machine.execReadoutLineRelease src td line s
  | .hbmReadError stack err => Sys2Proof.Machine.execHbmReadError stack err s
  | .stackReturnComplete stack => Sys2Proof.Machine.execStackReturnComplete stack s
  | .hbmScrub stack err => Sys2Proof.Machine.execHbmScrub stack err s
  | .dstFrameStart dst => Sys2Proof.Machine.execDstFrameStart dst s
  | .egressLineReceive dst a b => Sys2Proof.Machine.execEgressLineReceive dst a b s
  | .egressLineSend dst ancFit => Sys2Proof.Machine.execEgressLineSend dst ancFit s
  | .audioPacketSend tf => Sys2Proof.Machine.execAudioPacketSend tf s
  | .frameDigest dst => Sys2Proof.Machine.execFrameDigest dst s
  | .mqFrameStart engine => Sys2Proof.Machine.execMqFrameStart engine s
  | .mqCompareReport engine low second => Sys2Proof.Machine.execMqCompareReport engine low second s
  | .faultLatch source line => Sys2Proof.Machine.execFaultLatch source line s
  | .ccFailure cluster => Sys2Proof.Machine.execCcFailure cluster s
  | .ccTakeover => Sys2Proof.Machine.execCcTakeover s
  | .icTimeout m write space addr => Sys2Proof.Machine.execIcTimeout m write space addr s
  | .dmaDescriptorStart ch => Sys2Proof.Machine.execDmaDescriptorStart ch s
  | .dmaBlock ch => Sys2Proof.Machine.execDmaBlock ch s
  | .dmaDescriptorComplete ch => Sys2Proof.Machine.execDmaDescriptorComplete ch s
  | .dmaHalt ch err => Sys2Proof.Machine.execDmaHalt ch err s
  | .dmaLoopSuspect ch => Sys2Proof.Machine.execDmaLoopSuspect ch s
  | .dmaPaceRequest ch fill => Sys2Proof.Machine.execDmaPaceRequest ch fill s
  | .hpTxPoll port => Sys2Proof.Machine.execHpTxPoll port s
  | .ethSubportLinkUp port sub => Sys2Proof.Machine.execEthSubportLinkUp port sub s
  | .ethSubportLinkDown port sub fault => Sys2Proof.Machine.execEthSubportLinkDown port sub fault s
  | .prbsCheckerLock lane seen => Sys2Proof.Machine.execPrbsCheckerLock lane seen s
  | .eyescanComplete lane scan => Sys2Proof.Machine.execEyescanComplete lane scan s
  | .selftestComplete id result => Sys2Proof.Machine.execSelftestComplete id result s
  | .planeOfflineComplete plane => Sys2Proof.Machine.execPlaneOfflineComplete plane s
  | .planeLoaded plane => Sys2Proof.Machine.execPlaneLoaded plane s
  | .planeShadowPass plane => Sys2Proof.Machine.execPlaneShadowPass plane s
  | .dtNegotiationRecord link rec => Sys2Proof.Machine.execDtNegotiationRecord link rec s
  | .dtTrainingResult link lanes => Sys2Proof.Machine.execDtTrainingResult link lanes s
  | .dtStepTimeout link => Sys2Proof.Machine.execDtStepTimeout link s
  | .dtLinkFrame link f => Sys2Proof.Machine.execDtLinkFrame link f s
  | .dtAuthFailLimit link => Sys2Proof.Machine.execDtAuthFailLimit link s
  | .dtKeyRenewal link receive => Sys2Proof.Machine.execDtKeyRenewal link receive s
  | .dtLaneFailNoSpare link lane => Sys2Proof.Machine.execDtLaneFailNoSpare link lane s
  | .dtLinkDown link => Sys2Proof.Machine.execDtLinkDown link s
  | .dtGroupTickStamp link cycles => Sys2Proof.Machine.execDtGroupTickStamp link cycles s
  | .dtAlignExchange link d rec => Sys2Proof.Machine.execDtAlignExchange link d rec s
  | .dtReservation link r => Sys2Proof.Machine.execDtReservation link r s
  | .dtReservationConfirm link r => Sys2Proof.Machine.execDtReservationConfirm link r s
  | .dtTieRelease link src td tick => Sys2Proof.Machine.execDtTieRelease link src td tick s
  | .dtTieLineRelease link src td l => Sys2Proof.Machine.execDtTieLineRelease link src td l s
  | .heartbeatSend => Sys2Proof.Machine.execHeartbeatSend s
  | .heartbeatReceive path bytes => Sys2Proof.Machine.execHeartbeatReceive path bytes s
  | .pairingPathLost path => Sys2Proof.Machine.execPairingPathLost path s
  | .partnerLost => Sys2Proof.Machine.execPartnerLost s
  | .peerNotAlive high => Sys2Proof.Machine.execPeerNotAlive high s
  | .clampGntStable => Sys2Proof.Machine.execClampGntStable s
  | .clampGntDeassert => Sys2Proof.Machine.execClampGntDeassert s
  | .mirrorReceive item => Sys2Proof.Machine.execMirrorReceive item s
  | .mirrorAck d tick => Sys2Proof.Machine.execMirrorAck d tick s
  | .mirrorAckTimeout d => Sys2Proof.Machine.execMirrorAckTimeout d s
  | .mirrorTbOffset base stepcnt theta => Sys2Proof.Machine.execMirrorTbOffset base stepcnt theta s
  | .divergeReceive map => Sys2Proof.Machine.execDivergeReceive map s
  | .joinComplete => Sys2Proof.Machine.execJoinComplete s
  | .grainRecord => Sys2Proof.Machine.execGrainRecord s
  | .grainForwardReceive rec => Sys2Proof.Machine.execGrainForwardReceive rec s
  | .grainPeriodicSeal => Sys2Proof.Machine.execGrainPeriodicSeal s
  | .pwrfailAssert => Sys2Proof.Machine.execPwrfailAssert s
  | .pwrfailSeal => Sys2Proof.Machine.execPwrfailSeal s
  | .pwrfailDeassert => Sys2Proof.Machine.execPwrfailDeassert s
  | .oscInLoss => Sys2Proof.Machine.execOscInLoss s
  | .temperatureSample readings => Sys2Proof.Machine.execTemperatureSample readings s
  | .thermalTrip => Sys2Proof.Machine.execThermalTrip s
  | .powerOnReset burns => Sys2Proof.Machine.execPowerOnReset burns s
  | .resetNAssert => Sys2Proof.Machine.execResetNAssert s
  | .resetNRelease index pairId t => Sys2Proof.Machine.execResetNRelease index pairId t s
  | .deviceResetRouterDie t => Sys2Proof.Machine.execDeviceResetRouterDie t s
  | .ccOnlyResetRelease t => Sys2Proof.Machine.execCcOnlyResetRelease t s
  | .ucieTrainTimeout => Sys2Proof.Machine.execUcieTrainTimeout s
  | .imageAccept img => Sys2Proof.Machine.execImageAccept img s
  | .ready hbm => Sys2Proof.Machine.execReady hbm s
  | .pwrDomainIdle dom => Sys2Proof.Machine.execPwrDomainIdle dom s
  | .pwrWakeComplete dom us => Sys2Proof.Machine.execPwrWakeComplete dom us s
  | .pwrWakeTimeout dom => Sys2Proof.Machine.execPwrWakeTimeout dom s
  | .injectedHoldExpiry source => Sys2Proof.Machine.execInjectedHoldExpiry source s
  | .grainForwardAck => Sys2Proof.Machine.execGrainForwardAck s
  | .delayReqSend inst port => Sys2Proof.Machine.execDelayReqSend inst port s
  | .debugPortTransaction write a value => Sys2Proof.Machine.execDebugPortTransaction write a value s
  | .pwrDomainEntryComplete dom => Sys2Proof.Machine.execPwrDomainEntryComplete dom s
  | .mirrorSnapshotRequest => Sys2Proof.Machine.execMirrorSnapshotRequest s

end Sys2Proof.Machine
end

