-- ==== Sys2Proof/Safety.lean ====
section
/-! DEFINITION. The terms claims are made in: what a safe run is, when Balix fetches and accepts a command, and what it is for
a command to complete at once, to begin, or to be held for a tick. -/
namespace Sys2Proof.Safety

open Sys2Proof.Machine

/-- The block can take one step from `s`. -/
def Steps (s : State) : Prop := ∃ t, step s = .next t

/-- The block can take `n` steps from `s`. -/
def StepsFor : Nat → State → Prop
  | 0, _ => True
  | n + 1, s => ∃ t, step s = .next t ∧ StepsFor n t

/-! ## A command fetched by Balix -/

/-- The command of a row with the opcode of the row. -/
def ran (p : CmdSpec) (c : Cmd) : Cmd := c.withOpcode p.opcode

/-- Balix fetches a command from a mailbox: it runs, there is a place for the command, and no KEY_EVENT of a slot that the command
names is to be written first (R393, R61, R62, R422). -/
def Fetched (p : CmdSpec) (mb : Nat) (c : Cmd) (s : State) : Prop :=
  s.balixUp = true ∧ mb < 16 ∧ s.hasRoom mb 1 = true ∧ s.keysLogged (ran p c) = true

/-- The state with the command in flight. -/
def entered (p : CmdSpec) (mb : Nat) (c : Cmd) (s : State) : State := s.enter mb (ran p c) s.nowNs [s.newId]

/-- What Balix knows of the command. -/
def context (p : CmdSpec) (mb : Nat) (c : Cmd) (s : State) : Ctx :=
  (entered p mb c s).ctxOf mb (ran p c) s.nowNs s.newId

/-- The power domains that the command needs ON (R587). -/
def needed (p : CmdSpec) (c : Cmd) : List Nat := commandNeeds p.opcode (ran p c)

/-- The state in which an accepted command acts: in flight, and with no domain it needs counted as idle any more. -/
def acting (p : CmdSpec) (mb : Nat) (c : Cmd) (s : State) : State := (entered p mb c s).wakeAll (needed p c)

/-- No check of R447 refuses the command. -/
def Passes (p : CmdSpec) (mb : Nat) (c : Cmd) (s : State) : Prop :=
  Fetched p mb c s ∧ judge p (entered p mb c s) (context p mb c s) = none

/-- Balix accepts the command and every domain it needs is ON. -/
def Accepted (p : CmdSpec) (mb : Nat) (c : Cmd) (s : State) : Prop :=
  Passes p mb c s ∧ (acting p mb c s).asleep (needed p c) = none

/-- An accepted command of a row changes the state as `E` says and completes with the reply `R` (R450 At once). -/
def AtOnce (p : CmdSpec) (row : Nat → Cmd → Instr) (E : State → Ctx → State) (R : State → Ctx → Rep) : Prop :=
  ∀ (mb : Nat) (c : Cmd) (s : State), Accepted p mb c s →
    exec (row mb c) s = .next ((E (acting p mb c s) (context p mb c s)).settle s.newId
      (R (acting p mb c s) (context p mb c s)))

/-- As `AtOnce`, with the command's mirror item sent after it completes: `M` (R361). -/
def AtOnceThen (p : CmdSpec) (row : Nat → Cmd → Instr) (E : State → Ctx → State) (R : State → Ctx → Rep)
    (M : Ctx → State → State) : Prop :=
  ∀ (mb : Nat) (c : Cmd) (s : State), Accepted p mb c s →
    exec (row mb c) s = .next (M (context p mb c s) ((E (acting p mb c s) (context p mb c s)).settle s.newId
      (R (acting p mb c s) (context p mb c s))))

/-- An accepted command of a row changes nothing and completes DONE with a result. -/
def Answers (p : CmdSpec) (row : Nat → Cmd → Instr) (R : State → Ctx → List Byte) : Prop :=
  AtOnce p row (fun t _ => t) (fun t x => repDone (R t x))

/-- An accepted command of a row begins as `E` says (R450 Later). -/
def Begins (p : CmdSpec) (row : Nat → Cmd → Instr) (E : State → Ctx → State) : Prop :=
  ∀ (mb : Nat) (c : Cmd) (s : State), Accepted p mb c s →
    exec (row mb c) s = .next (E (acting p mb c s) (context p mb c s))

/-! ## A command held for a tick -/

/-- The work of a command in one domain, for tick `n` of the command's own domain (R40, R52). -/
def work (p : CmdSpec) (mb : Nat) (c : Cmd) (s : State) (n : Nat) (q : Nat × List Entry) : Staged :=
  let x := context p mb c s
  let t := entered p mb c s
  { id := x.id
    td := q.1
    tick := if q.1 = x.cmd.td then n else t.tickFrom q.1 (t.cutoffOf x.cmd.td n)
    rank := x.rank
    mb := x.mb
    sess := x.sess
    order := t.bx.nextOrder
    op := p.opcode
    tag := x.cmd.tag
    lateOk := x.cmd.lateOk
    chain := [x.id]
    skip := bit (x.cmd.u8 17) 0 && p.opcode == 0x0503
    entries := q.2 }

/-- The state with a command's entries `E` staged for tick `n` and what the staging changes `G`, before capacity is
allotted; the domains that the entries need are waking. -/
def staging (p : CmdSpec) (E : State → Ctx → List (Nat × List Entry)) (G : State → Ctx → State) (mb : Nat) (c : Cmd)
    (s : State) (n : Nat) : State :=
  let x := context p mb c s
  let t := entered p mb c s
  let ps := E t x
  let k := ps.foldl (fun k q => k + q.2.length) 0
  let u : State := { t with bx := { t.bx with
    staged := t.bx.staged ++ ps.map (work p mb c s n)
    nextOrder := t.bx.nextOrder + 1 } }
  let u := G (u.updFlight x.id (fun f => { f with waits := k, total := k, phase := .staged })) x
  u.wakeAll ((range 0 8).flatMap (u.stagedNeeds [x.id]))

/-- An accepted command of a row, assigned tick `n` (R40, R41), whose entries `E` have found their places, is held for its
tick: its work stands at those places with its capacity allotted (R43, R46, R47), its flight counts its entries, the entries
of a salvo with SKIP_HELD that are held are skipped (R224), and the ties it needs are asked for (R226). -/
def OnTick (p : CmdSpec) (row : Nat → Cmd → Instr) (E : State → Ctx → List (Nat × List Entry))
    (G : State → Ctx → State) : Prop :=
  ∀ (mb : Nat) (c : Cmd) (s : State) (n : Nat) (late : Bool) (places : List (Nat × Nat × Bool × Bool)),
    Passes p mb c s → (entered p mb c s).assign (context p mb c s) = .ok (n, late) →
    (staging p E G mb c s n).placeAll [s.newId] (ran p c).lateOk (range 0 8) = some places →
    exec (row mb c) s = .next
      (let u := (staging p E G mb c s n).commitPlaces [s.newId] places
       let u : State := { u with bx := { u.bx with flights := u.bx.flights.map (fun f =>
          if f.id = s.newId then
            let g := { f with
              late := f.late || late
              eff := if f.ticks.any (fun q => q.1 == f.cmd.td) then f.eff else n }
            if f.waits = 0 then { g with reply := some g.final } else g
          else f) } }
       (u.skipHeld [s.newId]).reserveFor [s.newId])

/-- In every state that meets `h`, a row answers the next state that `E` gives. -/
def Does (i : Instr) (h : State → Prop) (E : State → State) : Prop := ∀ s, h s → exec i s = .next (E s)

/-- A master's write of a register reaches it, where `host` says whether the host's may (R488, R489, R497, R609). -/
def MayWrite (s : State) (m : Master) (host : Prop) : Prop :=
  match m with
  | .host => s.ucieUp = true ∧ host
  | .cc0 => s.ic.cc0Closed = false
  | .cc1 => s.ic.cc1Closed = false
  | .debug => s.startup.bootLock = false
  | .dma => False

/-! ## What a read returns -/

/-- A master's reads of the registers of an access, one after another, and the bytes addressed returned to it (R606). -/
def readsOf (m : Master) (a : Access) (s : State) : State :=
  (s.readAll m a.words).returnData m (slice ((s.readAll m a.words).dataOf m) (a.off % 4) a.size)

/-! ## What a row can reach -/

/-- How far a row reaches beyond Balix, the datapath and the registers: to nothing more; to a memory or to host memory; or to
resets, straps, fuses and start-up. -/
inductive Reach where
  | control | memory | start
  deriving DecidableEq, Repr

/-- The reach of each row. -/
def reach : Instr → Reach
  | .deviceInfo .. | .fwStatus .. | .sessionOpen .. | .sessionClose .. | .nopEcho .. | .tdConfig .. | .refConfig ..
  | .refPriority .. | .refStatus .. | .refForce .. | .fpRealign .. | .cutoffSet .. | .tbConfig .. | .tbOffset ..
  | .tbStep .. | .ptpInstance .. | .srcBind .. | .srcStatus .. | .rxFlowSet .. | .rxFlowClear .. | .srcSyncMode ..
  | .xptTake .. | .xptSalvoLoad .. | .xptSalvoFire .. | .xptProtect .. | .xptLock .. | .xptQuery ..
  | .planeControl .. | .planeStatus .. | .dstBind .. | .txFlowSet .. | .dstStatus .. | .dstMitreSet ..
  | .audGainSet .. | .audGainBlock .. | .audMapIn .. | .audMapOut .. | .audRampSet .. | .audFollow .. | .mqLayout ..
  | .mqVeneer .. | .mqFenceGroup .. | .mqOutput .. | .mqCompare .. | .mqStatus .. | .dtLinkUp .. | .dtStatus ..
  | .dtGroup .. | .dtTieReserve .. | .pairConfig .. | .pairStatus .. | .pairMirrorSet .. | .pairSwitch ..
  | .pairResync .. | .faultRead .. | .faultAck .. | .faultMap .. | .faultInject .. | .selftestRun .. | .keyLoad ..
  | .keyDerive .. | .keyInvalidate .. | .keyInfo .. | .grainConfig .. | .grainWitness .. | .grainSeal ..
  | .grainStatus .. | .pwrTolerance .. | .pwrStatus .. | .pwrPin .. | .laneConfig .. | .laneEq .. | .laneBitslip ..
  | .lanePrbs .. | .laneEyescan .. | .portConfig .. | .macsecSc .. | .mbDoorbell .. | .mbEnableSet ..
  | .mbEnableClear .. | .mbRingBaseWrite .. | .mbCplHead .. | .mbIrqCtrl .. | .mbResetArmExpiry | .tsqEntry3Read ..
  | .tbSecLRead .. | .grainLastSeal0Read .. | .lowHalfRead .. | .clearOnRead .. | .dmaStart .. | .dmaPause ..
  | .dmaResume .. | .dmaContinue .. | .dmaAbort .. | .dmaCqHeadWrite .. | .plTestCtrlWrite .. | .injOne ..
  | .cplHoldoffExpiry .. | .tdTick .. | .tickCutoff .. | .domainArming .. | .mitreFlip .. | .veneerWaitExpiry ..
  | .audioBlockBoundary .. | .rampEnd .. | .keyTick | .drbgReseed | .refEvaluation .. | .candidateQualify ..
  | .candidateDisqualify .. | .pullEnd | .lockDwellExpiry | .holdoverHistoryValid | .holdoverLimit | .ptpOffset ..
  | .masterTimeout .. | .grandmasterChange .. | .ptpSyncSend .. | .ppsOutPulse | .txTimestamp .. | .sdiHuntDwell ..
  | .sdiLaneLock .. | .sdiLockLoss .. | .formatValid .. | .budgetHoldResume | .lineArrival .. | .outOfWindow ..
  | .lineRelease .. | .lineClose .. | .legTimeout .. | .readoutFrameStart .. | .lossHoldExpiry ..
  | .readoutLineRelease .. | .hbmReadError .. | .hbmScrub .. | .dstFrameStart .. | .egressLineReceive ..
  | .egressLineSend .. | .audioPacketSend .. | .frameDigest .. | .mqFrameStart .. | .faultLatch .. | .ccFailure ..
  | .ccTakeover | .icTimeout .. | .dmaPaceRequest .. | .ethSubportLinkUp .. | .ethSubportLinkDown ..
  | .prbsCheckerLock .. | .selftestComplete .. | .planeOfflineComplete .. | .planeLoaded .. | .planeShadowPass ..
  | .dtNegotiationRecord .. | .dtTrainingResult .. | .dtStepTimeout .. | .dtLinkFrame .. | .dtAuthFailLimit ..
  | .dtKeyRenewal .. | .dtLaneFailNoSpare .. | .dtLinkDown .. | .dtGroupTickStamp .. | .dtAlignExchange ..
  | .dtReservation .. | .dtReservationConfirm .. | .dtTieRelease .. | .dtTieLineRelease .. | .heartbeatSend
  | .heartbeatReceive .. | .pairingPathLost .. | .partnerLost | .peerNotAlive .. | .clampGntStable
  | .clampGntDeassert | .mirrorReceive .. | .mirrorAck .. | .mirrorAckTimeout .. | .mirrorTbOffset ..
  | .divergeReceive .. | .joinComplete | .grainRecord | .grainForwardReceive .. | .grainPeriodicSeal | .pwrfailAssert
  | .pwrfailSeal | .pwrfailDeassert | .oscInLoss | .temperatureSample .. | .pwrDomainIdle .. | .pwrWakeTimeout ..
  | .injectedHoldExpiry .. | .grainForwardAck | .delayReqSend .. | .pwrDomainEntryComplete ..
  | .mirrorSnapshotRequest => .control
  | .tbStatus .. | .audStatus .. | .attest .. | .idCertRead .. | .commandFetch | .completionPost ..
  | .ethFrameReceive .. | .stackReturnComplete .. | .mqCompareReport .. | .dmaDescriptorStart .. | .dmaBlock ..
  | .dmaDescriptorComplete .. | .dmaHalt .. | .dmaLoopSuspect .. | .hpTxPoll .. | .eyescanComplete ..
  | .pwrWakeComplete .. => .memory
  | .mbResetDevice .. | .mbResetCcOnly .. | .bootGo .. | .registerWrite .. | .thermalTrip | .powerOnReset ..
  | .resetNAssert | .resetNRelease .. | .deviceResetRouterDie .. | .ccOnlyResetRelease .. | .ucieTrainTimeout
  | .imageAccept .. | .ready .. | .debugPortTransaction .. => .start

/-! ## Which rows are commands -/

/-- The Balix command of a row: its mailbox, its bytes and what Balix knows of it; none for any other row. -/
def commandOf : Instr → Option (Nat × Cmd × CmdSpec)
  | .deviceInfo mb c => some (mb, c, cmdDeviceInfo)
  | .fwStatus mb c => some (mb, c, cmdFwStatus)
  | .sessionOpen mb c => some (mb, c, cmdSessionOpen)
  | .sessionClose mb c => some (mb, c, cmdSessionClose)
  | .nopEcho mb c => some (mb, c, cmdNopEcho)
  | .tdConfig mb c => some (mb, c, cmdTdConfig)
  | .refConfig mb c => some (mb, c, cmdRefConfig)
  | .refPriority mb c => some (mb, c, cmdRefPriority)
  | .refStatus mb c => some (mb, c, cmdRefStatus)
  | .refForce mb c => some (mb, c, cmdRefForce)
  | .fpRealign mb c => some (mb, c, cmdFpRealign)
  | .cutoffSet mb c => some (mb, c, cmdCutoffSet)
  | .tbConfig mb c => some (mb, c, cmdTbConfig)
  | .tbOffset mb c => some (mb, c, cmdTbOffset)
  | .tbStep mb c => some (mb, c, cmdTbStep)
  | .ptpInstance mb c => some (mb, c, cmdPtpInstance)
  | .tbStatus mb c => some (mb, c, cmdTbStatus)
  | .srcBind mb c => some (mb, c, cmdSrcBind)
  | .srcStatus mb c => some (mb, c, cmdSrcStatus)
  | .rxFlowSet mb c => some (mb, c, cmdRxFlowSet)
  | .rxFlowClear mb c => some (mb, c, cmdRxFlowClear)
  | .srcSyncMode mb c => some (mb, c, cmdSrcSyncMode)
  | .xptTake mb c => some (mb, c, cmdXptTake)
  | .xptSalvoLoad mb c => some (mb, c, cmdXptSalvoLoad)
  | .xptSalvoFire mb c => some (mb, c, cmdXptSalvoFire)
  | .xptProtect mb c => some (mb, c, cmdXptProtect)
  | .xptLock mb c => some (mb, c, cmdXptLock)
  | .xptQuery mb c => some (mb, c, cmdXptQuery)
  | .planeControl mb c => some (mb, c, cmdPlaneControl)
  | .planeStatus mb c => some (mb, c, cmdPlaneStatus)
  | .dstBind mb c => some (mb, c, cmdDstBind)
  | .txFlowSet mb c => some (mb, c, cmdTxFlowSet)
  | .dstStatus mb c => some (mb, c, cmdDstStatus)
  | .dstMitreSet mb c => some (mb, c, cmdDstMitreSet)
  | .audGainSet mb c => some (mb, c, cmdAudGainSet)
  | .audGainBlock mb c => some (mb, c, cmdAudGainBlock)
  | .audMapIn mb c => some (mb, c, cmdAudMapIn)
  | .audMapOut mb c => some (mb, c, cmdAudMapOut)
  | .audRampSet mb c => some (mb, c, cmdAudRampSet)
  | .audStatus mb c => some (mb, c, cmdAudStatus)
  | .audFollow mb c => some (mb, c, cmdAudFollow)
  | .mqLayout mb c => some (mb, c, cmdMqLayout)
  | .mqVeneer mb c => some (mb, c, cmdMqVeneer)
  | .mqFenceGroup mb c => some (mb, c, cmdMqFenceGroup)
  | .mqOutput mb c => some (mb, c, cmdMqOutput)
  | .mqCompare mb c => some (mb, c, cmdMqCompare)
  | .mqStatus mb c => some (mb, c, cmdMqStatus)
  | .dtLinkUp mb c => some (mb, c, cmdDtLinkUp)
  | .dtStatus mb c => some (mb, c, cmdDtStatus)
  | .dtGroup mb c => some (mb, c, cmdDtGroup)
  | .dtTieReserve mb c => some (mb, c, cmdDtTieReserve)
  | .pairConfig mb c => some (mb, c, cmdPairConfig)
  | .pairStatus mb c => some (mb, c, cmdPairStatus)
  | .pairMirrorSet mb c => some (mb, c, cmdPairMirrorSet)
  | .pairSwitch mb c => some (mb, c, cmdPairSwitch)
  | .pairResync mb c => some (mb, c, cmdPairResync)
  | .faultRead mb c => some (mb, c, cmdFaultRead)
  | .faultAck mb c => some (mb, c, cmdFaultAck)
  | .faultMap mb c => some (mb, c, cmdFaultMap)
  | .faultInject mb c => some (mb, c, cmdFaultInject)
  | .selftestRun mb c => some (mb, c, cmdSelftestRun)
  | .keyLoad mb c => some (mb, c, cmdKeyLoad)
  | .keyDerive mb c => some (mb, c, cmdKeyDerive)
  | .keyInvalidate mb c => some (mb, c, cmdKeyInvalidate)
  | .keyInfo mb c => some (mb, c, cmdKeyInfo)
  | .attest mb c => some (mb, c, cmdAttest)
  | .idCertRead mb c => some (mb, c, cmdIdCertRead)
  | .grainConfig mb c => some (mb, c, cmdGrainConfig)
  | .grainWitness mb c => some (mb, c, cmdGrainWitness)
  | .grainSeal mb c => some (mb, c, cmdGrainSeal)
  | .grainStatus mb c => some (mb, c, cmdGrainStatus)
  | .pwrTolerance mb c => some (mb, c, cmdPwrTolerance)
  | .pwrStatus mb c => some (mb, c, cmdPwrStatus)
  | .pwrPin mb c => some (mb, c, cmdPwrPin)
  | .laneConfig mb c => some (mb, c, cmdLaneConfig)
  | .laneEq mb c => some (mb, c, cmdLaneEq)
  | .laneBitslip mb c => some (mb, c, cmdLaneBitslip)
  | .lanePrbs mb c => some (mb, c, cmdLanePrbs)
  | .laneEyescan mb c => some (mb, c, cmdLaneEyescan)
  | .portConfig mb c => some (mb, c, cmdPortConfig)
  | .macsecSc mb c => some (mb, c, cmdMacsecSc)
  | .mbDoorbell .. | .mbEnableSet .. | .mbEnableClear .. | .mbRingBaseWrite .. | .mbCplHead .. | .mbIrqCtrl ..
  | .mbResetDevice .. | .mbResetCcOnly .. | .mbResetArmExpiry | .bootGo .. | .tsqEntry3Read .. | .tbSecLRead ..
  | .grainLastSeal0Read .. | .lowHalfRead .. | .clearOnRead .. | .dmaStart .. | .dmaPause .. | .dmaResume ..
  | .dmaContinue .. | .dmaAbort .. | .dmaCqHeadWrite .. | .plTestCtrlWrite .. | .injOne .. | .registerWrite ..
  | .commandFetch | .completionPost .. | .cplHoldoffExpiry .. | .tdTick .. | .tickCutoff .. | .domainArming ..
  | .mitreFlip .. | .veneerWaitExpiry .. | .audioBlockBoundary .. | .rampEnd .. | .keyTick | .drbgReseed
  | .refEvaluation .. | .candidateQualify .. | .candidateDisqualify .. | .pullEnd | .lockDwellExpiry
  | .holdoverHistoryValid | .holdoverLimit | .ptpOffset .. | .masterTimeout .. | .grandmasterChange ..
  | .ptpSyncSend .. | .ppsOutPulse | .txTimestamp .. | .sdiHuntDwell .. | .sdiLaneLock .. | .sdiLockLoss ..
  | .formatValid .. | .budgetHoldResume | .lineArrival .. | .outOfWindow .. | .lineRelease .. | .ethFrameReceive ..
  | .lineClose .. | .legTimeout .. | .readoutFrameStart .. | .lossHoldExpiry .. | .readoutLineRelease ..
  | .hbmReadError .. | .stackReturnComplete .. | .hbmScrub .. | .dstFrameStart .. | .egressLineReceive ..
  | .egressLineSend .. | .audioPacketSend .. | .frameDigest .. | .mqFrameStart .. | .mqCompareReport ..
  | .faultLatch .. | .ccFailure .. | .ccTakeover | .icTimeout .. | .dmaDescriptorStart .. | .dmaBlock ..
  | .dmaDescriptorComplete .. | .dmaHalt .. | .dmaLoopSuspect .. | .dmaPaceRequest .. | .hpTxPoll ..
  | .ethSubportLinkUp .. | .ethSubportLinkDown .. | .prbsCheckerLock .. | .eyescanComplete ..
  | .selftestComplete .. | .planeOfflineComplete .. | .planeLoaded .. | .planeShadowPass ..
  | .dtNegotiationRecord .. | .dtTrainingResult .. | .dtStepTimeout .. | .dtLinkFrame .. | .dtAuthFailLimit ..
  | .dtKeyRenewal .. | .dtLaneFailNoSpare .. | .dtLinkDown .. | .dtGroupTickStamp .. | .dtAlignExchange ..
  | .dtReservation .. | .dtReservationConfirm .. | .dtTieRelease .. | .dtTieLineRelease .. | .heartbeatSend
  | .heartbeatReceive .. | .pairingPathLost .. | .partnerLost | .peerNotAlive .. | .clampGntStable
  | .clampGntDeassert | .mirrorReceive .. | .mirrorAck .. | .mirrorAckTimeout .. | .mirrorTbOffset ..
  | .divergeReceive .. | .joinComplete | .grainRecord | .grainForwardReceive .. | .grainPeriodicSeal
  | .pwrfailAssert | .pwrfailSeal | .pwrfailDeassert | .oscInLoss | .temperatureSample .. | .thermalTrip
  | .powerOnReset .. | .resetNAssert | .resetNRelease .. | .deviceResetRouterDie .. | .ccOnlyResetRelease ..
  | .ucieTrainTimeout | .imageAccept .. | .ready .. | .pwrDomainIdle .. | .pwrWakeComplete .. | .pwrWakeTimeout ..
  | .injectedHoldExpiry .. | .grainForwardAck | .delayReqSend .. | .debugPortTransaction ..
  | .pwrDomainEntryComplete .. | .mirrorSnapshotRequest => none

/-! ## Start-up -/

/-- A start-up as a reset leaves it: not READY, BOOT_LOCK and MAP_SWAP clear (21 Table What each reset clears). -/
def Fresh (u : Startup) : Prop := u.ready = false ∧ u.bootLock = false ∧ u.mapSwap = false

/-- A consistent start-up: STAGE is a step of R580, MAP_SWAP is set from step 6 on, and a READY device has BOOT_LOCK and
MAP_SWAP set (R491, R579, R582). -/
def StartOk (u : Startup) : Prop :=
  u.stage ≤ 7 ∧ (6 ≤ u.stage → u.mapSwap = true) ∧ (u.ready = true → u.bootLock = true ∧ u.mapSwap = true)

/-- A sound state: a consistent start-up, an epoch of at most 4,096 blown bits (R405), and memories in canonical form. -/
def Sound (s : State) : Prop :=
  StartOk s.startup ∧ s.fuses.epoch ≤ 4096
    ∧ s.hostMem.wf = true ∧ s.hbm.wf = true ∧ s.hbm2.wf = true ∧ s.sram.wf = true

end Sys2Proof.Safety
end

