-- ==== Sys2Proof/WellFormed.lean ====
section
/-! DEFINITION. Which commands are well formed: every operand lies in the range the spec numbers. -/
namespace Sys2Proof

/-- A mailbox number, MB0 to MB15 (R55). -/
def wfMailbox (n : Nat) : Bool := decide (n < 16)

/-- A timing domain, TD0 to TD7 (R27). -/
def wfDomain (n : Nat) : Bool := decide (n < 8)

/-- A destination, D0 to D1023 (R241). -/
def wfDst (n : Nat) : Bool := decide (n < 1024)

/-- A source, S0 to S1023 (R140). -/
def wfSrc (n : Nat) : Bool := decide (n < 1024)

/-- A global source number G, 0 to 4,095 (08 Table XPT_TAKE payload). -/
def wfGlobal (n : Nat) : Bool := decide (n < 4096)

/-- A DMA channel, 0 to 15 (R499). -/
def wfChannel (n : Nat) : Bool := decide (n < 16)

/-- An Ethernet port, EP0 to EP15 (R528). -/
def wfPort (n : Nat) : Bool := decide (n < 16)

/-- A subport (R529). -/
def wfSub (n : Nat) : Bool := decide (n < 8)

/-- A physical lane, PL000 to PL479 (R511). -/
def wfLane (n : Nat) : Bool := decide (n < 480)

/-- A Marquetry engine, MQ0 to MQ7 (R302). -/
def wfEngine (n : Nat) : Bool := decide (n < 8)

/-- A Dovetail link, DT0 to DT2 (R322). -/
def wfLink (n : Nat) : Bool := decide (n < 3)

/-- A power domain, PD00 to PD47 (R583). -/
def wfPowerDomain (n : Nat) : Bool := decide (n < 48)

/-- A plane, 0 for A and 1 for B (R202). -/
def wfPlane (n : Nat) : Bool := decide (n < 2)

/-- An HBM stack (R180). -/
def wfStack (n : Nat) : Bool := decide (n < 4)

/-- A time base, TB0 to TB7 (R112). -/
def wfBase (n : Nat) : Bool := decide (n < 8)

/-- A PTP instance (R127). -/
def wfInstance (n : Nat) : Bool := decide (n < 4)

/-- A control cluster, CC0 or CC1 (R392). -/
def wfCluster (n : Nat) : Bool := decide (n < 2)

/-- A fault source (R378). -/
def wfSource (n : Nat) : Bool := decide (n < 256)

/-- A leg of a pair, 0 for A and 1 for B (R163). -/
def wfLeg (n : Nat) : Bool := decide (n < 2)

/-- A transmit flow (R257). -/
def wfTxFlow (n : Nat) : Bool := decide (n < 4096)

/-- A Bramble input (R270). -/
def wfAi (n : Nat) : Bool := decide (n < 4096)

/-- A Bramble output (R270). -/
def wfAo (n : Nat) : Bool := decide (n < 4096)

/-- A reference candidate, 0 to 16 (R91). -/
def wfCandidate (n : Nat) : Bool := decide (n < 17)

/-- A device index (R321). -/
def wfIndex (n : Nat) : Bool := decide (n < 4)

/-- A register offset within the 64 MiB window (R605). -/
def wfOffset (n : Nat) : Bool := decide (n < 67108864)

/-- A size in bytes of a naturally aligned access at an address (R605, R606). -/
def wfSize (size addr : Nat) : Bool := [1, 2, 4, 8, 16, 32, 64].contains size && decide (addr % size = 0)

/-- An access within the register window (R605, R606). -/
def wfAccess (a : Access) : Bool := wfSize a.size a.off && decide (a.off + a.size ≤ 67108864)

/-- A command slot holds 64 bytes (R55). -/
def wfCmd (c : Cmd) : Bool := decide (c.bytes.length = 64)

/-- A heartbeat holds 32 bytes (13 Table Heartbeat). -/
def wfHeartbeat (b : List Byte) : Bool := decide (b.length = 32)

/-- The well-formed commands. -/
def Instr.wf : Instr → Bool
  | .deviceInfo mb c => wfMailbox mb && wfCmd c
  | .fwStatus mb c => wfMailbox mb && wfCmd c
  | .sessionOpen mb c => wfMailbox mb && wfCmd c
  | .sessionClose mb c => wfMailbox mb && wfCmd c
  | .nopEcho mb c => wfMailbox mb && wfCmd c
  | .tdConfig mb c => wfMailbox mb && wfCmd c
  | .refConfig mb c => wfMailbox mb && wfCmd c
  | .refPriority mb c => wfMailbox mb && wfCmd c
  | .refStatus mb c => wfMailbox mb && wfCmd c
  | .refForce mb c => wfMailbox mb && wfCmd c
  | .fpRealign mb c => wfMailbox mb && wfCmd c
  | .cutoffSet mb c => wfMailbox mb && wfCmd c
  | .tbConfig mb c => wfMailbox mb && wfCmd c
  | .tbOffset mb c => wfMailbox mb && wfCmd c
  | .tbStep mb c => wfMailbox mb && wfCmd c
  | .ptpInstance mb c => wfMailbox mb && wfCmd c
  | .tbStatus mb c => wfMailbox mb && wfCmd c
  | .srcBind mb c => wfMailbox mb && wfCmd c
  | .srcStatus mb c => wfMailbox mb && wfCmd c
  | .rxFlowSet mb c => wfMailbox mb && wfCmd c
  | .rxFlowClear mb c => wfMailbox mb && wfCmd c
  | .srcSyncMode mb c => wfMailbox mb && wfCmd c
  | .xptTake mb c => wfMailbox mb && wfCmd c
  | .xptSalvoLoad mb c => wfMailbox mb && wfCmd c
  | .xptSalvoFire mb c => wfMailbox mb && wfCmd c
  | .xptProtect mb c => wfMailbox mb && wfCmd c
  | .xptLock mb c => wfMailbox mb && wfCmd c
  | .xptQuery mb c => wfMailbox mb && wfCmd c
  | .planeControl mb c => wfMailbox mb && wfCmd c
  | .planeStatus mb c => wfMailbox mb && wfCmd c
  | .dstBind mb c => wfMailbox mb && wfCmd c
  | .txFlowSet mb c => wfMailbox mb && wfCmd c
  | .dstStatus mb c => wfMailbox mb && wfCmd c
  | .dstMitreSet mb c => wfMailbox mb && wfCmd c
  | .audGainSet mb c => wfMailbox mb && wfCmd c
  | .audGainBlock mb c => wfMailbox mb && wfCmd c
  | .audMapIn mb c => wfMailbox mb && wfCmd c
  | .audMapOut mb c => wfMailbox mb && wfCmd c
  | .audRampSet mb c => wfMailbox mb && wfCmd c
  | .audStatus mb c => wfMailbox mb && wfCmd c
  | .audFollow mb c => wfMailbox mb && wfCmd c
  | .mqLayout mb c => wfMailbox mb && wfCmd c
  | .mqVeneer mb c => wfMailbox mb && wfCmd c
  | .mqFenceGroup mb c => wfMailbox mb && wfCmd c
  | .mqOutput mb c => wfMailbox mb && wfCmd c
  | .mqCompare mb c => wfMailbox mb && wfCmd c
  | .mqStatus mb c => wfMailbox mb && wfCmd c
  | .dtLinkUp mb c => wfMailbox mb && wfCmd c
  | .dtStatus mb c => wfMailbox mb && wfCmd c
  | .dtGroup mb c => wfMailbox mb && wfCmd c
  | .dtTieReserve mb c => wfMailbox mb && wfCmd c
  | .pairConfig mb c => wfMailbox mb && wfCmd c
  | .pairStatus mb c => wfMailbox mb && wfCmd c
  | .pairMirrorSet mb c => wfMailbox mb && wfCmd c
  | .pairSwitch mb c => wfMailbox mb && wfCmd c
  | .pairResync mb c => wfMailbox mb && wfCmd c
  | .faultRead mb c => wfMailbox mb && wfCmd c
  | .faultAck mb c => wfMailbox mb && wfCmd c
  | .faultMap mb c => wfMailbox mb && wfCmd c
  | .faultInject mb c => wfMailbox mb && wfCmd c
  | .selftestRun mb c => wfMailbox mb && wfCmd c
  | .keyLoad mb c => wfMailbox mb && wfCmd c
  | .keyDerive mb c => wfMailbox mb && wfCmd c
  | .keyInvalidate mb c => wfMailbox mb && wfCmd c
  | .keyInfo mb c => wfMailbox mb && wfCmd c
  | .attest mb c => wfMailbox mb && wfCmd c
  | .idCertRead mb c => wfMailbox mb && wfCmd c
  | .grainConfig mb c => wfMailbox mb && wfCmd c
  | .grainWitness mb c => wfMailbox mb && wfCmd c
  | .grainSeal mb c => wfMailbox mb && wfCmd c
  | .grainStatus mb c => wfMailbox mb && wfCmd c
  | .pwrTolerance mb c => wfMailbox mb && wfCmd c
  | .pwrStatus mb c => wfMailbox mb && wfCmd c
  | .pwrPin mb c => wfMailbox mb && wfCmd c
  | .laneConfig mb c => wfMailbox mb && wfCmd c
  | .laneEq mb c => wfMailbox mb && wfCmd c
  | .laneBitslip mb c => wfMailbox mb && wfCmd c
  | .lanePrbs mb c => wfMailbox mb && wfCmd c
  | .laneEyescan mb c => wfMailbox mb && wfCmd c
  | .portConfig mb c => wfMailbox mb && wfCmd c
  | .macsecSc mb c => wfMailbox mb && wfCmd c
  | .mbDoorbell mb _ => wfMailbox mb
  | .mbEnableSet mb => wfMailbox mb
  | .mbEnableClear mb => wfMailbox mb
  | .mbRingBaseWrite mb off _ => wfMailbox mb && wfOffset off
  | .mbCplHead mb _ => wfMailbox mb
  | .mbIrqCtrl mb _ => wfMailbox mb
  | .mbResetDevice mb _ => wfMailbox mb
  | .mbResetCcOnly mb _ => wfMailbox mb
  | .mbResetArmExpiry => true
  | .bootGo _ => true
  | .tsqEntry3Read _ q => wfPort q.unit && wfAccess q.acc
  | .tbSecLRead _ q => wfBase q.unit && wfAccess q.acc
  | .grainLastSeal0Read r => wfAccess r.acc
  | .lowHalfRead _ a => wfAccess a
  | .clearOnRead _ a => wfAccess a
  | .dmaStart _ ch => wfChannel ch
  | .dmaPause _ ch => wfChannel ch
  | .dmaResume _ ch => wfChannel ch
  | .dmaContinue _ ch => wfChannel ch
  | .dmaAbort _ ch => wfChannel ch
  | .dmaCqHeadWrite _ ch _ => wfChannel ch
  | .plTestCtrlWrite _ lane _ => wfLane lane
  | .injOne _ lane => wfLane lane
  | .registerWrite _ a v => wfAccess a && decide (v < 2 ^ (8 * a.size))
  | .commandFetch => true
  | .completionPost _ => true
  | .cplHoldoffExpiry mb => wfMailbox mb
  | .tdTick d => wfDomain d
  | .tickCutoff d => wfDomain d
  | .domainArming d => wfDomain d
  | .mitreFlip dst => wfDst dst
  | .veneerWaitExpiry _ => true
  | .audioBlockBoundary _ => true
  | .rampEnd ai ao => wfAi ai && wfAo ao
  | .keyTick => true
  | .drbgReseed => true
  | .refEvaluation _ => true
  | .candidateQualify cand => wfCandidate cand
  | .candidateDisqualify cand _ => wfCandidate cand
  | .pullEnd => true
  | .lockDwellExpiry => true
  | .holdoverHistoryValid => true
  | .holdoverLimit => true
  | .ptpOffset inst _ _ _ => wfInstance inst
  | .masterTimeout base => wfBase base
  | .grandmasterChange inst _ => wfInstance inst
  | .ptpSyncSend inst port => wfInstance inst && wfPort port
  | .ppsOutPulse => true
  | .txTimestamp port sub _ => wfPort port && wfSub sub
  | .sdiHuntDwell lane => wfLane lane
  | .sdiLaneLock lane _ _ => wfLane lane
  | .sdiLockLoss lane => wfLane lane
  | .formatValid src _ => wfSrc src
  | .budgetHoldResume => true
  | .lineArrival src _ => wfSrc src
  | .outOfWindow src => wfSrc src
  | .lineRelease src => wfSrc src
  | .ethFrameReceive port _ => wfPort port
  | .lineClose src _ => wfSrc src
  | .legTimeout src leg => wfSrc src && wfLeg leg
  | .readoutFrameStart src td => wfSrc src && wfDomain td
  | .lossHoldExpiry src td => wfSrc src && wfDomain td
  | .readoutLineRelease src td _ => wfSrc src && wfDomain td
  | .hbmReadError stack _ => wfStack stack
  | .stackReturnComplete stack => wfStack stack
  | .hbmScrub stack _ => wfStack stack
  | .dstFrameStart dst => wfDst dst
  | .egressLineReceive dst _ _ => wfDst dst
  | .egressLineSend dst _ => wfDst dst
  | .audioPacketSend tf => wfTxFlow tf
  | .frameDigest dst => wfDst dst
  | .mqFrameStart engine => wfEngine engine
  | .mqCompareReport engine _ _ => wfEngine engine
  | .faultLatch source _ => wfSource source
  | .ccFailure cluster => wfCluster cluster
  | .ccTakeover => true
  | .icTimeout _ _ _ _ => true
  | .dmaDescriptorStart ch => wfChannel ch
  | .dmaBlock ch => wfChannel ch
  | .dmaDescriptorComplete ch => wfChannel ch
  | .dmaHalt ch _ => wfChannel ch
  | .dmaLoopSuspect ch => wfChannel ch
  | .dmaPaceRequest ch _ => wfChannel ch
  | .hpTxPoll port => wfPort port
  | .ethSubportLinkUp port sub => wfPort port && wfSub sub
  | .ethSubportLinkDown port sub _ => wfPort port && wfSub sub
  | .prbsCheckerLock lane _ => wfLane lane
  | .eyescanComplete lane _ => wfLane lane
  | .selftestComplete _ _ => true
  | .planeOfflineComplete plane => wfPlane plane
  | .planeLoaded plane => wfPlane plane
  | .planeShadowPass plane => wfPlane plane
  | .dtNegotiationRecord link _ => wfLink link
  | .dtTrainingResult link _ => wfLink link
  | .dtStepTimeout link => wfLink link
  | .dtLinkFrame link _ => wfLink link
  | .dtAuthFailLimit link => wfLink link
  | .dtKeyRenewal link _ => wfLink link
  | .dtLaneFailNoSpare link lane => wfLink link && wfLane lane
  | .dtLinkDown link => wfLink link
  | .dtGroupTickStamp link _ => wfLink link
  | .dtAlignExchange link d _ => wfLink link && wfDomain d
  | .dtReservation link _ => wfLink link
  | .dtReservationConfirm link _ => wfLink link
  | .dtTieRelease link src td _ => wfLink link && wfGlobal src && wfDomain td
  | .dtTieLineRelease link src td _ => wfLink link && wfGlobal src && wfDomain td
  | .heartbeatSend => true
  | .heartbeatReceive _ bytes => wfHeartbeat bytes
  | .pairingPathLost _ => true
  | .partnerLost => true
  | .peerNotAlive _ => true
  | .clampGntStable => true
  | .clampGntDeassert => true
  | .mirrorReceive _ => true
  | .mirrorAck d _ => wfDomain d
  | .mirrorAckTimeout d => wfDomain d
  | .mirrorTbOffset base _ _ => wfBase base
  | .divergeReceive _ => true
  | .joinComplete => true
  | .grainRecord => true
  | .grainForwardReceive _ => true
  | .grainPeriodicSeal => true
  | .pwrfailAssert => true
  | .pwrfailSeal => true
  | .pwrfailDeassert => true
  | .oscInLoss => true
  | .temperatureSample _ => true
  | .thermalTrip => true
  | .powerOnReset _ => true
  | .resetNAssert => true
  | .resetNRelease index _ _ => wfIndex index
  | .deviceResetRouterDie _ => true
  | .ccOnlyResetRelease _ => true
  | .ucieTrainTimeout => true
  | .imageAccept _ => true
  | .ready _ => true
  | .pwrDomainIdle dom => wfPowerDomain dom
  | .pwrWakeComplete dom _ => wfPowerDomain dom
  | .pwrWakeTimeout dom => wfPowerDomain dom
  | .injectedHoldExpiry source => wfSource source
  | .grainForwardAck => true
  | .delayReqSend inst port => wfInstance inst && wfPort port
  | .debugPortTransaction _ a v => wfSize a.size a.off && decide (v < 2 ^ (8 * a.size))
  | .pwrDomainEntryComplete dom => wfPowerDomain dom
  | .mirrorSnapshotRequest => true

end Sys2Proof
end

