-- ==== Sys2Proof/Certificates/Slice0/Obligations.lean ====
section
/-! DEFINITION. The statements for the provers. -/

open Sys2Proof Sys2Proof.Machine Sys2Proof.Safety

/-! ## The commands -/

/-- The system commands: what each answers or does once Balix has accepted it (R453 to R455, R76, R77, R80). Model's choices
within: logs 5, 129. -/
def Obligations.SystemCommandsComplete : Prop :=
  Answers cmdDeviceInfo .deviceInfo (fun t x => t.deviceInfo (x.cmd.u8 16))
  ∧ Answers cmdFwStatus .fwStatus (fun t _ => t.fwStatus)
  ∧ AtOnce cmdSessionOpen .sessionOpen
      (fun t x => t.setMbox x.mb { t.mbox x.mb with
        isOpen := true
        rank := x.cmd.u8 16
        roles := x.cmd.u8 17
        gen := ((t.mbox x.mb).gen + 1) % 16 })
      (fun t x => repDone (leBytes 1 (16 * (((t.mbox x.mb).gen + 1) % 16) + x.mb)))
  ∧ Begins cmdSessionClose .sessionClose
      (fun t x => (t.closeSession (if x.cmd.u8 16 = 0xFF then x.mb else x.cmd.u8 16) x.id).settle x.id (repDone []))
  ∧ Answers cmdNopEcho .nopEcho (fun _ x => x.cmd.field 16 16)

/-- The reference commands: their effects, results and mirror items (R361, R457 to R460; R29 to R31, R91, R96). Model's
choices within: logs 14, 15, 130. -/
def Obligations.ReferenceCommandsComplete : Prop :=
  AtOnce cmdTdConfig .tdConfig
      (fun t x =>
        if x.cmd.u8 16 = 0xFF then
          (t.forgetTicks x.cmd.td).setDom x.cmd.td { guard := (t.dom x.cmd.td).guardLast, overruns := (t.dom x.cmd.td).overruns }
        else t.startTicks x.cmd.td (x.cmd.u8 16) (if x.cmd.u8 17 = 1 then some (x.cmd.u8 18) else none))
      (fun _ _ => repDone [])
  ∧ AtOnceThen cmdRefConfig .refConfig (fun t x => t.refConfig x.cmd) (fun _ _ => repDone [])
      (fun x t => t.mirror 3 (.ref x.cmd))
  ∧ AtOnceThen cmdRefPriority .refPriority
      (fun t x => (range 0 17).foldl (fun u i => u.updCand i (fun k => { k with rank := x.cmd.u8 (16 + i) })) t)
      (fun _ _ => repDone []) (fun x t => t.mirror 3 (.ref x.cmd))
  ∧ AtOnceThen cmdRefForce .refForce (fun t x => t.refForce (forceOf x.cmd)) (fun _ _ => repDone [])
      (fun x t => t.mirror 3 (.ref x.cmd))
  ∧ Answers cmdRefStatus .refStatus (fun t x => t.refStatus (x.cmd.u8 16) (x.cmd.u8 17))

/-- The time-base commands: configuration, offsets, steps, PTP instances and TB_STATUS (R116 to R123, R127, R132, R462 to
R465). Model's choices within: logs 6, 10, 16, 62, 63, 133, 134, 135, 136. -/
def Obligations.TimeCommandsComplete : Prop :=
  AtOnce cmdTbConfig .tbConfig
      (fun t x =>
        if x.cmd.u8 17 = 1 then t.ppsBind x.cmd
        else if bit (x.cmd.u8 19) 0 then t.tbInit (x.cmd.u8 16) x.cmd
        else t.tbParams (x.cmd.u8 16) x.cmd)
      (fun _ _ => repDone [])
  ∧ AtOnce cmdTbOffset .tbOffset
      (fun t x =>
        if (t.base (x.cmd.u8 16)).stepcnt = x.cmd.u8 17 then (t.servo (x.cmd.u8 16) (x.cmd.i64 24)).1 else t)
      (fun t x =>
        let r := t.offset (x.cmd.u8 16) (x.cmd.u8 17) (x.cmd.i64 24)
        repDone (leBytes 1 r.2 ++ leBytes 1 (r.1.base (x.cmd.u8 16)).stepcnt ++ [0, 0]
          ++ leBytes 4 (ofSigned 4 (r.1.base (x.cmd.u8 16)).rate)))
  ∧ AtOnce cmdTbStep .tbStep
      (fun t x =>
        if x.cmd.u8 17 = 0 then t.tbStepBy (x.cmd.u8 16) (x.cmd.i64 24)
        else t.tbStep (x.cmd.u8 16) (x.cmd.u48 24 * tbSecond + x.cmd.u32 30 * 4294967296))
      (fun t x => repDone (leBytes 1 (((t.base (x.cmd.u8 16)).stepcnt + 1) % 256)))
  ∧ AtOnce cmdPtpInstance .ptpInstance
      (fun t x => if x.cmd.u8 17 = 0 then t.ptpRemove (x.cmd.u8 16) else t.ptpSet x.cmd)
      (fun _ _ => repDone [])
  ∧ AtOnce cmdTbStatus .tbStatus
      (fun t x =>
        if x.cmd.u8 17 = 2 then
          (match t.instOf (x.cmd.u8 16) with
           | some i =>
             if t.hostOk (x.cmd.u64 24) (t.inst i).tlv.length then
               { t with hostMem := t.hostMem.writeBytes (x.cmd.u64 24) (t.inst i).tlv }
             else t.spoilHost (x.cmd.u64 24) (t.inst i).tlv.length
           | none => t)
        else t.drawFree)
      (fun t x =>
        match (if x.cmd.u8 17 = 2 then t.instOf (x.cmd.u8 16) else none) with
        | some i =>
          if t.hostOk (x.cmd.u64 24) (t.inst i).tlv.length then repDone (t.tbStatus (x.cmd.u8 16) 2) else repAborted 3
        | none => repDone (t.tbStatus (x.cmd.u8 16) (x.cmd.u8 17)))

/-- The ingress commands (R142, R153, R154, R172, R178, R466 to R468). Model's choices within: logs 19, 65, 128, 145. -/
def Obligations.IngressCommandsComplete : Prop :=
  AtOnce cmdSrcBind .srcBind
      (fun t x =>
        (range 0 8).foldl (fun u g => u.groupFault g)
          (if x.cmd.u8 18 = 0 then t.unbindSrc (x.cmd.u16 16) else t.bindSrc (x.cmd.u16 16) x.cmd))
      (fun _ _ => repDone [])
  ∧ AtOnce cmdSrcStatus .srcStatus
      (fun t x => t.setSource (x.cmd.u16 16)
        { t.source (x.cmd.u16 16) with oowLines := 0, crcErrors := 0, concealed := 0 })
      (fun t x => repDone (t.srcStatus (x.cmd.u16 16)))
  ∧ AtOnce cmdRxFlowSet .rxFlowSet
      (fun t x => t.setRxFlow (x.cmd.u16 28) { image := slice x.buf 0 80 }) (fun _ _ => repDone [])
  ∧ AtOnce cmdRxFlowClear .rxFlowClear (fun t x => t.clearFlow (x.cmd.u16 16)) (fun _ _ => repDone [])
  ∧ AtOnce cmdSrcSyncMode .srcSyncMode
      (fun t x => t.syncMode (x.cmd.u16 16) (x.cmd.u8 18 == 1) (x.cmd.i32 20) (x.cmd.u16 24)) (fun _ _ => repDone [])

/-- The fabric commands that no tick applies: salvo tables, queries, and planes (R220, R236 to R240). The egress
commands (R241 to R244, R251, R252, R257 to R260, R268). Model's choices within: logs 24, 25, 66. -/
def Obligations.FabricAndEgressCommandsComplete : Prop :=
  AtOnce cmdXptSalvoLoad .xptSalvoLoad
      (fun t x => t.setSalvo (x.cmd.u8 28) { loaded := true, entries := salvoEntries x.buf }) (fun _ _ => repDone [])
  ∧ AtOnce cmdXptQuery .xptQuery
      (fun t x => t.setOut (x.cmd.u16 16) { t.out (x.cmd.u16 16) with repeats := 0, failovers := 0 })
      (fun t x => repDone (t.xptQuery (x.cmd.u16 16)))
  ∧ Begins cmdPlaneControl .planeControl
      (fun t x =>
        let b := x.cmd.u8 16 == 1
        if x.cmd.u8 17 = 0 then t.planeOffline x b
        else if x.cmd.u8 17 = 1 then (t.updFlight x.id (fun f => { f with data := [flag b, 1] })).planeGo b .loading
        else (t.trustAll b).settle x.id (repDone []))
  ∧ AtOnce cmdPlaneStatus .planeStatus
      (fun t _ => { t with
        planeA := { t.planeA with bad := 0 }
        planeB := { t.planeB with bad := 0 }
        repeated := 0 })
      (fun t _ => repDone t.planeStatus)
  ∧ AtOnce cmdDstBind .dstBind
      (fun t x =>
        if x.cmd.u8 18 = 0 then t.unbindDst (x.cmd.u16 16)
        else ((t.setDest (x.cmd.u16 16) (bindDest (t.dest (x.cmd.u16 16)) x.cmd)).flowPicture (x.cmd.u16 16)).destJudge
          (x.cmd.u16 16))
      (fun _ _ => repDone [])
  ∧ AtOnce cmdTxFlowSet .txFlowSet
      (fun t x =>
        let im := slice x.buf 0 128
        let f := t.txFlow (x.cmd.u16 28)
        let u := t.setTxFlow (x.cmd.u16 28) {
          image := im
          running := f.running
          live := f.live
          out := f.out
          slot := if f.running then f.slot else t.packetIndex im }
        if byteAt im 0 = 1 then (u.flowPicture (le16 im 56)).destFaults (le16 im 56)
        else if byteAt im 0 = 5 then u.destFaults (le16 im 56) else u)
      (fun _ _ => repDone [])
  ∧ AtOnce cmdDstStatus .dstStatus
      (fun t x => t.setDest (x.cmd.u16 16) { t.dest (x.cmd.u16 16) with clash := 0, ancDropped := 0 })
      (fun t x => repDone (t.dstStatus (x.cmd.u16 16)))
  ∧ AtOnce cmdDstMitreSet .dstMitreSet
      (fun t x =>
        let d := t.dest (x.cmd.u16 16)
        t.setDest (x.cmd.u16 16) { d with
          mitreOld := d.mitreOld.filter (fun q => decide ((t.dom d.td).count < q.1))
            ++ [(t.openTick d.td 0, d.mitreLine)]
          mitre := x.cmd.u16 18 })
      (fun _ _ => repDone [])

/-- The audio commands that no tick applies: ramp lengths, the settings of OP 1, and AUD_STATUS (R271, R286, R361,
R471). The Marquetry commands that no tick applies: outputs and layouts from 1 ms on, comparators, and MQ_STATUS (R303
to R306, R316 to R319, R472). Model's choices within: logs 68, 71. -/
def Obligations.AudioAndMarquetryCommandsComplete : Prop :=
  AtOnceThen cmdAudRampSet .audRampSet
      (fun t x =>
        if x.cmd.u8 16 = 1 then
          State.realignAudio { t with au := { t.au with
            khz96 := x.cmd.u8 24 == 1
            blk125 := x.cmd.u8 25 == 1
            gains := []
            ramps := []
            rampLen := []
            samples := [] } }
        else { t with au := { t.au with
          rampLen := (range (x.cmd.u16 18) (x.cmd.u16 20)).foldl (fun l o => Tbl.set 480 l o (x.cmd.u16 22))
            t.au.rampLen } })
      (fun _ _ => repDone [])
      (fun x t => if x.cmd.u8 16 = 0 then t.mirror 1 (.rampLen (x.cmd.u16 18) (x.cmd.u16 20) (x.cmd.u16 22)) else t)
  ∧ AtOnce cmdAudStatus .audStatus
      (fun t x =>
        if x.cmd.u8 16 = 0 then t
        else if x.cmd.u8 16 = 1 then { t with au := { t.au with sat := Tbl.set 0 t.au.sat (x.cmd.u16 18) 0 } }
        else (t.answer (x.cmd.u64 24) (t.contribBytes (x.cmd.u16 18)) (repDone [])).1)
      (fun t x =>
        let r := repDone (t.audStatus (x.cmd.u8 16) (x.cmd.u16 18) (x.cmd.u16 20))
        if x.cmd.u8 16 = 0 ∨ x.cmd.u8 16 = 1 then r
        else if t.hostOk (x.cmd.u64 24) (t.contribBytes (x.cmd.u16 18)).length then r else repAborted 3)
  ∧ AtOnce cmdMqOutput .mqOutput
      (fun t x => t.setEngine (x.cmd.u8 16) { t.engine (x.cmd.u8 16) with
        pendOut := (t.engine (x.cmd.u8 16)).pendOut ++ [(t.clk + tuMs 1, (range 17 7).map x.cmd.u8)] })
      (fun _ _ => repDone [])
  ∧ AtOnce cmdMqLayout .mqLayout
      (fun t x => t.setEngine (x.cmd.u8 28) { t.engine (x.cmd.u8 28) with
        pendLayout := (t.engine (x.cmd.u8 28)).pendLayout
          ++ [(t.clk + tuMs 1, x.cmd.u16 30 + 1024 * x.cmd.u16 32 + 1048576 * x.cmd.u16 34, tilesOf x.buf)] })
      (fun _ _ => repDone [])
  ∧ AtOnce cmdMqCompare .mqCompare
      (fun t x =>
        if x.cmd.u8 17 = 1 then t.startCompare x
        else (t.stageTaps x (x.cmd.u8 16) [0xFFFF, 0xFFFF]).updEngine (x.cmd.u8 16)
          (fun g => { g with cmp := { g.cmp with running := false } }))
      (fun _ _ => repDone [])
  ∧ Answers cmdMqStatus .mqStatus (fun t x => t.mqStatus (x.cmd.u8 16))

/-- The Dovetail commands: links, the group and ties (R322, R325 to R332, R473). The pairing commands (R342 to R346, R356,
R361, R367 to R371, R474). Model's choices within: logs 22, 31, 53, 55, 69, 70, 125, 142. -/
def Obligations.DovetailAndPairCommandsComplete : Prop :=
  Begins cmdDtLinkUp .dtLinkUp
      (fun t x =>
        let k := x.cmd.u8 16
        let u := t.settleWhere (fun f => f.cmd.opcode == 0x0901 && f.cmd.u8 16 == k && f.id != x.id) (repByte 0x12 1)
        if x.cmd.u8 17 = 0 then
          ((u.linkFall k .down).updLink k (fun l => { l with active := [], spareLanes := [] })).settle x.id (repDone [])
        else
          ((u.updFlight x.id (fun f => { f with data := [k] })).updLink k (fun l => { l with
            maxRate := x.cmd.u8 18
            crypt := x.cmd.u8 19 == 1
            txSlot := x.cmd.u16 20
            rxSlot := x.cmd.u16 22
            excluded := [] })).linkBegin k)
  ∧ AtOnce cmdDtStatus .dtStatus
      (fun t x => t.setLink (x.cmd.u8 16) { t.link (x.cmd.u8 16) with replays := 0, held := 0 })
      (fun t x => repDone (t.dtStatus (x.cmd.u8 16)))
  ∧ AtOnce cmdDtGroup .dtGroup
      (fun t x => { t with group := {
        members := x.cmd.u8 16
        master := x.cmd.u8 17
        td := x.cmd.u8 18
        tb := x.cmd.u8 19
        tag := BitVec.ofNat 32 (x.cmd.u32 20)
        pairLinks := x.cmd.u8 24
        set := true } })
      (fun _ _ => repDone [])
  ∧ Begins cmdDtTieReserve .dtTieReserve
      (fun t x =>
        let g := x.cmd.u16 18
        let d := x.cmd.u8 20
        if x.cmd.u8 16 = 0 then
          ((t.updTie g d (fun k => { k with reserved := false })).releaseTies d (t.dom d).count).settle x.id (repDone [])
        else
          match t.tie? g d with
          | some k =>
            let u := t.updTie g d (fun k => { k with reserved := true, leaving := none })
            if k.confirmed then u.settle x.id (tieResult k) else u.updFlight x.id (fun f => { f with data := [g, d] })
          | none =>
            State.updFlight (State.sendTie
              { t with ties := t.ties ++ [{ src := g, td := d, dev := g / 1024, port := 0, reserved := true }] }
              (g / 1024) (.reserve g d (t.openTick d 0))) x.id (fun f => { f with data := [g, d] }))
  ∧ AtOnce cmdPairConfig .pairConfig
      (fun t x => if x.cmd.u8 16 = 1 then t.pairOn x.cmd else t.pairOff x.cmd) (fun _ _ => repDone [])
  ∧ AtOnce cmdPairStatus .pairStatus (fun t _ => { t with pr := { t.pr with missed := 0 } })
      (fun t _ => repDone t.pairStatus)
  ∧ AtOnce cmdPairMirrorSet .pairMirrorSet
      (fun t x =>
        let u := t.pairModes x.buf
        let v : State := { u with pr := { u.pr with mask := x.cmd.u8 28 } }
        v.mirror 5 v.configItem)
      (fun _ _ => repDone [])
  ∧ Begins cmdPairSwitch .pairSwitch
      (fun t x => if x.cmd.u8 16 = 0 then t.handOver x.id else (t.promote 0).settle x.id (repDone []))
  ∧ Begins cmdPairResync .pairResync
      (fun t _ => { t.pairMove .joining with pr := { (t.pairMove .joining).pr with snapReq := true } })

/-- The fault commands: reading, acknowledging, mapping, injecting, and self-tests (R378 to R391, R396, R397, R475). Model's
choices within: logs 32, 61. -/
def Obligations.FaultCommandsComplete : Prop :=
  Answers cmdFaultRead .faultRead (fun t x => t.faultRead (x.cmd.u16 16))
  ∧ AtOnce cmdFaultAck .faultAck
      (fun t x => t.ackWord (x.cmd.u8 16) (x.cmd.u32 20))
      (fun t x =>
        let had := fun (c : Bool) (i : Nat) =>
          (t.fault (32 * x.cmd.u8 16 + i)).latched && (t.fault (32 * x.cmd.u8 16 + i)).caused == c
        repDone (leBytes 4 (maskBits (x.cmd.u32 20) (had false)) ++ leBytes 4 (maskBits (x.cmd.u32 20) (had true))))
  ∧ AtOnce cmdFaultMap .faultMap (fun t x => t.faultMap x.cmd) (fun _ _ => repDone [])
  ∧ AtOnce cmdFaultInject .faultInject
      (fun t x => t.inject (x.cmd.u16 16) (x.cmd.u16 20) (x.cmd.u16 22) (x.cmd.u8 18 == 1)) (fun _ _ => repDone [])
  ∧ Begins cmdSelftestRun .selftestRun (fun t x => t.testStart x)

/-- The key commands that no tick applies: invalidation at the next key tick, KEY_INFO, attestation and the certificate (R410
to R425, R476). The Grain commands that no tick applies: configuration and start, witnesses, and GRAIN_STATUS (R433, R440,
R441, R446, R477). Model's choices within: logs 6, 8, 33, 57, 147. -/
def Obligations.KeyAndGrainCommandsComplete : Prop :=
  Begins cmdKeyInvalidate .keyInvalidate (fun t _ => t)
  ∧ AtOnce cmdKeyInfo .keyInfo
      (fun t x => t.setSlot (x.cmd.u16 16) { t.slot (x.cmd.u16 16) with drops := 0 })
      (fun t x => repDone (t.keyInfo (x.cmd.u16 16)))
  ∧ AtOnce cmdAttest .attest
      (fun t x => (t.answer (x.cmd.u64 48) (t.attestation (x.cmd.field 16 32)) (repDone [])).1)
      (fun t x =>
        if t.hostOk (x.cmd.u64 48) (t.attestation (x.cmd.field 16 32)).length then
          repDone (leBytes 8 432 ++ leBytes 8 t.nowNs) else repAborted 3)
  ∧ AtOnce cmdIdCertRead .idCertRead
      (fun t x => (t.answer (x.cmd.u64 24) (t.certificate (x.cmd.u8 16)) (repDone [])).1)
      (fun t x =>
        if t.hostOk (x.cmd.u64 24) (t.certificate (x.cmd.u8 16)).length then
          repDone (leBytes 2 (t.certificate (x.cmd.u8 16)).length) else repAborted 3)
  ∧ AtOnce cmdGrainConfig .grainConfig
      (fun t x => if x.cmd.u8 28 = 1 then (t.grainSet x.cmd).grainStart x.buf else t.grainSet x.cmd)
      (fun _ _ => repDone [])
  ∧ AtOnce cmdGrainWitness .grainWitness
      (fun t x =>
        let on := x.cmd.u8 18 == 1
        let d := t.dest (x.cmd.u16 16)
        t.setDest (x.cmd.u16 16) { d with
          witness := on
          witAnc := if on then x.cmd.u8 19 == 1 else false
          witFrom := if on then t.clk + tuMs 1 else 0
          witMissed := 0
          witRepeat := false
          witLines := []
          witDone := if on then d.witDone else [] })
      (fun _ _ => repDone [])
  ∧ AtOnce cmdGrainStatus .grainStatus
      (fun t x => if bit (x.cmd.u8 20) 0 then { t with gr := { t.gr with hostHead := x.cmd.u32 16 } } else t)
      (fun t x =>
        let u : State := if bit (x.cmd.u8 20) 0 then { t with gr := { t.gr with hostHead := x.cmd.u32 16 } } else t
        repDone (leBytes 8 t.gr.count ++ leBytes 4 t.gr.fill ++ leBytes 2 u.witnessed.length ++ leBytes 1 u.grainBits))

/-- The power commands: tolerances, pins and PWR_STATUS, which starts the wake count again (R361, R584 to R589). The lane and
port commands (R482 to R487, R511 to R540). Model's choices within: logs 36, 60, 75, 148. -/
def Obligations.PowerLaneAndPortCommandsComplete : Prop :=
  AtOnce cmdPwrTolerance .pwrTolerance
      (fun t x =>
        let key := 16 * x.cmd.u8 16 + x.cmd.u8 17
        let u : State := { t with tol := Tbl.set 0 t.tol key (x.cmd.u32 20) }
        let v := (range 7 41).foldl (fun u n => if toleranceKey n = key ∧ u.idleLong n then u.settlePower n else u) u
        v.mirror 5 v.configItem)
      (fun _ _ => repDone [])
  ∧ AtOnce cmdPwrPin .pwrPin
      (fun t x =>
        if x.cmd.u8 16 < 7 then t
        else t.setPdom (x.cmd.u8 16) { t.pdom (x.cmd.u8 16) with pinned := x.cmd.u8 17 == 1 })
      (fun _ _ => repDone [])
  ∧ AtOnce cmdPwrStatus .pwrStatus
      (fun t x => t.setPdom (x.cmd.u8 16) { t.pdom (x.cmd.u8 16) with wakes := 0 })
      (fun t x =>
        let d := t.pdom (x.cmd.u8 16)
        repDone (leBytes 1 d.state ++ leBytes 1 (flag d.pinned + 2 * flag (t.live (x.cmd.u8 16))) ++ leBytes 2 0
          ++ leBytes 4 (t.tolerance (x.cmd.u8 16)) ++ leBytes 4 d.wakes ++ leBytes 4 d.lastWake))
  ∧ AtOnce cmdLaneConfig .laneConfig
      (fun t x => t.laneConfig (x.cmd.u16 16) (x.cmd.u8 18) (x.cmd.u8 19) (x.cmd.u8 20)) (fun _ _ => repDone [])
  ∧ AtOnce cmdLaneEq .laneEq
      (fun t x =>
        let k := t.lane (x.cmd.u16 16)
        t.setLane (x.cmd.u16 16) { k with
          fixedEq := x.cmd.u8 18 == 1
          ctle := if x.cmd.u8 18 = 1 then x.cmd.u8 19 else t.ctleNow (x.cmd.u16 16)
          eqSince := t.clk
          trained := none
          taps := if t.transmits (x.cmd.u16 16) then some (x.cmd.u8 20, x.cmd.u8 21, x.cmd.u8 22) else k.taps })
      (fun _ _ => repDone [])
  ∧ AtOnce cmdLaneBitslip .laneBitslip
      (fun t x => t.setLane (x.cmd.u16 16)
        { t.lane (x.cmd.u16 16) with slip := ((t.lane (x.cmd.u16 16)).slip + x.cmd.u8 18) % 80 })
      (fun _ _ => repDone [])
  ∧ AtOnce cmdLanePrbs .lanePrbs
      (fun t x => t.lanePrbs (x.cmd.u16 16) (x.cmd.u8 18) (x.cmd.u8 19) (x.cmd.u8 20) (x.cmd.u32 24))
      (fun t x =>
        let k := t.lane (x.cmd.u16 16)
        repDone (leBytes 8 k.bits ++ leBytes 4 k.errors ++ leBytes 1 (flag k.lock)))
  ∧ Begins cmdLaneEyescan .laneEyescan
      (fun t x => (t.updFlight x.id (fun f => { f with data := [x.cmd.u16 16] })).updLane (x.cmd.u16 16)
        (fun k => { k with eyeDwell := some (x.cmd.u8 18) }))
  ∧ AtOnce cmdPortConfig .portConfig (fun t x => t.portConfig x.cmd) (fun _ _ => repDone [])
  ∧ AtOnce cmdMacsecSc .macsecSc (fun t x => (t.macsec x.cmd).1) (fun t x => repDone (t.macsec x.cmd).2)


/-! ## Tick-applied commands -/

/-- The tick-applied commands: the entries each stages, and the slot that a key command makes PENDING at once; what holding
them does beside (skipped entries of a salvo, ties reserved) is `OnTick`'s (R39, R40 to R47, R106, R211, R217, R222, R224,
R226, R280, R281, R291, R294, R308, R413, R414, R437). Model's choices within: logs 8, 22, 23, 36, 100, 129. -/
def Obligations.TickCommandsHeld : Prop :=
  OnTick cmdXptTake .xptTake (fun _ x => [(x.cmd.td, [.take (x.cmd.u16 16) (x.cmd.u16 18)])])
      (fun t _ => t)
  ∧ OnTick cmdXptSalvoFire .xptSalvoFire (fun t x => t.salvoParts (t.salvo (x.cmd.u8 16)).entries)
      (fun t _ => t)
  ∧ OnTick cmdXptProtect .xptProtect (fun _ x => [(x.cmd.td, [.protect (x.cmd.u16 16) (x.cmd.u8 18)])]) (fun t _ => t)
  ∧ OnTick cmdXptLock .xptLock (fun _ x => [(x.cmd.td, [.lock (x.cmd.u16 16) (x.cmd.u8 18)])]) (fun t _ => t)
  ∧ OnTick cmdAudGainSet .audGainSet
      (fun _ x => [(x.cmd.td, [.gain (x.cmd.u16 16) (x.cmd.u16 18) (x.cmd.u16 20)])]) (fun t _ => t)
  ∧ OnTick cmdAudGainBlock .audGainBlock
      (fun _ x => [(x.cmd.td, (gainEntries x.buf).map (fun e => .gain e.1 e.2.1 e.2.2))]) (fun t _ => t)
  ∧ OnTick cmdAudMapIn .audMapIn
      (fun _ x => [(x.cmd.td, (mapEntries x).map (fun q =>
        .mapIn (le16 q.2 0) (byteAt q.2 2) (le16 q.2 4) (byteAt q.2 3)))]) (fun t _ => t)
  ∧ OnTick cmdAudMapOut .audMapOut
      (fun _ x => [(x.cmd.td, (mapEntries x).map (fun q =>
        .mapOut (byteAt q.2 2, le16 q.2 4, byteAt q.2 3) (le16 q.2 0)))]) (fun t _ => t)
  ∧ OnTick cmdAudFollow .audFollow
      (fun _ x => [(x.cmd.td, [if x.cmd.u8 16 = 0 then .followDst (x.cmd.u16 18) (x.cmd.u8 17)
        else .followSrc (x.cmd.u16 20) (x.cmd.u16 22)])]) (fun t _ => t)
  ∧ OnTick cmdFpRealign .fpRealign (fun _ x => [(x.cmd.td, [.realign])]) (fun t _ => t)
  ∧ OnTick cmdCutoffSet .cutoffSet (fun _ x => [(x.cmd.td, [.guard (x.cmd.u32 16)])]) (fun t _ => t)
  ∧ OnTick cmdMqVeneer .mqVeneer
      (fun _ x => [(x.cmd.td, (flipOf x.cmd).members.map (fun m => .veneer m.1 m.2.1))]) (fun t _ => t)
  ∧ OnTick cmdMqFenceGroup .mqFenceGroup
      (fun _ x => [(x.cmd.td, (flipOf x.cmd).members.map (fun m => .veneer m.1 m.2.1))]) (fun t _ => t)
  ∧ OnTick cmdKeyLoad .keyLoad (fun _ x => [(x.cmd.td, [.keyOp (x.cmd.u16 16)])])
      (fun t x => (if x.cmd.u8 19 = 1 then t.handKey (x.cmd.u16 20) else t).writeSlot (x.cmd.u16 16) {
        state := .pending
        attr := x.cmd.u8 18
        origin := x.cmd.u8 19 } ((t.loadedKey x.cmd).getD 0))
  ∧ OnTick cmdKeyDerive .keyDerive (fun _ x => [(x.cmd.td, [.keyOp (x.cmd.u16 16)])])
      (fun t x => t.writeSlot (x.cmd.u16 16) {
        state := .pending
        attr := x.cmd.u8 18
        parent := some (x.cmd.u16 20)
        depth := (t.slot (x.cmd.u16 20)).depth + 1
        origin := 2 } (childKey (t.slotKey (x.cmd.u16 20)) x.cmd))
  ∧ OnTick cmdGrainSeal .grainSeal (fun _ x => [(x.cmd.td, [.sealAt])]) (fun t _ => t)

/-! ## Registers as rows -/

/-- A doorbell write is valid when the new tail is 1 to 256 ahead of the old one and at most 256 ahead of the command head,
modulo 65,536: it takes the tail and the instant at which the commands it makes visible are stamped (R36). An invalid one,
or one while EN is 0, is ignored: ERR is set, and nothing else of the mailbox changes (R58). While the UCIe link is down no
write of the host arrives (R14; model's choice, log 104). -/
def Obligations.DoorbellWrites : Prop :=
  (∀ mb v, Does (.mbDoorbell mb v)
      (fun s => mb < 16 ∧ s.ucieUp = true ∧ (s.mbox mb).en = true ∧ 0 < ahead (v.toNat % 65536) (s.mbox mb).cmdTail
        ∧ ahead (v.toNat % 65536) (s.mbox mb).cmdTail ≤ 256 ∧ ahead (v.toNat % 65536) (s.mbox mb).cmdHead ≤ 256)
      (fun s => s.setMbox mb { s.mbox mb with
        cmdTail := v.toNat % 65536
        stamps := (s.mbox mb).stamps ++ [(v.toNat % 65536, s.nowNs)] }))
  ∧ (∀ mb v, Does (.mbDoorbell mb v) (fun s => mb < 16 ∧ s.ucieUp = true ∧ (s.mbox mb).en = false) (fun s => s.setErr mb 3))
  ∧ (∀ mb v, Does (.mbDoorbell mb v)
      (fun s => mb < 16 ∧ s.ucieUp = true ∧ (s.mbox mb).en = true ∧ (ahead (v.toNat % 65536) (s.mbox mb).cmdTail = 0
        ∨ 256 < ahead (v.toNat % 65536) (s.mbox mb).cmdTail ∨ 256 < ahead (v.toNat % 65536) (s.mbox mb).cmdHead))
      (fun s => s.setErr mb 2))
  ∧ (∀ (s : State) (n c : Nat), (s.setErr n c).mbox n = { s.mbox n with err := true, cause := c })
  ∧ (∀ mb v, Does (.mbDoorbell mb v) (fun s => s.ucieUp = false) (fun s => s))

/-- MB_ENABLE.EN and the registers that follow it (R57): a write of 1 sets EN with both heads and tails 0, changes nothing
while EN is 1, and sets ERR with CAUSE 8 before READY; a write of 0 clears EN, or sets ERR with CAUSE 7 while commands are in
flight and the mailbox is not faulted; the base and shadow registers take a write only while EN is 0. While EN is 0 Balix
fetches nothing from the mailbox, and the commands in flight of a mailbox that has faulted complete unwritten and free
their places. While the UCIe link is down no write of the host arrives (R14; model's choice, log 104). -/
def Obligations.EnableWrites : Prop :=
  (∀ mb, Does (.mbEnableSet mb) (fun s => mb < 16 ∧ s.ucieUp = true ∧ (s.mbox mb).en = false ∧ s.startup.ready = true)
      (fun s => s.updMbox mb (fun m => { m with
        en := true
        faulted := false
        cmdTail := 0
        cmdHead := 0
        cplTail := 0
        cplHead := 0
        stamps := [] })))
  ∧ (∀ mb, Does (.mbEnableSet mb) (fun s => mb < 16 ∧ s.ucieUp = true ∧ (s.mbox mb).en = true) (fun s => s))
  ∧ (∀ mb, Does (.mbEnableSet mb) (fun s => mb < 16 ∧ s.ucieUp = true ∧ (s.mbox mb).en = false ∧ s.startup.ready = false)
      (fun s => s.setErr mb 8))
  ∧ (∀ mb, Does (.mbEnableClear mb)
      (fun s => mb < 16 ∧ s.ucieUp = true ∧ (s.mbox mb).en = true ∧ (s.inflightOf mb = 0 ∨ (s.mbox mb).faulted = true))
      (fun s => s.setMbox mb { s.mbox mb with en := false }))
  ∧ (∀ mb, Does (.mbEnableClear mb)
      (fun s => mb < 16 ∧ s.ucieUp = true ∧ (s.mbox mb).en = true ∧ s.inflightOf mb ≠ 0 ∧ (s.mbox mb).faulted = false)
      (fun s => s.setErr mb 7))
  ∧ (∀ mb off v, Does (.mbRingBaseWrite mb off v)
      (fun s => mb < 16 ∧ s.ucieUp = true ∧ off ≤ 0x14 ∧ off % 4 = 0 ∧ (s.mbox mb).en = false)
      (fun s => s.setMbox mb
        (if off < 8 then { s.mbox mb with cmdBase := setHalf (s.mbox mb).cmdBase (off % 8 == 4) 12 v }
         else if off < 16 then { s.mbox mb with cplBase := setHalf (s.mbox mb).cplBase (off % 8 == 4) 12 v }
         else { s.mbox mb with shadow := setHalf (s.mbox mb).shadow (off % 8 == 4) 3 v })))
  ∧ (∀ mb off v, Does (.mbRingBaseWrite mb off v)
      (fun s => mb < 16 ∧ s.ucieUp = true ∧ off ≤ 0x14 ∧ off % 4 = 0 ∧ (s.mbox mb).en = true) (fun s => s.setErr mb 1))
  ∧ (∀ mb, Does (.mbEnableSet mb) (fun s => s.ucieUp = false) (fun s => s))
  ∧ (∀ mb, Does (.mbEnableClear mb) (fun s => s.ucieUp = false) (fun s => s))
  ∧ (∀ mb off v, Does (.mbRingBaseWrite mb off v) (fun s => s.ucieUp = false) (fun s => s))
  ∧ (∀ (s : State) (n : Nat), (s.mbox n).en = false → s.nextVisit ≠ some n)
  ∧ (∀ (s : State) (n : Nat) (f : Flight), f ∈ (s.faultRing n).bx.flights → f.mb = n → f.mute = true)
  ∧ (∀ (s : State) (id : Nat) (f : Flight), s.flight? id = some f → s.balixUp = true → s.mayPost f = true →
      (∀ g ∈ s.chainOf f, g.mute = true) →
      ∃ t, exec (.completionPost id) s = .next t ∧ t.hostMem = s.hostMem ∧ (s.bx.tookWait = false → t.mb = s.mb)
        ∧ t.bx.flights = s.bx.flights.filter (fun g => !(g.id == f.id || f.chain.contains g.id)))

/-- The mailbox registers by which the host consumes completions and sets its interrupts, and writes of them and of MB_RESET
that are not accepted: ERR carries its code (R84, R571, R612). A write to MB_RESET with a wrong key, or from a mailbox
without a session, also disarms that mailbox's reset; its reserved bits have no effect (R10). While the UCIe link is down no
write of the host arrives (R14). Model's choices within: logs 76, 104. -/
def Obligations.MailboxRegisterRows : Prop :=
  (∀ mb v, Does (.mbCplHead mb v)
      (fun s => mb < 16 ∧ s.ucieUp = true ∧ ahead v.toNat (s.mbox mb).cplHead ≤ ahead (s.mbox mb).cplTail (s.mbox mb).cplHead)
      (fun s => s.setMbox mb { s.mbox mb with cplHead := v.toNat % 65536 }))
  ∧ (∀ mb v, Does (.mbIrqCtrl mb v) (fun s => mb < 16 ∧ s.ucieUp = true ∧ bitsOf v.toNat 23 16 ≠ 0)
      (fun s => s.updMbox mb (fun m => { m with
        tkoEn := bit v.toNat 26
        errEn := bit v.toNat 25
        cplEn := bit v.toNat 24
        cnt := bitsOf v.toNat 23 16
        holdoff := bitsOf v.toNat 15 0 })))
  ∧ (∀ mb t, Does (.cplHoldoffExpiry mb)
      (fun s => (s.mbox mb).oldest = some t ∧ s.passed t (tuUs (s.mbox mb).holdoff) = true) (fun s => s.raiseCpl mb))
  ∧ (∀ mb v, Does (.mbCplHead mb v)
      (fun s => mb < 16 ∧ s.ucieUp = true ∧ ahead (s.mbox mb).cplTail (s.mbox mb).cplHead < ahead v.toNat (s.mbox mb).cplHead)
      (fun s => s.setErr mb 5))
  ∧ (∀ mb v, Does (.mbIrqCtrl mb v) (fun s => mb < 16 ∧ s.ucieUp = true ∧ bitsOf v.toNat 23 16 = 0) (fun s => s.setErr mb 4))
  ∧ (∀ mb v, Does (.mbResetDevice mb v)
      (fun s => mb < 16 ∧ s.ucieUp = true ∧ s.boot.firing = none ∧ (bitsOf v.toNat 31 16 ≠ 0xD1A1 ∨ (s.mbox mb).isOpen = false))
      (fun s => State.setErr { s with boot := { s.boot with armed := s.boot.armed.filter (fun a => a.1 != mb) } } mb 6))
  ∧ (∀ (s : State) (mb : Nat) (v w : Word), v.toNat / 65536 = w.toNat / 65536 → v.toNat % 4 = w.toNat % 4 →
      s.resetWrite mb v = s.resetWrite mb w)
  ∧ (∀ mb v, Does (.mbCplHead mb v) (fun s => s.ucieUp = false) (fun s => s))
  ∧ (∀ mb v, Does (.mbIrqCtrl mb v) (fun s => s.ucieUp = false) (fun s => s))
  ∧ (∀ mb v, Does (.mbResetDevice mb v) (fun s => s.ucieUp = false) (fun s => s))
  ∧ (∀ mb v, Does (.mbResetCcOnly mb v) (fun s => s.ucieUp = false) (fun s => s))

/-- A master reads registers (R136, R138, R606 to R608, R616): each 32-bit read of the access, in ascending address order,
returns its register's value and has its effect, and a narrow access returns the bytes it addresses. The reads with effects
of their own are TSQ_ENTRY3, TB_SEC_L, GRAIN_LAST_SEAL0, an _L register and one with RC fields. Model's choice within: log 6. -/
def Obligations.RegisterReadRows : Prop :=
  (∀ m q, Does (.tsqEntry3Read m q)
      (fun s => q.unit < 16 ∧ q.acc.words.contains (0x40101C + 0x40 * q.unit) = true ∧ m ≠ .dma
        ∧ (s.seenDebug m).mayRead m = true)
      (fun s => readsOf m q.acc (s.seenDebug m)))
  ∧ (∀ m q, Does (.tbSecLRead m q)
      (fun s => q.unit < 8 ∧ q.acc.words.contains (0x400000 + 0x100 * q.unit) = true ∧ m ≠ .dma
        ∧ (s.seenDebug m).mayRead m = true)
      (fun s => readsOf m q.acc (s.seenDebug m)))
  ∧ (∀ r, Does (.grainLastSeal0Read r)
      (fun s => r.acc.words.contains 0x2800100 = true ∧ r.master ≠ .dma ∧ (s.seenDebug r.master).mayRead r.master = true)
      (fun s => readsOf r.master r.acc (s.seenDebug r.master)))
  ∧ (∀ m a, Does (.lowHalfRead m a)
      (fun s => a.words.any lowHalf = true ∧ m ≠ .dma ∧ (s.seenDebug m).mayRead m = true)
      (fun s => readsOf m a (s.seenDebug m)))
  ∧ (∀ m a, Does (.clearOnRead m a)
      (fun s => a.words.any hasRc = true ∧ m ≠ .dma ∧ (s.seenDebug m).mayRead m = true)
      (fun s => readsOf m a (s.seenDebug m)))
  ∧ (∀ (m : Master) (o : Nat) (s : State), o % 4 = 0 →
      (readsOf m ⟨o, 4⟩ s).dataOf m = leBytes 4 ((s.returnData m []).regRead m o).toNat)
  ∧ (∀ (m : Master) (port : Nat) (s : State), port < 16 → s.queueShut m port = false →
      (readsOf m ⟨0x40101C + 0x40 * port, 4⟩ s).queue port
        = { s.queue port with entries := (s.queue port).entries.drop 1 })
  ∧ (∀ (m : Master) (base : Nat) (s : State), base < 8 →
      Tbl.get [] (readsOf m ⟨0x400000 + 0x100 * base, 4⟩ s).glb.tbSnap (8 * Master.code m + base) = s.tbWords base)
  ∧ (∀ (m : Master) (s : State),
      Tbl.get [] (readsOf m ⟨0x2800100, 4⟩ s).glb.sealSnap (Master.code m) = s.gr.lastSeal)

/-- A master with the path writes a register of a DMA channel, of a lane's test, or any other (R12, R511, R522, R524,
R605, R615): the write has its effect. A wide access is 32-bit writes in ascending address order, and a write of fewer bytes
has no effect (R606). A write that the host may not make is refused (R609), and reaches nothing while the UCIe link is down
(R14); a closed cluster port issues nothing (R497); the DMA engine has no path to registers (R488); and the debug port, once
BOOT_LOCK is set, none to write them (R489). Model's choices within: logs 35, 44, 72, 104. -/
def Obligations.RegisterWriteRows : Prop :=
  (∀ m ch, Does (.dmaStart m ch) (fun s => ch < 16 ∧ MayWrite s m (8 ≤ ch))
      (fun s => (s.seenDebug m).dmaCtrl ch ((s.chan ch).ctrl + 2147483648)))
  ∧ (∀ m ch, Does (.dmaPause m ch) (fun s => ch < 16 ∧ MayWrite s m (8 ≤ ch))
      (fun s => ((s.seenDebug m).updChan ch (fun c => { c with irqEn := (s.chan ch).irqEn })).steer ch Chan.paused))
  ∧ (∀ m ch, Does (.dmaResume m ch) (fun s => ch < 16 ∧ MayWrite s m (8 ≤ ch))
      (fun s => ((s.seenDebug m).updChan ch (fun c => { c with irqEn := (s.chan ch).irqEn })).steer ch Chan.resumed))
  ∧ (∀ m ch, Does (.dmaContinue m ch) (fun s => ch < 16 ∧ MayWrite s m (8 ≤ ch))
      (fun s => (s.seenDebug m).dmaCtrl ch ((s.chan ch).ctrl + 536870912)))
  ∧ (∀ m ch, Does (.dmaAbort m ch) (fun s => ch < 16 ∧ MayWrite s m (8 ≤ ch))
      (fun s => (s.seenDebug m).dmaCtrl ch ((s.chan ch).ctrl + 268435456)))
  ∧ (∀ m ch v, Does (.dmaCqHeadWrite m ch v) (fun s => ch < 16 ∧ MayWrite s m (8 ≤ ch))
      (fun s => (s.seenDebug m).updChan ch (fun c => c.consume v.toNat)))
  ∧ (∀ m l v, Does (.plTestCtrlWrite m l v)
      (fun s => l < 480 ∧ (s.lane l).test ≠ 0 ∧ MayWrite s m True)
      (fun s => (s.seenDebug m).updLane l (fun k => { k with
        testCtrl := testCtrlOf l k.testCtrl v
        inject := min 65535 (k.inject + flag (bit v.toNat 8)) })))
  ∧ (∀ m l, Does (.injOne m l) (fun s => l < 480 ∧ (s.lane l).test ≠ 0 ∧ MayWrite s m True)
      (fun s => (s.seenDebug m).testCtrlWrite l ((s.lane l).testCtrl ||| 0x100)))
  ∧ (∀ m a v, Does (.registerWrite m a v)
      (fun s => (a.words.any inDebugBlock && s.reachesDebug m) = false)
      (fun s => a.words.zipIdx.foldl
        (fun t q => t.writeOne m (decide (4 ≤ a.size)) q.1 (BitVec.ofNat 32 (v / 2 ^ (32 * q.2)))) s))
  ∧ (∀ m off v, off % 4 = 0 → Does (.registerWrite m ⟨off, 4⟩ v)
      (fun s => MayWrite s m (s.hostMay off = true) ∧ (inDebugBlock off = false ∨ m = .host))
      (fun s => (s.seenDebug m).regWrite off (BitVec.ofNat 32 v)))
  ∧ (∀ (s : State) (m : Master) (off : Nat) (v : Word), MayWrite s m (s.hostMay off = true) →
      s.writeOne m false off v = s.seenDebug m)
  ∧ (∀ (s : State) (whole : Bool) (off : Nat) (v : Word), s.ucieUp = true → s.hostMay off = false →
      isRegister off = true → s.writeOne .host whole off v = s.denied off)
  ∧ (∀ (s : State) (whole : Bool) (off : Nat) (v : Word), s.ucieUp = false → s.writeOne .host whole off v = s)
  ∧ (∀ (s : State) (whole : Bool) (off : Nat) (v : Word), s.ic.cc0Closed = true → s.writeOne .cc0 whole off v = s)
  ∧ (∀ (s : State) (whole : Bool) (off : Nat) (v : Word), s.ic.cc1Closed = true → s.writeOne .cc1 whole off v = s)
  ∧ (∀ (s : State) (whole : Bool) (off : Nat) (v : Word),
      s.writeOne .dma whole off v = s.icError .dma false true false (0x40000000 + off))
  ∧ (∀ (s : State) (whole : Bool) (off : Nat) (v : Word), s.startup.bootLock = true →
      s.writeOne .debug whole off v = (s.seenDebug .debug).icError .debug false true false (0x40000000 + off))

/-- The debug port reads and writes registers and memory where it may, and meets a decode error elsewhere; every
transaction sets DEBUG_SEEN (R488, R489). Model's choices within: logs 6, 40, 90. -/
def Obligations.DebugPortRow : Prop :=
  (∀ o n v, Does (.debugPortTransaction true ⟨0x40000000 + o, n⟩ v)
      (fun s => o < 0x4000000 ∧ ((⟨o, n⟩ : Access).words.any inDebugBlock = false ∨ s.startup.bootLock = true))
      (fun s => s.writeAcc .debug ⟨o, n⟩ v))
  ∧ (∀ o v, o % 4 = 0 → Does (.debugPortTransaction true ⟨0x40000000 + o, 4⟩ v)
      (fun s => o < 0x4000000 ∧ inDebugBlock o = false ∧ s.startup.bootLock = false)
      (fun s => (s.seenDebug .debug).regWrite o (BitVec.ofNat 32 v)))
  ∧ (∀ o n v, Does (.debugPortTransaction false ⟨0x40000000 + o, n⟩ v)
      (fun _ => o < 0x4000000 ∧ (⟨o, n⟩ : Access).words.any inDebugBlock = false)
      (fun s => readsOf .debug ⟨o, n⟩ (s.seenDebug .debug)))
  ∧ (∀ a v, Does (.debugPortTransaction true a v)
      (fun s => a.off < 0x40000000 ∧ s.debugPath true a.off a.size = true)
      (fun s => (s.seenDebug .debug).dmaWrite false a.off (leBytes a.size v)))
  ∧ (∀ a v, Does (.debugPortTransaction false a v)
      (fun s => a.off < 0x40000000 ∧ s.debugPath false a.off a.size = true)
      (fun s => ((s.seenDebug .debug).drawFree).returnData .debug ((s.seenDebug .debug).debugBytes a.off a.size)))
  ∧ (∀ w a v, Does (.debugPortTransaction w a v)
      (fun s => 0x44000000 ≤ a.off ∧ s.debugPath w a.off a.size = false)
      (fun s => (s.seenDebug .debug).icError .debug false w false a.off))


/-! ## Resets, start-up and power -/

/-- The resets by command: MB_RESET with its key from an engineering session of rank 0 arms on the first write and fires
on a second of the same KEY and KIND within 1 ms, the reserved bits having no effect (R10); a CC-only reset needs source 2 latched (R571 to R573). An arm 1 ms old is gone.
Model's choices within: logs 37, 76, 94, 104. -/
def Obligations.ResetCommandRows : Prop :=
  (∀ mb v, Does (.mbResetDevice mb v)
      (fun s => mb < 16 ∧ s.ucieUp = true ∧ bitsOf v.toNat 31 16 = 0xD1A1 ∧ v.toNat % 4 = 1 ∧ (s.mbox mb).isOpen = true
        ∧ (s.mbox mb).rank = 0 ∧ bit (s.mbox mb).roles 1 = true ∧ s.boot.firing = none ∧ s.boot.armed = [])
      (fun s => { s with boot := { s.boot with armed := [(mb, 0xD1A10001, s.clk)] } }))
  ∧ (∀ mb v t, Does (.mbResetDevice mb v)
      (fun s => mb < 16 ∧ s.ucieUp = true ∧ bitsOf v.toNat 31 16 = 0xD1A1 ∧ v.toNat % 4 = 1 ∧ (s.mbox mb).isOpen = true
        ∧ (s.mbox mb).rank = 0 ∧ bit (s.mbox mb).roles 1 = true ∧ s.boot.firing = none
        ∧ s.boot.armed = [(mb, 0xD1A10001, t)] ∧ s.clk < t + tuMs 1)
      (fun s => s.fireDevice))
  ∧ (∀ mb v, Does (.mbResetCcOnly mb v)
      (fun s => mb < 16 ∧ s.ucieUp = true ∧ bitsOf v.toNat 31 16 = 0xD1A1 ∧ v.toNat % 4 = 2 ∧ (s.mbox mb).isOpen = true
        ∧ (s.mbox mb).rank = 0 ∧ bit (s.mbox mb).roles 1 = true ∧ (s.fault 2).latched = true
        ∧ s.boot.firing = none ∧ s.boot.armed = [])
      (fun s => { s with boot := { s.boot with armed := [(mb, 0xD1A10002, s.clk)] } }))
  ∧ (∀ mb v t, Does (.mbResetCcOnly mb v)
      (fun s => mb < 16 ∧ s.ucieUp = true ∧ bitsOf v.toNat 31 16 = 0xD1A1 ∧ v.toNat % 4 = 2 ∧ (s.mbox mb).isOpen = true
        ∧ (s.mbox mb).rank = 0 ∧ bit (s.mbox mb).roles 1 = true ∧ (s.fault 2).latched = true
        ∧ s.boot.firing = none ∧ s.boot.armed = [(mb, 0xD1A10002, t)] ∧ s.clk < t + tuMs 1)
      (fun s => s.fireCcOnly))
  ∧ Does .mbResetArmExpiry (fun _ => True)
      (fun s => { s with boot := { s.boot with
        armed := s.boot.armed.filter (fun a => decide (s.clk < a.2.2 + tuMs 1)) } })

/-- Power-on, RESET_N and THERMTRIP (R405, R546, R547, R570, R576, R604): what each clears; that a power-on leaves an epoch
bit to burn, which start-up burns once the fuses are sensed, up to three bits being tried and none once all 4,096 are blown,
and that start-up is held where no bit reads blown; and that the release of RESET_N samples the straps and starts the device,
unless start-up has stopped or the device is too hot. Model's choices within: logs 2, 8, 42, 43, 46, 50, 52. -/
def Obligations.ResetPinRows : Prop :=
  (∀ burns, Does (.powerOnReset burns) (fun _ => True)
      (fun s =>
        let t := s.cleared .powerOn
        { t with
          pins := { t.pins with resetN := false, pwrfail := false }
          startup := { t.startup with burns := some burns } }))
  ∧ (∀ (s : State) (burns : List Bool), s.startup.burns = some burns → s.fuses.epoch < 4096 →
      (burns.take (burnable s.fuses.epoch)).any id = true →
      s.burnEpoch = { s with
        fuses := { s.fuses with epoch := s.fuses.epoch + 1 }
        startup := { s.startup with burns := none } })
  ∧ (∀ (s : State) (burns : List Bool), s.startup.burns = some burns → s.fuses.epoch < 4096 →
      (burns.take (burnable s.fuses.epoch)).any id = false →
      s.burnEpoch = State.holdAt { s with startup := { s.startup with burns := none } } 1 2)
  ∧ (∀ s : State, 4096 ≤ s.fuses.epoch ∨ s.startup.burns = none → s.burnEpoch.fuses = s.fuses)
  ∧ (∀ (s : State) (b : BootTests), b.fuseOk = false ∨ b.rootOk = false ∨ s.fuses.rootGood = false →
      (s.startUp b).fuses = s.fuses ∧ (s.startUp b).startup.stopped = true)
  ∧ Does .resetNAssert (fun s => s.pins.resetN = true)
      (fun s =>
        let t := s.cleared .resetN
        { t with pins := { t.pins with resetN := false } })
  ∧ (∀ index pid b, Does (.resetNRelease index pid b)
      (fun s => s.pins.resetN = false ∧ s.startup.stopped = false ∧ (s.glb.thermalHold = false ∨ s.coolEnough = true))
      (fun s => State.startUp { s with
        straps := { groupIdx := index % 4, pairId := pid }
        pins := { s.pins with resetN := true, pwrfail := false }
        glb := { s.glb with thermalHold := false } } b))
  ∧ (∀ h, Does .thermalTrip (fun s => s.hottest = some h ∧ 1920 ≤ h)
      (fun s =>
        let t := s.cleared .thermal
        { t with glb := { t.glb with tempTripped := true, thermalHold := true } }))

/-- Start-up's own steps: the router die's reset, the release of the clusters, the UCIe timeout, GO, the image and READY
(R572, R573, R578 to R582). Model's choices within: logs 8, 42, 45, 47, 48, 49, 51. -/
def Obligations.StartUpRows : Prop :=
  (∀ b since, Does (.deviceResetRouterDie b)
      (fun s => s.boot.firing = some (.device, since) ∧ s.routerDue since = true)
      (fun s => (s.cleared .device).startUp b))
  ∧ (∀ b since, Does (.ccOnlyResetRelease b)
      (fun s => s.boot.firing = some (.ccOnly, since) ∧ s.passed since (tuUs 10) = true ∧ b.romOk = true
        ∧ (State.clusterTests { s with boot := { s.boot with firing := none } } b).startup.stopped = false)
      (fun s =>
        let v := State.clusterTests { s with boot := { s.boot with firing := none } } b
        { v with startup := { v.startup with stage := 4 } }))
  ∧ Does .ucieTrainTimeout
      (fun s => s.startup.stage = 3 ∧ s.startup.stopped = false ∧ s.passed s.startup.upSince (tuMs 200) = true)
      (fun s => s.holdAt 3 5)
  ∧ (∀ v, Does (.bootGo v) (fun s => s.startup.stage = 4 ∧ s.startup.stopped = false ∧ bit v.toNat 0 = true)
      (fun s => { s with startup := { s.startup with stage := 5 } }))
  ∧ (∀ img, Does (.imageAccept img)
      (fun s => s.startup.stage = 5 ∧ s.startup.stopped = false ∧ s.imageStop img = none)
      (fun s => { s with
        startup := { s.startup with stage := 6, mBalix := sha384 s.bootImage, mapSwap := true }
        glb := { s.glb with balixVer := img.version }
        bx := { s.bx with digest := if s.startup.ccOnly then s.bx.digest else sha384 s.bootImage } }))
  ∧ (∀ img code, Does (.imageAccept img)
      (fun s => s.startup.stage = 5 ∧ s.startup.stopped = false ∧ s.imageStop img = some code)
      (fun s => { s with startup := { s.startup with
        stage := 4
        stop := code
        attempts := satAdd 255 s.startup.attempts 1 } }))
  ∧ (∀ hbm, Does (.ready hbm)
      (fun s => s.startup.stage = 6 ∧ s.startup.stopped = false ∧ s.startup.ccOnly = false
        ∧ (trained hbm 0 || trained hbm 2) = true ∧ (trained hbm 1 || trained hbm 3) = true)
      (fun s => (((s.untrained hbm).readyUp).refreshClamp).clusterSources))
  ∧ (∀ hbm, Does (.ready hbm)
      (fun s => s.startup.stage = 6 ∧ s.startup.stopped = false ∧ s.startup.ccOnly = true ∧ s.pr.state = .frozen)
      (fun s =>
        let t := s.readyUp.pairMove .isolated
        ((State.pairLegs { t with de := t.de.map (fun p => (p.1, { p.2 with diverged := false })) }).lostMove 0).clusterSources))

/-- The power controller's observations, wakes and entries (R585 to R589); OSC_IN, the temperature sensors and PWRFAIL_N
(R443, R444, R480, R544, R549, R557, R603). Model's choices within: logs 36, 56, 58, 91, 149. -/
def Obligations.PowerRows : Prop :=
  (∀ d, Does (.pwrDomainIdle d) (fun s => 7 ≤ d ∧ d < 48 ∧ s.live d = true) (fun s => s.wakeAll [d]))
  ∧ (∀ d, Does (.pwrDomainIdle d)
      (fun s => 7 ≤ d ∧ d < 48 ∧ s.live d = false ∧ (s.pdom d).idleSince = none)
      (fun s => s.updPdom d (fun k => { k with idleSince := some s.clk })))
  ∧ (∀ d, Does (.pwrDomainIdle d)
      (fun s => 7 ≤ d ∧ d < 48 ∧ s.live d = false ∧ (s.pdom d).idleSince ≠ none ∧ s.idleLong d = true)
      (fun s => s.settlePower d))
  ∧ (∀ d us, Does (.pwrWakeComplete d us) (fun s => (s.pdom d).waking = true ∧ s.clk ≤ (s.pdom d).wakeAt)
      (fun s => (s.setPdom d { s.pdom d with
        state := 0
        waking := false
        second := false
        lastWake := (s.pdom d).wakeTook s.clk }).wakeFlights))
  ∧ (∀ d, Does (.pwrWakeTimeout d)
      (fun s => (s.pdom d).waking = true ∧ (s.pdom d).wakeAt < s.clk ∧ (s.pdom d).second = false)
      (fun s => ((s.losePower d).strike 212 0xFFFF).setPdom d { s.pdom d with
        state := 3
        second := true
        wakeFrom := s.clk
        wakeAt := s.clk + tuUs (offWakeUs d) }))
  ∧ (∀ d, Does (.pwrWakeTimeout d)
      (fun s => (s.pdom d).waking = true ∧ (s.pdom d).wakeAt < s.clk ∧ (s.pdom d).second = true)
      (fun s => (((s.losePower d).strike 212 0xFFFF).setPdom d { s.pdom d with
        state := 3
        waking := false
        second := false
        failed := true }).wakeFailed d))
  ∧ (∀ d n, Does (.pwrDomainEntryComplete d) (fun s => (s.pdom d).entering = some n)
      (fun s =>
        let t := s.updPdom d (fun k => { k with state := n, entering := none })
        if n = 3 then t.losePower d else t))
  ∧ Does .pwrfailAssert (fun s => s.pins.pwrfail = false ∧ s.pins.resetN = true)
      (fun s =>
        let t := s.level 210 true 0xFFFF
        { t with
          pins := { t.pins with pwrfail := true }
          de := t.de.map (fun p => (p.1, { p.2 with witLines := [], witDone := [] })) })
  ∧ Does .pwrfailSeal (fun s => s.pins.pwrfail = true ∧ s.gr.stopped = false)
      (fun s =>
        let t := s.receiveAll.writeSeal 2 s.clk none
        { t with gr := { t.gr with stopped := true, drain := true } })
  ∧ Does .pwrfailDeassert
      (fun s => s.pins.pwrfail = true
        ∧ (State.level { s with pins := { s.pins with pwrfail := false } } 210 false 0xFFFF).gr.stopped = false)
      (fun s => State.level { s with pins := { s.pins with pwrfail := false } } 210 false 0xFFFF)
  ∧ Does .oscInLoss (fun _ => True)
      (fun s => State.level { s with pins := { s.pins with oscLost := true } } 115 true 0xFFFF)
  ∧ (∀ l h, Does (.temperatureSample l)
      (fun s => l.length = 32 ∧ State.hottest { s with glb := { s.glb with temps := l } } = some h)
      (fun s => (State.thermal { s with glb := { s.glb with temps := l } } 208 100 h).thermal 209 105 h))

/-! ## Balix's own events and the ticks -/

/-- Balix fetches from the next mailbox in turn, and posts the completions of a chain that has none left to come (R51,
R60, R61, R75, R86). A ring that cannot be read faults its mailbox (R621). Model's choices within: logs 7, 77, 88, 89,
101, 102. -/
def Obligations.FetchAndPostRows : Prop :=
  (∀ n cs, Does .commandFetch
      (fun s => s.balixUp = true ∧ s.nextVisit = some n ∧ s.visit n = .commands cs)
      (fun s => State.fetch { s with bx := { s.bx with lastMb := n } } n cs))
  ∧ (∀ n, Does .commandFetch
      (fun s => s.balixUp = true ∧ s.nextVisit = some n ∧ s.visit n = .unreadable)
      (fun s => State.faultRing { s with bx := { s.bx with lastMb := n } } n))
  ∧ (∀ id f, Does (.completionPost id)
      (fun s => s.flight? id = some f ∧ s.balixUp = true ∧ s.mayPost f = true)
      (fun s =>
        let t := ((s.chainOf f).foldl (fun u g => u.postOne g) s).drawFree
        State.takeoverDone { t with bx := { t.bx with
          flights := t.bx.flights.filter (fun g => !(g.id == f.id || f.chain.contains g.id)) } }))

/-- The ticks of a domain and what falls with them: the tick, the cutoff, the arming, the flips, the fences, the key tick
(R30 to R32, R49, R206 to R208, R209, R309, R393, R409, R412). The audio engine's block boundary, where banks swap, the block
is mixed and checked and ramps run on, and the end of a ramp (R271, R278, R283, R286, R297). Model's choices within: logs 8,
9, 14, 22, 29, 73, 82, 83, 84, 93, 96, 140. -/
def Obligations.TickAndAudioRows : Prop :=
  (∀ d, Does (.tdTick d)
      (fun s => d < 8 ∧ (s.dom d).hasTicks = true ∧ (s.dom d).next ≤ s.clk)
      (fun s => s.tickAt d (s.dom d).nextTick (s.dom d).next))
  ∧ (∀ d, Does (.tickCutoff d)
      (fun s => d < 8 ∧ (s.dom d).hasTicks = true ∧ (s.dom d).cutoff (s.dom d).nextTick ≤ s.nowNs
        ∧ (∀ k, (s.dom d).cutDone = some k → k < (s.dom d).nextTick) ∧ s.balixUp = true)
      (fun s => s.cutoffAt d (s.dom d).nextTick))
  ∧ (∀ d, Does (.domainArming d)
      (fun s => d < 8 ∧ (s.dom d).hasTicks = true ∧ (s.dom d).armTick ≤ (s.dom d).nextTick
        ∧ s.armInstant d (s.dom d).armTick ≤ s.clk ∧ s.boot.freeze = false)
      (fun s => s.judgeArming d (s.dom d).armTick))
  ∧ (∀ p, Does (.mitreFlip p)
      (fun s => p < 1024 ∧ (s.dest p).kind ≠ 0 ∧ (s.dom (s.dest p).td).bankArmed = true
        ∧ ((s.out p).pend = true ∨ s.takeOpen (s.dest p).td (s.dom (s.dest p).td).bankTick p = true)
        ∧ s.boot.freeze = false ∧ s.mitreStart (s.dest p) (s.dom (s.dest p).td).bankTick ≤ s.clk)
      (fun s =>
        let t := s.flipPort (s.dest p).td (s.dom (s.dest p).td).bankTick p
        (t.updDest p (fun d => { d with
          stretch := if s.destState p == 2 && t.destState p == 2 then t.phase p - s.phase p else 0 })).destJudge p))
  ∧ (∀ id f, Does (.veneerWaitExpiry id)
      (fun s => s.flight? id = some f ∧ f.waitsFence = true ∧ f.lastTick ≤ (s.dom f.cmd.td).count)
      (fun s => s.settle id (repByte 0x12 1)))
  ∧ Does .keyTick (fun s => s.ks.lastTick + 125000 ≤ s.nowNs) (fun s => s.keyTick (s.ks.lastTick + 125000))
  ∧ Does .drbgReseed (fun s => reseedAfter ≤ s.ks.drbg.requests) (fun s => { s with ks := s.ks.reseeded })
  ∧ (∀ inp, Does (.audioBlockBoundary inp)
      (fun s => s.startup.ready = true ∧ ∀ p, s.au.boundary = some p → p < s.boundaryNow)
      (fun s =>
        let b := s.boundaryNow
        let t := ((inp.rates.foldl (fun u p => u.rateOf p) ((s.runRamps b).swapBanks b)).gatherAll b).takeEmbedded
        let t := (State.sendExports { t with au := { t.au with boundary := some b } } s).ageSamples
        t.verify inp (t.activeOuts.foldl (t.mixOutput inp) t)))
  ∧ (∀ ai ao r, Does (.rampEnd ai ao)
      (fun s => s.ramp (4096 * ao + ai) = some r ∧ ai < 4096 ∧ r.ended s.elapsed = true)
      (fun s => s.setRamp (4096 * ao + ai) none))

/-! ## Reference and time -/

/-- The reference block's events: evaluation, candidates, pull, lock and holdover (R87 to R101, R619). Model's choices
within: logs 106, 107, 108, 131, 132. -/
def Obligations.ReferenceRows : Prop :=
  (∀ m, Does (.refEvaluation m)
      (fun s => ∀ t, s.rf.lastEval = some t → s.passed t (tuMs 1) = true)
      (fun s =>
        let t : State := { s with rf := { s.rf with lastEval := some s.clk } }
        (t.takeMeas m).clearAgreed.choose.track m))
  ∧ (∀ c, Does (.candidateQualify c)
      (fun s => c ≤ 16 ∧ (s.cand c).qualified = false ∧ s.candBlocked c = false
        ∧ s.passed ((s.cand c).cleanSince.getD s.startup.upSince) (tuMs (100 * (s.cand c).qual)) = true)
      (fun s => s.setCand c { s.cand c with qualified := true, qualSince := some s.clk }))
  ∧ (∀ c why, Does (.candidateDisqualify c why)
      (fun s => c ≤ 16 ∧ disqApplies why c = true ∧ s.disqHolds why c = true)
      (fun s => if endsEvents why then (s.disqualify c).forgetEvent c else s.disqualify c))
  ∧ (∀ t, Does .pullEnd (fun s => s.rf.pullEnd = some t ∧ t ≤ s.clk)
      (fun s => { s with rf := { s.rf with
        pullEnd := none
        outMove := s.rf.outMove - s.rf.pullDelta
        pullDelta := 0
        dwellSince := if s.rf.state = .acquiring then some t else none } }))
  ∧ (∀ t c, Does .lockDwellExpiry
      (fun s => s.rf.state = .acquiring ∧ s.rf.dwellSince = some t ∧ s.rf.cand = some c
        ∧ s.passed t (4000 * 12000000000 / s.candBw c) = true)
      (fun s => s.refGo .locked))
  ∧ (∀ t, Does .holdoverHistoryValid
      (fun s => s.rf.state = .locked ∧ s.rf.lockedSince = some t ∧ s.passed t (tuMs 60000) = true)
      (fun s => { s with rf := { s.rf with histValid := true, histPpt := average s.rf.hist } }))
  ∧ (∀ t, Does .holdoverLimit
      (fun s => s.rf.state = .holdover ∧ s.rf.holdSince = some t ∧ s.passed t (tuMs (1000 * s.rf.hold)) = true)
      (fun s => s.refGo .lost))

/-- The time block's events: offsets, the master's timeout, the grandmaster, the messages sent, PPS_OUT and stamps (R118,
R124 to R131, R134, R137, R139). Model's choices within: logs 10, 63, 109, 111, 113, 133, 134. -/
def Obligations.TimeRows : Prop :=
  (∀ n k theta gm, Does (.ptpOffset n k theta gm)
      (fun s => n < 4 ∧ (s.inst n).used = true ∧ s.following n = true ∧ (s.inst n).gm = gm
        ∧ (s.base (s.inst n).base).configured = true ∧ (s.base (s.inst n).base).source = some n)
      (fun s => (s.offset (s.inst n).base k theta).1))
  ∧ (∀ b t, Does (.masterTimeout b)
      (fun s => (s.base b).state = .tracking ∧ (s.base b).lastAt = some t
        ∧ s.passed t (tuMs (100 * (s.base b).timeout)) = true)
      (fun s => s.freeRun b))
  ∧ (∀ n g, Does (.grandmasterChange n g) (fun s => n < 4 ∧ (s.inst n).used = true)
      (fun s =>
        let p := s.inst n
        let t := s.setInst n { p with
          slave := g.slave
          annAt := if g.slave then some s.clk else none
          gm := g.gm
          gmCls := g.cls
          gmAcc := g.acc
          steps := g.steps
          portState := g.portState
          utc := g.utc
          tlv := if g.tlv.isEmpty then p.tlv else g.tlv
          ports := ptpPortStates p.ports g }
        let b := t.base p.base
        let u := if p.gm = g.gm then t else t.timeEvent p.base 2 b.state.code b.stepcnt 0 g.gm.toNat
        if g.slave = false ∨ p.gm ≠ g.gm then u.freeRun p.base else u))
  ∧ (∀ n port q, Does (.ptpSyncSend n port)
      (fun s => n < 4 ∧ (s.inst n).ports[port]? = some q ∧ (s.inst n).used = true ∧ (s.inst n).boundary = true
        ∧ s.following n = true ∧ q.state = 6 ∧ s.ptpMaster = true
        ∧ s.dueSince q.lastSync (logInterval (s.inst n).logSync) = true
        ∧ s.dueSince q.lastAnn (logInterval (s.inst n).logAnn) = true
        ∧ (s.ptpSend n q.coded [.sync, .followUp, .announce]).2 = true)
      (fun s => (s.ptpSend n q.coded [.sync, .followUp, .announce]).1.updPtpPort n port (fun k => { k with
        lastSync := some s.clk
        syncs := k.syncs + 1
        lastAnn := some s.clk
        announces := k.announces + 1 })))
  ∧ (∀ n port q, Does (.delayReqSend n port)
      (fun s => n < 4 ∧ (s.inst n).ports[port]? = some q ∧ (s.inst n).used = true ∧ s.following n = true
        ∧ q.state = 9 ∧ s.dueSince q.lastDreq (logInterval (s.inst n).logDreq) = true
        ∧ (s.ptpSend n q.coded [.delayReq]).2 = true)
      (fun s => (s.ptpSend n q.coded [.delayReq]).1.updPtpPort n port (fun k => { k with
        lastDreq := some s.clk
        dreqs := k.dreqs + 1 })))
  ∧ (∀ n, Does .ppsOutPulse
      (fun s => s.pins.ppsTb = some n ∧ (s.base n).configured = true ∧ (s.base n).sec ≠ s.pins.ppsSec
        ∧ ∀ k, s.pins.ppsLast = some k → k + 125000000 ≤ s.cycles)
      (fun s => { s with pins := { s.pins with
        ppsSec := (s.base n).sec
        ppsLast := some s.cycles
        ppsPulses := s.pins.ppsPulses + 1 } }))
  ∧ (∀ port sub id, Does (.txTimestamp port sub id)
      (fun s => port < 16 ∧ sub < 8 ∧ (s.balixQueue port = true ∨ (sub, id) ∈ (s.port port).stampReqs))
      (fun s => (s.updPort port (fun p => { p with stampReqs := p.stampReqs.erase (sub, id) })).pushStamp port sub id))

/-! ## Sources, lines and packets -/

/-- An SDI lane hunts, locks and loses lock; a measured frame makes a format; sources held for budget resume (R23, R145 to
R148, R513, R514, R517). Model's choices within: logs 128, 138, 148. -/
def Obligations.SdiRows : Prop :=
  (∀ l, Does (.sdiHuntDwell l)
      (fun s => s.hunting l = true ∧ s.passed (s.lane l).huntSince (tuMs 2) = true)
      (fun s => s.updLane l (fun k => { k with hunt := nextHunt k.rates k.hunt, huntSince := s.clk })))
  ∧ (∀ l family ctle, Does (.sdiLaneLock l family ctle) (fun s => s.hunting l = true)
      (fun s => (s.updLane l (fun k => { k with
        locked := true
        lost := false
        rate := laneCode k.hunt family
        ctle := if k.fixedEq then k.ctle else min 15 ctle
        eqSince := s.clk })).groupFault ((l - 128) / 32)))
  ∧ (∀ l, Does (.sdiLockLoss l) (fun s => isSdiLane l = true ∧ (s.lane l).locked = true)
      (fun s =>
        let t := s.updLane l (fun k => { k.huntFresh s.clk with lost := true })
        let hit := (t.sr.filter (fun p => p.2.lanes.contains (l - 128))).map (fun p => p.1)
        let t := hit.foldl (fun u n => u.noSignal n) t
        State.groupFault ((t.slotsOf (l - 128)).foldl (fun u c => (u.disqualify c).forgetEvent c) t) ((l - 128) / 32)))
  ∧ (∀ n sig, Does (.formatValid n sig)
      (fun s => n < 1024 ∧ s.isSdi n = true ∧ 0 < (s.source n).candFrames
        ∧ (s.source n).candidate = some ({ sig with pid := none },
          (resolveFormat sig ((s.source n).kind == 2)).1, (resolveFormat sig ((s.source n).kind == 2)).2.1))
      (fun s =>
        let r := resolveFormat sig ((s.source n).kind == 2)
        let t := s.setSource n { s.source n with
          candFrames := 2
          pidAbsent := r.2.2.1
          pidMismatch := r.2.2.2 }
        if (s.source n).state = .linkSkew then t
        else t.takeFormat n (r.1, 0, 10)
          (if (s.source n).kind = 3 then (if r.2.1 = 5 then 0 else 11) else r.2.1)))
  ∧ (∀ n sig, Does (.formatValid n sig)
      (fun s => n < 1024 ∧ s.isSdi n = true ∧ (s.source n).candidate ≠ some ({ sig with pid := none },
          (resolveFormat sig ((s.source n).kind == 2)).1, (resolveFormat sig ((s.source n).kind == 2)).2.1))
      (fun s =>
        let r := resolveFormat sig ((s.source n).kind == 2)
        (s.setSource n { s.source n with
          candidate := some ({ sig with pid := none }, r.1, r.2.1)
          candFrames := 1
          pidAbsent := r.2.2.1
          pidMismatch := r.2.2.2 }).srcGo n .detecting))
  ∧ Does .budgetHoldResume (fun _ => True)
      (fun s => ((range 0 s.nextHold).filter (fun o =>
        ((s.sr.filter (fun p => p.2.heldOrder.isSome)).map (fun p => p.2.heldOrder.getD 0)).contains o)).foldl
          (fun t o => t.resumeOne o) s)

/-- Lines: an SDI line of a VALID source arrives; eight in a row out of window are reported; a waiting line enters the
fabric at its instant; a line of packets closes; a silent leg is dropped (R149, R160 to R163, R173, R175, R176, R200).
Model's choices within: logs 17, 18, 21, 95, 137, 139. -/
def Obligations.LineRows : Prop :=
  (∀ n l, Does (.lineArrival n l)
      (fun s => n < 1024 ∧ s.isSdi n = true ∧ (s.source n).state = .valid ∧ ((s.source n).kind = 2 → l.skew ≤ 2))
      (fun s =>
        let t := if l.crcError then s.setSource n { s.source n with
          crcErrors := satAdd 65535 (s.source n).crcErrors 1
          crcSeen := true } else s
        (t.sdiLine n ((s.source n).fmt, 0, 10) l).deembed n l.anc))
  ∧ (∀ n l, Does (.lineArrival n l)
      (fun s => n < 1024 ∧ s.isSdi n = true ∧ (s.source n).state = .linkSkew ∧ ((s.source n).kind = 2 → l.skew ≤ 2))
      (fun s =>
        let t := if l.crcError then s.setSource n { s.source n with
          crcErrors := satAdd 65535 (s.source n).crcErrors 1
          crcSeen := true } else s
        ((t.srcGo n .valid).sdiLine n ((s.source n).fmt, 0, 10) l).deembed n l.anc))
  ∧ (∀ n l, Does (.lineArrival n l)
      (fun s => n < 1024 ∧ s.isSdi n = true ∧ ((s.source n).state = .valid ∨ (s.source n).state = .linkSkew)
        ∧ (s.source n).kind = 2 ∧ 2 < l.skew)
      (fun s =>
        let t := if l.crcError then s.setSource n { s.source n with
          crcErrors := satAdd 65535 (s.source n).crcErrors 1
          crcSeen := true } else s
        t.srcGo n .linkSkew))
  ∧ (∀ n l, Does (.lineArrival n l)
      (fun s => n < 1024 ∧ s.isSdi n = true ∧ (s.source n).state ≠ .valid ∧ (s.source n).state ≠ .linkSkew)
      (fun s =>
        if l.crcError then s.setSource n { s.source n with
          crcErrors := satAdd 65535 (s.source n).crcErrors 1
          crcSeen := true } else s))
  ∧ (∀ n, Does (.outOfWindow n)
      (fun s => n < 1024 ∧ 8 ≤ (s.source n).oowRun ∧ (s.source n).outOfWindow = false)
      (fun s => (s.setSource n { s.source n with outOfWindow := true, cleanFrame := false }).srcFaults n))
  ∧ (∀ n at' l rest, Does (.lineRelease n)
      (fun s => n < 1024 ∧ (s.source n).kind ≠ 0 ∧ (s.source n).classF = false ∧ (s.dom (s.source n).td).started = true
        ∧ (s.source n).waiting = (at', l) :: rest ∧ at' ≤ s.clk)
      (fun s => (s.setSource n { s.source n with waiting := rest }).deliver n l))
  ∧ (∀ n pic, Does (.lineRelease n)
      (fun s => n < 1024 ∧ (s.source n).kind ≠ 0 ∧ (s.source n).classF = false ∧ (s.dom (s.source n).td).started = true
        ∧ (s.source n).waiting = [] ∧ ((s.source n).state ≠ .valid ∨ (s.source n).kind = 4) ∧ s.blackPic n = some pic)
      (fun s =>
        let q := s.lineDue n pic.1
        s.deliver n ⟨s.lineHdr n pic.1 ((streamClass pic.1 pic.2.1 pic.2.2).getD 0) q.2.2 q.1 q.2.1, pic.1, pic.2.1, pic.2.2,
          s.ownSamples n pic q.2.2, []⟩))
  ∧ (∀ n line o pic, Does (.lineClose n line)
      (fun s => n < 1024 ∧ s.srcPic n = some pic ∧ s.closing n pic.1 line = some o ∧ s.closeDue n o pic = true)
      (fun s =>
        let k := s.source n
        let arrival : Int := match o.doneAt with
          | some d => (d : Int) - linePeriod pic.1
          | none => s.nominal n pic.1 line o.tick o.second
        let shown := k.state = .valid ∧ (k.classF ∨ s.inWindow n pic.1 line o.tick o.second arrival)
        let mine := fun (a : Nat × Bool × AncPacket) =>
          if a.2.2.line = 0 then decide shown else a.1 == o.tick && a.2.1 == o.second && a.2.2.line == line
        let samples := s.closeSamples n o pic
        let active := activeLine (fmtRaster pic.1) line
        let t := s.drawFree.setSource n { k with
          openLines := k.openLines.filter (fun q => q != o)
          closed := some (o.tick, o.second, line)
          shut := if k.classF then ((o.tick, o.second, line) :: k.shut).take 4500 else k.shut
          concealed := if o.doneAt.isNone && active then satAdd 65535 k.concealed 1 else k.concealed
          prevFrame := if active then (line, samples) :: k.prevFrame.filter (fun q => q.1 != line) else k.prevFrame
          ancWaiting := k.ancWaiting.filter (fun a => !mine a) }
        if k.state = .valid then
          t.sourceLine n line o.tick o.second arrival o.doneAt.isSome pic samples ((k.ancWaiting.filter mine).map (fun a => { a.2.2 with line := line }))
        else t))
  ∧ (∀ n leg last, Does (.legTimeout n leg)
      (fun s => n < 1024 ∧ (if leg = 0 then (s.source n).legA else (s.source n).legB) = some last
        ∧ s.passed last (2 * ratePeriod (fmtRate (s.shownFormat n).1)) = true)
      (fun s =>
        let k := if leg = 0 then { s.source n with legA := none } else { s.source n with legB := none }
        let u := s.setSource n k
        if k.legA.isNone ∧ k.legB.isNone ∧ (s.source n).kind = 3 then u.noSignal n else u))

/-- Ethernet: a good frame on a port without MACSEC is classified, a protected one is verified first; a polled transmit
descriptor the port owns is sent; a subport's link comes up and goes down (R157, R529 to R533, R538). Model's choices within:
logs 59, 148. -/
def Obligations.EthernetRows : Prop :=
  (∀ port f, Does (.ethFrameReceive port f)
      (fun s => s.hasSub port f.sub = true ∧ (s.subport (8 * port + f.sub)).up = true
        ∧ f.bytes.length + 4 ≤ (s.port port).mtu ∧ f.sec = none ∧ bit (s.port port).macsecReq f.sub = false)
      (fun s => s.classify port f))
  ∧ (∀ port f, Does (.ethFrameReceive port f)
      (fun s => s.hasSub port f.sub = true ∧ (s.subport (8 * port + f.sub)).up = true
        ∧ f.bytes.length + 4 ≤ (s.port port).mtu ∧ f.sec = none ∧ bit (s.port port).macsecReq f.sub = true)
      (fun s => s.secFail (8 * port + f.sub) 0))
  ∧ (∀ port f tag, Does (.ethFrameReceive port f)
      (fun s => s.hasSub port f.sub = true ∧ (s.subport (8 * port + f.sub)).up = true
        ∧ f.bytes.length + 4 ≤ (s.port port).mtu ∧ f.sec = some tag)
      (fun s =>
        let r := s.verifyFrame (8 * port + f.sub) tag
        if r.2 then r.1.classify port f else r.1))
  ∧ (∀ port, Does (.hpTxPoll port)
      (fun s => port < 16 ∧ (s.port port).mode ≠ 0
        ∧ bit (byteAt (s.hbmRead (hpArea port + 32 * ((s.port port).txHead % 512)) 32) 0) 0 = true)
      (fun s =>
        let p := s.port port
        let i := p.txHead % 512
        let a := hpArea port + 32 * i
        let d := s.hbmRead a 32
        let len := leNat (slice d 2 2)
        let r := s.sendHost port (byteAt d 1) len (bit (byteAt d 0) 1)
        let gone := decide (r.2 = 0 ∨ r.2 = 4)
        let t := (r.1.hbmWrite a (leBytes 1 (byteAt d 0 - 1))).hbmWrite (a + 6) (leBytes 1 r.2)
        (if gone then t.hbmWrite (a + 16) (leBytes 8 s.nowNs) else t).setPort port { p with
          txHead := (p.txHead + 1) % 65536
          stampReqs := if r.2 = 0 ∧ bit (byteAt d 0) 1 = true then
            p.stampReqs ++ [(byteAt d 1, leNat (slice d 4 2))] else p.stampReqs
          sent := if gone then p.sent ++ [s.hbmRead (hpArea port + 0x100000 + 10240 * i) (min len 10240)]
            else p.sent }))
  ∧ (∀ port sub, Does (.ethSubportLinkUp port sub)
      (fun s => s.hasSub port sub = true ∧ (s.subport (8 * port + sub)).up = false)
      (fun s => (((s.adapt (s.subLanes port sub) (s.port port).an).updSubport (8 * port + sub) (fun k => { k with
        up := true
        anDone := true
        trained := true
        localFault := false
        remoteFault := false })).portFault port).legsOf (16 * port + sub)))
  ∧ (∀ port sub f, Does (.ethSubportLinkDown port sub f) (fun s => s.hasSub port sub = true)
      (fun s => s.subDown port sub f))

/-! ## Frame store, destinations and Marquetry -/

/-- Read-outs and the HBM: a frame start, the end of a loss hold, a line, read errors, the return of a stack and the scrub
(R15, R187, R188, R190, R195, R196, R398). Model's choices within: logs 39, 116. -/
def Obligations.FrameStoreRows : Prop :=
  (∀ n d r pic, Does (.readoutFrameStart n d)
      (fun s => s.readout? n d = some r ∧ s.srcPic n = some pic ∧ (s.dom d).started = true
        ∧ r.frameStart < (s.frameStart d pic.1).2.2 ∧ r.startTick ≤ (s.frameStart d pic.1).1)
      (fun s => s.readoutTake n d (s.frameStart d pic.1).1 (s.frameStart d pic.1).2.1 (s.frameStart d pic.1).2.2))
  ∧ (∀ n d r, Does (.lossHoldExpiry n d)
      (fun s => s.readout? n d = some r ∧ s.stopped n = true ∧ (s.source n).lossHold < r.repeats
        ∧ (s.source n).lossHold ≠ 65535)
      (fun s => s.updReadout n d (fun q => { q with black := true })))
  ∧ (∀ n d line r l, Does (.readoutLineRelease n d line) (fun s => s.lineOfRead n d line = some (r, l))
      (fun s =>
        let t := s.updReads r.tail n d (fun q => { q with lastLine := line, badRead := false, last := some l })
        let t := if r.tail then t.updReadout n d (fun q => { q with last := some l }) else t
        let t : State := { t with readouts := t.readouts.filter (fun q => !q.tail || t.readsOn q) }
        { t with inPorts := Tbl.set none t.inPorts r.port (some l) }))
  ∧ (∀ k e, Does (.hbmReadError k e) (fun _ => k < 4) (fun s => s.hbmError k e))
  ∧ (∀ k, Does (.stackReturnComplete k)
      (fun s => k < 4 ∧ (s.stack k).state = 2 ∧ s.copied k = true ∧ s.ringsBack k = true)
      (fun s => ((((s.copyTo k).copyPackets k).updStack k (fun q => { q with state := 0, rejoinAt := none })).fall (25 + 4 * k)).fall
        (26 + 4 * k)))
  ∧ (∀ k, Does (.hbmScrub k none) (fun _ => k < 4)
      (fun s => s.updStack k (fun q => { q with scrubs := q.scrubs + 1 })))
  ∧ (∀ k e, Does (.hbmScrub k (some e)) (fun _ => k < 4)
      (fun s => (s.updStack k (fun q => { q with scrubs := q.scrubs + 1 })).hbmError k e))

/-- Destinations: a frame starts, both copies of a line are merged, lines and audio packets leave, and a frame's digest goes
to the Grain block; a departure port and a tap take their lines (R232, R234, R246 to R249, R260, R265, R434). A Marquetry
engine's frame start, under which a FREEZE keeps layout and mode, and its comparison report, which goes into a ring of 1,024
records and adds its bytes to the fill of the channels that the ring paces (R302 to R306, R314, R315, R319, R320, R393, R506).
Model's choices within: logs 9, 26, 27, 28, 67, 68, 95, 141, 144, 151. -/
def Obligations.DestinationAndMarquetryRows : Prop :=
  (∀ p n h at', Does (.dstFrameStart p)
      (fun s => s.destFrame (s.dest p) = some (n, h, at') ∧ (s.dest p).kind ≠ 0
        ∧ (s.dom (s.dest p).td).started = true ∧ ((s.dest p).frameAt : Int) < at')
      (fun s =>
        let t := State.latchFlows (State.destJudge (s.setDest p { s.dest p with
          frameAt := at'.toNat
          frameTick := n
          frameSecond := h }) p) p
        let u := if (t.dest p).state = 3 then t.updDest p (fun k => { k with clash := satAdd 65535 k.clash 1 }) else t
        if (u.dest p).silent then u.witClose p false else u))
  ∧ (∀ p a b l, Does (.egressLineReceive p a b)
      (fun s => p < 1024 ∧ (s.dest p).state = 2 ∧ (s.slotOf p a b).line = some l)
      (fun s =>
        let x := s.slotOf p a b
        let good := x.whole s.bx.free
        let t := s.readEntries p a b
        let t := (if x.mixed then t.drawFree else t).slotLine p
          (if s.copyComes p false && !a.missing then s.clk else s.clk - planeLag) (x.content l) good
        t.reportCopies s p a b good))
  ∧ (∀ p a b, Does (.egressLineReceive p a b)
      (fun s => 1024 ≤ p ∧ (s.copyComes p false || s.copyComes p true) = true)
      (fun s =>
        let x := s.slotOf p a b
        let t := s.readEntries p a b
        let t := (if x.mixed then t.drawFree else t).reportCopies s p a b (x.whole s.bx.free)
        if 1984 ≤ p ∧ p < 2000 then t.tapLine s p a b x else t.departLine s p x))
  ∧ (∀ p k at' l again rest, Does (.egressLineSend p k)
      (fun s => p < 1024 ∧ (s.dest p).kind ≠ 0 ∧ (s.dest p).frameAt ≠ 0 ∧ (s.dest p).state = 2
        ∧ (s.dest p).replay = (at', l, again) :: rest ∧ at' + linePeriod (s.dest p).fmt ≤ s.clk)
      (fun s => s.sendLine p l again k))
  ∧ (∀ p k, Does (.egressLineSend p k)
      (fun s => p < 1024 ∧ (s.dest p).kind ≠ 0 ∧ (s.dest p).frameAt ≠ 0 ∧ (s.dest p).state ≠ 2
        ∧ (s.blackDue p).hdr.line ≠ (s.dest p).line)
      (fun s => s.sendLine p (s.blackDue p) false k))
  ∧ (∀ i, Does (.audioPacketSend i)
      (fun s => i < 1024 ∧ ((s.txFlow (2048 + i)).kind = 2 ∨ (s.txFlow (2048 + i)).kind = 3)
        ∧ s.packetIndex (s.txFlow (2048 + i)).image ≠ (s.txFlow (2048 + i)).slot ∧ s.secondLeg (2048 + i) = false)
      (fun s =>
        let f := s.txFlow (2048 + i)
        let k := s.packetIndex f.image
        let p := s.audioPacket i k f.image
        let t := s.audioLeg k p (2048 + i)
        if s.secondLeg (2048 + i + 1) then t.audioLeg k p (2048 + i + 1) else t))
  ∧ (∀ p f rest, Does (.frameDigest p) (fun s => (s.dest p).witDone = f :: rest)
      (fun s => (s.giveRecord 0x30 f.start (some ((s.dest p).td, f.tick)) (s.digestBody p f) none).setDest p
        { s.dest p with witDone := rest, witMissed := 0 }))
  ∧ (∀ m, Does (.mqFrameStart m)
      (fun s => m < 8 ∧ (s.dom (s.engine m).timing.1).started = true
        ∧ (s.engine m).frameAt < (s.frameStart (s.engine m).timing.1 (s.engine m).timing.2).2.2)
      (fun s =>
        let q := s.frameStart (s.engine m).timing.1 (s.engine m).timing.2
        let t := if s.boot.freeze then s else (s.takeOutput m q.2.2).takeLayout m q.2.2
        let t := t.updEngine m (fun k => { k.nextFrame (2 * q.1 + flag q.2.1) q.1 with
          frameAt := q.2.2
          shown := t.tileFrames m q.2.2
          before := k.shown
          badRows := [] })
        (t.mqKeep m).followMonitor m))
  ∧ (∀ m q, Does (.mqCompareReport m q.1 q.2)
      (fun s => m < 8 ∧ (s.engine m).cmp.nextKey (s.dom (s.engine m).td) s.clk = some q ∧ (s.engine m).mode = 3
        ∧ (s.engine m).cmp.running = true)
      (fun s =>
        let g := s.engine m
        let d := s.dom g.td
        let tick := d.tickOf q.1
        let r := compareReport m g.cmp d tick q
        let t := s.setEngine m { g with
          writes := g.writes + 1
          newestTick := tick
          cmp := g.cmp.after d q r }
        let u := (t.hbmWrite (engineArea m + 0x16000000 + g.cmp.seq % 1024 * 320) r).reportFill m 320
        if byteAt r 13 % 2 = 1 then u else u.strike (52 + m) 0xFFFF))

/-! ## Faults, clusters and the DMA engine -/

/-- Error lines latch and fall, an injected cause runs out, a cluster pair fails and the other takes over, and an unanswered
transaction times out (R85, R379, R380, R391, R392, R496, R497). Model's choices within: logs 8, 34, 39, 42, 146. -/
def Obligations.FaultRows : Prop :=
  (∀ n l, Does (.faultLatch n l) (fun _ => l.rise = true ∧ n ≠ 177)
      (fun s => s.fire n l.syndrome l.address l.subject))
  ∧ (∀ l, Does (.faultLatch 177 l) (fun _ => l.rise = true)
      (fun s => (s.fire 177 l.syndrome l.address l.subject).tagFails l.subject))
  ∧ (∀ n l, Does (.faultLatch n l) (fun _ => l.rise = false) (fun s => s.fall n))
  ∧ (∀ n t, Does (.injectedHoldExpiry n) (fun s => (s.fault n).holdEnd = some t ∧ t ≤ s.clk)
      (fun s => s.updFault n (fun f => { f with holdEnd := none })))
  ∧ Does (.ccFailure 0)
      (fun s => s.startup.ready = true ∧ s.boot.cc0Failed = false ∧ s.boot.cc1Failed = false ∧ s.boot.cc1 = false)
      (fun s => State.level { s with
        boot := { s.boot with cc0Failed := true, ccFailAt := some s.clk }
        ic := { s.ic with cc0Closed := true } } 0 true 0xFFFF)
  ∧ Does (.ccFailure 1)
      (fun s => s.startup.ready = true ∧ s.boot.cc0Failed = true ∧ s.boot.cc1Failed = false)
      (fun s => (State.level { s with
        boot := { s.boot with cc1Failed := true }
        ic := { s.ic with cc1Closed := true } } 1 true 0xFFFF).level 2 true 0xFFFF)
  ∧ Does .ccTakeover
      (fun s => s.boot.ccFailAt.isSome = true ∧ s.boot.cc1Failed = false ∧ s.boot.freeze = false)
      (fun s =>
        let t := State.abortWhere { s with
          boot := { s.boot with cc1 := true, ccFailAt := none, takeovers := s.boot.takeovers + 1 }
          bx := { s.bx with tookId := s.newId, tookWait := true } } (fun _ => true) 1
        t.takeoverDone)
  ∧ (∀ m w sp a, Does (.icTimeout m w sp a) (fun _ => True)
      (fun s => (s.icError m true w sp a).strike 5 0xFFFF))

/-- The engine starts a descriptor only when its completion queue has room for one more entry, that is, when TAIL less HEAD
is below the queue's size; until then the channel is WAITING (R502). -/
def Obligations.QueueRoom : Prop :=
  (∀ c, Does (.dmaDescriptorStart c)
      (fun s => c < 16 ∧ ((s.chan c).state = 1 ∨ (s.chan c).state = 2) ∧ (s.chan c).image = []
        ∧ (s.chan c).pause = false ∧ (s.chan c).done < (s.chan c).budgetIn
        ∧ ((s.chan c).cqTail + 65536 - (s.chan c).cqHead) % 65536 < 2 ^ (s.chan c).cqSize
        ∧ s.dmaOk c (s.chan c).cur 32 = true)
      (fun s =>
        let t := s.updChan c (fun k => { k with
          state := 1
          image := s.dmaRead (decide (8 ≤ c)) (s.chan c).cur 32
          moved := 0 })
        if t.badDescriptor c (t.chan c) then t.dmaHalted c 4
        else t.updChan c (fun k => { k with remain := k.len })))
  ∧ (∀ c, Does (.dmaDescriptorStart c)
      (fun s => c < 16 ∧ ((s.chan c).state = 1 ∨ (s.chan c).state = 2) ∧ (s.chan c).image = []
        ∧ (s.chan c).pause = false ∧ (s.chan c).done < (s.chan c).budgetIn
        ∧ 2 ^ (s.chan c).cqSize ≤ ((s.chan c).cqTail + 65536 - (s.chan c).cqHead) % 65536)
      (fun s => s.updChan c (fun k => { k with state := 2 })))

/-- A DMA channel fetches a descriptor, moves a block, completes, halts, is suspected of a loop, and is paced (R500 to
R509, R438). Model's choices within: logs 40, 41, 72, 78, 151. -/
def Obligations.DmaRows : Prop :=
  (∀ c, Does (.dmaBlock c) (fun s => s.serves = some c ∧ (c = 7 → s.uploads = false)) (fun s => s.moveBlock c))
  ∧ Does (.dmaBlock 7) (fun s => s.serves = some 7 ∧ s.uploads = true) (fun s => s.uploadBlock)
  ∧ (∀ c, Does (.dmaDescriptorComplete c)
      (fun s => c < 16 ∧ (s.chan c).image ≠ [] ∧ (s.chan c).moved = (s.chan c).len ∧ (s.chan c).state = 1)
      (fun s =>
        let k := s.chan c
        let t := (s.updChan c (fun q => { q with
          flushCnt := if bit k.flags 2 then (q.flushCnt + 1) % 4294967296 else q.flushCnt })).dmaComplete c (k.le 22 2) 0
            (flag (bit k.flags 2) + 2 * flag (bit k.flags 3)) k.len
        if (t.chan c).state = 5 then t
        else
          let u := t.updChan c (fun q => { q with
            image := []
            moved := 0
            done := q.done + 1
            cur := if bit k.flags 3 then q.cur else k.le 24 8
            state := if bit k.flags 3 then 0 else if q.pause then 4 else 1 })
          if bit k.flags 4 then u.dmaIrq c else u))
  ∧ (∀ c e, Does (.dmaHalt c e)
      (fun s => c < 16 ∧ (s.chan c).image ≠ [] ∧ ((s.chan c).state = 1 ∨ (s.chan c).state = 2 ∨ (s.chan c).state = 3))
      (fun s => s.dmaError c e.addr e.write (if e.timeout then 2 else 1)))
  ∧ (∀ c, Does (.dmaLoopSuspect c)
      (fun s => c < 16 ∧ ((s.chan c).state = 1 ∨ (s.chan c).state = 2) ∧ (s.chan c).image = []
        ∧ (s.chan c).budgetIn ≤ (s.chan c).done ∧ (s.chan c).room = true)
      (fun s => s.dmaHalted c 3))
  ∧ (∀ c n, Does (.dmaPaceRequest c n)
      (fun s => c < 16 ∧ (c = 7 → s.gr.started = false) ∧ (s.chan c).pace ≠ 0)
      (fun s => s.updChan c (fun k => { k with fill := n, req := pacing k.req k.marks.1 k.marks.2 n })))
  ∧ (∀ n, Does (.dmaPaceRequest 7 n) (fun s => s.gr.started = true)
      (fun s =>
        let on := pacing s.gr.upload s.gr.highWm s.gr.lowWm s.gr.fill
        State.updChan { s with gr := { s.gr with upload := on } } 7 (fun c => { c with
          fill := s.gr.fill
          req := on || s.gr.drain })))

/-- The ends of long commands: PRBS counts, an eye scan, a self-test, and a plane that goes OFFLINE, is loaded and returns
(R236, R238, R396, R485, R523, R526, R527). Model's choices within: logs 24, 127. -/
def Obligations.TestAndPlaneRows : Prop :=
  (∀ l k, Does (.prbsCheckerLock l k) (fun s => 2 ≤ (s.lane l).test)
      (fun s => s.updLane l (fun q => k.correct.foldl (Lane.checkBit k.loop) q)))
  ∧ (∀ l e d f, Does (.eyescanComplete l e)
      (fun s => (s.lane l).eyeDwell = some d
        ∧ s.bx.flights.find? (fun g => g.cmd.opcode == 0x0F05 && g.cmd.u16 16 == l && g.reply.isNone) = some f)
      (fun s =>
        let n := s.eyes l
        let row := fun i => e.samplerRow.getD i 32
        let width := minEye n (fun i => zeroRun (eyePoint e i (row i)) 32)
        let height := minEye n (fun i => zeroRun (fun r => eyePoint e i r 32) (row i))
        let bytes := (range 0 (4096 * n)).flatMap (fun i => leBytes 4 (min 4294967295 (e.points.getD i 4294967295)))
        let r := (s.updLane l (fun k => { k with eyeDwell := none })).answer (f.cmd.u64 24) bytes
          (repDone (leBytes 4 bytes.length ++ leBytes 2 width ++ leBytes 2 height ++ leBytes 4 e.ms))
        r.1.settle f.id r.2))
  ∧ (∀ id f t, Does (.selftestComplete id t)
      (fun s => s.flight? id = some f ∧ f.cmd.opcode = 0x0B05 ∧ f.reply = none ∧ f.phase = .begun)
      (fun s => (s.testEnd (f.cmd.u8 16) (f.cmd.u16 18) t.pass).settle id
        (repDone (testResult t.pass t.us (leBytes 8 t.detail.toNat)))))
  ∧ (∀ p, Does (.planeOfflineComplete p)
      (fun s => p < 2 ∧ (s.plane (p == 1)).state = .inService
        ∧ s.bx.flights.any (fun f =>
          f.cmd.opcode == 0x0507 && f.cmd.u8 16 == p && f.cmd.u8 17 == 0 && f.reply.isNone) = true)
      (fun s => (s.planeGo (p == 1) .offline).planeSettle (p == 1) 0 (repDone [])))
  ∧ (∀ p, Does (.planeLoaded p) (fun s => p < 2 ∧ (s.plane (p == 1)).state = .loading)
      (fun s => s.allOuts.foldl (fun t q => t.updOut q (fun o => o.load (p == 1))) (s.planeGo (p == 1) .shadow)))
  ∧ (∀ p, Does (.planeShadowPass p)
      (fun s => p < 2 ∧ (s.plane (p == 1)).state = .shadow
        ∧ s.wholeFrames ((s.plane (p == 1)).shadowFrom.getD s.clk) = true)
      (fun s => (s.planeGo (p == 1) .inService).planeSettle (p == 1) 1 (repDone [])))

/-! ## Dovetail links, the pair and the Grain log -/

/-- A link's bring-up, its frames and its end (R322 to R324, R333, R335 to R339). Model's choices within: logs 8, 30, 69,
142, 143, 147, 148. -/
def Obligations.LinkRows : Prop :=
  (∀ k r, Does (.dtNegotiationRecord k r)
      (fun s => k < 3 ∧ (s.link k).state = .negotiate ∧ s.inStep k = true ∧ s.negRefusal k r = none)
      (fun s => (s.linkGo k .train56).updLink k (fun l => { l with
        partner := r.index
        peer := if l.derives then r.share else [] })))
  ∧ (∀ k r why, Does (.dtNegotiationRecord k r)
      (fun s => k < 3 ∧ (s.link k).state = .negotiate ∧ s.inStep k = true ∧ s.negRefusal k r = some why)
      (fun s => s.linkFail k why))
  ∧ (∀ k lanes, Does (.dtTrainingResult k lanes)
      (fun s => k < 3 ∧ ((s.link k).state = .train56 ∨ (s.link k).state = .train112) ∧ s.inStep k = true
        ∧ 30 ≤ (lanes.eraseDups.filter (fun x => decide (x < 32) && !(s.link k).excluded.contains x)).length)
      (fun s =>
        let l := s.link k
        let ok := lanes.eraseDups.filter (fun x => decide (x < 32) && !l.excluded.contains x)
        let t := (s.adapt (ok.map (fun x => 384 + 32 * k + x)) true).updLink k
          (fun q => { q with active := ok.take 30, spareLanes := ok.drop 30 })
        if l.state = .train112 then t.linkUp k .up112
        else if l.maxRate = 1 ∨ l.retried = true then t.linkUp k .up56
        else t.linkGo k .train112))
  ∧ (∀ k ms, Does (.dtStepTimeout k)
      (fun s => k < 3 ∧ stepLimit (s.link k).state = some ms ∧ s.passed (s.link k).stepStart (tuMs ms) = true)
      (fun s =>
        if (s.link k).state = .train112 then
          (s.linkGo k .train56).updLink k (fun l => { l with retried := true })
        else s.linkFail k (if (s.link k).state = .negotiate then 1 else 5)))
  ∧ (∀ k f, Does (.dtLinkFrame k f)
      (fun s => k < 3 ∧ (s.link k).isUp = true ∧ s.linkRevoked k (s.link k).rxSlot = false ∧ f.crcOk = true
        ∧ ((s.link k).crypt = true → f.authOk = true) ∧ f.seq = (s.link k).rxSeq)
      (fun s => (s.setLink k { s.link k with
        authFails := 0
        rxSeq := ((s.link k).rxSeq + 1) % 65536
        rxCount := fullCount (s.link k).rxFrames f.low
        rxFrames := fullCount (s.link k).rxFrames f.low + 1 }).resendFrames k f.asks))
  ∧ (∀ k f, Does (.dtLinkFrame k f)
      (fun s => k < 3 ∧ (s.link k).isUp = true ∧ s.linkRevoked k (s.link k).rxSlot = false
        ∧ (f.crcOk = false ∨ ((s.link k).crypt = true ∧ f.authOk = false) ∨ f.seq ≠ (s.link k).rxSeq))
      (fun s => (s.updLink k (fun l => { l with
        authFails := if l.crypt && !f.authOk && f.crcOk then l.authFails + 1 else l.authFails })).askAgain k f))
  ∧ (∀ k f, Does (.dtLinkFrame k f)
      (fun s => k < 3 ∧ (s.link k).isUp = true ∧ s.linkRevoked k (s.link k).rxSlot = true)
      (fun s => s.dropUnder (s.link k).rxSlot))
  ∧ (∀ k, Does (.dtAuthFailLimit k) (fun s => k < 3 ∧ (s.link k).isUp = true ∧ 8 ≤ (s.link k).authFails)
      (fun s => s.linkFall k .down))
  ∧ (∀ k, Does (.dtKeyRenewal k false)
      (fun s => k < 3 ∧ (s.link k).isUp = true ∧ (s.link k).crypt = true ∧ (s.link k).txSlot = 0xFFFF
        ∧ 4294967295 ≤ (s.link k).txFrames)
      (fun s =>
        let n := (s.link k).txRenewed + 1
        (s.setLink k { s.link k with txFrames := 0, txRenewed := n }).setLinkKey (2 * k)
          ((s.link k).derivedKey false n)))
  ∧ (∀ k, Does (.dtKeyRenewal k true)
      (fun s => k < 3 ∧ (s.link k).isUp = true ∧ (s.link k).crypt = true ∧ (s.link k).txSlot = 0xFFFF
        ∧ 4294967295 ≤ (s.link k).rxFrames)
      (fun s =>
        let n := (s.link k).rxRenewed + 1
        (s.setLink k { s.link k with rxFrames := 0, rxRenewed := n }).setLinkKey (2 * k + 1)
          ((s.link k).derivedKey true n)))
  ∧ (∀ k receive, Does (.dtKeyRenewal k receive)
      (fun s => k < 3 ∧ (s.link k).isUp = true ∧ (s.link k).crypt = true ∧ (s.link k).txSlot ≠ 0xFFFF
        ∧ 9223372036854775808 ≤ (if receive then (s.link k).rxFrames else (s.link k).txFrames))
      (fun s => s.linkBegin k))
  ∧ (∀ k n, Does (.dtLaneFailNoSpare k n)
      (fun s => k < 3 ∧ (s.link k).isUp = true ∧ (s.link k).active.contains n = true ∧ (s.link k).spareLanes = [])
      (fun s => (s.updLink k (fun q => { q with excluded := q.excluded ++ [n] })).linkBegin k))
  ∧ (∀ k, Does (.dtLinkDown k) (fun s => k < 3 ∧ (s.link k).isUp = true) (fun s => s.linkFall k .down))

/-- The group's ticks, alignment and ties (R226 to R229, R326 to R331, R365, R369). Model's choices within: logs 22, 55, 70,
79, 125, 142. -/
def Obligations.TieRows : Prop :=
  (∀ k i, Does (.dtGroupTickStamp k i) (fun s => k < 3 ∧ (s.link k).isUp = true ∧ s.refLink k = true)
      (fun s => (s.seeEvent 16 ((s.link k).instantOf i)).fall (99 + 4 * k)))
  ∧ (∀ k d r, Does (.dtAlignExchange k d r)
      (fun s => k < 3 ∧ d < 8 ∧ (s.link k).isUp = true ∧ ¬(s.pr.link = k ∧ s.pairLink k = true))
      (fun s =>
        let t := s.dom d
        let skew : Int := (t.last : Int) - (s.link k).instantOf r.instant
        let ok := r.timeBase && t.ref.isSome && t.hasTicks && r.rate == t.rate && r.count == t.count
          && decide (skew.natAbs ≤ 1200)
        s.updLink k (fun l => { l with
          aligned := setBit l.aligned d ok
          tbOffset := r.offset
          wanted := r.imports
          sources := l.sources.filter (fun q => q.td != d) ++ r.sources.filter (fun q => q.td == d) })))
  ∧ (∀ k d r, Does (.dtAlignExchange k d r)
      (fun s => k < 3 ∧ d < 8 ∧ (s.link k).isUp = true ∧ s.pr.link = k ∧ s.pairLink k = true)
      (fun s =>
        let t := s.dom d
        let skew : Int := (t.last : Int) - (s.link k).instantOf r.instant
        let ok := r.timeBase && t.ref.isSome && t.hasTicks && r.rate == t.rate && r.count == t.count
          && decide (skew.natAbs ≤ 1200)
        let u := s.updLink k (fun l => { l with
          aligned := setBit l.aligned d ok
          tbOffset := r.offset
          wanted := r.imports
          sources := l.sources.filter (fun q => q.td != d) ++ r.sources.filter (fun q => q.td == d) })
        u.pairExchange d ok r.departs))
  ∧ (∀ k q p, Does (.dtReservation k q)
      (fun s => k < 3 ∧ (s.link k).isUp = true ∧ q.td < 8 ∧ s.linkTo q.dev = k ∧ (s.localOf q.src).isSome = true
        ∧ s.depart.find? (fun t => t.src == q.src && t.td == q.td && t.dev == q.dev) = none
        ∧ (s.dom q.td).hasTicks = true ∧ s.alignedWith q.dev q.td = true ∧ (s.classOf q.src).isSome = true
        ∧ s.otherDomain q.src q.td = false ∧ s.otherRate q.src q.td = false ∧ s.departFor k q.src = some p)
      (fun s => s.placeTie q p (s.takeTick q.td 256 (max q.tick (s.openTick q.td 0)))))
  ∧ (∀ k q, Does (.dtReservation k q)
      (fun s => k < 3 ∧ (s.link k).isUp = true ∧ q.td < 8 ∧ s.linkTo q.dev = k ∧ (s.localOf q.src).isSome = true
        ∧ s.depart.find? (fun t => t.src == q.src && t.td == q.td && t.dev == q.dev) = none
        ∧ ((s.dom q.td).hasTicks = false ∨ s.alignedWith q.dev q.td = false ∨ s.classOf q.src = none
          ∨ s.otherDomain q.src q.td = true ∨ s.otherRate q.src q.td = true ∨ s.departFor k q.src = none))
      (fun s => s.sendTie q.dev (.refuse q.src q.td)))
  ∧ (∀ k q t, Does (.dtReservation k q)
      (fun s => k < 3 ∧ (s.link k).isUp = true ∧ q.td < 8 ∧ s.linkTo q.dev = k ∧ (s.localOf q.src).isSome = true
        ∧ s.depart.find? (fun t => t.src == q.src && t.td == q.td && t.dev == q.dev) = some t)
      (fun s => s.keepTie q t))
  ∧ (∀ k a t tick port, Does (.dtReservationConfirm k a)
      (fun s => s.tie? a.src a.td = some t ∧ k < 3 ∧ (s.link k).isUp = true ∧ s.linkTo t.dev = k
        ∧ t.confirmed = false ∧ a.result = some (tick, port))
      (fun s =>
        let t' : Tie := { t with
          tick := tick
          port := arrivalBase k + port % 320
          confirmed := true
          align := a.align }
        (s.updTie a.src a.td (fun _ => t')).settleWhere (fun f => f.cmd.opcode == 0x0904 && f.data == [a.src, a.td])
          (tieResult t')))
  ∧ (∀ k src d n, Does (.dtTieRelease k src d n) (fun s => k < 3 ∧ (s.link k).isUp = true)
      (fun s => { s with depart := s.depart.map (fun t =>
        if t.src == src && t.td == d && s.linkTo t.dev == k then { t with ending := some n } else t) }))
  ∧ (∀ k src d l t, Does (.dtTieLineRelease k src d (some l))
      (fun s => s.tie? src d = some t ∧ k < 3 ∧ (s.link k).isUp = true ∧ s.linkTo t.dev = k ∧ t.confirmed = true
        ∧ s.tieDue t l.fmt l.hdr = l.hdr ∧ t.last.map (fun v => v.hdr) ≠ some l.hdr)
      (fun s => s.updTie src d (fun q => { q with last := some l })))
  ∧ (∀ k src d t l, Does (.dtTieLineRelease k src d (some l))
      (fun s => s.tie? src d = some t ∧ k < 3 ∧ (s.link k).isUp = true ∧ s.linkTo t.dev = k ∧ t.confirmed = true
        ∧ s.tieDue t l.fmt l.hdr = l.hdr ∧ t.last.map (fun v => v.hdr) = some l.hdr)
      (fun s => s))
  ∧ (∀ k src d t l, Does (.dtTieLineRelease k src d none)
      (fun s => s.tie? src d = some t ∧ k < 3 ∧ (s.link k).isUp = true ∧ s.linkTo t.dev = k ∧ t.confirmed = true
        ∧ t.last = some l)
      (fun s =>
        let h := s.tieDue t l.fmt l.hdr
        if h = l.hdr then s
        else (s.updTie src d (fun q => { q with last := some { l with hdr := h, anc := [] } })).updLink k
          (fun q => { q with held := satAdd 65535 q.held 1 })))
  ∧ (∀ k src d t w l, Does (.dtTieLineRelease k src d (some w))
      (fun s => s.tie? src d = some t ∧ k < 3 ∧ (s.link k).isUp = true ∧ s.linkTo t.dev = k ∧ t.confirmed = true
        ∧ s.tieDue t w.fmt w.hdr ≠ w.hdr ∧ t.last = some l)
      (fun s =>
        let h := s.tieDue t l.fmt l.hdr
        if h = l.hdr then s
        else (s.updTie src d (fun q => { q with last := some { l with hdr := h, anc := [] } })).updLink k
          (fun q => { q with held := satAdd 65535 q.held 1 })))

/-- The pair: heartbeats, the loss of a path, of the partner and of its life, and the clamp's grant (R344 to R357).
Mirroring: the items a standby applies, the acknowledgement of a bank or its lack, the offsets, the snapshot, a
DIVERGE, and the end of a join (R361 to R366, R371, R375). Model's choices within: logs 11, 12, 53, 54, 73, 81,
85, 126. -/
def Obligations.PairAndMirrorRows : Prop :=
  Does .heartbeatSend (fun s => s.pr.state ≠ .off ∧ s.pr.lastBeat = none)
      (fun s =>
        let t : State := { s with pr := { s.pr with
          seq := (s.pr.seq + 1) % 4294967296
          lastBeat := some s.clk } }
        t.sendBeat (t.beat 1))
  ∧ (∀ p bs, Does (.heartbeatReceive p bs) (fun s => s.hears p bs = true)
      (fun s => ((s.noteBeat p bs).hearMove s.pr.pState).hearAfter))
  ∧ Does (.pairingPathLost .dowel)
      (fun s => s.pr.state ≠ .off ∧ s.silent s.pr.heardDowel = true ∧ s.heardNow s.pr.heardLink = true
        ∧ (s.fault 128).persists = false)
      (fun s => (s.pairEvent 1 s.pr.state.code s.pr.state.code []).level 128 true 0xFFFF)
  ∧ Does (.pairingPathLost .link)
      (fun s => s.pr.state ≠ .off ∧ s.pr.link < 3 ∧ s.silent s.pr.heardLink = true ∧ s.heardNow s.pr.heardDowel = true
        ∧ (s.fault 128).persists = false)
      (fun s => (s.pairEvent 1 s.pr.state.code s.pr.state.code []).level 128 true 0xFFFF)
  ∧ Does .partnerLost
      (fun s => s.pr.state ≠ .off ∧ s.silent s.pr.heardDowel = true ∧ s.silent s.pr.heardLink = true
        ∧ s.pr.partnerLost = false)
      (fun s => (State.level { s with pr := { s.pr with partnerLost := true, conflict := false } } 130 false 0xFFFF).lostMove 0)
  ∧ (∀ n, Does (.peerNotAlive n)
      (fun s => 10 ≤ n ∧ s.pins.peerNotAlive = false ∧ s.pins.resetN = true ∧ s.pr.state ≠ .active)
      (fun s => State.lostMove { s with pins := { s.pins with peerNotAlive := true } } 1))
  ∧ Does (.peerNotAlive 0) (fun _ => True)
      (fun s => { s with pins := { s.pins with peerNotAlive := false } })
  ∧ Does .clampGntStable
      (fun s => s.pins.resetN = true ∧ s.pr.state ≠ .off ∧ s.pins.clampGnt = false)
      (fun s => (State.eventBeat { s with pins := { s.pins with clampGnt := true } }).tryHold)
  ∧ Does .clampGntDeassert (fun s => s.pins.clampGnt = true ∧ s.pr.state ≠ .off)
      (fun s => (State.dropRoles { s with pins := { s.pins with clampGnt := false } }).eventBeat)
  ∧ (∀ i, Does (.mirrorReceive i) (fun s => (s.pr.state = .standby ∨ s.pr.state = .joining) ∧ s.pairUp = true)
      (fun s => s.applyItem i))
  ∧ (∀ i, Does (.mirrorReceive i) (fun s => s.pr.followed = true ∧ isChoice i = true ∧ s.pairUp = true)
      (fun s => s.applyItem i))
  ∧ (∀ d n, Does (.mirrorAck d n)
      (fun s => ((s.dom d).waitAck.isSome = true ∨ (s.dom d).auWait.isSome = true) ∧ (s.dom d).bankTick = n)
      (fun s => s.bankAcked d))
  ∧ (∀ d t, Does (.mirrorAckTimeout d)
      (fun s => s.pr.state ≠ .standby ∧ (s.dom d).ackSince = some t ∧ s.passed t (tuUs 200) = true)
      (fun s => (s.bankAcked d).level 129 true 0xFFFF))
  ∧ (∀ d, Does (.mirrorAckTimeout d) (fun s => s.pr.state = .standby) (fun s => s.pairEnter .joining))
  ∧ (∀ b k theta, Does (.mirrorTbOffset b k theta)
      (fun s => (s.pr.state = .standby ∨ s.pr.state = .joining) ∧ s.pairUp = true ∧ b < 8
        ∧ (s.base b).configured = true ∧ (s.base b).source = none)
      (fun s => (s.offset b k theta).1))
  ∧ (∀ m, Does (.divergeReceive m) (fun s => s.pr.state = .frozen)
      (fun s => { s with de := s.de.map (fun p =>
        if p.1 < 1024 ∧ p.2.pairMode = 1 ∧ m.getLsbD p.1 then (p.1, { p.2 with diverged := true }) else p) }))
  ∧ Does .joinComplete
      (fun s => s.pr.state = .joining ∧ s.pr.snapReq = true ∧ s.pairUp = true ∧ s.pairAligned = true)
      (fun s => (s.pairEnter .standby).completeAll 0x0A05 (repDone []))
  ∧ Does .mirrorSnapshotRequest (fun s => s.pr.state = .active ∧ s.pairUp = true)
      (fun s => (range 0 6).foldl (fun t c => (s.snapItems c).foldl (fun u i => u.mirror c i) t) s)

/-- The Grain log: the oldest record is received, a forwarded one appended and acknowledged, and a periodic SEAL written
(R427, R430, R436). Model's choices within: logs 56, 57, 147. -/
def Obligations.GrainRows : Prop :=
  (∀ r rest, Does .grainRecord (fun s => s.gr.inbox = r :: rest)
      (fun s => State.receive { s with gr := { s.gr with inbox := rest } } r))
  ∧ (∀ r, Does (.grainForwardReceive r)
      (fun s => s.pairUp = true ∧ s.pr.state ≠ .off ∧ s.signer = true ∧ s.gr.started = true ∧ s.gr.stopped = false
        ∧ bit r.flags 2 = false ∧ s.gr.fill + recLen { r with flags := r.flags + 4, flight := none } ≤ grainRing)
      (fun s =>
        let t := s.chainNext { r with flags := r.flags + 4, flight := none }
        State.sendFrame { t with gr := { t.gr with acks := t.gr.acks + 1 } } t.pr.link .recordAck))
  ∧ (∀ r rest, Does .grainForwardAck
      (fun s => s.gr.unchained = r :: rest ∧ s.pairUp = true ∧ s.signer = false ∧ s.gr.started = true)
      (fun s =>
        let t : State := { s with gr := { s.gr with unchained := rest } }
        (t.setFill (t.gr.fill - recLen r)).released r.flight))
  ∧ (∀ i, Does .grainPeriodicSeal
      (fun s => s.periodicDue = some (i, none) ∧ s.signer = true ∧ s.gr.started = true ∧ s.gr.stopped = false)
      (fun s => State.writeSeal { s with gr := { s.gr with lastPeriodic := some i } } 0 i none))
  ∧ (∀ i d n, Does .grainPeriodicSeal
      (fun s => s.periodicDue = some (i, some (d, n)) ∧ s.signer = true ∧ s.gr.started = true ∧ s.gr.stopped = false)
      (fun s => State.sealAtTick { s with gr := { s.gr with lastPeriodic := some i } } 0 i d n))

/-! ## Every command -/

/-- A step takes the command at the front of the queue and is its effect on the state with the queue's rest. -/
def Obligations.StepRunsFrontCommand : Prop :=
  ∀ (c : Instr) (rest : List Instr) (s : State), s.pending = c :: rest → step s = exec c { s with pending := rest }

/-- On an empty queue time passes by one cycle of the time-base clock, and nothing else happens (the model's choice, log
1). -/
def Obligations.IdleStepPassesTime : Prop := ∀ s : State, s.pending = [] → step s = .next s.advance

/-- A step takes one command from the queue and adds none, whatever the command. -/
def Obligations.StepTakesOneCommand : Prop :=
  ∀ s t : State, step s = .next t → t.pending = s.pending.tail

/-- A command that one of the checks of R447 refuses completes with that check's status and has no other effect: nothing
but Balix's own work in flight changes. -/
def Obligations.RefusedCommandsComplete : Prop :=
  ∀ (i : Instr) (mb : Nat) (c : Cmd) (p : CmdSpec) (s : State) (r : Rep), commandOf i = some (mb, c, p) →
    Fetched p mb c s → judge p (entered p mb c s) (context p mb c s) = some r →
    ∃ t, exec i s = .next t ∧ t = (entered p mb c s).settle s.newId r ∧ t = { s with bx := t.bx }

/-- Balix fetches no command while it does not run, from no mailbox beyond the sixteenth, none that has no place under R61 and R62,
and none that names a slot of which a load or derive has completed whose completion, and with it the KEY_EVENT, is not posted yet
(R422); what it does not fetch changes nothing. Model's choice within: log 4. -/
def Obligations.UnfetchedCommandsWait : Prop :=
  ∀ (i : Instr) (mb : Nat) (c : Cmd) (p : CmdSpec) (s : State), commandOf i = some (mb, c, p) →
    (s.balixUp = false ∨ 16 ≤ mb ∨ 256 < s.inflightOf mb + s.unconsumed mb + 1 ∨ 512 < s.inflight + 1
      ∨ ∃ f r, f ∈ s.bx.flights ∧ (f.cmd.opcode = 0x0C01 ∨ f.cmd.opcode = 0x0C02) ∧ f.reply = some r ∧ r.ok = true
        ∧ f.cmd.u16 16 ∈ namedSlots (ran p c)) →
    exec i s = .next s

/-- A late command without LATE_OK completes REJECTED_LATE and has no effect; one with LATE_OK is assigned the tick whose
window holds its stamp and, unless every entry of it loses, completes DONE_LATE (R41). -/
def Obligations.LateCommands : Prop :=
  (∀ (i : Instr) (mb : Nat) (c : Cmd) (p : CmdSpec) (s : State), commandOf i = some (mb, c, p) → p.isTick = true →
    Passes p mb c s → (ran p c).atTick = true → (ran p c).lateOk = false →
    (ran p c).tick < (s.dom (ran p c).td).windowTick s.nowNs →
    (s.dom (ran p c).td).windowTick s.nowNs ≤ (ran p c).tick + 16777216 →
    ∃ t, exec i s = .next t ∧ t = (entered p mb c s).settle s.newId repRejectedLate ∧ t = { s with bx := t.bx })
  ∧ (∀ (s : State) (x : Ctx), x.cmd.atTick = true → x.cmd.lateOk = true →
      x.cmd.tick < (s.dom x.cmd.td).windowTick x.stamp →
      (s.dom x.cmd.td).windowTick x.stamp ≤ x.cmd.tick + 16777216 →
      s.assign x = .ok ((s.dom x.cmd.td).windowTick x.stamp, true))
  ∧ (∀ f : Flight, f.late = true → (f.total = 0 ∨ f.lost ≠ f.total) → f.final = repLate f.res)

/-- The frame of every row: only resets, start-up and the register and debug-port writes that reach them change the fuses,
the straps or start-up; and of all other rows only the seventeen that answer into host memory, move data or write frames
change host memory, the HBM or the control SRAM. Model's choices within: logs 51, 52. -/
def Obligations.RowsKeepWhatTheyDoNotReach : Prop :=
  (∀ (i : Instr) (s t : State), reach i = .control → exec i s = .next t →
    t.pending = s.pending ∧ t.fuses = s.fuses ∧ t.straps = s.straps ∧ t.startup = s.startup
      ∧ t.hostMem = s.hostMem ∧ t.hbm = s.hbm ∧ t.hbm2 = s.hbm2 ∧ t.sram = s.sram)
  ∧ (∀ (i : Instr) (s t : State), reach i = .memory → exec i s = .next t →
    t.pending = s.pending ∧ t.fuses = s.fuses ∧ t.straps = s.straps ∧ t.startup = s.startup)

/-- The boot epoch never falls, never passes 4,096, and rises by 1 only where a power-on has left a bit to burn (R405): start-up
burns it once, and no step of any other kind than a power-on leaves one. Model's choices within: logs 8, 43. -/
def Obligations.EpochOnlyRises : Prop :=
  ∀ s t : State, step s = .next t →
    s.fuses.epoch ≤ t.fuses.epoch ∧ (s.fuses.epoch ≤ 4096 → t.fuses.epoch ≤ 4096)
      ∧ t.fuses = { s.fuses with epoch := t.fuses.epoch }
      ∧ (s.startup.burns = none → t.fuses = s.fuses)
      ∧ ((∀ burns rest, s.pending ≠ .powerOnReset burns :: rest) →
          t.startup.burns = s.startup.burns ∨ t.startup.burns = none)
      ∧ (t.fuses ≠ s.fuses → t.startup.burns = none)
      ∧ t.fuses.epoch ≤ s.fuses.epoch + 1

/-- The device index and the PAIR_ID strap are sampled when RESET_N is released, and no other step changes them (R321,
R341); DEVICE_INFO reports the index. -/
def Obligations.StrapsSampledAtRelease : Prop :=
  (∀ s t : State, step s = .next t → (∀ index pid b rest, s.pending ≠ .resetNRelease index pid b :: rest) →
    t.straps = s.straps)
  ∧ (∀ (s t : State) (index : Nat) (pid : Bool) (b : BootTests), s.pins.resetN = false →
      exec (.resetNRelease index pid b) s = .next t → t.straps = { groupIdx := index % 4, pairId := pid })
  ∧ (∀ s : State, byteAt (s.deviceInfo 1) 0 = s.straps.groupIdx % 256)

/-- BOOT_LOCK and MAP_SWAP, once set, are cleared by no step but a reset, which leaves start-up as after a reset, not
READY, whatever command the step takes from the queue, if its operands keep their bounds, or none (R489, R491, 21 Table
What each reset clears). -/
def Obligations.LocksClearOnlyInResets : Prop :=
  ∀ s t : State, (∀ c rest, s.pending = c :: rest → c.wf = true) → step s = .next t →
    Fresh t.startup ∨ ((s.startup.bootLock = true → t.startup.bootLock = true)
      ∧ (s.startup.mapSwap = true → t.startup.mapSwap = true))

/-- An invariant of the block: a consistent start-up, an epoch of at most 4,096 and memories in canonical form. Model's
choices within: logs 3, 5. -/
def Obligations.StepKeepsSound : Prop := ∀ s t : State, Sound s → step s = .next t → Sound t

/-- The state after reset meets the invariant. Model's choices within: logs 2, 3, 5. -/
def Obligations.ResetIsSound : Prop := Sound State.reset

/-! ## Rules of one register -/

/-- Each SESSION_OPEN adds 1, modulo 16, to its mailbox's generation count and to no other, and every count is 0 after
reset (R77). -/
def Obligations.SessionGenerations : Prop :=
  (∀ (mb : Nat) (c : Cmd) (s : State), Accepted cmdSessionOpen mb c s →
    ∃ t, exec (.sessionOpen mb c) s = .next t ∧ (t.mbox mb).gen = ((s.mbox mb).gen + 1) % 16
      ∧ ∀ n, n ≠ mb → (t.mbox n).gen = (s.mbox n).gen)
  ∧ ∀ n, (State.reset.mbox n).gen = 0

/-- The oldest entry of a time-stamp queue appears in TSQ_ENTRY0 to TSQ_ENTRY3, an empty queue reads 0 in all four, and
reading TSQ_ENTRY3 removes the oldest entry (R136). A stamp that arrives at a queue of 64 is discarded: the entries are kept,
DROPS counts it up to 65,535, and OVERFLOW is set; both hold until TSQ_STAT is read, which clears both. TSQ_STAT and the four
words of an entry have the layout of their tables (R137). -/
def Obligations.StampsLeaveInOrder : Prop :=
  (∀ (s : State) (m : Master) (port k : Nat) (e : Stamp) (rest : List Stamp), port < 16 → k < 4 →
    s.queueShut m port = false → (s.queue port).entries = e :: rest →
    s.regRead m (0x401010 + 0x40 * port + 4 * k) = e.words.getD k 0)
  ∧ (∀ (s : State) (m : Master) (port k : Nat), port < 16 → k < 4 → (s.queue port).entries = [] →
    s.regRead m (0x401010 + 0x40 * port + 4 * k) = 0)
  ∧ (∀ (s : State) (m : Master) (port : Nat) (e : Stamp) (rest : List Stamp), port < 16 → m ≠ .dma →
    s.mayRead m = true → s.queueShut m port = false → (s.queue port).entries = e :: rest →
    ∃ t, exec (.tsqEntry3Read m ⟨port, ⟨0x40101C + 0x40 * port, 4⟩⟩) s = .next t ∧ (t.queue port).entries = rest)
  ∧ (∀ (s : State) (port sub id : Nat), port < 16 → sub < 8 →
    (s.balixQueue port = true ∨ (sub, id) ∈ (s.port port).stampReqs) → 64 ≤ (s.queue port).entries.length →
    ∃ t, exec (.txTimestamp port sub id) s = .next t ∧ (t.queue port).entries = (s.queue port).entries
      ∧ (t.queue port).overflow = true ∧ (t.queue port).drops = min 65535 ((s.queue port).drops + 1))
  ∧ (∀ (s : State) (port sub id : Nat), port < 16 → sub < 8 →
    (s.balixQueue port = true ∨ (sub, id) ∈ (s.port port).stampReqs) → (s.queue port).entries.length < 64 →
    ∃ t e, exec (.txTimestamp port sub id) s = .next t ∧ (t.queue port).entries = (s.queue port).entries ++ [e]
      ∧ (t.queue port).overflow = (s.queue port).overflow ∧ (t.queue port).drops = (s.queue port).drops
      ∧ (let n := s.stampBase port sub
         let b := s.base n
         n < 8 → (e.words.getD 0 0).toNat = 2 ^ 29 * sub + 2 ^ 26 * n + 2 ^ 22 * (b.stepcnt % 16) + id % 65536
           ∧ e.words.getD 1 0 = BitVec.ofNat 32 b.sec
           ∧ (e.words.getD 2 0).toNat = 65536 * (b.frac / 65536) + b.sec / 4294967296 % 65536
           ∧ e.words.getD 3 0 = BitVec.ofNat 32 b.nanos))
  ∧ (∀ (s : State) (m : Master) (port : Nat), port < 16 → m ≠ .dma → (s.seenDebug m).mayRead m = true →
    ∃ t, exec (.clearOnRead m ⟨0x401000 + 0x40 * port, 4⟩) s = .next t
      ∧ t.queue port = { s.queue port with overflow := false, drops := 0 })
  ∧ (∀ (s : State) (m : Master) (port : Nat), port < 16 → (s.queue port).drops < 65536 →
    (s.queue port).entries.length ≤ 64 →
    (s.regRead m (0x401000 + 0x40 * port)).toNat
      = 65536 * (s.queue port).drops + 32768 * flag (s.balixQueue port) + 256 * flag (s.queue port).overflow
        + (s.queue port).entries.length)

/-- A write of the boot ROM's accepted image sets MAP_SWAP, and READY sets BOOT_LOCK (R491, R579, R582). Model's choice
within: log 48. -/
def Obligations.StartUpSetsItsLocks : Prop :=
  (∀ (s t : State) (img : Image), s.startup.stage = 5 → s.startup.stopped = false → s.imageStop img = none →
    exec (.imageAccept img) s = .next t → t.startup.mapSwap = true ∧ t.startup.stage = 6)
  ∧ (∀ (s t : State) (hbm : List Bool), exec (.ready hbm) s = .next t → s.startup.ready = false →
    t.startup.ready = true → t.startup.bootLock = true ∧ t.startup.stage = 7)

/-- The session byte holds the generation count of its mailbox in bits 7 to 4 and the mailbox number in bits 3 to 0, and
MB_STATE shows it. A command other than SESSION_OPEN whose session byte differs from it, or that finds no open session,
completes BAD_STATE (R66), once its flags and byte 7 have passed the check that R447 puts first. -/
def Obligations.SessionBytes : Prop :=
  (∀ (i : Instr) (mb : Nat) (c : Cmd) (p : CmdSpec) (s : State), commandOf i = some (mb, c, p) → p.opcode ≠ 0x0103 →
    Fetched p mb c s → (ran p c).flags < 16 → (ran p c).u8 7 = 0 →
    ((s.mbox mb).isOpen = false ∨ (ran p c).session ≠ 16 * (s.mbox mb).gen + mb) →
    exec i s = .next ((entered p mb c s).settle s.newId repBadState))
  ∧ (∀ (s : State) (m : Master) (mb : Nat), mb < 16 → (s.mbox mb).gen < 16 → s.inflightOf mb < 65536 →
    (s.regRead m (0x100038 + 0x1000 * mb)).toNat / 65536 % 256 = 16 * (s.mbox mb).gen + mb)

/-- Every step of a time base adds 1, modulo 256, to its step count: a TB_STEP, and an offset at or past the step threshold,
which the servo corrects by a step; no other offset changes a count, and no step changes that of another base. An offset
measured under another step count than the base's present one is discarded (R119). -/
def Obligations.StepCounts : Prop :=
  (∀ (mb : Nat) (c : Cmd) (s : State), Accepted cmdTbStep mb c s →
    ∃ t, exec (.tbStep mb c) s = .next t
      ∧ (t.base ((ran cmdTbStep c).u8 16)).stepcnt = ((s.base ((ran cmdTbStep c).u8 16)).stepcnt + 1) % 256
      ∧ ∀ k, k ≠ (ran cmdTbStep c).u8 16 → (t.base k).stepcnt = (s.base k).stepcnt)
  ∧ (∀ (s : State) (inst : Nat) (theta : Int) (gm : BitVec 64), inst < 4 → (s.inst inst).used = true →
    s.following inst = true → (s.inst inst).gm = gm → (s.base (s.inst inst).base).configured = true →
    (s.base (s.inst inst).base).source = some inst →
    ∃ t, exec (.ptpOffset inst (s.base (s.inst inst).base).stepcnt theta gm) s = .next t
      ∧ (t.base (s.inst inst).base).stepcnt
        = (if ∃ thr, (s.base (s.inst inst).base).stepThr = some thr ∧ thr * 65536 ≤ theta.natAbs
           then ((s.base (s.inst inst).base).stepcnt + 1) % 256 else (s.base (s.inst inst).base).stepcnt)
      ∧ ∀ k, k ≠ (s.inst inst).base → (t.base k).stepcnt = (s.base k).stepcnt)
  ∧ (∀ (s : State) (inst n : Nat) (theta : Int) (gm : BitVec 64), n ≠ (s.base (s.inst inst).base).stepcnt →
    exec (.ptpOffset inst n theta gm) s = .next s)
  ∧ (∀ (s : State) (b n : Nat) (theta : Int), n ≠ (s.base b).stepcnt → exec (.mirrorTbOffset b n theta) s = .next s)
  ∧ (∀ (mb : Nat) (c : Cmd) (s : State), Accepted cmdTbOffset mb c s →
    (ran cmdTbOffset c).u8 17 ≠ (s.base ((ran cmdTbOffset c).u8 16)).stepcnt →
    ∃ t, exec (.tbOffset mb c) s = .next t ∧ t.tb = s.tb)

/-- Reading TB_SEC_L latches the whole time and TB_STAT of a base for the reading master: its later reads of TB_SEC_H, TB_NS,
TB_FRAC and TB_STAT return what they were. No snapshot of another master, or of another base, changes (R138). -/
def Obligations.TimeSnapshots : Prop :=
  ∀ (s : State) (m : Master) (base : Nat), base < 8 → m ≠ .dma → (s.seenDebug m).mayRead m = true →
    ∃ t, exec (.tbSecLRead m ⟨base, ⟨0x400000 + 0x100 * base, 4⟩⟩) s = .next t
      ∧ (∀ k, k = 1 ∨ k = 2 ∨ k = 3 ∨ k = 5 →
          t.regRead m (0x400000 + 0x100 * base + 4 * k) = (s.tbWords base).getD k 0)
      ∧ (∀ (m' : Master) (b k : Nat), b < 8 → (m' ≠ m ∨ b ≠ base) → k = 1 ∨ k = 2 ∨ k = 3 ∨ k = 5 →
          t.regRead m' (0x400000 + 0x100 * b + 4 * k) = s.regRead m' (0x400000 + 0x100 * b + 4 * k))

/-- A channel's FLUSHCNT counts, modulo 2^32, the descriptors with FLUSH that it has completed, and no other channel's
changes. A fence on channel 0 is met; one on another channel is met when FLUSHCNT less its value, modulo 2^32, is below
2^31. MQ_VENEER and MQ_FENCE_GROUP name the channel, the value and the members as their tables say (R307). -/
def Obligations.FlushFences : Prop :=
  (∀ (s : State) (ch : Nat), ch < 16 → (s.chan ch).image ≠ [] → (s.chan ch).moved = (s.chan ch).len →
    ((s.chan ch).state = 1 ∨ (s.chan ch).state = 2 ∨ (s.chan ch).state = 3) →
    s.dmaOk ch ((s.chan ch).cqBase + 16 * ((s.chan ch).cqTail % 2 ^ (s.chan ch).cqSize)) 16 = true →
    ∃ t, exec (.dmaDescriptorComplete ch) s = .next t
      ∧ (t.chan ch).flushCnt
        = (if bit (s.chan ch).flags 2 then ((s.chan ch).flushCnt + 1) % 4294967296 else (s.chan ch).flushCnt)
      ∧ ∀ k, k ≠ ch → (t.chan k).flushCnt = (s.chan k).flushCnt)
  ∧ (∀ (s : State) (ch v : Nat), v < 4294967296 →
    (s.fenceMet ch v = true ↔ ch = 0 ∨ (((s.chan ch).flushCnt : Int) - (v : Int)) % 4294967296 < 2147483648))
  ∧ (∀ c : Cmd, c.opcode = 0x0802 → flipOf c = ⟨[(c.u8 16, c.u8 17, c.u8 18)], c.u8 19, c.u32 20, c.u8 24⟩)
  ∧ (∀ c : Cmd, c.opcode = 0x0803 → (flipOf c).members.length = c.u8 16 ∧ (flipOf c).ch = c.u8 17
    ∧ (flipOf c).wait = c.u8 18 ∧ (flipOf c).val = c.u32 20
    ∧ ∀ i, i < c.u8 16 → (flipOf c).members[i]? = some (c.u8 (24 + 3 * i), c.u8 (25 + 3 * i), c.u8 (26 + 3 * i)))

/-- A device that enters ACTIVE sets ROLE_GEN to one more than the greater of its own and the last it heard, modulo 2^16.
A device in ACTIVE that hears its partner in ACTIVE keeps the role when its ROLE_GEN is the greater, and of two equal ones
the device with PAIR_ID 0 keeps it; greater means a difference, modulo 2^16, below 2^15 (R352). -/
def Obligations.RoleGenerations : Prop :=
  (∀ s : State, s.pr.state ≠ .active → s.pr.roleGen < 65536 → s.pr.pGen < 65536 →
    (s.pairGo .active).pr.state = .active
      ∧ (s.pairGo .active).pr.roleGen
        = (if ((s.pr.pGen : Int) - s.pr.roleGen) % 65536 < 32768 then s.pr.pGen + 1 else s.pr.roleGen + 1) % 65536)
  ∧ (∀ (p : PairPath) (bs : List Byte) (s : State), s.hears p bs = true →
    exec (.heartbeatReceive p bs) s = .next (((s.noteBeat p bs).hearMove s.pr.pState).hearAfter))
  ∧ (∀ (s : State) (b : Option Nat), s.pr.state = .active → s.pr.pState = some 4 → s.pr.roleGen < 65536 →
    s.pr.pGen < 65536 →
    ((s.hearMove b).pr.state = .active ↔
      if s.pr.roleGen = s.pr.pGen then s.straps.pairId = false
      else ((s.pr.roleGen : Int) - s.pr.pGen) % 65536 < 32768))

/-- FAULT_ACK clears the latch, the block record and the count of each masked source that is latched, unless its cause
persists; a source whose cause persists, is not masked or is not latched stays as it is. The command completes DONE: bytes
16 to 19 of the completion hold the bits cleared and bytes 20 to 23 the bits refused (R388). -/
def Obligations.AcknowledgedFaults : Prop :=
  ∀ (mb : Nat) (c : Cmd) (s : State), Accepted cmdFaultAck mb c s →
    ∃ t cleared refused, exec (.faultAck mb c) s = .next t
      ∧ (∀ n, n / 32 = (ran cmdFaultAck c).u8 16 → bit ((ran cmdFaultAck c).u32 20) (n % 32) = true →
          (s.fault n).latched = true → (s.fault n).caused = false →
          (t.fault n).latched = false ∧ (t.fault n).count = 0 ∧ (t.fault n).syndrome = 0 ∧ (t.fault n).address = 0
            ∧ (t.fault n).subject = 0)
      ∧ (∀ n, (n / 32 ≠ (ran cmdFaultAck c).u8 16 ∨ bit ((ran cmdFaultAck c).u32 20) (n % 32) = false
            ∨ (s.fault n).latched = false ∨ (s.fault n).caused = true) → t.fault n = s.fault n)
      ∧ (t.flight? s.newId).bind (fun f => f.reply) = some (repDone (leBytes 4 cleared ++ leBytes 4 refused))
      ∧ (∀ i, i < 32 → (bit cleared i = true ↔ bit ((ran cmdFaultAck c).u32 20) i = true
          ∧ (s.fault (32 * (ran cmdFaultAck c).u8 16 + i)).latched = true
          ∧ (s.fault (32 * (ran cmdFaultAck c).u8 16 + i)).caused = false))
      ∧ (∀ i, i < 32 → (bit refused i = true ↔ bit ((ran cmdFaultAck c).u32 20) i = true
          ∧ (s.fault (32 * (ran cmdFaultAck c).u8 16 + i)).latched = true
          ∧ (s.fault (32 * (ran cmdFaultAck c).u8 16 + i)).caused = true))

/-- The head after a record is the SHA-384 of its bytes; its CHAIN is the head after the record before it, and its COUNT one
more than that record's. The records given to the Grain block enter in the order in which it receives them (R430): the
oldest is received, a record given is the newest, and one forwarded by the partner enters as it comes. -/
def Obligations.ChainOrder : Prop :=
  (∀ (s : State) (r : GrainRec) (rest : List GrainRec), s.gr.inbox = r :: rest → s.pr.state ≠ .frozen →
    s.gr.stopped = false → s.signer = true → s.gr.started = true → (r.type = 0x30 → s.gr.shedding = false) →
    s.gr.fill + recLen r ≤ grainRing →
    ∃ t, exec .grainRecord s = .next t ∧ t.gr.head = sha384 (recBytes r (s.gr.count + 1) s.gr.head)
      ∧ t.gr.count = s.gr.count + 1 ∧ t.gr.staged = s.gr.staged ++ recBytes r (s.gr.count + 1) s.gr.head)
  ∧ (∀ (s : State) (r : GrainRec), s.pairUp = true → s.pr.state ≠ .off → s.signer = true → s.gr.started = true →
    s.gr.stopped = false → bit r.flags 2 = false → s.gr.fill + recLen r ≤ grainRing →
    ∃ t, exec (.grainForwardReceive r) s = .next t
      ∧ t.gr.head = sha384 (recBytes { r with flags := r.flags + 4, flight := none } (s.gr.count + 1) s.gr.head)
      ∧ t.gr.count = s.gr.count + 1)
  ∧ (∀ (r : GrainRec) (n : Nat) (h : BitVec 384), (recBytes r n h).length = recLen r
    ∧ slice (recBytes r n h) 2 2 = leBytes 2 (recBytes r n h).length
    ∧ slice (recBytes r n h) 8 8 = leBytes 8 n ∧ slice (recBytes r n h) 16 48 = beBytes 48 h.toNat)
  ∧ (∀ (s : State) (type inst : Nat) (tick : Option (Nat × Nat)) (body : List Byte) (id : Option Nat),
    s.pr.state ≠ .frozen → s.startup.ready = true → s.pins.pwrfail = false →
    ∃ r, r.type = type ∧ (s.giveRecord type inst tick body id).gr.inbox = s.gr.inbox ++ [r])
end

