-- ==== Sys2Proof/Laws/Tbl.lean ====
section
/-! SUPPORT. What the operations of tables and memories do: a read after a write, and the canonical form they keep. -/
namespace Sys2Proof.Machine

variable {α : Type} {d : α}

/-- A list whose first index exceeds `n` holds the default at `n`. -/
theorem Tbl.get_above (t : Tbl α) (n : Nat) : Tbl.get d (Tbl.above n t) n = d := by
  induction t with
  | nil => rfl
  | cons p t ih =>
    obtain ⟨k, v⟩ := p
    by_cases h : k ≤ n
    · simpa [Tbl.above, h] using ih
    · have h1 : ¬n = k := by omega
      have h2 : n < k := by omega
      simp [Tbl.above, h, Tbl.get, h1, h2]

/-- Dropping the indices up to `n` changes no value above `n`. -/
theorem Tbl.get_above_gt (t : Tbl α) {n m : Nat} (h : n < m) : Tbl.get d (Tbl.above n t) m = Tbl.get d t m := by
  induction t with
  | nil => rfl
  | cons p t ih =>
    obtain ⟨k, v⟩ := p
    by_cases hk : k ≤ n
    · have h1 : ¬m = k := by omega
      have h2 : ¬m < k := by omega
      simp [Tbl.above, hk, Tbl.get, h1, h2, ih]
    · simp [Tbl.above, hk]

/-- Dropping the indices up to `n` leaves every index below the first one at the default. -/
theorem Tbl.get_above_lt (t : Tbl α) {n m : Nat} (h : m < n) : Tbl.get d (Tbl.above n t) m = d := by
  induction t with
  | nil => rfl
  | cons p t ih =>
    obtain ⟨k, v⟩ := p
    by_cases hk : k ≤ n
    · simpa [Tbl.above, hk] using ih
    · have h1 : ¬m = k := by omega
      have h2 : m < k := by omega
      simp [Tbl.above, hk, Tbl.get, h1, h2]

variable [DecidableEq α]

/-- A read of the index just written gives the value written. -/
@[simp] theorem Tbl.get_set_self (t : Tbl α) (n : Nat) (v : α) : Tbl.get d (Tbl.set d t n v) n = v := by
  induction t with
  | nil => by_cases h : v = d <;> simp [Tbl.set, Tbl.get, h]
  | cons p t ih =>
    obtain ⟨k, w⟩ := p
    rcases Nat.lt_trichotomy n k with h | h | h
    · by_cases hv : v = d
      · simp [Tbl.set, Tbl.get, h, hv, Nat.ne_of_lt h]
      · simp [Tbl.set, Tbl.get, h, hv]
    · subst h
      by_cases hv : v = d
      · simp [Tbl.set, hv, Tbl.get_above]
      · simp [Tbl.set, Tbl.get, hv]
    · have h1 : ¬n < k := by omega
      have h2 : ¬n = k := by omega
      simp [Tbl.set, Tbl.get, h1, h2, ih]

/-- A write leaves every other index as it was. -/
theorem Tbl.get_set_ne (t : Tbl α) {n m : Nat} (v : α) (h : m ≠ n) : Tbl.get d (Tbl.set d t n v) m = Tbl.get d t m := by
  induction t with
  | nil => by_cases hv : v = d <;> simp [Tbl.set, Tbl.get, hv, h]
  | cons p t ih =>
    obtain ⟨k, w⟩ := p
    rcases Nat.lt_trichotomy n k with hk | hk | hk
    · by_cases hv : v = d
      · simp [Tbl.set, hk, hv]
      · rcases Nat.lt_or_gt_of_ne h with hm | hm
        · have h1 : ¬m = k := by omega
          have h2 : m < k := by omega
          simp [Tbl.set, Tbl.get, hk, hv, h, hm, h1, h2]
        · have h1 : ¬m < n := by omega
          simp [Tbl.set, Tbl.get, hk, hv, h, h1]
    · subst hk
      rcases Nat.lt_or_gt_of_ne h with hm | hm
      · by_cases hv : v = d <;> simp [Tbl.set, Tbl.get, hv, h, hm, Tbl.get_above_lt]
      · have h1 : ¬m < n := by omega
        by_cases hv : v = d <;> simp [Tbl.set, Tbl.get, hv, h, h1, Tbl.get_above_gt t hm]
    · have h1 : ¬n < k := by omega
      have h2 : ¬n = k := by omega
      simp [Tbl.set, Tbl.get, h1, h2, ih]

/-- The indices above `n` of a list in canonical form are in canonical form above `n`. -/
theorem Tbl.wfFrom_above (t : Tbl α) (lo : Option Nat) (n : Nat) (h : Tbl.wfFrom d lo t = true) :
    Tbl.wfFrom d (some n) (Tbl.above n t) = true := by
  induction t generalizing lo with
  | nil => rfl
  | cons p t ih =>
    obtain ⟨k, v⟩ := p
    simp only [Tbl.wfFrom, Bool.and_eq_true] at h
    by_cases hk : k ≤ n
    · simpa [Tbl.above, hk] using ih _ h.2
    · have h2 : n < k := by omega
      simp only [Tbl.above, hk, if_false, Tbl.wfFrom, h2, decide_true, Bool.true_and, Bool.and_eq_true]
      exact ⟨h.1.2, h.2⟩

/-- A weaker lower bound. -/
theorem Tbl.wfFrom_weaken (t : Tbl α) {a b : Nat} (hab : a ≤ b) (h : Tbl.wfFrom d (some b) t = true) :
    Tbl.wfFrom d (some a) t = true := by
  cases t with
  | nil => rfl
  | cons p t =>
    obtain ⟨k, v⟩ := p
    simp only [Tbl.wfFrom, Bool.and_eq_true, decide_eq_true_eq] at h ⊢
    exact ⟨⟨by omega, h.1.2⟩, h.2⟩

/-- Taking entries out keeps the canonical form. -/
theorem Tbl.wfFrom_filter (p : Nat × α → Bool) (t : Tbl α) (lo : Option Nat) (h : Tbl.wfFrom d lo t = true) :
    Tbl.wfFrom d lo (List.filter p t) = true := by
  induction t generalizing lo with
  | nil => rfl
  | cons q t ih =>
    obtain ⟨k, v⟩ := q
    simp only [Tbl.wfFrom, Bool.and_eq_true] at h
    rw [List.filter_cons]
    split
    · simp only [Tbl.wfFrom, Bool.and_eq_true]
      exact ⟨h.1, ih _ h.2⟩
    · have hk := ih _ h.2
      cases lo with
      | some l => exact Tbl.wfFrom_weaken _ (Nat.le_of_lt (by simpa using h.1.1)) hk
      | none =>
        cases hf : List.filter p t with
        | nil => rfl
        | cons r u =>
          rw [hf] at hk
          simp only [Tbl.wfFrom, Bool.and_eq_true] at hk ⊢
          exact ⟨⟨trivial, hk.1.2⟩, hk.2⟩

/-- A write above the lower bound keeps the canonical form. -/
theorem Tbl.wfFrom_set (t : Tbl α) (lo : Option Nat) (n : Nat) (v : α) (hlo : ∀ l, lo = some l → l < n)
    (h : Tbl.wfFrom d lo t = true) : Tbl.wfFrom d lo (Tbl.set d t n v) = true := by
  induction t generalizing lo with
  | nil =>
    by_cases hv : v = d
    · simp [Tbl.set, hv, Tbl.wfFrom]
    · cases lo with
      | none => simp [Tbl.set, hv, Tbl.wfFrom]
      | some l => simp [Tbl.set, hv, Tbl.wfFrom, hlo l rfl]
  | cons p t ih =>
    obtain ⟨k, w⟩ := p
    have hh := h
    simp only [Tbl.wfFrom, Bool.and_eq_true] at h
    rcases Nat.lt_trichotomy n k with hk | hk | hk
    · by_cases hv : v = d
      · simpa [Tbl.set, hk, hv] using hh
      · simp only [Tbl.set, hk, if_true, hv, if_false, Tbl.wfFrom, decide_true, Bool.true_and,
          Bool.and_eq_true]
        refine ⟨⟨?_, by simpa using hv⟩, h.1.2, h.2⟩
        cases lo with
        | none => rfl
        | some l => simpa using hlo l rfl
    · subst hk
      by_cases hv : v = d
      · have := Tbl.wfFrom_above t (some n) n h.2
        cases lo with
        | none =>
          simp only [Tbl.set, Nat.lt_irrefl, if_false, if_true, hv]
          cases ht : Tbl.above n t with
          | nil => rfl
          | cons q r =>
            rw [ht] at this
            obtain ⟨j, x⟩ := q
            simp only [Tbl.wfFrom, Bool.and_eq_true] at this ⊢
            exact ⟨⟨trivial, this.1.2⟩, this.2⟩
        | some l =>
          simpa [Tbl.set, hv] using Tbl.wfFrom_weaken _ (Nat.le_of_lt (hlo l rfl)) this
      · simp only [Tbl.set, Nat.lt_irrefl, if_false, if_true, hv, Tbl.wfFrom, Bool.and_eq_true]
        exact ⟨⟨h.1.1, by simpa using hv⟩, h.2⟩
    · have h1 : ¬n < k := by omega
      have h2 : ¬n = k := by omega
      simp only [Tbl.set, h1, h2, if_false, Tbl.wfFrom, Bool.and_eq_true]
      exact ⟨h.1, ih (some k) (fun l hl => by cases hl; exact hk) h.2⟩

/-- A write keeps the canonical form of a table. -/
theorem Tbl.wf_set (t : Tbl α) (n : Nat) (v : α) (h : Tbl.wf d t = true) : Tbl.wf d (Tbl.set d t n v) = true :=
  Tbl.wfFrom_set t none n v (fun _ e => by cases e) h

/-- A byte written reads back. -/
@[simp] theorem Memory.read_write_self (m : Memory) (a : Nat) (b : Byte) : (m.write a b).read a = b :=
  Tbl.get_set_self ..

/-- A write of a byte changes no other byte. -/
theorem Memory.read_write_ne (m : Memory) {a x : Nat} (b : Byte) (h : x ≠ a) : (m.write a b).read x = m.read x :=
  Tbl.get_set_ne _ _ h

/-- A write of a byte keeps the canonical form. -/
theorem Memory.wf_write (m : Memory) (a : Nat) (b : Byte) (h : m.wf = true) : (m.write a b).wf = true :=
  Tbl.wf_set m a b h

/-- A write of several bytes keeps the canonical form. -/
theorem Memory.wf_writeBytes (bs : List Byte) (m : Memory) (a : Nat) (h : m.wf = true) : (m.writeBytes a bs).wf = true := by
  induction bs generalizing m a with
  | nil => exact h
  | cons b bs ih => exact ih _ _ (Memory.wf_write m a b h)

/-- Bytes outside a range written are as they were. -/
theorem Memory.read_writeBytes_outside (bs : List Byte) (m : Memory) (a x : Nat) (h : x < a ∨ a + bs.length ≤ x) :
    (m.writeBytes a bs).read x = m.read x := by
  induction bs generalizing m a with
  | nil => rfl
  | cons b bs ih =>
    simp only [List.length_cons] at h
    rw [Memory.writeBytes, ih _ _ (by omega), Memory.read_write_ne _ _ (by omega)]

/-- A byte inside a range written is the byte written there. -/
theorem Memory.read_writeBytes_inside (bs : List Byte) (m : Memory) (a i : Nat) (h : i < bs.length) :
    (m.writeBytes a bs).read (a + i) = bs.getD i 0 := by
  induction bs generalizing m a i with
  | nil => simp at h
  | cons b bs ih =>
    cases i with
    | zero => rw [Memory.writeBytes, Memory.read_writeBytes_outside _ _ _ _ (by omega)]; simp
    | succ i =>
      have := ih (m.write a b) (a + 1) i (by simpa using h)
      rw [Memory.writeBytes, show a + (i + 1) = a + 1 + i by omega, this]
      simp

end Sys2Proof.Machine
end

