-- ==== Sys2Proof/Laws/State.lean ====
section
/-! SUPPORT. One lemma per field per update of the state, and the reads of a table after a write to it: no proof need unfold a
record update. -/
namespace Sys2Proof.Machine

/-! ## Writing `mbox` -/

@[simp] theorem State.mbox_setMbox (s : State) (i : Nat) (v : Mailbox) : (s.setMbox i v).mbox i = v := Tbl.get_set_self ..
theorem State.mbox_setMbox_ne (s : State) {i j : Nat} (v : Mailbox) (h : j ≠ i) : (s.setMbox i v).mbox j = s.mbox j :=
  Tbl.get_set_ne _ _ h
@[simp] theorem State.updMbox_eq (s : State) (i : Nat) (f : Mailbox → Mailbox) : s.updMbox i f = s.setMbox i (f (s.mbox i)) := rfl
@[simp] theorem State.setMbox_pending (s : State) (i : Nat) (v : Mailbox) : (s.setMbox i v).pending = s.pending := rfl
@[simp] theorem State.setMbox_clk (s : State) (i : Nat) (v : Mailbox) : (s.setMbox i v).clk = s.clk := rfl
@[simp] theorem State.setMbox_clkFrac (s : State) (i : Nat) (v : Mailbox) : (s.setMbox i v).clkFrac = s.clkFrac := rfl
@[simp] theorem State.setMbox_cycles (s : State) (i : Nat) (v : Mailbox) : (s.setMbox i v).cycles = s.cycles := rfl
@[simp] theorem State.setMbox_fuses (s : State) (i : Nat) (v : Mailbox) : (s.setMbox i v).fuses = s.fuses := rfl
@[simp] theorem State.setMbox_straps (s : State) (i : Nat) (v : Mailbox) : (s.setMbox i v).straps = s.straps := rfl
@[simp] theorem State.setMbox_startup (s : State) (i : Nat) (v : Mailbox) : (s.setMbox i v).startup = s.startup := rfl
@[simp] theorem State.setMbox_glb (s : State) (i : Nat) (v : Mailbox) : (s.setMbox i v).glb = s.glb := rfl
@[simp] theorem State.setMbox_pins (s : State) (i : Nat) (v : Mailbox) : (s.setMbox i v).pins = s.pins := rfl
@[simp] theorem State.setMbox_boot (s : State) (i : Nat) (v : Mailbox) : (s.setMbox i v).boot = s.boot := rfl
@[simp] theorem State.setMbox_bx (s : State) (i : Nat) (v : Mailbox) : (s.setMbox i v).bx = s.bx := rfl
@[simp] theorem State.setMbox_rf (s : State) (i : Nat) (v : Mailbox) : (s.setMbox i v).rf = s.rf := rfl
@[simp] theorem State.setMbox_td (s : State) (i : Nat) (v : Mailbox) : (s.setMbox i v).td = s.td := rfl
@[simp] theorem State.setMbox_tb (s : State) (i : Nat) (v : Mailbox) : (s.setMbox i v).tb = s.tb := rfl
@[simp] theorem State.setMbox_ptp (s : State) (i : Nat) (v : Mailbox) : (s.setMbox i v).ptp = s.ptp := rfl
@[simp] theorem State.setMbox_tsq (s : State) (i : Nat) (v : Mailbox) : (s.setMbox i v).tsq = s.tsq := rfl
@[simp] theorem State.setMbox_sr (s : State) (i : Nat) (v : Mailbox) : (s.setMbox i v).sr = s.sr := rfl
@[simp] theorem State.setMbox_rx (s : State) (i : Nat) (v : Mailbox) : (s.setMbox i v).rx = s.rx := rfl
@[simp] theorem State.setMbox_rings (s : State) (i : Nat) (v : Mailbox) : (s.setMbox i v).rings = s.rings := rfl
@[simp] theorem State.setMbox_readouts (s : State) (i : Nat) (v : Mailbox) : (s.setMbox i v).readouts = s.readouts := rfl
@[simp] theorem State.setMbox_hbmStacks (s : State) (i : Nat) (v : Mailbox) : (s.setMbox i v).hbmStacks = s.hbmStacks := rfl
@[simp] theorem State.setMbox_scrubRate (s : State) (i : Nat) (v : Mailbox) : (s.setMbox i v).scrubRate = s.scrubRate := rfl
@[simp] theorem State.setMbox_xp (s : State) (i : Nat) (v : Mailbox) : (s.setMbox i v).xp = s.xp := rfl
@[simp] theorem State.setMbox_planeA (s : State) (i : Nat) (v : Mailbox) : (s.setMbox i v).planeA = s.planeA := rfl
@[simp] theorem State.setMbox_planeB (s : State) (i : Nat) (v : Mailbox) : (s.setMbox i v).planeB = s.planeB := rfl
@[simp] theorem State.setMbox_repeated (s : State) (i : Nat) (v : Mailbox) : (s.setMbox i v).repeated = s.repeated := rfl
@[simp] theorem State.setMbox_inPorts (s : State) (i : Nat) (v : Mailbox) : (s.setMbox i v).inPorts = s.inPorts := rfl
@[simp] theorem State.setMbox_de (s : State) (i : Nat) (v : Mailbox) : (s.setMbox i v).de = s.de := rfl
@[simp] theorem State.setMbox_tx (s : State) (i : Nat) (v : Mailbox) : (s.setMbox i v).tx = s.tx := rfl
@[simp] theorem State.setMbox_au (s : State) (i : Nat) (v : Mailbox) : (s.setMbox i v).au = s.au := rfl
@[simp] theorem State.setMbox_mq (s : State) (i : Nat) (v : Mailbox) : (s.setMbox i v).mq = s.mq := rfl
@[simp] theorem State.setMbox_veneers (s : State) (i : Nat) (v : Mailbox) : (s.setMbox i v).veneers = s.veneers := rfl
@[simp] theorem State.setMbox_dt (s : State) (i : Nat) (v : Mailbox) : (s.setMbox i v).dt = s.dt := rfl
@[simp] theorem State.setMbox_ties (s : State) (i : Nat) (v : Mailbox) : (s.setMbox i v).ties = s.ties := rfl
@[simp] theorem State.setMbox_depart (s : State) (i : Nat) (v : Mailbox) : (s.setMbox i v).depart = s.depart := rfl
@[simp] theorem State.setMbox_group (s : State) (i : Nat) (v : Mailbox) : (s.setMbox i v).group = s.group := rfl
@[simp] theorem State.setMbox_linkKeys (s : State) (i : Nat) (v : Mailbox) : (s.setMbox i v).linkKeys = s.linkKeys := rfl
@[simp] theorem State.setMbox_pr (s : State) (i : Nat) (v : Mailbox) : (s.setMbox i v).pr = s.pr := rfl
@[simp] theorem State.setMbox_fc (s : State) (i : Nat) (v : Mailbox) : (s.setMbox i v).fc = s.fc := rfl
@[simp] theorem State.setMbox_faultnLevel (s : State) (i : Nat) (v : Mailbox) : (s.setMbox i v).faultnLevel = s.faultnLevel := rfl
@[simp] theorem State.setMbox_ks (s : State) (i : Nat) (v : Mailbox) : (s.setMbox i v).ks = s.ks := rfl
@[simp] theorem State.setMbox_gr (s : State) (i : Nat) (v : Mailbox) : (s.setMbox i v).gr = s.gr := rfl
@[simp] theorem State.setMbox_ic (s : State) (i : Nat) (v : Mailbox) : (s.setMbox i v).ic = s.ic := rfl
@[simp] theorem State.setMbox_dma (s : State) (i : Nat) (v : Mailbox) : (s.setMbox i v).dma = s.dma := rfl
@[simp] theorem State.setMbox_dmaLast (s : State) (i : Nat) (v : Mailbox) : (s.setMbox i v).dmaLast = s.dmaLast := rfl
@[simp] theorem State.setMbox_hostMem (s : State) (i : Nat) (v : Mailbox) : (s.setMbox i v).hostMem = s.hostMem := rfl
@[simp] theorem State.setMbox_hbm (s : State) (i : Nat) (v : Mailbox) : (s.setMbox i v).hbm = s.hbm := rfl
@[simp] theorem State.setMbox_hbm2 (s : State) (i : Nat) (v : Mailbox) : (s.setMbox i v).hbm2 = s.hbm2 := rfl
@[simp] theorem State.setMbox_sram (s : State) (i : Nat) (v : Mailbox) : (s.setMbox i v).sram = s.sram := rfl
@[simp] theorem State.setMbox_hostBad (s : State) (i : Nat) (v : Mailbox) : (s.setMbox i v).hostBad = s.hostBad := rfl
@[simp] theorem State.setMbox_ln (s : State) (i : Nat) (v : Mailbox) : (s.setMbox i v).ln = s.ln := rfl
@[simp] theorem State.setMbox_ep (s : State) (i : Nat) (v : Mailbox) : (s.setMbox i v).ep = s.ep := rfl
@[simp] theorem State.setMbox_sub (s : State) (i : Nat) (v : Mailbox) : (s.setMbox i v).sub = s.sub := rfl
@[simp] theorem State.setMbox_pw (s : State) (i : Nat) (v : Mailbox) : (s.setMbox i v).pw = s.pw := rfl
@[simp] theorem State.setMbox_tol (s : State) (i : Nat) (v : Mailbox) : (s.setMbox i v).tol = s.tol := rfl

/-! ## Writing `dom` -/

@[simp] theorem State.dom_setDom (s : State) (i : Nat) (v : Domain) : (s.setDom i v).dom i = v := Tbl.get_set_self ..
theorem State.dom_setDom_ne (s : State) {i j : Nat} (v : Domain) (h : j ≠ i) : (s.setDom i v).dom j = s.dom j :=
  Tbl.get_set_ne _ _ h
@[simp] theorem State.updDom_eq (s : State) (i : Nat) (f : Domain → Domain) : s.updDom i f = s.setDom i (f (s.dom i)) := rfl
@[simp] theorem State.setDom_pending (s : State) (i : Nat) (v : Domain) : (s.setDom i v).pending = s.pending := rfl
@[simp] theorem State.setDom_clk (s : State) (i : Nat) (v : Domain) : (s.setDom i v).clk = s.clk := rfl
@[simp] theorem State.setDom_clkFrac (s : State) (i : Nat) (v : Domain) : (s.setDom i v).clkFrac = s.clkFrac := rfl
@[simp] theorem State.setDom_cycles (s : State) (i : Nat) (v : Domain) : (s.setDom i v).cycles = s.cycles := rfl
@[simp] theorem State.setDom_fuses (s : State) (i : Nat) (v : Domain) : (s.setDom i v).fuses = s.fuses := rfl
@[simp] theorem State.setDom_straps (s : State) (i : Nat) (v : Domain) : (s.setDom i v).straps = s.straps := rfl
@[simp] theorem State.setDom_startup (s : State) (i : Nat) (v : Domain) : (s.setDom i v).startup = s.startup := rfl
@[simp] theorem State.setDom_glb (s : State) (i : Nat) (v : Domain) : (s.setDom i v).glb = s.glb := rfl
@[simp] theorem State.setDom_pins (s : State) (i : Nat) (v : Domain) : (s.setDom i v).pins = s.pins := rfl
@[simp] theorem State.setDom_boot (s : State) (i : Nat) (v : Domain) : (s.setDom i v).boot = s.boot := rfl
@[simp] theorem State.setDom_mb (s : State) (i : Nat) (v : Domain) : (s.setDom i v).mb = s.mb := rfl
@[simp] theorem State.setDom_bx (s : State) (i : Nat) (v : Domain) : (s.setDom i v).bx = s.bx := rfl
@[simp] theorem State.setDom_rf (s : State) (i : Nat) (v : Domain) : (s.setDom i v).rf = s.rf := rfl
@[simp] theorem State.setDom_tb (s : State) (i : Nat) (v : Domain) : (s.setDom i v).tb = s.tb := rfl
@[simp] theorem State.setDom_ptp (s : State) (i : Nat) (v : Domain) : (s.setDom i v).ptp = s.ptp := rfl
@[simp] theorem State.setDom_tsq (s : State) (i : Nat) (v : Domain) : (s.setDom i v).tsq = s.tsq := rfl
@[simp] theorem State.setDom_sr (s : State) (i : Nat) (v : Domain) : (s.setDom i v).sr = s.sr := rfl
@[simp] theorem State.setDom_rx (s : State) (i : Nat) (v : Domain) : (s.setDom i v).rx = s.rx := rfl
@[simp] theorem State.setDom_rings (s : State) (i : Nat) (v : Domain) : (s.setDom i v).rings = s.rings := rfl
@[simp] theorem State.setDom_readouts (s : State) (i : Nat) (v : Domain) : (s.setDom i v).readouts = s.readouts := rfl
@[simp] theorem State.setDom_hbmStacks (s : State) (i : Nat) (v : Domain) : (s.setDom i v).hbmStacks = s.hbmStacks := rfl
@[simp] theorem State.setDom_scrubRate (s : State) (i : Nat) (v : Domain) : (s.setDom i v).scrubRate = s.scrubRate := rfl
@[simp] theorem State.setDom_xp (s : State) (i : Nat) (v : Domain) : (s.setDom i v).xp = s.xp := rfl
@[simp] theorem State.setDom_planeA (s : State) (i : Nat) (v : Domain) : (s.setDom i v).planeA = s.planeA := rfl
@[simp] theorem State.setDom_planeB (s : State) (i : Nat) (v : Domain) : (s.setDom i v).planeB = s.planeB := rfl
@[simp] theorem State.setDom_repeated (s : State) (i : Nat) (v : Domain) : (s.setDom i v).repeated = s.repeated := rfl
@[simp] theorem State.setDom_inPorts (s : State) (i : Nat) (v : Domain) : (s.setDom i v).inPorts = s.inPorts := rfl
@[simp] theorem State.setDom_de (s : State) (i : Nat) (v : Domain) : (s.setDom i v).de = s.de := rfl
@[simp] theorem State.setDom_tx (s : State) (i : Nat) (v : Domain) : (s.setDom i v).tx = s.tx := rfl
@[simp] theorem State.setDom_au (s : State) (i : Nat) (v : Domain) : (s.setDom i v).au = s.au := rfl
@[simp] theorem State.setDom_mq (s : State) (i : Nat) (v : Domain) : (s.setDom i v).mq = s.mq := rfl
@[simp] theorem State.setDom_veneers (s : State) (i : Nat) (v : Domain) : (s.setDom i v).veneers = s.veneers := rfl
@[simp] theorem State.setDom_dt (s : State) (i : Nat) (v : Domain) : (s.setDom i v).dt = s.dt := rfl
@[simp] theorem State.setDom_ties (s : State) (i : Nat) (v : Domain) : (s.setDom i v).ties = s.ties := rfl
@[simp] theorem State.setDom_depart (s : State) (i : Nat) (v : Domain) : (s.setDom i v).depart = s.depart := rfl
@[simp] theorem State.setDom_group (s : State) (i : Nat) (v : Domain) : (s.setDom i v).group = s.group := rfl
@[simp] theorem State.setDom_linkKeys (s : State) (i : Nat) (v : Domain) : (s.setDom i v).linkKeys = s.linkKeys := rfl
@[simp] theorem State.setDom_pr (s : State) (i : Nat) (v : Domain) : (s.setDom i v).pr = s.pr := rfl
@[simp] theorem State.setDom_fc (s : State) (i : Nat) (v : Domain) : (s.setDom i v).fc = s.fc := rfl
@[simp] theorem State.setDom_faultnLevel (s : State) (i : Nat) (v : Domain) : (s.setDom i v).faultnLevel = s.faultnLevel := rfl
@[simp] theorem State.setDom_ks (s : State) (i : Nat) (v : Domain) : (s.setDom i v).ks = s.ks := rfl
@[simp] theorem State.setDom_gr (s : State) (i : Nat) (v : Domain) : (s.setDom i v).gr = s.gr := rfl
@[simp] theorem State.setDom_ic (s : State) (i : Nat) (v : Domain) : (s.setDom i v).ic = s.ic := rfl
@[simp] theorem State.setDom_dma (s : State) (i : Nat) (v : Domain) : (s.setDom i v).dma = s.dma := rfl
@[simp] theorem State.setDom_dmaLast (s : State) (i : Nat) (v : Domain) : (s.setDom i v).dmaLast = s.dmaLast := rfl
@[simp] theorem State.setDom_hostMem (s : State) (i : Nat) (v : Domain) : (s.setDom i v).hostMem = s.hostMem := rfl
@[simp] theorem State.setDom_hbm (s : State) (i : Nat) (v : Domain) : (s.setDom i v).hbm = s.hbm := rfl
@[simp] theorem State.setDom_hbm2 (s : State) (i : Nat) (v : Domain) : (s.setDom i v).hbm2 = s.hbm2 := rfl
@[simp] theorem State.setDom_sram (s : State) (i : Nat) (v : Domain) : (s.setDom i v).sram = s.sram := rfl
@[simp] theorem State.setDom_hostBad (s : State) (i : Nat) (v : Domain) : (s.setDom i v).hostBad = s.hostBad := rfl
@[simp] theorem State.setDom_ln (s : State) (i : Nat) (v : Domain) : (s.setDom i v).ln = s.ln := rfl
@[simp] theorem State.setDom_ep (s : State) (i : Nat) (v : Domain) : (s.setDom i v).ep = s.ep := rfl
@[simp] theorem State.setDom_sub (s : State) (i : Nat) (v : Domain) : (s.setDom i v).sub = s.sub := rfl
@[simp] theorem State.setDom_pw (s : State) (i : Nat) (v : Domain) : (s.setDom i v).pw = s.pw := rfl
@[simp] theorem State.setDom_tol (s : State) (i : Nat) (v : Domain) : (s.setDom i v).tol = s.tol := rfl

/-! ## Writing `base` -/

@[simp] theorem State.base_setBase (s : State) (i : Nat) (v : TimeBase) : (s.setBase i v).base i = v := Tbl.get_set_self ..
theorem State.base_setBase_ne (s : State) {i j : Nat} (v : TimeBase) (h : j ≠ i) : (s.setBase i v).base j = s.base j :=
  Tbl.get_set_ne _ _ h
@[simp] theorem State.updBase_eq (s : State) (i : Nat) (f : TimeBase → TimeBase) : s.updBase i f = s.setBase i (f (s.base i)) := rfl
@[simp] theorem State.setBase_pending (s : State) (i : Nat) (v : TimeBase) : (s.setBase i v).pending = s.pending := rfl
@[simp] theorem State.setBase_clk (s : State) (i : Nat) (v : TimeBase) : (s.setBase i v).clk = s.clk := rfl
@[simp] theorem State.setBase_clkFrac (s : State) (i : Nat) (v : TimeBase) : (s.setBase i v).clkFrac = s.clkFrac := rfl
@[simp] theorem State.setBase_cycles (s : State) (i : Nat) (v : TimeBase) : (s.setBase i v).cycles = s.cycles := rfl
@[simp] theorem State.setBase_fuses (s : State) (i : Nat) (v : TimeBase) : (s.setBase i v).fuses = s.fuses := rfl
@[simp] theorem State.setBase_straps (s : State) (i : Nat) (v : TimeBase) : (s.setBase i v).straps = s.straps := rfl
@[simp] theorem State.setBase_startup (s : State) (i : Nat) (v : TimeBase) : (s.setBase i v).startup = s.startup := rfl
@[simp] theorem State.setBase_glb (s : State) (i : Nat) (v : TimeBase) : (s.setBase i v).glb = s.glb := rfl
@[simp] theorem State.setBase_pins (s : State) (i : Nat) (v : TimeBase) : (s.setBase i v).pins = s.pins := rfl
@[simp] theorem State.setBase_boot (s : State) (i : Nat) (v : TimeBase) : (s.setBase i v).boot = s.boot := rfl
@[simp] theorem State.setBase_mb (s : State) (i : Nat) (v : TimeBase) : (s.setBase i v).mb = s.mb := rfl
@[simp] theorem State.setBase_bx (s : State) (i : Nat) (v : TimeBase) : (s.setBase i v).bx = s.bx := rfl
@[simp] theorem State.setBase_rf (s : State) (i : Nat) (v : TimeBase) : (s.setBase i v).rf = s.rf := rfl
@[simp] theorem State.setBase_td (s : State) (i : Nat) (v : TimeBase) : (s.setBase i v).td = s.td := rfl
@[simp] theorem State.setBase_ptp (s : State) (i : Nat) (v : TimeBase) : (s.setBase i v).ptp = s.ptp := rfl
@[simp] theorem State.setBase_tsq (s : State) (i : Nat) (v : TimeBase) : (s.setBase i v).tsq = s.tsq := rfl
@[simp] theorem State.setBase_sr (s : State) (i : Nat) (v : TimeBase) : (s.setBase i v).sr = s.sr := rfl
@[simp] theorem State.setBase_rx (s : State) (i : Nat) (v : TimeBase) : (s.setBase i v).rx = s.rx := rfl
@[simp] theorem State.setBase_rings (s : State) (i : Nat) (v : TimeBase) : (s.setBase i v).rings = s.rings := rfl
@[simp] theorem State.setBase_readouts (s : State) (i : Nat) (v : TimeBase) : (s.setBase i v).readouts = s.readouts := rfl
@[simp] theorem State.setBase_hbmStacks (s : State) (i : Nat) (v : TimeBase) : (s.setBase i v).hbmStacks = s.hbmStacks := rfl
@[simp] theorem State.setBase_scrubRate (s : State) (i : Nat) (v : TimeBase) : (s.setBase i v).scrubRate = s.scrubRate := rfl
@[simp] theorem State.setBase_xp (s : State) (i : Nat) (v : TimeBase) : (s.setBase i v).xp = s.xp := rfl
@[simp] theorem State.setBase_planeA (s : State) (i : Nat) (v : TimeBase) : (s.setBase i v).planeA = s.planeA := rfl
@[simp] theorem State.setBase_planeB (s : State) (i : Nat) (v : TimeBase) : (s.setBase i v).planeB = s.planeB := rfl
@[simp] theorem State.setBase_repeated (s : State) (i : Nat) (v : TimeBase) : (s.setBase i v).repeated = s.repeated := rfl
@[simp] theorem State.setBase_inPorts (s : State) (i : Nat) (v : TimeBase) : (s.setBase i v).inPorts = s.inPorts := rfl
@[simp] theorem State.setBase_de (s : State) (i : Nat) (v : TimeBase) : (s.setBase i v).de = s.de := rfl
@[simp] theorem State.setBase_tx (s : State) (i : Nat) (v : TimeBase) : (s.setBase i v).tx = s.tx := rfl
@[simp] theorem State.setBase_au (s : State) (i : Nat) (v : TimeBase) : (s.setBase i v).au = s.au := rfl
@[simp] theorem State.setBase_mq (s : State) (i : Nat) (v : TimeBase) : (s.setBase i v).mq = s.mq := rfl
@[simp] theorem State.setBase_veneers (s : State) (i : Nat) (v : TimeBase) : (s.setBase i v).veneers = s.veneers := rfl
@[simp] theorem State.setBase_dt (s : State) (i : Nat) (v : TimeBase) : (s.setBase i v).dt = s.dt := rfl
@[simp] theorem State.setBase_ties (s : State) (i : Nat) (v : TimeBase) : (s.setBase i v).ties = s.ties := rfl
@[simp] theorem State.setBase_depart (s : State) (i : Nat) (v : TimeBase) : (s.setBase i v).depart = s.depart := rfl
@[simp] theorem State.setBase_group (s : State) (i : Nat) (v : TimeBase) : (s.setBase i v).group = s.group := rfl
@[simp] theorem State.setBase_linkKeys (s : State) (i : Nat) (v : TimeBase) : (s.setBase i v).linkKeys = s.linkKeys := rfl
@[simp] theorem State.setBase_pr (s : State) (i : Nat) (v : TimeBase) : (s.setBase i v).pr = s.pr := rfl
@[simp] theorem State.setBase_fc (s : State) (i : Nat) (v : TimeBase) : (s.setBase i v).fc = s.fc := rfl
@[simp] theorem State.setBase_faultnLevel (s : State) (i : Nat) (v : TimeBase) : (s.setBase i v).faultnLevel = s.faultnLevel := rfl
@[simp] theorem State.setBase_ks (s : State) (i : Nat) (v : TimeBase) : (s.setBase i v).ks = s.ks := rfl
@[simp] theorem State.setBase_gr (s : State) (i : Nat) (v : TimeBase) : (s.setBase i v).gr = s.gr := rfl
@[simp] theorem State.setBase_ic (s : State) (i : Nat) (v : TimeBase) : (s.setBase i v).ic = s.ic := rfl
@[simp] theorem State.setBase_dma (s : State) (i : Nat) (v : TimeBase) : (s.setBase i v).dma = s.dma := rfl
@[simp] theorem State.setBase_dmaLast (s : State) (i : Nat) (v : TimeBase) : (s.setBase i v).dmaLast = s.dmaLast := rfl
@[simp] theorem State.setBase_hostMem (s : State) (i : Nat) (v : TimeBase) : (s.setBase i v).hostMem = s.hostMem := rfl
@[simp] theorem State.setBase_hbm (s : State) (i : Nat) (v : TimeBase) : (s.setBase i v).hbm = s.hbm := rfl
@[simp] theorem State.setBase_hbm2 (s : State) (i : Nat) (v : TimeBase) : (s.setBase i v).hbm2 = s.hbm2 := rfl
@[simp] theorem State.setBase_sram (s : State) (i : Nat) (v : TimeBase) : (s.setBase i v).sram = s.sram := rfl
@[simp] theorem State.setBase_hostBad (s : State) (i : Nat) (v : TimeBase) : (s.setBase i v).hostBad = s.hostBad := rfl
@[simp] theorem State.setBase_ln (s : State) (i : Nat) (v : TimeBase) : (s.setBase i v).ln = s.ln := rfl
@[simp] theorem State.setBase_ep (s : State) (i : Nat) (v : TimeBase) : (s.setBase i v).ep = s.ep := rfl
@[simp] theorem State.setBase_sub (s : State) (i : Nat) (v : TimeBase) : (s.setBase i v).sub = s.sub := rfl
@[simp] theorem State.setBase_pw (s : State) (i : Nat) (v : TimeBase) : (s.setBase i v).pw = s.pw := rfl
@[simp] theorem State.setBase_tol (s : State) (i : Nat) (v : TimeBase) : (s.setBase i v).tol = s.tol := rfl

/-! ## Writing `inst` -/

@[simp] theorem State.inst_setInst (s : State) (i : Nat) (v : Ptp) : (s.setInst i v).inst i = v := Tbl.get_set_self ..
theorem State.inst_setInst_ne (s : State) {i j : Nat} (v : Ptp) (h : j ≠ i) : (s.setInst i v).inst j = s.inst j :=
  Tbl.get_set_ne _ _ h
@[simp] theorem State.updInst_eq (s : State) (i : Nat) (f : Ptp → Ptp) : s.updInst i f = s.setInst i (f (s.inst i)) := rfl
@[simp] theorem State.setInst_pending (s : State) (i : Nat) (v : Ptp) : (s.setInst i v).pending = s.pending := rfl
@[simp] theorem State.setInst_clk (s : State) (i : Nat) (v : Ptp) : (s.setInst i v).clk = s.clk := rfl
@[simp] theorem State.setInst_clkFrac (s : State) (i : Nat) (v : Ptp) : (s.setInst i v).clkFrac = s.clkFrac := rfl
@[simp] theorem State.setInst_cycles (s : State) (i : Nat) (v : Ptp) : (s.setInst i v).cycles = s.cycles := rfl
@[simp] theorem State.setInst_fuses (s : State) (i : Nat) (v : Ptp) : (s.setInst i v).fuses = s.fuses := rfl
@[simp] theorem State.setInst_straps (s : State) (i : Nat) (v : Ptp) : (s.setInst i v).straps = s.straps := rfl
@[simp] theorem State.setInst_startup (s : State) (i : Nat) (v : Ptp) : (s.setInst i v).startup = s.startup := rfl
@[simp] theorem State.setInst_glb (s : State) (i : Nat) (v : Ptp) : (s.setInst i v).glb = s.glb := rfl
@[simp] theorem State.setInst_pins (s : State) (i : Nat) (v : Ptp) : (s.setInst i v).pins = s.pins := rfl
@[simp] theorem State.setInst_boot (s : State) (i : Nat) (v : Ptp) : (s.setInst i v).boot = s.boot := rfl
@[simp] theorem State.setInst_mb (s : State) (i : Nat) (v : Ptp) : (s.setInst i v).mb = s.mb := rfl
@[simp] theorem State.setInst_bx (s : State) (i : Nat) (v : Ptp) : (s.setInst i v).bx = s.bx := rfl
@[simp] theorem State.setInst_rf (s : State) (i : Nat) (v : Ptp) : (s.setInst i v).rf = s.rf := rfl
@[simp] theorem State.setInst_td (s : State) (i : Nat) (v : Ptp) : (s.setInst i v).td = s.td := rfl
@[simp] theorem State.setInst_tb (s : State) (i : Nat) (v : Ptp) : (s.setInst i v).tb = s.tb := rfl
@[simp] theorem State.setInst_tsq (s : State) (i : Nat) (v : Ptp) : (s.setInst i v).tsq = s.tsq := rfl
@[simp] theorem State.setInst_sr (s : State) (i : Nat) (v : Ptp) : (s.setInst i v).sr = s.sr := rfl
@[simp] theorem State.setInst_rx (s : State) (i : Nat) (v : Ptp) : (s.setInst i v).rx = s.rx := rfl
@[simp] theorem State.setInst_rings (s : State) (i : Nat) (v : Ptp) : (s.setInst i v).rings = s.rings := rfl
@[simp] theorem State.setInst_readouts (s : State) (i : Nat) (v : Ptp) : (s.setInst i v).readouts = s.readouts := rfl
@[simp] theorem State.setInst_hbmStacks (s : State) (i : Nat) (v : Ptp) : (s.setInst i v).hbmStacks = s.hbmStacks := rfl
@[simp] theorem State.setInst_scrubRate (s : State) (i : Nat) (v : Ptp) : (s.setInst i v).scrubRate = s.scrubRate := rfl
@[simp] theorem State.setInst_xp (s : State) (i : Nat) (v : Ptp) : (s.setInst i v).xp = s.xp := rfl
@[simp] theorem State.setInst_planeA (s : State) (i : Nat) (v : Ptp) : (s.setInst i v).planeA = s.planeA := rfl
@[simp] theorem State.setInst_planeB (s : State) (i : Nat) (v : Ptp) : (s.setInst i v).planeB = s.planeB := rfl
@[simp] theorem State.setInst_repeated (s : State) (i : Nat) (v : Ptp) : (s.setInst i v).repeated = s.repeated := rfl
@[simp] theorem State.setInst_inPorts (s : State) (i : Nat) (v : Ptp) : (s.setInst i v).inPorts = s.inPorts := rfl
@[simp] theorem State.setInst_de (s : State) (i : Nat) (v : Ptp) : (s.setInst i v).de = s.de := rfl
@[simp] theorem State.setInst_tx (s : State) (i : Nat) (v : Ptp) : (s.setInst i v).tx = s.tx := rfl
@[simp] theorem State.setInst_au (s : State) (i : Nat) (v : Ptp) : (s.setInst i v).au = s.au := rfl
@[simp] theorem State.setInst_mq (s : State) (i : Nat) (v : Ptp) : (s.setInst i v).mq = s.mq := rfl
@[simp] theorem State.setInst_veneers (s : State) (i : Nat) (v : Ptp) : (s.setInst i v).veneers = s.veneers := rfl
@[simp] theorem State.setInst_dt (s : State) (i : Nat) (v : Ptp) : (s.setInst i v).dt = s.dt := rfl
@[simp] theorem State.setInst_ties (s : State) (i : Nat) (v : Ptp) : (s.setInst i v).ties = s.ties := rfl
@[simp] theorem State.setInst_depart (s : State) (i : Nat) (v : Ptp) : (s.setInst i v).depart = s.depart := rfl
@[simp] theorem State.setInst_group (s : State) (i : Nat) (v : Ptp) : (s.setInst i v).group = s.group := rfl
@[simp] theorem State.setInst_linkKeys (s : State) (i : Nat) (v : Ptp) : (s.setInst i v).linkKeys = s.linkKeys := rfl
@[simp] theorem State.setInst_pr (s : State) (i : Nat) (v : Ptp) : (s.setInst i v).pr = s.pr := rfl
@[simp] theorem State.setInst_fc (s : State) (i : Nat) (v : Ptp) : (s.setInst i v).fc = s.fc := rfl
@[simp] theorem State.setInst_faultnLevel (s : State) (i : Nat) (v : Ptp) : (s.setInst i v).faultnLevel = s.faultnLevel := rfl
@[simp] theorem State.setInst_ks (s : State) (i : Nat) (v : Ptp) : (s.setInst i v).ks = s.ks := rfl
@[simp] theorem State.setInst_gr (s : State) (i : Nat) (v : Ptp) : (s.setInst i v).gr = s.gr := rfl
@[simp] theorem State.setInst_ic (s : State) (i : Nat) (v : Ptp) : (s.setInst i v).ic = s.ic := rfl
@[simp] theorem State.setInst_dma (s : State) (i : Nat) (v : Ptp) : (s.setInst i v).dma = s.dma := rfl
@[simp] theorem State.setInst_dmaLast (s : State) (i : Nat) (v : Ptp) : (s.setInst i v).dmaLast = s.dmaLast := rfl
@[simp] theorem State.setInst_hostMem (s : State) (i : Nat) (v : Ptp) : (s.setInst i v).hostMem = s.hostMem := rfl
@[simp] theorem State.setInst_hbm (s : State) (i : Nat) (v : Ptp) : (s.setInst i v).hbm = s.hbm := rfl
@[simp] theorem State.setInst_hbm2 (s : State) (i : Nat) (v : Ptp) : (s.setInst i v).hbm2 = s.hbm2 := rfl
@[simp] theorem State.setInst_sram (s : State) (i : Nat) (v : Ptp) : (s.setInst i v).sram = s.sram := rfl
@[simp] theorem State.setInst_hostBad (s : State) (i : Nat) (v : Ptp) : (s.setInst i v).hostBad = s.hostBad := rfl
@[simp] theorem State.setInst_ln (s : State) (i : Nat) (v : Ptp) : (s.setInst i v).ln = s.ln := rfl
@[simp] theorem State.setInst_ep (s : State) (i : Nat) (v : Ptp) : (s.setInst i v).ep = s.ep := rfl
@[simp] theorem State.setInst_sub (s : State) (i : Nat) (v : Ptp) : (s.setInst i v).sub = s.sub := rfl
@[simp] theorem State.setInst_pw (s : State) (i : Nat) (v : Ptp) : (s.setInst i v).pw = s.pw := rfl
@[simp] theorem State.setInst_tol (s : State) (i : Nat) (v : Ptp) : (s.setInst i v).tol = s.tol := rfl

/-! ## Writing `queue` -/

@[simp] theorem State.queue_setQueue (s : State) (i : Nat) (v : Tsq) : (s.setQueue i v).queue i = v := Tbl.get_set_self ..
theorem State.queue_setQueue_ne (s : State) {i j : Nat} (v : Tsq) (h : j ≠ i) : (s.setQueue i v).queue j = s.queue j :=
  Tbl.get_set_ne _ _ h
@[simp] theorem State.updQueue_eq (s : State) (i : Nat) (f : Tsq → Tsq) : s.updQueue i f = s.setQueue i (f (s.queue i)) := rfl
@[simp] theorem State.setQueue_pending (s : State) (i : Nat) (v : Tsq) : (s.setQueue i v).pending = s.pending := rfl
@[simp] theorem State.setQueue_clk (s : State) (i : Nat) (v : Tsq) : (s.setQueue i v).clk = s.clk := rfl
@[simp] theorem State.setQueue_clkFrac (s : State) (i : Nat) (v : Tsq) : (s.setQueue i v).clkFrac = s.clkFrac := rfl
@[simp] theorem State.setQueue_cycles (s : State) (i : Nat) (v : Tsq) : (s.setQueue i v).cycles = s.cycles := rfl
@[simp] theorem State.setQueue_fuses (s : State) (i : Nat) (v : Tsq) : (s.setQueue i v).fuses = s.fuses := rfl
@[simp] theorem State.setQueue_straps (s : State) (i : Nat) (v : Tsq) : (s.setQueue i v).straps = s.straps := rfl
@[simp] theorem State.setQueue_startup (s : State) (i : Nat) (v : Tsq) : (s.setQueue i v).startup = s.startup := rfl
@[simp] theorem State.setQueue_glb (s : State) (i : Nat) (v : Tsq) : (s.setQueue i v).glb = s.glb := rfl
@[simp] theorem State.setQueue_pins (s : State) (i : Nat) (v : Tsq) : (s.setQueue i v).pins = s.pins := rfl
@[simp] theorem State.setQueue_boot (s : State) (i : Nat) (v : Tsq) : (s.setQueue i v).boot = s.boot := rfl
@[simp] theorem State.setQueue_mb (s : State) (i : Nat) (v : Tsq) : (s.setQueue i v).mb = s.mb := rfl
@[simp] theorem State.setQueue_bx (s : State) (i : Nat) (v : Tsq) : (s.setQueue i v).bx = s.bx := rfl
@[simp] theorem State.setQueue_rf (s : State) (i : Nat) (v : Tsq) : (s.setQueue i v).rf = s.rf := rfl
@[simp] theorem State.setQueue_td (s : State) (i : Nat) (v : Tsq) : (s.setQueue i v).td = s.td := rfl
@[simp] theorem State.setQueue_tb (s : State) (i : Nat) (v : Tsq) : (s.setQueue i v).tb = s.tb := rfl
@[simp] theorem State.setQueue_ptp (s : State) (i : Nat) (v : Tsq) : (s.setQueue i v).ptp = s.ptp := rfl
@[simp] theorem State.setQueue_sr (s : State) (i : Nat) (v : Tsq) : (s.setQueue i v).sr = s.sr := rfl
@[simp] theorem State.setQueue_rx (s : State) (i : Nat) (v : Tsq) : (s.setQueue i v).rx = s.rx := rfl
@[simp] theorem State.setQueue_rings (s : State) (i : Nat) (v : Tsq) : (s.setQueue i v).rings = s.rings := rfl
@[simp] theorem State.setQueue_readouts (s : State) (i : Nat) (v : Tsq) : (s.setQueue i v).readouts = s.readouts := rfl
@[simp] theorem State.setQueue_hbmStacks (s : State) (i : Nat) (v : Tsq) : (s.setQueue i v).hbmStacks = s.hbmStacks := rfl
@[simp] theorem State.setQueue_scrubRate (s : State) (i : Nat) (v : Tsq) : (s.setQueue i v).scrubRate = s.scrubRate := rfl
@[simp] theorem State.setQueue_xp (s : State) (i : Nat) (v : Tsq) : (s.setQueue i v).xp = s.xp := rfl
@[simp] theorem State.setQueue_planeA (s : State) (i : Nat) (v : Tsq) : (s.setQueue i v).planeA = s.planeA := rfl
@[simp] theorem State.setQueue_planeB (s : State) (i : Nat) (v : Tsq) : (s.setQueue i v).planeB = s.planeB := rfl
@[simp] theorem State.setQueue_repeated (s : State) (i : Nat) (v : Tsq) : (s.setQueue i v).repeated = s.repeated := rfl
@[simp] theorem State.setQueue_inPorts (s : State) (i : Nat) (v : Tsq) : (s.setQueue i v).inPorts = s.inPorts := rfl
@[simp] theorem State.setQueue_de (s : State) (i : Nat) (v : Tsq) : (s.setQueue i v).de = s.de := rfl
@[simp] theorem State.setQueue_tx (s : State) (i : Nat) (v : Tsq) : (s.setQueue i v).tx = s.tx := rfl
@[simp] theorem State.setQueue_au (s : State) (i : Nat) (v : Tsq) : (s.setQueue i v).au = s.au := rfl
@[simp] theorem State.setQueue_mq (s : State) (i : Nat) (v : Tsq) : (s.setQueue i v).mq = s.mq := rfl
@[simp] theorem State.setQueue_veneers (s : State) (i : Nat) (v : Tsq) : (s.setQueue i v).veneers = s.veneers := rfl
@[simp] theorem State.setQueue_dt (s : State) (i : Nat) (v : Tsq) : (s.setQueue i v).dt = s.dt := rfl
@[simp] theorem State.setQueue_ties (s : State) (i : Nat) (v : Tsq) : (s.setQueue i v).ties = s.ties := rfl
@[simp] theorem State.setQueue_depart (s : State) (i : Nat) (v : Tsq) : (s.setQueue i v).depart = s.depart := rfl
@[simp] theorem State.setQueue_group (s : State) (i : Nat) (v : Tsq) : (s.setQueue i v).group = s.group := rfl
@[simp] theorem State.setQueue_linkKeys (s : State) (i : Nat) (v : Tsq) : (s.setQueue i v).linkKeys = s.linkKeys := rfl
@[simp] theorem State.setQueue_pr (s : State) (i : Nat) (v : Tsq) : (s.setQueue i v).pr = s.pr := rfl
@[simp] theorem State.setQueue_fc (s : State) (i : Nat) (v : Tsq) : (s.setQueue i v).fc = s.fc := rfl
@[simp] theorem State.setQueue_faultnLevel (s : State) (i : Nat) (v : Tsq) : (s.setQueue i v).faultnLevel = s.faultnLevel := rfl
@[simp] theorem State.setQueue_ks (s : State) (i : Nat) (v : Tsq) : (s.setQueue i v).ks = s.ks := rfl
@[simp] theorem State.setQueue_gr (s : State) (i : Nat) (v : Tsq) : (s.setQueue i v).gr = s.gr := rfl
@[simp] theorem State.setQueue_ic (s : State) (i : Nat) (v : Tsq) : (s.setQueue i v).ic = s.ic := rfl
@[simp] theorem State.setQueue_dma (s : State) (i : Nat) (v : Tsq) : (s.setQueue i v).dma = s.dma := rfl
@[simp] theorem State.setQueue_dmaLast (s : State) (i : Nat) (v : Tsq) : (s.setQueue i v).dmaLast = s.dmaLast := rfl
@[simp] theorem State.setQueue_hostMem (s : State) (i : Nat) (v : Tsq) : (s.setQueue i v).hostMem = s.hostMem := rfl
@[simp] theorem State.setQueue_hbm (s : State) (i : Nat) (v : Tsq) : (s.setQueue i v).hbm = s.hbm := rfl
@[simp] theorem State.setQueue_hbm2 (s : State) (i : Nat) (v : Tsq) : (s.setQueue i v).hbm2 = s.hbm2 := rfl
@[simp] theorem State.setQueue_sram (s : State) (i : Nat) (v : Tsq) : (s.setQueue i v).sram = s.sram := rfl
@[simp] theorem State.setQueue_hostBad (s : State) (i : Nat) (v : Tsq) : (s.setQueue i v).hostBad = s.hostBad := rfl
@[simp] theorem State.setQueue_ln (s : State) (i : Nat) (v : Tsq) : (s.setQueue i v).ln = s.ln := rfl
@[simp] theorem State.setQueue_ep (s : State) (i : Nat) (v : Tsq) : (s.setQueue i v).ep = s.ep := rfl
@[simp] theorem State.setQueue_sub (s : State) (i : Nat) (v : Tsq) : (s.setQueue i v).sub = s.sub := rfl
@[simp] theorem State.setQueue_pw (s : State) (i : Nat) (v : Tsq) : (s.setQueue i v).pw = s.pw := rfl
@[simp] theorem State.setQueue_tol (s : State) (i : Nat) (v : Tsq) : (s.setQueue i v).tol = s.tol := rfl

/-! ## Writing `source` -/

@[simp] theorem State.source_setSource (s : State) (i : Nat) (v : Source) : (s.setSource i v).source i = v := Tbl.get_set_self ..
theorem State.source_setSource_ne (s : State) {i j : Nat} (v : Source) (h : j ≠ i) : (s.setSource i v).source j = s.source j :=
  Tbl.get_set_ne _ _ h
@[simp] theorem State.updSource_eq (s : State) (i : Nat) (f : Source → Source) : s.updSource i f = s.setSource i (f (s.source i)) := rfl
@[simp] theorem State.setSource_pending (s : State) (i : Nat) (v : Source) : (s.setSource i v).pending = s.pending := rfl
@[simp] theorem State.setSource_clk (s : State) (i : Nat) (v : Source) : (s.setSource i v).clk = s.clk := rfl
@[simp] theorem State.setSource_clkFrac (s : State) (i : Nat) (v : Source) : (s.setSource i v).clkFrac = s.clkFrac := rfl
@[simp] theorem State.setSource_cycles (s : State) (i : Nat) (v : Source) : (s.setSource i v).cycles = s.cycles := rfl
@[simp] theorem State.setSource_fuses (s : State) (i : Nat) (v : Source) : (s.setSource i v).fuses = s.fuses := rfl
@[simp] theorem State.setSource_straps (s : State) (i : Nat) (v : Source) : (s.setSource i v).straps = s.straps := rfl
@[simp] theorem State.setSource_startup (s : State) (i : Nat) (v : Source) : (s.setSource i v).startup = s.startup := rfl
@[simp] theorem State.setSource_glb (s : State) (i : Nat) (v : Source) : (s.setSource i v).glb = s.glb := rfl
@[simp] theorem State.setSource_pins (s : State) (i : Nat) (v : Source) : (s.setSource i v).pins = s.pins := rfl
@[simp] theorem State.setSource_boot (s : State) (i : Nat) (v : Source) : (s.setSource i v).boot = s.boot := rfl
@[simp] theorem State.setSource_mb (s : State) (i : Nat) (v : Source) : (s.setSource i v).mb = s.mb := rfl
@[simp] theorem State.setSource_bx (s : State) (i : Nat) (v : Source) : (s.setSource i v).bx = s.bx := rfl
@[simp] theorem State.setSource_rf (s : State) (i : Nat) (v : Source) : (s.setSource i v).rf = s.rf := rfl
@[simp] theorem State.setSource_td (s : State) (i : Nat) (v : Source) : (s.setSource i v).td = s.td := rfl
@[simp] theorem State.setSource_tb (s : State) (i : Nat) (v : Source) : (s.setSource i v).tb = s.tb := rfl
@[simp] theorem State.setSource_ptp (s : State) (i : Nat) (v : Source) : (s.setSource i v).ptp = s.ptp := rfl
@[simp] theorem State.setSource_tsq (s : State) (i : Nat) (v : Source) : (s.setSource i v).tsq = s.tsq := rfl
@[simp] theorem State.setSource_rx (s : State) (i : Nat) (v : Source) : (s.setSource i v).rx = s.rx := rfl
@[simp] theorem State.setSource_rings (s : State) (i : Nat) (v : Source) : (s.setSource i v).rings = s.rings := rfl
@[simp] theorem State.setSource_readouts (s : State) (i : Nat) (v : Source) : (s.setSource i v).readouts = s.readouts := rfl
@[simp] theorem State.setSource_hbmStacks (s : State) (i : Nat) (v : Source) : (s.setSource i v).hbmStacks = s.hbmStacks := rfl
@[simp] theorem State.setSource_scrubRate (s : State) (i : Nat) (v : Source) : (s.setSource i v).scrubRate = s.scrubRate := rfl
@[simp] theorem State.setSource_xp (s : State) (i : Nat) (v : Source) : (s.setSource i v).xp = s.xp := rfl
@[simp] theorem State.setSource_planeA (s : State) (i : Nat) (v : Source) : (s.setSource i v).planeA = s.planeA := rfl
@[simp] theorem State.setSource_planeB (s : State) (i : Nat) (v : Source) : (s.setSource i v).planeB = s.planeB := rfl
@[simp] theorem State.setSource_repeated (s : State) (i : Nat) (v : Source) : (s.setSource i v).repeated = s.repeated := rfl
@[simp] theorem State.setSource_inPorts (s : State) (i : Nat) (v : Source) : (s.setSource i v).inPorts = s.inPorts := rfl
@[simp] theorem State.setSource_de (s : State) (i : Nat) (v : Source) : (s.setSource i v).de = s.de := rfl
@[simp] theorem State.setSource_tx (s : State) (i : Nat) (v : Source) : (s.setSource i v).tx = s.tx := rfl
@[simp] theorem State.setSource_au (s : State) (i : Nat) (v : Source) : (s.setSource i v).au = s.au := rfl
@[simp] theorem State.setSource_mq (s : State) (i : Nat) (v : Source) : (s.setSource i v).mq = s.mq := rfl
@[simp] theorem State.setSource_veneers (s : State) (i : Nat) (v : Source) : (s.setSource i v).veneers = s.veneers := rfl
@[simp] theorem State.setSource_dt (s : State) (i : Nat) (v : Source) : (s.setSource i v).dt = s.dt := rfl
@[simp] theorem State.setSource_ties (s : State) (i : Nat) (v : Source) : (s.setSource i v).ties = s.ties := rfl
@[simp] theorem State.setSource_depart (s : State) (i : Nat) (v : Source) : (s.setSource i v).depart = s.depart := rfl
@[simp] theorem State.setSource_group (s : State) (i : Nat) (v : Source) : (s.setSource i v).group = s.group := rfl
@[simp] theorem State.setSource_linkKeys (s : State) (i : Nat) (v : Source) : (s.setSource i v).linkKeys = s.linkKeys := rfl
@[simp] theorem State.setSource_pr (s : State) (i : Nat) (v : Source) : (s.setSource i v).pr = s.pr := rfl
@[simp] theorem State.setSource_fc (s : State) (i : Nat) (v : Source) : (s.setSource i v).fc = s.fc := rfl
@[simp] theorem State.setSource_faultnLevel (s : State) (i : Nat) (v : Source) : (s.setSource i v).faultnLevel = s.faultnLevel := rfl
@[simp] theorem State.setSource_ks (s : State) (i : Nat) (v : Source) : (s.setSource i v).ks = s.ks := rfl
@[simp] theorem State.setSource_gr (s : State) (i : Nat) (v : Source) : (s.setSource i v).gr = s.gr := rfl
@[simp] theorem State.setSource_ic (s : State) (i : Nat) (v : Source) : (s.setSource i v).ic = s.ic := rfl
@[simp] theorem State.setSource_dma (s : State) (i : Nat) (v : Source) : (s.setSource i v).dma = s.dma := rfl
@[simp] theorem State.setSource_dmaLast (s : State) (i : Nat) (v : Source) : (s.setSource i v).dmaLast = s.dmaLast := rfl
@[simp] theorem State.setSource_hostMem (s : State) (i : Nat) (v : Source) : (s.setSource i v).hostMem = s.hostMem := rfl
@[simp] theorem State.setSource_hbm (s : State) (i : Nat) (v : Source) : (s.setSource i v).hbm = s.hbm := rfl
@[simp] theorem State.setSource_hbm2 (s : State) (i : Nat) (v : Source) : (s.setSource i v).hbm2 = s.hbm2 := rfl
@[simp] theorem State.setSource_sram (s : State) (i : Nat) (v : Source) : (s.setSource i v).sram = s.sram := rfl
@[simp] theorem State.setSource_hostBad (s : State) (i : Nat) (v : Source) : (s.setSource i v).hostBad = s.hostBad := rfl
@[simp] theorem State.setSource_ln (s : State) (i : Nat) (v : Source) : (s.setSource i v).ln = s.ln := rfl
@[simp] theorem State.setSource_ep (s : State) (i : Nat) (v : Source) : (s.setSource i v).ep = s.ep := rfl
@[simp] theorem State.setSource_sub (s : State) (i : Nat) (v : Source) : (s.setSource i v).sub = s.sub := rfl
@[simp] theorem State.setSource_pw (s : State) (i : Nat) (v : Source) : (s.setSource i v).pw = s.pw := rfl
@[simp] theorem State.setSource_tol (s : State) (i : Nat) (v : Source) : (s.setSource i v).tol = s.tol := rfl

/-! ## Writing `rxFlow` -/

@[simp] theorem State.rxFlow_setRxFlow (s : State) (i : Nat) (v : RxFlow) : (s.setRxFlow i v).rxFlow i = v := Tbl.get_set_self ..
theorem State.rxFlow_setRxFlow_ne (s : State) {i j : Nat} (v : RxFlow) (h : j ≠ i) : (s.setRxFlow i v).rxFlow j = s.rxFlow j :=
  Tbl.get_set_ne _ _ h
@[simp] theorem State.updRxFlow_eq (s : State) (i : Nat) (f : RxFlow → RxFlow) : s.updRxFlow i f = s.setRxFlow i (f (s.rxFlow i)) := rfl
@[simp] theorem State.setRxFlow_pending (s : State) (i : Nat) (v : RxFlow) : (s.setRxFlow i v).pending = s.pending := rfl
@[simp] theorem State.setRxFlow_clk (s : State) (i : Nat) (v : RxFlow) : (s.setRxFlow i v).clk = s.clk := rfl
@[simp] theorem State.setRxFlow_clkFrac (s : State) (i : Nat) (v : RxFlow) : (s.setRxFlow i v).clkFrac = s.clkFrac := rfl
@[simp] theorem State.setRxFlow_cycles (s : State) (i : Nat) (v : RxFlow) : (s.setRxFlow i v).cycles = s.cycles := rfl
@[simp] theorem State.setRxFlow_fuses (s : State) (i : Nat) (v : RxFlow) : (s.setRxFlow i v).fuses = s.fuses := rfl
@[simp] theorem State.setRxFlow_straps (s : State) (i : Nat) (v : RxFlow) : (s.setRxFlow i v).straps = s.straps := rfl
@[simp] theorem State.setRxFlow_startup (s : State) (i : Nat) (v : RxFlow) : (s.setRxFlow i v).startup = s.startup := rfl
@[simp] theorem State.setRxFlow_glb (s : State) (i : Nat) (v : RxFlow) : (s.setRxFlow i v).glb = s.glb := rfl
@[simp] theorem State.setRxFlow_pins (s : State) (i : Nat) (v : RxFlow) : (s.setRxFlow i v).pins = s.pins := rfl
@[simp] theorem State.setRxFlow_boot (s : State) (i : Nat) (v : RxFlow) : (s.setRxFlow i v).boot = s.boot := rfl
@[simp] theorem State.setRxFlow_mb (s : State) (i : Nat) (v : RxFlow) : (s.setRxFlow i v).mb = s.mb := rfl
@[simp] theorem State.setRxFlow_bx (s : State) (i : Nat) (v : RxFlow) : (s.setRxFlow i v).bx = s.bx := rfl
@[simp] theorem State.setRxFlow_rf (s : State) (i : Nat) (v : RxFlow) : (s.setRxFlow i v).rf = s.rf := rfl
@[simp] theorem State.setRxFlow_td (s : State) (i : Nat) (v : RxFlow) : (s.setRxFlow i v).td = s.td := rfl
@[simp] theorem State.setRxFlow_tb (s : State) (i : Nat) (v : RxFlow) : (s.setRxFlow i v).tb = s.tb := rfl
@[simp] theorem State.setRxFlow_ptp (s : State) (i : Nat) (v : RxFlow) : (s.setRxFlow i v).ptp = s.ptp := rfl
@[simp] theorem State.setRxFlow_tsq (s : State) (i : Nat) (v : RxFlow) : (s.setRxFlow i v).tsq = s.tsq := rfl
@[simp] theorem State.setRxFlow_sr (s : State) (i : Nat) (v : RxFlow) : (s.setRxFlow i v).sr = s.sr := rfl
@[simp] theorem State.setRxFlow_rings (s : State) (i : Nat) (v : RxFlow) : (s.setRxFlow i v).rings = s.rings := rfl
@[simp] theorem State.setRxFlow_readouts (s : State) (i : Nat) (v : RxFlow) : (s.setRxFlow i v).readouts = s.readouts := rfl
@[simp] theorem State.setRxFlow_hbmStacks (s : State) (i : Nat) (v : RxFlow) : (s.setRxFlow i v).hbmStacks = s.hbmStacks := rfl
@[simp] theorem State.setRxFlow_scrubRate (s : State) (i : Nat) (v : RxFlow) : (s.setRxFlow i v).scrubRate = s.scrubRate := rfl
@[simp] theorem State.setRxFlow_xp (s : State) (i : Nat) (v : RxFlow) : (s.setRxFlow i v).xp = s.xp := rfl
@[simp] theorem State.setRxFlow_planeA (s : State) (i : Nat) (v : RxFlow) : (s.setRxFlow i v).planeA = s.planeA := rfl
@[simp] theorem State.setRxFlow_planeB (s : State) (i : Nat) (v : RxFlow) : (s.setRxFlow i v).planeB = s.planeB := rfl
@[simp] theorem State.setRxFlow_repeated (s : State) (i : Nat) (v : RxFlow) : (s.setRxFlow i v).repeated = s.repeated := rfl
@[simp] theorem State.setRxFlow_inPorts (s : State) (i : Nat) (v : RxFlow) : (s.setRxFlow i v).inPorts = s.inPorts := rfl
@[simp] theorem State.setRxFlow_de (s : State) (i : Nat) (v : RxFlow) : (s.setRxFlow i v).de = s.de := rfl
@[simp] theorem State.setRxFlow_tx (s : State) (i : Nat) (v : RxFlow) : (s.setRxFlow i v).tx = s.tx := rfl
@[simp] theorem State.setRxFlow_au (s : State) (i : Nat) (v : RxFlow) : (s.setRxFlow i v).au = s.au := rfl
@[simp] theorem State.setRxFlow_mq (s : State) (i : Nat) (v : RxFlow) : (s.setRxFlow i v).mq = s.mq := rfl
@[simp] theorem State.setRxFlow_veneers (s : State) (i : Nat) (v : RxFlow) : (s.setRxFlow i v).veneers = s.veneers := rfl
@[simp] theorem State.setRxFlow_dt (s : State) (i : Nat) (v : RxFlow) : (s.setRxFlow i v).dt = s.dt := rfl
@[simp] theorem State.setRxFlow_ties (s : State) (i : Nat) (v : RxFlow) : (s.setRxFlow i v).ties = s.ties := rfl
@[simp] theorem State.setRxFlow_depart (s : State) (i : Nat) (v : RxFlow) : (s.setRxFlow i v).depart = s.depart := rfl
@[simp] theorem State.setRxFlow_group (s : State) (i : Nat) (v : RxFlow) : (s.setRxFlow i v).group = s.group := rfl
@[simp] theorem State.setRxFlow_linkKeys (s : State) (i : Nat) (v : RxFlow) : (s.setRxFlow i v).linkKeys = s.linkKeys := rfl
@[simp] theorem State.setRxFlow_pr (s : State) (i : Nat) (v : RxFlow) : (s.setRxFlow i v).pr = s.pr := rfl
@[simp] theorem State.setRxFlow_fc (s : State) (i : Nat) (v : RxFlow) : (s.setRxFlow i v).fc = s.fc := rfl
@[simp] theorem State.setRxFlow_faultnLevel (s : State) (i : Nat) (v : RxFlow) : (s.setRxFlow i v).faultnLevel = s.faultnLevel := rfl
@[simp] theorem State.setRxFlow_ks (s : State) (i : Nat) (v : RxFlow) : (s.setRxFlow i v).ks = s.ks := rfl
@[simp] theorem State.setRxFlow_gr (s : State) (i : Nat) (v : RxFlow) : (s.setRxFlow i v).gr = s.gr := rfl
@[simp] theorem State.setRxFlow_ic (s : State) (i : Nat) (v : RxFlow) : (s.setRxFlow i v).ic = s.ic := rfl
@[simp] theorem State.setRxFlow_dma (s : State) (i : Nat) (v : RxFlow) : (s.setRxFlow i v).dma = s.dma := rfl
@[simp] theorem State.setRxFlow_dmaLast (s : State) (i : Nat) (v : RxFlow) : (s.setRxFlow i v).dmaLast = s.dmaLast := rfl
@[simp] theorem State.setRxFlow_hostMem (s : State) (i : Nat) (v : RxFlow) : (s.setRxFlow i v).hostMem = s.hostMem := rfl
@[simp] theorem State.setRxFlow_hbm (s : State) (i : Nat) (v : RxFlow) : (s.setRxFlow i v).hbm = s.hbm := rfl
@[simp] theorem State.setRxFlow_hbm2 (s : State) (i : Nat) (v : RxFlow) : (s.setRxFlow i v).hbm2 = s.hbm2 := rfl
@[simp] theorem State.setRxFlow_sram (s : State) (i : Nat) (v : RxFlow) : (s.setRxFlow i v).sram = s.sram := rfl
@[simp] theorem State.setRxFlow_hostBad (s : State) (i : Nat) (v : RxFlow) : (s.setRxFlow i v).hostBad = s.hostBad := rfl
@[simp] theorem State.setRxFlow_ln (s : State) (i : Nat) (v : RxFlow) : (s.setRxFlow i v).ln = s.ln := rfl
@[simp] theorem State.setRxFlow_ep (s : State) (i : Nat) (v : RxFlow) : (s.setRxFlow i v).ep = s.ep := rfl
@[simp] theorem State.setRxFlow_sub (s : State) (i : Nat) (v : RxFlow) : (s.setRxFlow i v).sub = s.sub := rfl
@[simp] theorem State.setRxFlow_pw (s : State) (i : Nat) (v : RxFlow) : (s.setRxFlow i v).pw = s.pw := rfl
@[simp] theorem State.setRxFlow_tol (s : State) (i : Nat) (v : RxFlow) : (s.setRxFlow i v).tol = s.tol := rfl

/-! ## Writing `ring` -/

@[simp] theorem State.ring_setRing (s : State) (i : Nat) (v : Ring) : (s.setRing i v).ring i = v := Tbl.get_set_self ..
theorem State.ring_setRing_ne (s : State) {i j : Nat} (v : Ring) (h : j ≠ i) : (s.setRing i v).ring j = s.ring j :=
  Tbl.get_set_ne _ _ h
@[simp] theorem State.updRing_eq (s : State) (i : Nat) (f : Ring → Ring) : s.updRing i f = s.setRing i (f (s.ring i)) := rfl
@[simp] theorem State.setRing_pending (s : State) (i : Nat) (v : Ring) : (s.setRing i v).pending = s.pending := rfl
@[simp] theorem State.setRing_clk (s : State) (i : Nat) (v : Ring) : (s.setRing i v).clk = s.clk := rfl
@[simp] theorem State.setRing_clkFrac (s : State) (i : Nat) (v : Ring) : (s.setRing i v).clkFrac = s.clkFrac := rfl
@[simp] theorem State.setRing_cycles (s : State) (i : Nat) (v : Ring) : (s.setRing i v).cycles = s.cycles := rfl
@[simp] theorem State.setRing_fuses (s : State) (i : Nat) (v : Ring) : (s.setRing i v).fuses = s.fuses := rfl
@[simp] theorem State.setRing_straps (s : State) (i : Nat) (v : Ring) : (s.setRing i v).straps = s.straps := rfl
@[simp] theorem State.setRing_startup (s : State) (i : Nat) (v : Ring) : (s.setRing i v).startup = s.startup := rfl
@[simp] theorem State.setRing_glb (s : State) (i : Nat) (v : Ring) : (s.setRing i v).glb = s.glb := rfl
@[simp] theorem State.setRing_pins (s : State) (i : Nat) (v : Ring) : (s.setRing i v).pins = s.pins := rfl
@[simp] theorem State.setRing_boot (s : State) (i : Nat) (v : Ring) : (s.setRing i v).boot = s.boot := rfl
@[simp] theorem State.setRing_mb (s : State) (i : Nat) (v : Ring) : (s.setRing i v).mb = s.mb := rfl
@[simp] theorem State.setRing_bx (s : State) (i : Nat) (v : Ring) : (s.setRing i v).bx = s.bx := rfl
@[simp] theorem State.setRing_rf (s : State) (i : Nat) (v : Ring) : (s.setRing i v).rf = s.rf := rfl
@[simp] theorem State.setRing_td (s : State) (i : Nat) (v : Ring) : (s.setRing i v).td = s.td := rfl
@[simp] theorem State.setRing_tb (s : State) (i : Nat) (v : Ring) : (s.setRing i v).tb = s.tb := rfl
@[simp] theorem State.setRing_ptp (s : State) (i : Nat) (v : Ring) : (s.setRing i v).ptp = s.ptp := rfl
@[simp] theorem State.setRing_tsq (s : State) (i : Nat) (v : Ring) : (s.setRing i v).tsq = s.tsq := rfl
@[simp] theorem State.setRing_sr (s : State) (i : Nat) (v : Ring) : (s.setRing i v).sr = s.sr := rfl
@[simp] theorem State.setRing_rx (s : State) (i : Nat) (v : Ring) : (s.setRing i v).rx = s.rx := rfl
@[simp] theorem State.setRing_readouts (s : State) (i : Nat) (v : Ring) : (s.setRing i v).readouts = s.readouts := rfl
@[simp] theorem State.setRing_hbmStacks (s : State) (i : Nat) (v : Ring) : (s.setRing i v).hbmStacks = s.hbmStacks := rfl
@[simp] theorem State.setRing_scrubRate (s : State) (i : Nat) (v : Ring) : (s.setRing i v).scrubRate = s.scrubRate := rfl
@[simp] theorem State.setRing_xp (s : State) (i : Nat) (v : Ring) : (s.setRing i v).xp = s.xp := rfl
@[simp] theorem State.setRing_planeA (s : State) (i : Nat) (v : Ring) : (s.setRing i v).planeA = s.planeA := rfl
@[simp] theorem State.setRing_planeB (s : State) (i : Nat) (v : Ring) : (s.setRing i v).planeB = s.planeB := rfl
@[simp] theorem State.setRing_repeated (s : State) (i : Nat) (v : Ring) : (s.setRing i v).repeated = s.repeated := rfl
@[simp] theorem State.setRing_inPorts (s : State) (i : Nat) (v : Ring) : (s.setRing i v).inPorts = s.inPorts := rfl
@[simp] theorem State.setRing_de (s : State) (i : Nat) (v : Ring) : (s.setRing i v).de = s.de := rfl
@[simp] theorem State.setRing_tx (s : State) (i : Nat) (v : Ring) : (s.setRing i v).tx = s.tx := rfl
@[simp] theorem State.setRing_au (s : State) (i : Nat) (v : Ring) : (s.setRing i v).au = s.au := rfl
@[simp] theorem State.setRing_mq (s : State) (i : Nat) (v : Ring) : (s.setRing i v).mq = s.mq := rfl
@[simp] theorem State.setRing_veneers (s : State) (i : Nat) (v : Ring) : (s.setRing i v).veneers = s.veneers := rfl
@[simp] theorem State.setRing_dt (s : State) (i : Nat) (v : Ring) : (s.setRing i v).dt = s.dt := rfl
@[simp] theorem State.setRing_ties (s : State) (i : Nat) (v : Ring) : (s.setRing i v).ties = s.ties := rfl
@[simp] theorem State.setRing_depart (s : State) (i : Nat) (v : Ring) : (s.setRing i v).depart = s.depart := rfl
@[simp] theorem State.setRing_group (s : State) (i : Nat) (v : Ring) : (s.setRing i v).group = s.group := rfl
@[simp] theorem State.setRing_linkKeys (s : State) (i : Nat) (v : Ring) : (s.setRing i v).linkKeys = s.linkKeys := rfl
@[simp] theorem State.setRing_pr (s : State) (i : Nat) (v : Ring) : (s.setRing i v).pr = s.pr := rfl
@[simp] theorem State.setRing_fc (s : State) (i : Nat) (v : Ring) : (s.setRing i v).fc = s.fc := rfl
@[simp] theorem State.setRing_faultnLevel (s : State) (i : Nat) (v : Ring) : (s.setRing i v).faultnLevel = s.faultnLevel := rfl
@[simp] theorem State.setRing_ks (s : State) (i : Nat) (v : Ring) : (s.setRing i v).ks = s.ks := rfl
@[simp] theorem State.setRing_gr (s : State) (i : Nat) (v : Ring) : (s.setRing i v).gr = s.gr := rfl
@[simp] theorem State.setRing_ic (s : State) (i : Nat) (v : Ring) : (s.setRing i v).ic = s.ic := rfl
@[simp] theorem State.setRing_dma (s : State) (i : Nat) (v : Ring) : (s.setRing i v).dma = s.dma := rfl
@[simp] theorem State.setRing_dmaLast (s : State) (i : Nat) (v : Ring) : (s.setRing i v).dmaLast = s.dmaLast := rfl
@[simp] theorem State.setRing_hostMem (s : State) (i : Nat) (v : Ring) : (s.setRing i v).hostMem = s.hostMem := rfl
@[simp] theorem State.setRing_hbm (s : State) (i : Nat) (v : Ring) : (s.setRing i v).hbm = s.hbm := rfl
@[simp] theorem State.setRing_hbm2 (s : State) (i : Nat) (v : Ring) : (s.setRing i v).hbm2 = s.hbm2 := rfl
@[simp] theorem State.setRing_sram (s : State) (i : Nat) (v : Ring) : (s.setRing i v).sram = s.sram := rfl
@[simp] theorem State.setRing_hostBad (s : State) (i : Nat) (v : Ring) : (s.setRing i v).hostBad = s.hostBad := rfl
@[simp] theorem State.setRing_ln (s : State) (i : Nat) (v : Ring) : (s.setRing i v).ln = s.ln := rfl
@[simp] theorem State.setRing_ep (s : State) (i : Nat) (v : Ring) : (s.setRing i v).ep = s.ep := rfl
@[simp] theorem State.setRing_sub (s : State) (i : Nat) (v : Ring) : (s.setRing i v).sub = s.sub := rfl
@[simp] theorem State.setRing_pw (s : State) (i : Nat) (v : Ring) : (s.setRing i v).pw = s.pw := rfl
@[simp] theorem State.setRing_tol (s : State) (i : Nat) (v : Ring) : (s.setRing i v).tol = s.tol := rfl

/-! ## Writing `stack` -/

@[simp] theorem State.stack_setStack (s : State) (i : Nat) (v : Stack) : (s.setStack i v).stack i = v := Tbl.get_set_self ..
theorem State.stack_setStack_ne (s : State) {i j : Nat} (v : Stack) (h : j ≠ i) : (s.setStack i v).stack j = s.stack j :=
  Tbl.get_set_ne _ _ h
@[simp] theorem State.updStack_eq (s : State) (i : Nat) (f : Stack → Stack) : s.updStack i f = s.setStack i (f (s.stack i)) := rfl
@[simp] theorem State.setStack_pending (s : State) (i : Nat) (v : Stack) : (s.setStack i v).pending = s.pending := rfl
@[simp] theorem State.setStack_clk (s : State) (i : Nat) (v : Stack) : (s.setStack i v).clk = s.clk := rfl
@[simp] theorem State.setStack_clkFrac (s : State) (i : Nat) (v : Stack) : (s.setStack i v).clkFrac = s.clkFrac := rfl
@[simp] theorem State.setStack_cycles (s : State) (i : Nat) (v : Stack) : (s.setStack i v).cycles = s.cycles := rfl
@[simp] theorem State.setStack_fuses (s : State) (i : Nat) (v : Stack) : (s.setStack i v).fuses = s.fuses := rfl
@[simp] theorem State.setStack_straps (s : State) (i : Nat) (v : Stack) : (s.setStack i v).straps = s.straps := rfl
@[simp] theorem State.setStack_startup (s : State) (i : Nat) (v : Stack) : (s.setStack i v).startup = s.startup := rfl
@[simp] theorem State.setStack_glb (s : State) (i : Nat) (v : Stack) : (s.setStack i v).glb = s.glb := rfl
@[simp] theorem State.setStack_pins (s : State) (i : Nat) (v : Stack) : (s.setStack i v).pins = s.pins := rfl
@[simp] theorem State.setStack_boot (s : State) (i : Nat) (v : Stack) : (s.setStack i v).boot = s.boot := rfl
@[simp] theorem State.setStack_mb (s : State) (i : Nat) (v : Stack) : (s.setStack i v).mb = s.mb := rfl
@[simp] theorem State.setStack_bx (s : State) (i : Nat) (v : Stack) : (s.setStack i v).bx = s.bx := rfl
@[simp] theorem State.setStack_rf (s : State) (i : Nat) (v : Stack) : (s.setStack i v).rf = s.rf := rfl
@[simp] theorem State.setStack_td (s : State) (i : Nat) (v : Stack) : (s.setStack i v).td = s.td := rfl
@[simp] theorem State.setStack_tb (s : State) (i : Nat) (v : Stack) : (s.setStack i v).tb = s.tb := rfl
@[simp] theorem State.setStack_ptp (s : State) (i : Nat) (v : Stack) : (s.setStack i v).ptp = s.ptp := rfl
@[simp] theorem State.setStack_tsq (s : State) (i : Nat) (v : Stack) : (s.setStack i v).tsq = s.tsq := rfl
@[simp] theorem State.setStack_sr (s : State) (i : Nat) (v : Stack) : (s.setStack i v).sr = s.sr := rfl
@[simp] theorem State.setStack_rx (s : State) (i : Nat) (v : Stack) : (s.setStack i v).rx = s.rx := rfl
@[simp] theorem State.setStack_rings (s : State) (i : Nat) (v : Stack) : (s.setStack i v).rings = s.rings := rfl
@[simp] theorem State.setStack_readouts (s : State) (i : Nat) (v : Stack) : (s.setStack i v).readouts = s.readouts := rfl
@[simp] theorem State.setStack_scrubRate (s : State) (i : Nat) (v : Stack) : (s.setStack i v).scrubRate = s.scrubRate := rfl
@[simp] theorem State.setStack_xp (s : State) (i : Nat) (v : Stack) : (s.setStack i v).xp = s.xp := rfl
@[simp] theorem State.setStack_planeA (s : State) (i : Nat) (v : Stack) : (s.setStack i v).planeA = s.planeA := rfl
@[simp] theorem State.setStack_planeB (s : State) (i : Nat) (v : Stack) : (s.setStack i v).planeB = s.planeB := rfl
@[simp] theorem State.setStack_repeated (s : State) (i : Nat) (v : Stack) : (s.setStack i v).repeated = s.repeated := rfl
@[simp] theorem State.setStack_inPorts (s : State) (i : Nat) (v : Stack) : (s.setStack i v).inPorts = s.inPorts := rfl
@[simp] theorem State.setStack_de (s : State) (i : Nat) (v : Stack) : (s.setStack i v).de = s.de := rfl
@[simp] theorem State.setStack_tx (s : State) (i : Nat) (v : Stack) : (s.setStack i v).tx = s.tx := rfl
@[simp] theorem State.setStack_au (s : State) (i : Nat) (v : Stack) : (s.setStack i v).au = s.au := rfl
@[simp] theorem State.setStack_mq (s : State) (i : Nat) (v : Stack) : (s.setStack i v).mq = s.mq := rfl
@[simp] theorem State.setStack_veneers (s : State) (i : Nat) (v : Stack) : (s.setStack i v).veneers = s.veneers := rfl
@[simp] theorem State.setStack_dt (s : State) (i : Nat) (v : Stack) : (s.setStack i v).dt = s.dt := rfl
@[simp] theorem State.setStack_ties (s : State) (i : Nat) (v : Stack) : (s.setStack i v).ties = s.ties := rfl
@[simp] theorem State.setStack_depart (s : State) (i : Nat) (v : Stack) : (s.setStack i v).depart = s.depart := rfl
@[simp] theorem State.setStack_group (s : State) (i : Nat) (v : Stack) : (s.setStack i v).group = s.group := rfl
@[simp] theorem State.setStack_linkKeys (s : State) (i : Nat) (v : Stack) : (s.setStack i v).linkKeys = s.linkKeys := rfl
@[simp] theorem State.setStack_pr (s : State) (i : Nat) (v : Stack) : (s.setStack i v).pr = s.pr := rfl
@[simp] theorem State.setStack_fc (s : State) (i : Nat) (v : Stack) : (s.setStack i v).fc = s.fc := rfl
@[simp] theorem State.setStack_faultnLevel (s : State) (i : Nat) (v : Stack) : (s.setStack i v).faultnLevel = s.faultnLevel := rfl
@[simp] theorem State.setStack_ks (s : State) (i : Nat) (v : Stack) : (s.setStack i v).ks = s.ks := rfl
@[simp] theorem State.setStack_gr (s : State) (i : Nat) (v : Stack) : (s.setStack i v).gr = s.gr := rfl
@[simp] theorem State.setStack_ic (s : State) (i : Nat) (v : Stack) : (s.setStack i v).ic = s.ic := rfl
@[simp] theorem State.setStack_dma (s : State) (i : Nat) (v : Stack) : (s.setStack i v).dma = s.dma := rfl
@[simp] theorem State.setStack_dmaLast (s : State) (i : Nat) (v : Stack) : (s.setStack i v).dmaLast = s.dmaLast := rfl
@[simp] theorem State.setStack_hostMem (s : State) (i : Nat) (v : Stack) : (s.setStack i v).hostMem = s.hostMem := rfl
@[simp] theorem State.setStack_hbm (s : State) (i : Nat) (v : Stack) : (s.setStack i v).hbm = s.hbm := rfl
@[simp] theorem State.setStack_hbm2 (s : State) (i : Nat) (v : Stack) : (s.setStack i v).hbm2 = s.hbm2 := rfl
@[simp] theorem State.setStack_sram (s : State) (i : Nat) (v : Stack) : (s.setStack i v).sram = s.sram := rfl
@[simp] theorem State.setStack_hostBad (s : State) (i : Nat) (v : Stack) : (s.setStack i v).hostBad = s.hostBad := rfl
@[simp] theorem State.setStack_ln (s : State) (i : Nat) (v : Stack) : (s.setStack i v).ln = s.ln := rfl
@[simp] theorem State.setStack_ep (s : State) (i : Nat) (v : Stack) : (s.setStack i v).ep = s.ep := rfl
@[simp] theorem State.setStack_sub (s : State) (i : Nat) (v : Stack) : (s.setStack i v).sub = s.sub := rfl
@[simp] theorem State.setStack_pw (s : State) (i : Nat) (v : Stack) : (s.setStack i v).pw = s.pw := rfl
@[simp] theorem State.setStack_tol (s : State) (i : Nat) (v : Stack) : (s.setStack i v).tol = s.tol := rfl

/-! ## Writing `out` -/

@[simp] theorem State.out_setOut (s : State) (i : Nat) (v : OutPort) : (s.setOut i v).out i = v := Tbl.get_set_self ..
theorem State.out_setOut_ne (s : State) {i j : Nat} (v : OutPort) (h : j ≠ i) : (s.setOut i v).out j = s.out j :=
  Tbl.get_set_ne _ _ h
@[simp] theorem State.updOut_eq (s : State) (i : Nat) (f : OutPort → OutPort) : s.updOut i f = s.setOut i (f (s.out i)) := rfl
@[simp] theorem State.setOut_pending (s : State) (i : Nat) (v : OutPort) : (s.setOut i v).pending = s.pending := rfl
@[simp] theorem State.setOut_clk (s : State) (i : Nat) (v : OutPort) : (s.setOut i v).clk = s.clk := rfl
@[simp] theorem State.setOut_clkFrac (s : State) (i : Nat) (v : OutPort) : (s.setOut i v).clkFrac = s.clkFrac := rfl
@[simp] theorem State.setOut_cycles (s : State) (i : Nat) (v : OutPort) : (s.setOut i v).cycles = s.cycles := rfl
@[simp] theorem State.setOut_fuses (s : State) (i : Nat) (v : OutPort) : (s.setOut i v).fuses = s.fuses := rfl
@[simp] theorem State.setOut_straps (s : State) (i : Nat) (v : OutPort) : (s.setOut i v).straps = s.straps := rfl
@[simp] theorem State.setOut_startup (s : State) (i : Nat) (v : OutPort) : (s.setOut i v).startup = s.startup := rfl
@[simp] theorem State.setOut_glb (s : State) (i : Nat) (v : OutPort) : (s.setOut i v).glb = s.glb := rfl
@[simp] theorem State.setOut_pins (s : State) (i : Nat) (v : OutPort) : (s.setOut i v).pins = s.pins := rfl
@[simp] theorem State.setOut_boot (s : State) (i : Nat) (v : OutPort) : (s.setOut i v).boot = s.boot := rfl
@[simp] theorem State.setOut_mb (s : State) (i : Nat) (v : OutPort) : (s.setOut i v).mb = s.mb := rfl
@[simp] theorem State.setOut_bx (s : State) (i : Nat) (v : OutPort) : (s.setOut i v).bx = s.bx := rfl
@[simp] theorem State.setOut_rf (s : State) (i : Nat) (v : OutPort) : (s.setOut i v).rf = s.rf := rfl
@[simp] theorem State.setOut_td (s : State) (i : Nat) (v : OutPort) : (s.setOut i v).td = s.td := rfl
@[simp] theorem State.setOut_tb (s : State) (i : Nat) (v : OutPort) : (s.setOut i v).tb = s.tb := rfl
@[simp] theorem State.setOut_ptp (s : State) (i : Nat) (v : OutPort) : (s.setOut i v).ptp = s.ptp := rfl
@[simp] theorem State.setOut_tsq (s : State) (i : Nat) (v : OutPort) : (s.setOut i v).tsq = s.tsq := rfl
@[simp] theorem State.setOut_sr (s : State) (i : Nat) (v : OutPort) : (s.setOut i v).sr = s.sr := rfl
@[simp] theorem State.setOut_rx (s : State) (i : Nat) (v : OutPort) : (s.setOut i v).rx = s.rx := rfl
@[simp] theorem State.setOut_rings (s : State) (i : Nat) (v : OutPort) : (s.setOut i v).rings = s.rings := rfl
@[simp] theorem State.setOut_readouts (s : State) (i : Nat) (v : OutPort) : (s.setOut i v).readouts = s.readouts := rfl
@[simp] theorem State.setOut_hbmStacks (s : State) (i : Nat) (v : OutPort) : (s.setOut i v).hbmStacks = s.hbmStacks := rfl
@[simp] theorem State.setOut_scrubRate (s : State) (i : Nat) (v : OutPort) : (s.setOut i v).scrubRate = s.scrubRate := rfl
@[simp] theorem State.setOut_planeA (s : State) (i : Nat) (v : OutPort) : (s.setOut i v).planeA = s.planeA := rfl
@[simp] theorem State.setOut_planeB (s : State) (i : Nat) (v : OutPort) : (s.setOut i v).planeB = s.planeB := rfl
@[simp] theorem State.setOut_repeated (s : State) (i : Nat) (v : OutPort) : (s.setOut i v).repeated = s.repeated := rfl
@[simp] theorem State.setOut_inPorts (s : State) (i : Nat) (v : OutPort) : (s.setOut i v).inPorts = s.inPorts := rfl
@[simp] theorem State.setOut_de (s : State) (i : Nat) (v : OutPort) : (s.setOut i v).de = s.de := rfl
@[simp] theorem State.setOut_tx (s : State) (i : Nat) (v : OutPort) : (s.setOut i v).tx = s.tx := rfl
@[simp] theorem State.setOut_au (s : State) (i : Nat) (v : OutPort) : (s.setOut i v).au = s.au := rfl
@[simp] theorem State.setOut_mq (s : State) (i : Nat) (v : OutPort) : (s.setOut i v).mq = s.mq := rfl
@[simp] theorem State.setOut_veneers (s : State) (i : Nat) (v : OutPort) : (s.setOut i v).veneers = s.veneers := rfl
@[simp] theorem State.setOut_dt (s : State) (i : Nat) (v : OutPort) : (s.setOut i v).dt = s.dt := rfl
@[simp] theorem State.setOut_ties (s : State) (i : Nat) (v : OutPort) : (s.setOut i v).ties = s.ties := rfl
@[simp] theorem State.setOut_depart (s : State) (i : Nat) (v : OutPort) : (s.setOut i v).depart = s.depart := rfl
@[simp] theorem State.setOut_group (s : State) (i : Nat) (v : OutPort) : (s.setOut i v).group = s.group := rfl
@[simp] theorem State.setOut_linkKeys (s : State) (i : Nat) (v : OutPort) : (s.setOut i v).linkKeys = s.linkKeys := rfl
@[simp] theorem State.setOut_pr (s : State) (i : Nat) (v : OutPort) : (s.setOut i v).pr = s.pr := rfl
@[simp] theorem State.setOut_fc (s : State) (i : Nat) (v : OutPort) : (s.setOut i v).fc = s.fc := rfl
@[simp] theorem State.setOut_faultnLevel (s : State) (i : Nat) (v : OutPort) : (s.setOut i v).faultnLevel = s.faultnLevel := rfl
@[simp] theorem State.setOut_ks (s : State) (i : Nat) (v : OutPort) : (s.setOut i v).ks = s.ks := rfl
@[simp] theorem State.setOut_gr (s : State) (i : Nat) (v : OutPort) : (s.setOut i v).gr = s.gr := rfl
@[simp] theorem State.setOut_ic (s : State) (i : Nat) (v : OutPort) : (s.setOut i v).ic = s.ic := rfl
@[simp] theorem State.setOut_dma (s : State) (i : Nat) (v : OutPort) : (s.setOut i v).dma = s.dma := rfl
@[simp] theorem State.setOut_dmaLast (s : State) (i : Nat) (v : OutPort) : (s.setOut i v).dmaLast = s.dmaLast := rfl
@[simp] theorem State.setOut_hostMem (s : State) (i : Nat) (v : OutPort) : (s.setOut i v).hostMem = s.hostMem := rfl
@[simp] theorem State.setOut_hbm (s : State) (i : Nat) (v : OutPort) : (s.setOut i v).hbm = s.hbm := rfl
@[simp] theorem State.setOut_hbm2 (s : State) (i : Nat) (v : OutPort) : (s.setOut i v).hbm2 = s.hbm2 := rfl
@[simp] theorem State.setOut_sram (s : State) (i : Nat) (v : OutPort) : (s.setOut i v).sram = s.sram := rfl
@[simp] theorem State.setOut_hostBad (s : State) (i : Nat) (v : OutPort) : (s.setOut i v).hostBad = s.hostBad := rfl
@[simp] theorem State.setOut_ln (s : State) (i : Nat) (v : OutPort) : (s.setOut i v).ln = s.ln := rfl
@[simp] theorem State.setOut_ep (s : State) (i : Nat) (v : OutPort) : (s.setOut i v).ep = s.ep := rfl
@[simp] theorem State.setOut_sub (s : State) (i : Nat) (v : OutPort) : (s.setOut i v).sub = s.sub := rfl
@[simp] theorem State.setOut_pw (s : State) (i : Nat) (v : OutPort) : (s.setOut i v).pw = s.pw := rfl
@[simp] theorem State.setOut_tol (s : State) (i : Nat) (v : OutPort) : (s.setOut i v).tol = s.tol := rfl

/-! ## Writing `dest` -/

@[simp] theorem State.dest_setDest (s : State) (i : Nat) (v : Dest) : (s.setDest i v).dest i = v := Tbl.get_set_self ..
theorem State.dest_setDest_ne (s : State) {i j : Nat} (v : Dest) (h : j ≠ i) : (s.setDest i v).dest j = s.dest j :=
  Tbl.get_set_ne _ _ h
@[simp] theorem State.updDest_eq (s : State) (i : Nat) (f : Dest → Dest) : s.updDest i f = s.setDest i (f (s.dest i)) := rfl
@[simp] theorem State.setDest_pending (s : State) (i : Nat) (v : Dest) : (s.setDest i v).pending = s.pending := rfl
@[simp] theorem State.setDest_clk (s : State) (i : Nat) (v : Dest) : (s.setDest i v).clk = s.clk := rfl
@[simp] theorem State.setDest_clkFrac (s : State) (i : Nat) (v : Dest) : (s.setDest i v).clkFrac = s.clkFrac := rfl
@[simp] theorem State.setDest_cycles (s : State) (i : Nat) (v : Dest) : (s.setDest i v).cycles = s.cycles := rfl
@[simp] theorem State.setDest_fuses (s : State) (i : Nat) (v : Dest) : (s.setDest i v).fuses = s.fuses := rfl
@[simp] theorem State.setDest_straps (s : State) (i : Nat) (v : Dest) : (s.setDest i v).straps = s.straps := rfl
@[simp] theorem State.setDest_startup (s : State) (i : Nat) (v : Dest) : (s.setDest i v).startup = s.startup := rfl
@[simp] theorem State.setDest_glb (s : State) (i : Nat) (v : Dest) : (s.setDest i v).glb = s.glb := rfl
@[simp] theorem State.setDest_pins (s : State) (i : Nat) (v : Dest) : (s.setDest i v).pins = s.pins := rfl
@[simp] theorem State.setDest_boot (s : State) (i : Nat) (v : Dest) : (s.setDest i v).boot = s.boot := rfl
@[simp] theorem State.setDest_mb (s : State) (i : Nat) (v : Dest) : (s.setDest i v).mb = s.mb := rfl
@[simp] theorem State.setDest_bx (s : State) (i : Nat) (v : Dest) : (s.setDest i v).bx = s.bx := rfl
@[simp] theorem State.setDest_rf (s : State) (i : Nat) (v : Dest) : (s.setDest i v).rf = s.rf := rfl
@[simp] theorem State.setDest_td (s : State) (i : Nat) (v : Dest) : (s.setDest i v).td = s.td := rfl
@[simp] theorem State.setDest_tb (s : State) (i : Nat) (v : Dest) : (s.setDest i v).tb = s.tb := rfl
@[simp] theorem State.setDest_ptp (s : State) (i : Nat) (v : Dest) : (s.setDest i v).ptp = s.ptp := rfl
@[simp] theorem State.setDest_tsq (s : State) (i : Nat) (v : Dest) : (s.setDest i v).tsq = s.tsq := rfl
@[simp] theorem State.setDest_sr (s : State) (i : Nat) (v : Dest) : (s.setDest i v).sr = s.sr := rfl
@[simp] theorem State.setDest_rx (s : State) (i : Nat) (v : Dest) : (s.setDest i v).rx = s.rx := rfl
@[simp] theorem State.setDest_rings (s : State) (i : Nat) (v : Dest) : (s.setDest i v).rings = s.rings := rfl
@[simp] theorem State.setDest_readouts (s : State) (i : Nat) (v : Dest) : (s.setDest i v).readouts = s.readouts := rfl
@[simp] theorem State.setDest_hbmStacks (s : State) (i : Nat) (v : Dest) : (s.setDest i v).hbmStacks = s.hbmStacks := rfl
@[simp] theorem State.setDest_scrubRate (s : State) (i : Nat) (v : Dest) : (s.setDest i v).scrubRate = s.scrubRate := rfl
@[simp] theorem State.setDest_xp (s : State) (i : Nat) (v : Dest) : (s.setDest i v).xp = s.xp := rfl
@[simp] theorem State.setDest_planeA (s : State) (i : Nat) (v : Dest) : (s.setDest i v).planeA = s.planeA := rfl
@[simp] theorem State.setDest_planeB (s : State) (i : Nat) (v : Dest) : (s.setDest i v).planeB = s.planeB := rfl
@[simp] theorem State.setDest_repeated (s : State) (i : Nat) (v : Dest) : (s.setDest i v).repeated = s.repeated := rfl
@[simp] theorem State.setDest_inPorts (s : State) (i : Nat) (v : Dest) : (s.setDest i v).inPorts = s.inPorts := rfl
@[simp] theorem State.setDest_tx (s : State) (i : Nat) (v : Dest) : (s.setDest i v).tx = s.tx := rfl
@[simp] theorem State.setDest_au (s : State) (i : Nat) (v : Dest) : (s.setDest i v).au = s.au := rfl
@[simp] theorem State.setDest_mq (s : State) (i : Nat) (v : Dest) : (s.setDest i v).mq = s.mq := rfl
@[simp] theorem State.setDest_veneers (s : State) (i : Nat) (v : Dest) : (s.setDest i v).veneers = s.veneers := rfl
@[simp] theorem State.setDest_dt (s : State) (i : Nat) (v : Dest) : (s.setDest i v).dt = s.dt := rfl
@[simp] theorem State.setDest_ties (s : State) (i : Nat) (v : Dest) : (s.setDest i v).ties = s.ties := rfl
@[simp] theorem State.setDest_depart (s : State) (i : Nat) (v : Dest) : (s.setDest i v).depart = s.depart := rfl
@[simp] theorem State.setDest_group (s : State) (i : Nat) (v : Dest) : (s.setDest i v).group = s.group := rfl
@[simp] theorem State.setDest_linkKeys (s : State) (i : Nat) (v : Dest) : (s.setDest i v).linkKeys = s.linkKeys := rfl
@[simp] theorem State.setDest_pr (s : State) (i : Nat) (v : Dest) : (s.setDest i v).pr = s.pr := rfl
@[simp] theorem State.setDest_fc (s : State) (i : Nat) (v : Dest) : (s.setDest i v).fc = s.fc := rfl
@[simp] theorem State.setDest_faultnLevel (s : State) (i : Nat) (v : Dest) : (s.setDest i v).faultnLevel = s.faultnLevel := rfl
@[simp] theorem State.setDest_ks (s : State) (i : Nat) (v : Dest) : (s.setDest i v).ks = s.ks := rfl
@[simp] theorem State.setDest_gr (s : State) (i : Nat) (v : Dest) : (s.setDest i v).gr = s.gr := rfl
@[simp] theorem State.setDest_ic (s : State) (i : Nat) (v : Dest) : (s.setDest i v).ic = s.ic := rfl
@[simp] theorem State.setDest_dma (s : State) (i : Nat) (v : Dest) : (s.setDest i v).dma = s.dma := rfl
@[simp] theorem State.setDest_dmaLast (s : State) (i : Nat) (v : Dest) : (s.setDest i v).dmaLast = s.dmaLast := rfl
@[simp] theorem State.setDest_hostMem (s : State) (i : Nat) (v : Dest) : (s.setDest i v).hostMem = s.hostMem := rfl
@[simp] theorem State.setDest_hbm (s : State) (i : Nat) (v : Dest) : (s.setDest i v).hbm = s.hbm := rfl
@[simp] theorem State.setDest_hbm2 (s : State) (i : Nat) (v : Dest) : (s.setDest i v).hbm2 = s.hbm2 := rfl
@[simp] theorem State.setDest_sram (s : State) (i : Nat) (v : Dest) : (s.setDest i v).sram = s.sram := rfl
@[simp] theorem State.setDest_hostBad (s : State) (i : Nat) (v : Dest) : (s.setDest i v).hostBad = s.hostBad := rfl
@[simp] theorem State.setDest_ln (s : State) (i : Nat) (v : Dest) : (s.setDest i v).ln = s.ln := rfl
@[simp] theorem State.setDest_ep (s : State) (i : Nat) (v : Dest) : (s.setDest i v).ep = s.ep := rfl
@[simp] theorem State.setDest_sub (s : State) (i : Nat) (v : Dest) : (s.setDest i v).sub = s.sub := rfl
@[simp] theorem State.setDest_pw (s : State) (i : Nat) (v : Dest) : (s.setDest i v).pw = s.pw := rfl
@[simp] theorem State.setDest_tol (s : State) (i : Nat) (v : Dest) : (s.setDest i v).tol = s.tol := rfl

/-! ## Writing `txFlow` -/

@[simp] theorem State.txFlow_setTxFlow (s : State) (i : Nat) (v : TxFlow) : (s.setTxFlow i v).txFlow i = v := Tbl.get_set_self ..
theorem State.txFlow_setTxFlow_ne (s : State) {i j : Nat} (v : TxFlow) (h : j ≠ i) : (s.setTxFlow i v).txFlow j = s.txFlow j :=
  Tbl.get_set_ne _ _ h
@[simp] theorem State.updTxFlow_eq (s : State) (i : Nat) (f : TxFlow → TxFlow) : s.updTxFlow i f = s.setTxFlow i (f (s.txFlow i)) := rfl
@[simp] theorem State.setTxFlow_pending (s : State) (i : Nat) (v : TxFlow) : (s.setTxFlow i v).pending = s.pending := rfl
@[simp] theorem State.setTxFlow_clk (s : State) (i : Nat) (v : TxFlow) : (s.setTxFlow i v).clk = s.clk := rfl
@[simp] theorem State.setTxFlow_clkFrac (s : State) (i : Nat) (v : TxFlow) : (s.setTxFlow i v).clkFrac = s.clkFrac := rfl
@[simp] theorem State.setTxFlow_cycles (s : State) (i : Nat) (v : TxFlow) : (s.setTxFlow i v).cycles = s.cycles := rfl
@[simp] theorem State.setTxFlow_fuses (s : State) (i : Nat) (v : TxFlow) : (s.setTxFlow i v).fuses = s.fuses := rfl
@[simp] theorem State.setTxFlow_straps (s : State) (i : Nat) (v : TxFlow) : (s.setTxFlow i v).straps = s.straps := rfl
@[simp] theorem State.setTxFlow_startup (s : State) (i : Nat) (v : TxFlow) : (s.setTxFlow i v).startup = s.startup := rfl
@[simp] theorem State.setTxFlow_glb (s : State) (i : Nat) (v : TxFlow) : (s.setTxFlow i v).glb = s.glb := rfl
@[simp] theorem State.setTxFlow_pins (s : State) (i : Nat) (v : TxFlow) : (s.setTxFlow i v).pins = s.pins := rfl
@[simp] theorem State.setTxFlow_boot (s : State) (i : Nat) (v : TxFlow) : (s.setTxFlow i v).boot = s.boot := rfl
@[simp] theorem State.setTxFlow_mb (s : State) (i : Nat) (v : TxFlow) : (s.setTxFlow i v).mb = s.mb := rfl
@[simp] theorem State.setTxFlow_bx (s : State) (i : Nat) (v : TxFlow) : (s.setTxFlow i v).bx = s.bx := rfl
@[simp] theorem State.setTxFlow_rf (s : State) (i : Nat) (v : TxFlow) : (s.setTxFlow i v).rf = s.rf := rfl
@[simp] theorem State.setTxFlow_td (s : State) (i : Nat) (v : TxFlow) : (s.setTxFlow i v).td = s.td := rfl
@[simp] theorem State.setTxFlow_tb (s : State) (i : Nat) (v : TxFlow) : (s.setTxFlow i v).tb = s.tb := rfl
@[simp] theorem State.setTxFlow_ptp (s : State) (i : Nat) (v : TxFlow) : (s.setTxFlow i v).ptp = s.ptp := rfl
@[simp] theorem State.setTxFlow_tsq (s : State) (i : Nat) (v : TxFlow) : (s.setTxFlow i v).tsq = s.tsq := rfl
@[simp] theorem State.setTxFlow_sr (s : State) (i : Nat) (v : TxFlow) : (s.setTxFlow i v).sr = s.sr := rfl
@[simp] theorem State.setTxFlow_rx (s : State) (i : Nat) (v : TxFlow) : (s.setTxFlow i v).rx = s.rx := rfl
@[simp] theorem State.setTxFlow_rings (s : State) (i : Nat) (v : TxFlow) : (s.setTxFlow i v).rings = s.rings := rfl
@[simp] theorem State.setTxFlow_readouts (s : State) (i : Nat) (v : TxFlow) : (s.setTxFlow i v).readouts = s.readouts := rfl
@[simp] theorem State.setTxFlow_hbmStacks (s : State) (i : Nat) (v : TxFlow) : (s.setTxFlow i v).hbmStacks = s.hbmStacks := rfl
@[simp] theorem State.setTxFlow_scrubRate (s : State) (i : Nat) (v : TxFlow) : (s.setTxFlow i v).scrubRate = s.scrubRate := rfl
@[simp] theorem State.setTxFlow_xp (s : State) (i : Nat) (v : TxFlow) : (s.setTxFlow i v).xp = s.xp := rfl
@[simp] theorem State.setTxFlow_planeA (s : State) (i : Nat) (v : TxFlow) : (s.setTxFlow i v).planeA = s.planeA := rfl
@[simp] theorem State.setTxFlow_planeB (s : State) (i : Nat) (v : TxFlow) : (s.setTxFlow i v).planeB = s.planeB := rfl
@[simp] theorem State.setTxFlow_repeated (s : State) (i : Nat) (v : TxFlow) : (s.setTxFlow i v).repeated = s.repeated := rfl
@[simp] theorem State.setTxFlow_inPorts (s : State) (i : Nat) (v : TxFlow) : (s.setTxFlow i v).inPorts = s.inPorts := rfl
@[simp] theorem State.setTxFlow_de (s : State) (i : Nat) (v : TxFlow) : (s.setTxFlow i v).de = s.de := rfl
@[simp] theorem State.setTxFlow_au (s : State) (i : Nat) (v : TxFlow) : (s.setTxFlow i v).au = s.au := rfl
@[simp] theorem State.setTxFlow_mq (s : State) (i : Nat) (v : TxFlow) : (s.setTxFlow i v).mq = s.mq := rfl
@[simp] theorem State.setTxFlow_veneers (s : State) (i : Nat) (v : TxFlow) : (s.setTxFlow i v).veneers = s.veneers := rfl
@[simp] theorem State.setTxFlow_dt (s : State) (i : Nat) (v : TxFlow) : (s.setTxFlow i v).dt = s.dt := rfl
@[simp] theorem State.setTxFlow_ties (s : State) (i : Nat) (v : TxFlow) : (s.setTxFlow i v).ties = s.ties := rfl
@[simp] theorem State.setTxFlow_depart (s : State) (i : Nat) (v : TxFlow) : (s.setTxFlow i v).depart = s.depart := rfl
@[simp] theorem State.setTxFlow_group (s : State) (i : Nat) (v : TxFlow) : (s.setTxFlow i v).group = s.group := rfl
@[simp] theorem State.setTxFlow_linkKeys (s : State) (i : Nat) (v : TxFlow) : (s.setTxFlow i v).linkKeys = s.linkKeys := rfl
@[simp] theorem State.setTxFlow_pr (s : State) (i : Nat) (v : TxFlow) : (s.setTxFlow i v).pr = s.pr := rfl
@[simp] theorem State.setTxFlow_fc (s : State) (i : Nat) (v : TxFlow) : (s.setTxFlow i v).fc = s.fc := rfl
@[simp] theorem State.setTxFlow_faultnLevel (s : State) (i : Nat) (v : TxFlow) : (s.setTxFlow i v).faultnLevel = s.faultnLevel := rfl
@[simp] theorem State.setTxFlow_ks (s : State) (i : Nat) (v : TxFlow) : (s.setTxFlow i v).ks = s.ks := rfl
@[simp] theorem State.setTxFlow_gr (s : State) (i : Nat) (v : TxFlow) : (s.setTxFlow i v).gr = s.gr := rfl
@[simp] theorem State.setTxFlow_ic (s : State) (i : Nat) (v : TxFlow) : (s.setTxFlow i v).ic = s.ic := rfl
@[simp] theorem State.setTxFlow_dma (s : State) (i : Nat) (v : TxFlow) : (s.setTxFlow i v).dma = s.dma := rfl
@[simp] theorem State.setTxFlow_dmaLast (s : State) (i : Nat) (v : TxFlow) : (s.setTxFlow i v).dmaLast = s.dmaLast := rfl
@[simp] theorem State.setTxFlow_hostMem (s : State) (i : Nat) (v : TxFlow) : (s.setTxFlow i v).hostMem = s.hostMem := rfl
@[simp] theorem State.setTxFlow_hbm (s : State) (i : Nat) (v : TxFlow) : (s.setTxFlow i v).hbm = s.hbm := rfl
@[simp] theorem State.setTxFlow_hbm2 (s : State) (i : Nat) (v : TxFlow) : (s.setTxFlow i v).hbm2 = s.hbm2 := rfl
@[simp] theorem State.setTxFlow_sram (s : State) (i : Nat) (v : TxFlow) : (s.setTxFlow i v).sram = s.sram := rfl
@[simp] theorem State.setTxFlow_hostBad (s : State) (i : Nat) (v : TxFlow) : (s.setTxFlow i v).hostBad = s.hostBad := rfl
@[simp] theorem State.setTxFlow_ln (s : State) (i : Nat) (v : TxFlow) : (s.setTxFlow i v).ln = s.ln := rfl
@[simp] theorem State.setTxFlow_ep (s : State) (i : Nat) (v : TxFlow) : (s.setTxFlow i v).ep = s.ep := rfl
@[simp] theorem State.setTxFlow_sub (s : State) (i : Nat) (v : TxFlow) : (s.setTxFlow i v).sub = s.sub := rfl
@[simp] theorem State.setTxFlow_pw (s : State) (i : Nat) (v : TxFlow) : (s.setTxFlow i v).pw = s.pw := rfl
@[simp] theorem State.setTxFlow_tol (s : State) (i : Nat) (v : TxFlow) : (s.setTxFlow i v).tol = s.tol := rfl

/-! ## Writing `engine` -/

@[simp] theorem State.engine_setEngine (s : State) (i : Nat) (v : Engine) : (s.setEngine i v).engine i = v := Tbl.get_set_self ..
theorem State.engine_setEngine_ne (s : State) {i j : Nat} (v : Engine) (h : j ≠ i) : (s.setEngine i v).engine j = s.engine j :=
  Tbl.get_set_ne _ _ h
@[simp] theorem State.updEngine_eq (s : State) (i : Nat) (f : Engine → Engine) : s.updEngine i f = s.setEngine i (f (s.engine i)) := rfl
@[simp] theorem State.setEngine_pending (s : State) (i : Nat) (v : Engine) : (s.setEngine i v).pending = s.pending := rfl
@[simp] theorem State.setEngine_clk (s : State) (i : Nat) (v : Engine) : (s.setEngine i v).clk = s.clk := rfl
@[simp] theorem State.setEngine_clkFrac (s : State) (i : Nat) (v : Engine) : (s.setEngine i v).clkFrac = s.clkFrac := rfl
@[simp] theorem State.setEngine_cycles (s : State) (i : Nat) (v : Engine) : (s.setEngine i v).cycles = s.cycles := rfl
@[simp] theorem State.setEngine_fuses (s : State) (i : Nat) (v : Engine) : (s.setEngine i v).fuses = s.fuses := rfl
@[simp] theorem State.setEngine_straps (s : State) (i : Nat) (v : Engine) : (s.setEngine i v).straps = s.straps := rfl
@[simp] theorem State.setEngine_startup (s : State) (i : Nat) (v : Engine) : (s.setEngine i v).startup = s.startup := rfl
@[simp] theorem State.setEngine_glb (s : State) (i : Nat) (v : Engine) : (s.setEngine i v).glb = s.glb := rfl
@[simp] theorem State.setEngine_pins (s : State) (i : Nat) (v : Engine) : (s.setEngine i v).pins = s.pins := rfl
@[simp] theorem State.setEngine_boot (s : State) (i : Nat) (v : Engine) : (s.setEngine i v).boot = s.boot := rfl
@[simp] theorem State.setEngine_mb (s : State) (i : Nat) (v : Engine) : (s.setEngine i v).mb = s.mb := rfl
@[simp] theorem State.setEngine_bx (s : State) (i : Nat) (v : Engine) : (s.setEngine i v).bx = s.bx := rfl
@[simp] theorem State.setEngine_rf (s : State) (i : Nat) (v : Engine) : (s.setEngine i v).rf = s.rf := rfl
@[simp] theorem State.setEngine_td (s : State) (i : Nat) (v : Engine) : (s.setEngine i v).td = s.td := rfl
@[simp] theorem State.setEngine_tb (s : State) (i : Nat) (v : Engine) : (s.setEngine i v).tb = s.tb := rfl
@[simp] theorem State.setEngine_ptp (s : State) (i : Nat) (v : Engine) : (s.setEngine i v).ptp = s.ptp := rfl
@[simp] theorem State.setEngine_tsq (s : State) (i : Nat) (v : Engine) : (s.setEngine i v).tsq = s.tsq := rfl
@[simp] theorem State.setEngine_sr (s : State) (i : Nat) (v : Engine) : (s.setEngine i v).sr = s.sr := rfl
@[simp] theorem State.setEngine_rx (s : State) (i : Nat) (v : Engine) : (s.setEngine i v).rx = s.rx := rfl
@[simp] theorem State.setEngine_rings (s : State) (i : Nat) (v : Engine) : (s.setEngine i v).rings = s.rings := rfl
@[simp] theorem State.setEngine_readouts (s : State) (i : Nat) (v : Engine) : (s.setEngine i v).readouts = s.readouts := rfl
@[simp] theorem State.setEngine_hbmStacks (s : State) (i : Nat) (v : Engine) : (s.setEngine i v).hbmStacks = s.hbmStacks := rfl
@[simp] theorem State.setEngine_scrubRate (s : State) (i : Nat) (v : Engine) : (s.setEngine i v).scrubRate = s.scrubRate := rfl
@[simp] theorem State.setEngine_xp (s : State) (i : Nat) (v : Engine) : (s.setEngine i v).xp = s.xp := rfl
@[simp] theorem State.setEngine_planeA (s : State) (i : Nat) (v : Engine) : (s.setEngine i v).planeA = s.planeA := rfl
@[simp] theorem State.setEngine_planeB (s : State) (i : Nat) (v : Engine) : (s.setEngine i v).planeB = s.planeB := rfl
@[simp] theorem State.setEngine_repeated (s : State) (i : Nat) (v : Engine) : (s.setEngine i v).repeated = s.repeated := rfl
@[simp] theorem State.setEngine_inPorts (s : State) (i : Nat) (v : Engine) : (s.setEngine i v).inPorts = s.inPorts := rfl
@[simp] theorem State.setEngine_de (s : State) (i : Nat) (v : Engine) : (s.setEngine i v).de = s.de := rfl
@[simp] theorem State.setEngine_tx (s : State) (i : Nat) (v : Engine) : (s.setEngine i v).tx = s.tx := rfl
@[simp] theorem State.setEngine_au (s : State) (i : Nat) (v : Engine) : (s.setEngine i v).au = s.au := rfl
@[simp] theorem State.setEngine_veneers (s : State) (i : Nat) (v : Engine) : (s.setEngine i v).veneers = s.veneers := rfl
@[simp] theorem State.setEngine_dt (s : State) (i : Nat) (v : Engine) : (s.setEngine i v).dt = s.dt := rfl
@[simp] theorem State.setEngine_ties (s : State) (i : Nat) (v : Engine) : (s.setEngine i v).ties = s.ties := rfl
@[simp] theorem State.setEngine_depart (s : State) (i : Nat) (v : Engine) : (s.setEngine i v).depart = s.depart := rfl
@[simp] theorem State.setEngine_group (s : State) (i : Nat) (v : Engine) : (s.setEngine i v).group = s.group := rfl
@[simp] theorem State.setEngine_linkKeys (s : State) (i : Nat) (v : Engine) : (s.setEngine i v).linkKeys = s.linkKeys := rfl
@[simp] theorem State.setEngine_pr (s : State) (i : Nat) (v : Engine) : (s.setEngine i v).pr = s.pr := rfl
@[simp] theorem State.setEngine_fc (s : State) (i : Nat) (v : Engine) : (s.setEngine i v).fc = s.fc := rfl
@[simp] theorem State.setEngine_faultnLevel (s : State) (i : Nat) (v : Engine) : (s.setEngine i v).faultnLevel = s.faultnLevel := rfl
@[simp] theorem State.setEngine_ks (s : State) (i : Nat) (v : Engine) : (s.setEngine i v).ks = s.ks := rfl
@[simp] theorem State.setEngine_gr (s : State) (i : Nat) (v : Engine) : (s.setEngine i v).gr = s.gr := rfl
@[simp] theorem State.setEngine_ic (s : State) (i : Nat) (v : Engine) : (s.setEngine i v).ic = s.ic := rfl
@[simp] theorem State.setEngine_dma (s : State) (i : Nat) (v : Engine) : (s.setEngine i v).dma = s.dma := rfl
@[simp] theorem State.setEngine_dmaLast (s : State) (i : Nat) (v : Engine) : (s.setEngine i v).dmaLast = s.dmaLast := rfl
@[simp] theorem State.setEngine_hostMem (s : State) (i : Nat) (v : Engine) : (s.setEngine i v).hostMem = s.hostMem := rfl
@[simp] theorem State.setEngine_hbm (s : State) (i : Nat) (v : Engine) : (s.setEngine i v).hbm = s.hbm := rfl
@[simp] theorem State.setEngine_hbm2 (s : State) (i : Nat) (v : Engine) : (s.setEngine i v).hbm2 = s.hbm2 := rfl
@[simp] theorem State.setEngine_sram (s : State) (i : Nat) (v : Engine) : (s.setEngine i v).sram = s.sram := rfl
@[simp] theorem State.setEngine_hostBad (s : State) (i : Nat) (v : Engine) : (s.setEngine i v).hostBad = s.hostBad := rfl
@[simp] theorem State.setEngine_ln (s : State) (i : Nat) (v : Engine) : (s.setEngine i v).ln = s.ln := rfl
@[simp] theorem State.setEngine_ep (s : State) (i : Nat) (v : Engine) : (s.setEngine i v).ep = s.ep := rfl
@[simp] theorem State.setEngine_sub (s : State) (i : Nat) (v : Engine) : (s.setEngine i v).sub = s.sub := rfl
@[simp] theorem State.setEngine_pw (s : State) (i : Nat) (v : Engine) : (s.setEngine i v).pw = s.pw := rfl
@[simp] theorem State.setEngine_tol (s : State) (i : Nat) (v : Engine) : (s.setEngine i v).tol = s.tol := rfl

/-! ## Writing `veneer` -/

@[simp] theorem State.veneer_setVeneer (s : State) (i : Nat) (v : Veneer) : (s.setVeneer i v).veneer i = v := Tbl.get_set_self ..
theorem State.veneer_setVeneer_ne (s : State) {i j : Nat} (v : Veneer) (h : j ≠ i) : (s.setVeneer i v).veneer j = s.veneer j :=
  Tbl.get_set_ne _ _ h
@[simp] theorem State.updVeneer_eq (s : State) (i : Nat) (f : Veneer → Veneer) : s.updVeneer i f = s.setVeneer i (f (s.veneer i)) := rfl
@[simp] theorem State.setVeneer_pending (s : State) (i : Nat) (v : Veneer) : (s.setVeneer i v).pending = s.pending := rfl
@[simp] theorem State.setVeneer_clk (s : State) (i : Nat) (v : Veneer) : (s.setVeneer i v).clk = s.clk := rfl
@[simp] theorem State.setVeneer_clkFrac (s : State) (i : Nat) (v : Veneer) : (s.setVeneer i v).clkFrac = s.clkFrac := rfl
@[simp] theorem State.setVeneer_cycles (s : State) (i : Nat) (v : Veneer) : (s.setVeneer i v).cycles = s.cycles := rfl
@[simp] theorem State.setVeneer_fuses (s : State) (i : Nat) (v : Veneer) : (s.setVeneer i v).fuses = s.fuses := rfl
@[simp] theorem State.setVeneer_straps (s : State) (i : Nat) (v : Veneer) : (s.setVeneer i v).straps = s.straps := rfl
@[simp] theorem State.setVeneer_startup (s : State) (i : Nat) (v : Veneer) : (s.setVeneer i v).startup = s.startup := rfl
@[simp] theorem State.setVeneer_glb (s : State) (i : Nat) (v : Veneer) : (s.setVeneer i v).glb = s.glb := rfl
@[simp] theorem State.setVeneer_pins (s : State) (i : Nat) (v : Veneer) : (s.setVeneer i v).pins = s.pins := rfl
@[simp] theorem State.setVeneer_boot (s : State) (i : Nat) (v : Veneer) : (s.setVeneer i v).boot = s.boot := rfl
@[simp] theorem State.setVeneer_mb (s : State) (i : Nat) (v : Veneer) : (s.setVeneer i v).mb = s.mb := rfl
@[simp] theorem State.setVeneer_bx (s : State) (i : Nat) (v : Veneer) : (s.setVeneer i v).bx = s.bx := rfl
@[simp] theorem State.setVeneer_rf (s : State) (i : Nat) (v : Veneer) : (s.setVeneer i v).rf = s.rf := rfl
@[simp] theorem State.setVeneer_td (s : State) (i : Nat) (v : Veneer) : (s.setVeneer i v).td = s.td := rfl
@[simp] theorem State.setVeneer_tb (s : State) (i : Nat) (v : Veneer) : (s.setVeneer i v).tb = s.tb := rfl
@[simp] theorem State.setVeneer_ptp (s : State) (i : Nat) (v : Veneer) : (s.setVeneer i v).ptp = s.ptp := rfl
@[simp] theorem State.setVeneer_tsq (s : State) (i : Nat) (v : Veneer) : (s.setVeneer i v).tsq = s.tsq := rfl
@[simp] theorem State.setVeneer_sr (s : State) (i : Nat) (v : Veneer) : (s.setVeneer i v).sr = s.sr := rfl
@[simp] theorem State.setVeneer_rx (s : State) (i : Nat) (v : Veneer) : (s.setVeneer i v).rx = s.rx := rfl
@[simp] theorem State.setVeneer_rings (s : State) (i : Nat) (v : Veneer) : (s.setVeneer i v).rings = s.rings := rfl
@[simp] theorem State.setVeneer_readouts (s : State) (i : Nat) (v : Veneer) : (s.setVeneer i v).readouts = s.readouts := rfl
@[simp] theorem State.setVeneer_hbmStacks (s : State) (i : Nat) (v : Veneer) : (s.setVeneer i v).hbmStacks = s.hbmStacks := rfl
@[simp] theorem State.setVeneer_scrubRate (s : State) (i : Nat) (v : Veneer) : (s.setVeneer i v).scrubRate = s.scrubRate := rfl
@[simp] theorem State.setVeneer_xp (s : State) (i : Nat) (v : Veneer) : (s.setVeneer i v).xp = s.xp := rfl
@[simp] theorem State.setVeneer_planeA (s : State) (i : Nat) (v : Veneer) : (s.setVeneer i v).planeA = s.planeA := rfl
@[simp] theorem State.setVeneer_planeB (s : State) (i : Nat) (v : Veneer) : (s.setVeneer i v).planeB = s.planeB := rfl
@[simp] theorem State.setVeneer_repeated (s : State) (i : Nat) (v : Veneer) : (s.setVeneer i v).repeated = s.repeated := rfl
@[simp] theorem State.setVeneer_inPorts (s : State) (i : Nat) (v : Veneer) : (s.setVeneer i v).inPorts = s.inPorts := rfl
@[simp] theorem State.setVeneer_de (s : State) (i : Nat) (v : Veneer) : (s.setVeneer i v).de = s.de := rfl
@[simp] theorem State.setVeneer_tx (s : State) (i : Nat) (v : Veneer) : (s.setVeneer i v).tx = s.tx := rfl
@[simp] theorem State.setVeneer_au (s : State) (i : Nat) (v : Veneer) : (s.setVeneer i v).au = s.au := rfl
@[simp] theorem State.setVeneer_mq (s : State) (i : Nat) (v : Veneer) : (s.setVeneer i v).mq = s.mq := rfl
@[simp] theorem State.setVeneer_dt (s : State) (i : Nat) (v : Veneer) : (s.setVeneer i v).dt = s.dt := rfl
@[simp] theorem State.setVeneer_ties (s : State) (i : Nat) (v : Veneer) : (s.setVeneer i v).ties = s.ties := rfl
@[simp] theorem State.setVeneer_depart (s : State) (i : Nat) (v : Veneer) : (s.setVeneer i v).depart = s.depart := rfl
@[simp] theorem State.setVeneer_group (s : State) (i : Nat) (v : Veneer) : (s.setVeneer i v).group = s.group := rfl
@[simp] theorem State.setVeneer_linkKeys (s : State) (i : Nat) (v : Veneer) : (s.setVeneer i v).linkKeys = s.linkKeys := rfl
@[simp] theorem State.setVeneer_pr (s : State) (i : Nat) (v : Veneer) : (s.setVeneer i v).pr = s.pr := rfl
@[simp] theorem State.setVeneer_fc (s : State) (i : Nat) (v : Veneer) : (s.setVeneer i v).fc = s.fc := rfl
@[simp] theorem State.setVeneer_faultnLevel (s : State) (i : Nat) (v : Veneer) : (s.setVeneer i v).faultnLevel = s.faultnLevel := rfl
@[simp] theorem State.setVeneer_ks (s : State) (i : Nat) (v : Veneer) : (s.setVeneer i v).ks = s.ks := rfl
@[simp] theorem State.setVeneer_gr (s : State) (i : Nat) (v : Veneer) : (s.setVeneer i v).gr = s.gr := rfl
@[simp] theorem State.setVeneer_ic (s : State) (i : Nat) (v : Veneer) : (s.setVeneer i v).ic = s.ic := rfl
@[simp] theorem State.setVeneer_dma (s : State) (i : Nat) (v : Veneer) : (s.setVeneer i v).dma = s.dma := rfl
@[simp] theorem State.setVeneer_dmaLast (s : State) (i : Nat) (v : Veneer) : (s.setVeneer i v).dmaLast = s.dmaLast := rfl
@[simp] theorem State.setVeneer_hostMem (s : State) (i : Nat) (v : Veneer) : (s.setVeneer i v).hostMem = s.hostMem := rfl
@[simp] theorem State.setVeneer_hbm (s : State) (i : Nat) (v : Veneer) : (s.setVeneer i v).hbm = s.hbm := rfl
@[simp] theorem State.setVeneer_hbm2 (s : State) (i : Nat) (v : Veneer) : (s.setVeneer i v).hbm2 = s.hbm2 := rfl
@[simp] theorem State.setVeneer_sram (s : State) (i : Nat) (v : Veneer) : (s.setVeneer i v).sram = s.sram := rfl
@[simp] theorem State.setVeneer_hostBad (s : State) (i : Nat) (v : Veneer) : (s.setVeneer i v).hostBad = s.hostBad := rfl
@[simp] theorem State.setVeneer_ln (s : State) (i : Nat) (v : Veneer) : (s.setVeneer i v).ln = s.ln := rfl
@[simp] theorem State.setVeneer_ep (s : State) (i : Nat) (v : Veneer) : (s.setVeneer i v).ep = s.ep := rfl
@[simp] theorem State.setVeneer_sub (s : State) (i : Nat) (v : Veneer) : (s.setVeneer i v).sub = s.sub := rfl
@[simp] theorem State.setVeneer_pw (s : State) (i : Nat) (v : Veneer) : (s.setVeneer i v).pw = s.pw := rfl
@[simp] theorem State.setVeneer_tol (s : State) (i : Nat) (v : Veneer) : (s.setVeneer i v).tol = s.tol := rfl

/-! ## Writing `link` -/

@[simp] theorem State.link_setLink (s : State) (i : Nat) (v : Link) : (s.setLink i v).link i = v := Tbl.get_set_self ..
theorem State.link_setLink_ne (s : State) {i j : Nat} (v : Link) (h : j ≠ i) : (s.setLink i v).link j = s.link j :=
  Tbl.get_set_ne _ _ h
@[simp] theorem State.updLink_eq (s : State) (i : Nat) (f : Link → Link) : s.updLink i f = s.setLink i (f (s.link i)) := rfl
@[simp] theorem State.setLink_pending (s : State) (i : Nat) (v : Link) : (s.setLink i v).pending = s.pending := rfl
@[simp] theorem State.setLink_clk (s : State) (i : Nat) (v : Link) : (s.setLink i v).clk = s.clk := rfl
@[simp] theorem State.setLink_clkFrac (s : State) (i : Nat) (v : Link) : (s.setLink i v).clkFrac = s.clkFrac := rfl
@[simp] theorem State.setLink_cycles (s : State) (i : Nat) (v : Link) : (s.setLink i v).cycles = s.cycles := rfl
@[simp] theorem State.setLink_fuses (s : State) (i : Nat) (v : Link) : (s.setLink i v).fuses = s.fuses := rfl
@[simp] theorem State.setLink_straps (s : State) (i : Nat) (v : Link) : (s.setLink i v).straps = s.straps := rfl
@[simp] theorem State.setLink_startup (s : State) (i : Nat) (v : Link) : (s.setLink i v).startup = s.startup := rfl
@[simp] theorem State.setLink_glb (s : State) (i : Nat) (v : Link) : (s.setLink i v).glb = s.glb := rfl
@[simp] theorem State.setLink_pins (s : State) (i : Nat) (v : Link) : (s.setLink i v).pins = s.pins := rfl
@[simp] theorem State.setLink_boot (s : State) (i : Nat) (v : Link) : (s.setLink i v).boot = s.boot := rfl
@[simp] theorem State.setLink_mb (s : State) (i : Nat) (v : Link) : (s.setLink i v).mb = s.mb := rfl
@[simp] theorem State.setLink_bx (s : State) (i : Nat) (v : Link) : (s.setLink i v).bx = s.bx := rfl
@[simp] theorem State.setLink_rf (s : State) (i : Nat) (v : Link) : (s.setLink i v).rf = s.rf := rfl
@[simp] theorem State.setLink_td (s : State) (i : Nat) (v : Link) : (s.setLink i v).td = s.td := rfl
@[simp] theorem State.setLink_tb (s : State) (i : Nat) (v : Link) : (s.setLink i v).tb = s.tb := rfl
@[simp] theorem State.setLink_ptp (s : State) (i : Nat) (v : Link) : (s.setLink i v).ptp = s.ptp := rfl
@[simp] theorem State.setLink_tsq (s : State) (i : Nat) (v : Link) : (s.setLink i v).tsq = s.tsq := rfl
@[simp] theorem State.setLink_sr (s : State) (i : Nat) (v : Link) : (s.setLink i v).sr = s.sr := rfl
@[simp] theorem State.setLink_rx (s : State) (i : Nat) (v : Link) : (s.setLink i v).rx = s.rx := rfl
@[simp] theorem State.setLink_rings (s : State) (i : Nat) (v : Link) : (s.setLink i v).rings = s.rings := rfl
@[simp] theorem State.setLink_readouts (s : State) (i : Nat) (v : Link) : (s.setLink i v).readouts = s.readouts := rfl
@[simp] theorem State.setLink_hbmStacks (s : State) (i : Nat) (v : Link) : (s.setLink i v).hbmStacks = s.hbmStacks := rfl
@[simp] theorem State.setLink_scrubRate (s : State) (i : Nat) (v : Link) : (s.setLink i v).scrubRate = s.scrubRate := rfl
@[simp] theorem State.setLink_xp (s : State) (i : Nat) (v : Link) : (s.setLink i v).xp = s.xp := rfl
@[simp] theorem State.setLink_planeA (s : State) (i : Nat) (v : Link) : (s.setLink i v).planeA = s.planeA := rfl
@[simp] theorem State.setLink_planeB (s : State) (i : Nat) (v : Link) : (s.setLink i v).planeB = s.planeB := rfl
@[simp] theorem State.setLink_repeated (s : State) (i : Nat) (v : Link) : (s.setLink i v).repeated = s.repeated := rfl
@[simp] theorem State.setLink_inPorts (s : State) (i : Nat) (v : Link) : (s.setLink i v).inPorts = s.inPorts := rfl
@[simp] theorem State.setLink_de (s : State) (i : Nat) (v : Link) : (s.setLink i v).de = s.de := rfl
@[simp] theorem State.setLink_tx (s : State) (i : Nat) (v : Link) : (s.setLink i v).tx = s.tx := rfl
@[simp] theorem State.setLink_au (s : State) (i : Nat) (v : Link) : (s.setLink i v).au = s.au := rfl
@[simp] theorem State.setLink_mq (s : State) (i : Nat) (v : Link) : (s.setLink i v).mq = s.mq := rfl
@[simp] theorem State.setLink_veneers (s : State) (i : Nat) (v : Link) : (s.setLink i v).veneers = s.veneers := rfl
@[simp] theorem State.setLink_ties (s : State) (i : Nat) (v : Link) : (s.setLink i v).ties = s.ties := rfl
@[simp] theorem State.setLink_depart (s : State) (i : Nat) (v : Link) : (s.setLink i v).depart = s.depart := rfl
@[simp] theorem State.setLink_group (s : State) (i : Nat) (v : Link) : (s.setLink i v).group = s.group := rfl
@[simp] theorem State.setLink_linkKeys (s : State) (i : Nat) (v : Link) : (s.setLink i v).linkKeys = s.linkKeys := rfl
@[simp] theorem State.setLink_pr (s : State) (i : Nat) (v : Link) : (s.setLink i v).pr = s.pr := rfl
@[simp] theorem State.setLink_fc (s : State) (i : Nat) (v : Link) : (s.setLink i v).fc = s.fc := rfl
@[simp] theorem State.setLink_faultnLevel (s : State) (i : Nat) (v : Link) : (s.setLink i v).faultnLevel = s.faultnLevel := rfl
@[simp] theorem State.setLink_ks (s : State) (i : Nat) (v : Link) : (s.setLink i v).ks = s.ks := rfl
@[simp] theorem State.setLink_gr (s : State) (i : Nat) (v : Link) : (s.setLink i v).gr = s.gr := rfl
@[simp] theorem State.setLink_ic (s : State) (i : Nat) (v : Link) : (s.setLink i v).ic = s.ic := rfl
@[simp] theorem State.setLink_dma (s : State) (i : Nat) (v : Link) : (s.setLink i v).dma = s.dma := rfl
@[simp] theorem State.setLink_dmaLast (s : State) (i : Nat) (v : Link) : (s.setLink i v).dmaLast = s.dmaLast := rfl
@[simp] theorem State.setLink_hostMem (s : State) (i : Nat) (v : Link) : (s.setLink i v).hostMem = s.hostMem := rfl
@[simp] theorem State.setLink_hbm (s : State) (i : Nat) (v : Link) : (s.setLink i v).hbm = s.hbm := rfl
@[simp] theorem State.setLink_hbm2 (s : State) (i : Nat) (v : Link) : (s.setLink i v).hbm2 = s.hbm2 := rfl
@[simp] theorem State.setLink_sram (s : State) (i : Nat) (v : Link) : (s.setLink i v).sram = s.sram := rfl
@[simp] theorem State.setLink_hostBad (s : State) (i : Nat) (v : Link) : (s.setLink i v).hostBad = s.hostBad := rfl
@[simp] theorem State.setLink_ln (s : State) (i : Nat) (v : Link) : (s.setLink i v).ln = s.ln := rfl
@[simp] theorem State.setLink_ep (s : State) (i : Nat) (v : Link) : (s.setLink i v).ep = s.ep := rfl
@[simp] theorem State.setLink_sub (s : State) (i : Nat) (v : Link) : (s.setLink i v).sub = s.sub := rfl
@[simp] theorem State.setLink_pw (s : State) (i : Nat) (v : Link) : (s.setLink i v).pw = s.pw := rfl
@[simp] theorem State.setLink_tol (s : State) (i : Nat) (v : Link) : (s.setLink i v).tol = s.tol := rfl

/-! ## Writing `fault` -/

@[simp] theorem State.fault_setFault (s : State) (i : Nat) (v : FaultSrc) : (s.setFault i v).fault i = v := Tbl.get_set_self ..
theorem State.fault_setFault_ne (s : State) {i j : Nat} (v : FaultSrc) (h : j ≠ i) : (s.setFault i v).fault j = s.fault j :=
  Tbl.get_set_ne _ _ h
@[simp] theorem State.updFault_eq (s : State) (i : Nat) (f : FaultSrc → FaultSrc) : s.updFault i f = s.setFault i (f (s.fault i)) := rfl
@[simp] theorem State.setFault_pending (s : State) (i : Nat) (v : FaultSrc) : (s.setFault i v).pending = s.pending := rfl
@[simp] theorem State.setFault_clk (s : State) (i : Nat) (v : FaultSrc) : (s.setFault i v).clk = s.clk := rfl
@[simp] theorem State.setFault_clkFrac (s : State) (i : Nat) (v : FaultSrc) : (s.setFault i v).clkFrac = s.clkFrac := rfl
@[simp] theorem State.setFault_cycles (s : State) (i : Nat) (v : FaultSrc) : (s.setFault i v).cycles = s.cycles := rfl
@[simp] theorem State.setFault_fuses (s : State) (i : Nat) (v : FaultSrc) : (s.setFault i v).fuses = s.fuses := rfl
@[simp] theorem State.setFault_straps (s : State) (i : Nat) (v : FaultSrc) : (s.setFault i v).straps = s.straps := rfl
@[simp] theorem State.setFault_startup (s : State) (i : Nat) (v : FaultSrc) : (s.setFault i v).startup = s.startup := rfl
@[simp] theorem State.setFault_glb (s : State) (i : Nat) (v : FaultSrc) : (s.setFault i v).glb = s.glb := rfl
@[simp] theorem State.setFault_pins (s : State) (i : Nat) (v : FaultSrc) : (s.setFault i v).pins = s.pins := rfl
@[simp] theorem State.setFault_boot (s : State) (i : Nat) (v : FaultSrc) : (s.setFault i v).boot = s.boot := rfl
@[simp] theorem State.setFault_mb (s : State) (i : Nat) (v : FaultSrc) : (s.setFault i v).mb = s.mb := rfl
@[simp] theorem State.setFault_bx (s : State) (i : Nat) (v : FaultSrc) : (s.setFault i v).bx = s.bx := rfl
@[simp] theorem State.setFault_rf (s : State) (i : Nat) (v : FaultSrc) : (s.setFault i v).rf = s.rf := rfl
@[simp] theorem State.setFault_td (s : State) (i : Nat) (v : FaultSrc) : (s.setFault i v).td = s.td := rfl
@[simp] theorem State.setFault_tb (s : State) (i : Nat) (v : FaultSrc) : (s.setFault i v).tb = s.tb := rfl
@[simp] theorem State.setFault_ptp (s : State) (i : Nat) (v : FaultSrc) : (s.setFault i v).ptp = s.ptp := rfl
@[simp] theorem State.setFault_tsq (s : State) (i : Nat) (v : FaultSrc) : (s.setFault i v).tsq = s.tsq := rfl
@[simp] theorem State.setFault_sr (s : State) (i : Nat) (v : FaultSrc) : (s.setFault i v).sr = s.sr := rfl
@[simp] theorem State.setFault_rx (s : State) (i : Nat) (v : FaultSrc) : (s.setFault i v).rx = s.rx := rfl
@[simp] theorem State.setFault_rings (s : State) (i : Nat) (v : FaultSrc) : (s.setFault i v).rings = s.rings := rfl
@[simp] theorem State.setFault_readouts (s : State) (i : Nat) (v : FaultSrc) : (s.setFault i v).readouts = s.readouts := rfl
@[simp] theorem State.setFault_hbmStacks (s : State) (i : Nat) (v : FaultSrc) : (s.setFault i v).hbmStacks = s.hbmStacks := rfl
@[simp] theorem State.setFault_scrubRate (s : State) (i : Nat) (v : FaultSrc) : (s.setFault i v).scrubRate = s.scrubRate := rfl
@[simp] theorem State.setFault_xp (s : State) (i : Nat) (v : FaultSrc) : (s.setFault i v).xp = s.xp := rfl
@[simp] theorem State.setFault_planeA (s : State) (i : Nat) (v : FaultSrc) : (s.setFault i v).planeA = s.planeA := rfl
@[simp] theorem State.setFault_planeB (s : State) (i : Nat) (v : FaultSrc) : (s.setFault i v).planeB = s.planeB := rfl
@[simp] theorem State.setFault_repeated (s : State) (i : Nat) (v : FaultSrc) : (s.setFault i v).repeated = s.repeated := rfl
@[simp] theorem State.setFault_inPorts (s : State) (i : Nat) (v : FaultSrc) : (s.setFault i v).inPorts = s.inPorts := rfl
@[simp] theorem State.setFault_de (s : State) (i : Nat) (v : FaultSrc) : (s.setFault i v).de = s.de := rfl
@[simp] theorem State.setFault_tx (s : State) (i : Nat) (v : FaultSrc) : (s.setFault i v).tx = s.tx := rfl
@[simp] theorem State.setFault_au (s : State) (i : Nat) (v : FaultSrc) : (s.setFault i v).au = s.au := rfl
@[simp] theorem State.setFault_mq (s : State) (i : Nat) (v : FaultSrc) : (s.setFault i v).mq = s.mq := rfl
@[simp] theorem State.setFault_veneers (s : State) (i : Nat) (v : FaultSrc) : (s.setFault i v).veneers = s.veneers := rfl
@[simp] theorem State.setFault_dt (s : State) (i : Nat) (v : FaultSrc) : (s.setFault i v).dt = s.dt := rfl
@[simp] theorem State.setFault_ties (s : State) (i : Nat) (v : FaultSrc) : (s.setFault i v).ties = s.ties := rfl
@[simp] theorem State.setFault_depart (s : State) (i : Nat) (v : FaultSrc) : (s.setFault i v).depart = s.depart := rfl
@[simp] theorem State.setFault_group (s : State) (i : Nat) (v : FaultSrc) : (s.setFault i v).group = s.group := rfl
@[simp] theorem State.setFault_linkKeys (s : State) (i : Nat) (v : FaultSrc) : (s.setFault i v).linkKeys = s.linkKeys := rfl
@[simp] theorem State.setFault_pr (s : State) (i : Nat) (v : FaultSrc) : (s.setFault i v).pr = s.pr := rfl
@[simp] theorem State.setFault_faultnLevel (s : State) (i : Nat) (v : FaultSrc) : (s.setFault i v).faultnLevel = s.faultnLevel := rfl
@[simp] theorem State.setFault_ks (s : State) (i : Nat) (v : FaultSrc) : (s.setFault i v).ks = s.ks := rfl
@[simp] theorem State.setFault_gr (s : State) (i : Nat) (v : FaultSrc) : (s.setFault i v).gr = s.gr := rfl
@[simp] theorem State.setFault_ic (s : State) (i : Nat) (v : FaultSrc) : (s.setFault i v).ic = s.ic := rfl
@[simp] theorem State.setFault_dma (s : State) (i : Nat) (v : FaultSrc) : (s.setFault i v).dma = s.dma := rfl
@[simp] theorem State.setFault_dmaLast (s : State) (i : Nat) (v : FaultSrc) : (s.setFault i v).dmaLast = s.dmaLast := rfl
@[simp] theorem State.setFault_hostMem (s : State) (i : Nat) (v : FaultSrc) : (s.setFault i v).hostMem = s.hostMem := rfl
@[simp] theorem State.setFault_hbm (s : State) (i : Nat) (v : FaultSrc) : (s.setFault i v).hbm = s.hbm := rfl
@[simp] theorem State.setFault_hbm2 (s : State) (i : Nat) (v : FaultSrc) : (s.setFault i v).hbm2 = s.hbm2 := rfl
@[simp] theorem State.setFault_sram (s : State) (i : Nat) (v : FaultSrc) : (s.setFault i v).sram = s.sram := rfl
@[simp] theorem State.setFault_hostBad (s : State) (i : Nat) (v : FaultSrc) : (s.setFault i v).hostBad = s.hostBad := rfl
@[simp] theorem State.setFault_ln (s : State) (i : Nat) (v : FaultSrc) : (s.setFault i v).ln = s.ln := rfl
@[simp] theorem State.setFault_ep (s : State) (i : Nat) (v : FaultSrc) : (s.setFault i v).ep = s.ep := rfl
@[simp] theorem State.setFault_sub (s : State) (i : Nat) (v : FaultSrc) : (s.setFault i v).sub = s.sub := rfl
@[simp] theorem State.setFault_pw (s : State) (i : Nat) (v : FaultSrc) : (s.setFault i v).pw = s.pw := rfl
@[simp] theorem State.setFault_tol (s : State) (i : Nat) (v : FaultSrc) : (s.setFault i v).tol = s.tol := rfl

/-! ## Writing `chan` -/

@[simp] theorem State.chan_setChan (s : State) (i : Nat) (v : Chan) : (s.setChan i v).chan i = v := Tbl.get_set_self ..
theorem State.chan_setChan_ne (s : State) {i j : Nat} (v : Chan) (h : j ≠ i) : (s.setChan i v).chan j = s.chan j :=
  Tbl.get_set_ne _ _ h
@[simp] theorem State.updChan_eq (s : State) (i : Nat) (f : Chan → Chan) : s.updChan i f = s.setChan i (f (s.chan i)) := rfl
@[simp] theorem State.setChan_pending (s : State) (i : Nat) (v : Chan) : (s.setChan i v).pending = s.pending := rfl
@[simp] theorem State.setChan_clk (s : State) (i : Nat) (v : Chan) : (s.setChan i v).clk = s.clk := rfl
@[simp] theorem State.setChan_clkFrac (s : State) (i : Nat) (v : Chan) : (s.setChan i v).clkFrac = s.clkFrac := rfl
@[simp] theorem State.setChan_cycles (s : State) (i : Nat) (v : Chan) : (s.setChan i v).cycles = s.cycles := rfl
@[simp] theorem State.setChan_fuses (s : State) (i : Nat) (v : Chan) : (s.setChan i v).fuses = s.fuses := rfl
@[simp] theorem State.setChan_straps (s : State) (i : Nat) (v : Chan) : (s.setChan i v).straps = s.straps := rfl
@[simp] theorem State.setChan_startup (s : State) (i : Nat) (v : Chan) : (s.setChan i v).startup = s.startup := rfl
@[simp] theorem State.setChan_glb (s : State) (i : Nat) (v : Chan) : (s.setChan i v).glb = s.glb := rfl
@[simp] theorem State.setChan_pins (s : State) (i : Nat) (v : Chan) : (s.setChan i v).pins = s.pins := rfl
@[simp] theorem State.setChan_boot (s : State) (i : Nat) (v : Chan) : (s.setChan i v).boot = s.boot := rfl
@[simp] theorem State.setChan_mb (s : State) (i : Nat) (v : Chan) : (s.setChan i v).mb = s.mb := rfl
@[simp] theorem State.setChan_bx (s : State) (i : Nat) (v : Chan) : (s.setChan i v).bx = s.bx := rfl
@[simp] theorem State.setChan_rf (s : State) (i : Nat) (v : Chan) : (s.setChan i v).rf = s.rf := rfl
@[simp] theorem State.setChan_td (s : State) (i : Nat) (v : Chan) : (s.setChan i v).td = s.td := rfl
@[simp] theorem State.setChan_tb (s : State) (i : Nat) (v : Chan) : (s.setChan i v).tb = s.tb := rfl
@[simp] theorem State.setChan_ptp (s : State) (i : Nat) (v : Chan) : (s.setChan i v).ptp = s.ptp := rfl
@[simp] theorem State.setChan_tsq (s : State) (i : Nat) (v : Chan) : (s.setChan i v).tsq = s.tsq := rfl
@[simp] theorem State.setChan_sr (s : State) (i : Nat) (v : Chan) : (s.setChan i v).sr = s.sr := rfl
@[simp] theorem State.setChan_rx (s : State) (i : Nat) (v : Chan) : (s.setChan i v).rx = s.rx := rfl
@[simp] theorem State.setChan_rings (s : State) (i : Nat) (v : Chan) : (s.setChan i v).rings = s.rings := rfl
@[simp] theorem State.setChan_readouts (s : State) (i : Nat) (v : Chan) : (s.setChan i v).readouts = s.readouts := rfl
@[simp] theorem State.setChan_hbmStacks (s : State) (i : Nat) (v : Chan) : (s.setChan i v).hbmStacks = s.hbmStacks := rfl
@[simp] theorem State.setChan_scrubRate (s : State) (i : Nat) (v : Chan) : (s.setChan i v).scrubRate = s.scrubRate := rfl
@[simp] theorem State.setChan_xp (s : State) (i : Nat) (v : Chan) : (s.setChan i v).xp = s.xp := rfl
@[simp] theorem State.setChan_planeA (s : State) (i : Nat) (v : Chan) : (s.setChan i v).planeA = s.planeA := rfl
@[simp] theorem State.setChan_planeB (s : State) (i : Nat) (v : Chan) : (s.setChan i v).planeB = s.planeB := rfl
@[simp] theorem State.setChan_repeated (s : State) (i : Nat) (v : Chan) : (s.setChan i v).repeated = s.repeated := rfl
@[simp] theorem State.setChan_inPorts (s : State) (i : Nat) (v : Chan) : (s.setChan i v).inPorts = s.inPorts := rfl
@[simp] theorem State.setChan_de (s : State) (i : Nat) (v : Chan) : (s.setChan i v).de = s.de := rfl
@[simp] theorem State.setChan_tx (s : State) (i : Nat) (v : Chan) : (s.setChan i v).tx = s.tx := rfl
@[simp] theorem State.setChan_au (s : State) (i : Nat) (v : Chan) : (s.setChan i v).au = s.au := rfl
@[simp] theorem State.setChan_mq (s : State) (i : Nat) (v : Chan) : (s.setChan i v).mq = s.mq := rfl
@[simp] theorem State.setChan_veneers (s : State) (i : Nat) (v : Chan) : (s.setChan i v).veneers = s.veneers := rfl
@[simp] theorem State.setChan_dt (s : State) (i : Nat) (v : Chan) : (s.setChan i v).dt = s.dt := rfl
@[simp] theorem State.setChan_ties (s : State) (i : Nat) (v : Chan) : (s.setChan i v).ties = s.ties := rfl
@[simp] theorem State.setChan_depart (s : State) (i : Nat) (v : Chan) : (s.setChan i v).depart = s.depart := rfl
@[simp] theorem State.setChan_group (s : State) (i : Nat) (v : Chan) : (s.setChan i v).group = s.group := rfl
@[simp] theorem State.setChan_linkKeys (s : State) (i : Nat) (v : Chan) : (s.setChan i v).linkKeys = s.linkKeys := rfl
@[simp] theorem State.setChan_pr (s : State) (i : Nat) (v : Chan) : (s.setChan i v).pr = s.pr := rfl
@[simp] theorem State.setChan_fc (s : State) (i : Nat) (v : Chan) : (s.setChan i v).fc = s.fc := rfl
@[simp] theorem State.setChan_faultnLevel (s : State) (i : Nat) (v : Chan) : (s.setChan i v).faultnLevel = s.faultnLevel := rfl
@[simp] theorem State.setChan_ks (s : State) (i : Nat) (v : Chan) : (s.setChan i v).ks = s.ks := rfl
@[simp] theorem State.setChan_gr (s : State) (i : Nat) (v : Chan) : (s.setChan i v).gr = s.gr := rfl
@[simp] theorem State.setChan_ic (s : State) (i : Nat) (v : Chan) : (s.setChan i v).ic = s.ic := rfl
@[simp] theorem State.setChan_dmaLast (s : State) (i : Nat) (v : Chan) : (s.setChan i v).dmaLast = s.dmaLast := rfl
@[simp] theorem State.setChan_hostMem (s : State) (i : Nat) (v : Chan) : (s.setChan i v).hostMem = s.hostMem := rfl
@[simp] theorem State.setChan_hbm (s : State) (i : Nat) (v : Chan) : (s.setChan i v).hbm = s.hbm := rfl
@[simp] theorem State.setChan_hbm2 (s : State) (i : Nat) (v : Chan) : (s.setChan i v).hbm2 = s.hbm2 := rfl
@[simp] theorem State.setChan_sram (s : State) (i : Nat) (v : Chan) : (s.setChan i v).sram = s.sram := rfl
@[simp] theorem State.setChan_hostBad (s : State) (i : Nat) (v : Chan) : (s.setChan i v).hostBad = s.hostBad := rfl
@[simp] theorem State.setChan_ln (s : State) (i : Nat) (v : Chan) : (s.setChan i v).ln = s.ln := rfl
@[simp] theorem State.setChan_ep (s : State) (i : Nat) (v : Chan) : (s.setChan i v).ep = s.ep := rfl
@[simp] theorem State.setChan_sub (s : State) (i : Nat) (v : Chan) : (s.setChan i v).sub = s.sub := rfl
@[simp] theorem State.setChan_pw (s : State) (i : Nat) (v : Chan) : (s.setChan i v).pw = s.pw := rfl
@[simp] theorem State.setChan_tol (s : State) (i : Nat) (v : Chan) : (s.setChan i v).tol = s.tol := rfl

/-! ## Writing `lane` -/

@[simp] theorem State.lane_setLane (s : State) (i : Nat) (v : Lane) : (s.setLane i v).lane i = v := Tbl.get_set_self ..
theorem State.lane_setLane_ne (s : State) {i j : Nat} (v : Lane) (h : j ≠ i) : (s.setLane i v).lane j = s.lane j :=
  Tbl.get_set_ne _ _ h
@[simp] theorem State.updLane_eq (s : State) (i : Nat) (f : Lane → Lane) : s.updLane i f = s.setLane i (f (s.lane i)) := rfl
@[simp] theorem State.setLane_pending (s : State) (i : Nat) (v : Lane) : (s.setLane i v).pending = s.pending := rfl
@[simp] theorem State.setLane_clk (s : State) (i : Nat) (v : Lane) : (s.setLane i v).clk = s.clk := rfl
@[simp] theorem State.setLane_clkFrac (s : State) (i : Nat) (v : Lane) : (s.setLane i v).clkFrac = s.clkFrac := rfl
@[simp] theorem State.setLane_cycles (s : State) (i : Nat) (v : Lane) : (s.setLane i v).cycles = s.cycles := rfl
@[simp] theorem State.setLane_fuses (s : State) (i : Nat) (v : Lane) : (s.setLane i v).fuses = s.fuses := rfl
@[simp] theorem State.setLane_straps (s : State) (i : Nat) (v : Lane) : (s.setLane i v).straps = s.straps := rfl
@[simp] theorem State.setLane_startup (s : State) (i : Nat) (v : Lane) : (s.setLane i v).startup = s.startup := rfl
@[simp] theorem State.setLane_glb (s : State) (i : Nat) (v : Lane) : (s.setLane i v).glb = s.glb := rfl
@[simp] theorem State.setLane_pins (s : State) (i : Nat) (v : Lane) : (s.setLane i v).pins = s.pins := rfl
@[simp] theorem State.setLane_boot (s : State) (i : Nat) (v : Lane) : (s.setLane i v).boot = s.boot := rfl
@[simp] theorem State.setLane_mb (s : State) (i : Nat) (v : Lane) : (s.setLane i v).mb = s.mb := rfl
@[simp] theorem State.setLane_bx (s : State) (i : Nat) (v : Lane) : (s.setLane i v).bx = s.bx := rfl
@[simp] theorem State.setLane_rf (s : State) (i : Nat) (v : Lane) : (s.setLane i v).rf = s.rf := rfl
@[simp] theorem State.setLane_td (s : State) (i : Nat) (v : Lane) : (s.setLane i v).td = s.td := rfl
@[simp] theorem State.setLane_tb (s : State) (i : Nat) (v : Lane) : (s.setLane i v).tb = s.tb := rfl
@[simp] theorem State.setLane_ptp (s : State) (i : Nat) (v : Lane) : (s.setLane i v).ptp = s.ptp := rfl
@[simp] theorem State.setLane_tsq (s : State) (i : Nat) (v : Lane) : (s.setLane i v).tsq = s.tsq := rfl
@[simp] theorem State.setLane_sr (s : State) (i : Nat) (v : Lane) : (s.setLane i v).sr = s.sr := rfl
@[simp] theorem State.setLane_rx (s : State) (i : Nat) (v : Lane) : (s.setLane i v).rx = s.rx := rfl
@[simp] theorem State.setLane_rings (s : State) (i : Nat) (v : Lane) : (s.setLane i v).rings = s.rings := rfl
@[simp] theorem State.setLane_readouts (s : State) (i : Nat) (v : Lane) : (s.setLane i v).readouts = s.readouts := rfl
@[simp] theorem State.setLane_hbmStacks (s : State) (i : Nat) (v : Lane) : (s.setLane i v).hbmStacks = s.hbmStacks := rfl
@[simp] theorem State.setLane_scrubRate (s : State) (i : Nat) (v : Lane) : (s.setLane i v).scrubRate = s.scrubRate := rfl
@[simp] theorem State.setLane_xp (s : State) (i : Nat) (v : Lane) : (s.setLane i v).xp = s.xp := rfl
@[simp] theorem State.setLane_planeA (s : State) (i : Nat) (v : Lane) : (s.setLane i v).planeA = s.planeA := rfl
@[simp] theorem State.setLane_planeB (s : State) (i : Nat) (v : Lane) : (s.setLane i v).planeB = s.planeB := rfl
@[simp] theorem State.setLane_repeated (s : State) (i : Nat) (v : Lane) : (s.setLane i v).repeated = s.repeated := rfl
@[simp] theorem State.setLane_inPorts (s : State) (i : Nat) (v : Lane) : (s.setLane i v).inPorts = s.inPorts := rfl
@[simp] theorem State.setLane_de (s : State) (i : Nat) (v : Lane) : (s.setLane i v).de = s.de := rfl
@[simp] theorem State.setLane_tx (s : State) (i : Nat) (v : Lane) : (s.setLane i v).tx = s.tx := rfl
@[simp] theorem State.setLane_au (s : State) (i : Nat) (v : Lane) : (s.setLane i v).au = s.au := rfl
@[simp] theorem State.setLane_mq (s : State) (i : Nat) (v : Lane) : (s.setLane i v).mq = s.mq := rfl
@[simp] theorem State.setLane_veneers (s : State) (i : Nat) (v : Lane) : (s.setLane i v).veneers = s.veneers := rfl
@[simp] theorem State.setLane_dt (s : State) (i : Nat) (v : Lane) : (s.setLane i v).dt = s.dt := rfl
@[simp] theorem State.setLane_ties (s : State) (i : Nat) (v : Lane) : (s.setLane i v).ties = s.ties := rfl
@[simp] theorem State.setLane_depart (s : State) (i : Nat) (v : Lane) : (s.setLane i v).depart = s.depart := rfl
@[simp] theorem State.setLane_group (s : State) (i : Nat) (v : Lane) : (s.setLane i v).group = s.group := rfl
@[simp] theorem State.setLane_linkKeys (s : State) (i : Nat) (v : Lane) : (s.setLane i v).linkKeys = s.linkKeys := rfl
@[simp] theorem State.setLane_pr (s : State) (i : Nat) (v : Lane) : (s.setLane i v).pr = s.pr := rfl
@[simp] theorem State.setLane_fc (s : State) (i : Nat) (v : Lane) : (s.setLane i v).fc = s.fc := rfl
@[simp] theorem State.setLane_faultnLevel (s : State) (i : Nat) (v : Lane) : (s.setLane i v).faultnLevel = s.faultnLevel := rfl
@[simp] theorem State.setLane_ks (s : State) (i : Nat) (v : Lane) : (s.setLane i v).ks = s.ks := rfl
@[simp] theorem State.setLane_gr (s : State) (i : Nat) (v : Lane) : (s.setLane i v).gr = s.gr := rfl
@[simp] theorem State.setLane_ic (s : State) (i : Nat) (v : Lane) : (s.setLane i v).ic = s.ic := rfl
@[simp] theorem State.setLane_dma (s : State) (i : Nat) (v : Lane) : (s.setLane i v).dma = s.dma := rfl
@[simp] theorem State.setLane_dmaLast (s : State) (i : Nat) (v : Lane) : (s.setLane i v).dmaLast = s.dmaLast := rfl
@[simp] theorem State.setLane_hostMem (s : State) (i : Nat) (v : Lane) : (s.setLane i v).hostMem = s.hostMem := rfl
@[simp] theorem State.setLane_hbm (s : State) (i : Nat) (v : Lane) : (s.setLane i v).hbm = s.hbm := rfl
@[simp] theorem State.setLane_hbm2 (s : State) (i : Nat) (v : Lane) : (s.setLane i v).hbm2 = s.hbm2 := rfl
@[simp] theorem State.setLane_sram (s : State) (i : Nat) (v : Lane) : (s.setLane i v).sram = s.sram := rfl
@[simp] theorem State.setLane_hostBad (s : State) (i : Nat) (v : Lane) : (s.setLane i v).hostBad = s.hostBad := rfl
@[simp] theorem State.setLane_ep (s : State) (i : Nat) (v : Lane) : (s.setLane i v).ep = s.ep := rfl
@[simp] theorem State.setLane_sub (s : State) (i : Nat) (v : Lane) : (s.setLane i v).sub = s.sub := rfl
@[simp] theorem State.setLane_pw (s : State) (i : Nat) (v : Lane) : (s.setLane i v).pw = s.pw := rfl
@[simp] theorem State.setLane_tol (s : State) (i : Nat) (v : Lane) : (s.setLane i v).tol = s.tol := rfl

/-! ## Writing `port` -/

@[simp] theorem State.port_setPort (s : State) (i : Nat) (v : Port) : (s.setPort i v).port i = v := Tbl.get_set_self ..
theorem State.port_setPort_ne (s : State) {i j : Nat} (v : Port) (h : j ≠ i) : (s.setPort i v).port j = s.port j :=
  Tbl.get_set_ne _ _ h
@[simp] theorem State.updPort_eq (s : State) (i : Nat) (f : Port → Port) : s.updPort i f = s.setPort i (f (s.port i)) := rfl
@[simp] theorem State.setPort_pending (s : State) (i : Nat) (v : Port) : (s.setPort i v).pending = s.pending := rfl
@[simp] theorem State.setPort_clk (s : State) (i : Nat) (v : Port) : (s.setPort i v).clk = s.clk := rfl
@[simp] theorem State.setPort_clkFrac (s : State) (i : Nat) (v : Port) : (s.setPort i v).clkFrac = s.clkFrac := rfl
@[simp] theorem State.setPort_cycles (s : State) (i : Nat) (v : Port) : (s.setPort i v).cycles = s.cycles := rfl
@[simp] theorem State.setPort_fuses (s : State) (i : Nat) (v : Port) : (s.setPort i v).fuses = s.fuses := rfl
@[simp] theorem State.setPort_straps (s : State) (i : Nat) (v : Port) : (s.setPort i v).straps = s.straps := rfl
@[simp] theorem State.setPort_startup (s : State) (i : Nat) (v : Port) : (s.setPort i v).startup = s.startup := rfl
@[simp] theorem State.setPort_glb (s : State) (i : Nat) (v : Port) : (s.setPort i v).glb = s.glb := rfl
@[simp] theorem State.setPort_pins (s : State) (i : Nat) (v : Port) : (s.setPort i v).pins = s.pins := rfl
@[simp] theorem State.setPort_boot (s : State) (i : Nat) (v : Port) : (s.setPort i v).boot = s.boot := rfl
@[simp] theorem State.setPort_mb (s : State) (i : Nat) (v : Port) : (s.setPort i v).mb = s.mb := rfl
@[simp] theorem State.setPort_bx (s : State) (i : Nat) (v : Port) : (s.setPort i v).bx = s.bx := rfl
@[simp] theorem State.setPort_rf (s : State) (i : Nat) (v : Port) : (s.setPort i v).rf = s.rf := rfl
@[simp] theorem State.setPort_td (s : State) (i : Nat) (v : Port) : (s.setPort i v).td = s.td := rfl
@[simp] theorem State.setPort_tb (s : State) (i : Nat) (v : Port) : (s.setPort i v).tb = s.tb := rfl
@[simp] theorem State.setPort_ptp (s : State) (i : Nat) (v : Port) : (s.setPort i v).ptp = s.ptp := rfl
@[simp] theorem State.setPort_tsq (s : State) (i : Nat) (v : Port) : (s.setPort i v).tsq = s.tsq := rfl
@[simp] theorem State.setPort_sr (s : State) (i : Nat) (v : Port) : (s.setPort i v).sr = s.sr := rfl
@[simp] theorem State.setPort_rx (s : State) (i : Nat) (v : Port) : (s.setPort i v).rx = s.rx := rfl
@[simp] theorem State.setPort_rings (s : State) (i : Nat) (v : Port) : (s.setPort i v).rings = s.rings := rfl
@[simp] theorem State.setPort_readouts (s : State) (i : Nat) (v : Port) : (s.setPort i v).readouts = s.readouts := rfl
@[simp] theorem State.setPort_hbmStacks (s : State) (i : Nat) (v : Port) : (s.setPort i v).hbmStacks = s.hbmStacks := rfl
@[simp] theorem State.setPort_scrubRate (s : State) (i : Nat) (v : Port) : (s.setPort i v).scrubRate = s.scrubRate := rfl
@[simp] theorem State.setPort_xp (s : State) (i : Nat) (v : Port) : (s.setPort i v).xp = s.xp := rfl
@[simp] theorem State.setPort_planeA (s : State) (i : Nat) (v : Port) : (s.setPort i v).planeA = s.planeA := rfl
@[simp] theorem State.setPort_planeB (s : State) (i : Nat) (v : Port) : (s.setPort i v).planeB = s.planeB := rfl
@[simp] theorem State.setPort_repeated (s : State) (i : Nat) (v : Port) : (s.setPort i v).repeated = s.repeated := rfl
@[simp] theorem State.setPort_inPorts (s : State) (i : Nat) (v : Port) : (s.setPort i v).inPorts = s.inPorts := rfl
@[simp] theorem State.setPort_de (s : State) (i : Nat) (v : Port) : (s.setPort i v).de = s.de := rfl
@[simp] theorem State.setPort_tx (s : State) (i : Nat) (v : Port) : (s.setPort i v).tx = s.tx := rfl
@[simp] theorem State.setPort_au (s : State) (i : Nat) (v : Port) : (s.setPort i v).au = s.au := rfl
@[simp] theorem State.setPort_mq (s : State) (i : Nat) (v : Port) : (s.setPort i v).mq = s.mq := rfl
@[simp] theorem State.setPort_veneers (s : State) (i : Nat) (v : Port) : (s.setPort i v).veneers = s.veneers := rfl
@[simp] theorem State.setPort_dt (s : State) (i : Nat) (v : Port) : (s.setPort i v).dt = s.dt := rfl
@[simp] theorem State.setPort_ties (s : State) (i : Nat) (v : Port) : (s.setPort i v).ties = s.ties := rfl
@[simp] theorem State.setPort_depart (s : State) (i : Nat) (v : Port) : (s.setPort i v).depart = s.depart := rfl
@[simp] theorem State.setPort_group (s : State) (i : Nat) (v : Port) : (s.setPort i v).group = s.group := rfl
@[simp] theorem State.setPort_linkKeys (s : State) (i : Nat) (v : Port) : (s.setPort i v).linkKeys = s.linkKeys := rfl
@[simp] theorem State.setPort_pr (s : State) (i : Nat) (v : Port) : (s.setPort i v).pr = s.pr := rfl
@[simp] theorem State.setPort_fc (s : State) (i : Nat) (v : Port) : (s.setPort i v).fc = s.fc := rfl
@[simp] theorem State.setPort_faultnLevel (s : State) (i : Nat) (v : Port) : (s.setPort i v).faultnLevel = s.faultnLevel := rfl
@[simp] theorem State.setPort_ks (s : State) (i : Nat) (v : Port) : (s.setPort i v).ks = s.ks := rfl
@[simp] theorem State.setPort_gr (s : State) (i : Nat) (v : Port) : (s.setPort i v).gr = s.gr := rfl
@[simp] theorem State.setPort_ic (s : State) (i : Nat) (v : Port) : (s.setPort i v).ic = s.ic := rfl
@[simp] theorem State.setPort_dma (s : State) (i : Nat) (v : Port) : (s.setPort i v).dma = s.dma := rfl
@[simp] theorem State.setPort_dmaLast (s : State) (i : Nat) (v : Port) : (s.setPort i v).dmaLast = s.dmaLast := rfl
@[simp] theorem State.setPort_hostMem (s : State) (i : Nat) (v : Port) : (s.setPort i v).hostMem = s.hostMem := rfl
@[simp] theorem State.setPort_hbm (s : State) (i : Nat) (v : Port) : (s.setPort i v).hbm = s.hbm := rfl
@[simp] theorem State.setPort_hbm2 (s : State) (i : Nat) (v : Port) : (s.setPort i v).hbm2 = s.hbm2 := rfl
@[simp] theorem State.setPort_sram (s : State) (i : Nat) (v : Port) : (s.setPort i v).sram = s.sram := rfl
@[simp] theorem State.setPort_hostBad (s : State) (i : Nat) (v : Port) : (s.setPort i v).hostBad = s.hostBad := rfl
@[simp] theorem State.setPort_ln (s : State) (i : Nat) (v : Port) : (s.setPort i v).ln = s.ln := rfl
@[simp] theorem State.setPort_sub (s : State) (i : Nat) (v : Port) : (s.setPort i v).sub = s.sub := rfl
@[simp] theorem State.setPort_pw (s : State) (i : Nat) (v : Port) : (s.setPort i v).pw = s.pw := rfl
@[simp] theorem State.setPort_tol (s : State) (i : Nat) (v : Port) : (s.setPort i v).tol = s.tol := rfl

/-! ## Writing `subport` -/

@[simp] theorem State.subport_setSubport (s : State) (i : Nat) (v : Subport) : (s.setSubport i v).subport i = v := Tbl.get_set_self ..
theorem State.subport_setSubport_ne (s : State) {i j : Nat} (v : Subport) (h : j ≠ i) : (s.setSubport i v).subport j = s.subport j :=
  Tbl.get_set_ne _ _ h
@[simp] theorem State.updSubport_eq (s : State) (i : Nat) (f : Subport → Subport) : s.updSubport i f = s.setSubport i (f (s.subport i)) := rfl
@[simp] theorem State.setSubport_pending (s : State) (i : Nat) (v : Subport) : (s.setSubport i v).pending = s.pending := rfl
@[simp] theorem State.setSubport_clk (s : State) (i : Nat) (v : Subport) : (s.setSubport i v).clk = s.clk := rfl
@[simp] theorem State.setSubport_clkFrac (s : State) (i : Nat) (v : Subport) : (s.setSubport i v).clkFrac = s.clkFrac := rfl
@[simp] theorem State.setSubport_cycles (s : State) (i : Nat) (v : Subport) : (s.setSubport i v).cycles = s.cycles := rfl
@[simp] theorem State.setSubport_fuses (s : State) (i : Nat) (v : Subport) : (s.setSubport i v).fuses = s.fuses := rfl
@[simp] theorem State.setSubport_straps (s : State) (i : Nat) (v : Subport) : (s.setSubport i v).straps = s.straps := rfl
@[simp] theorem State.setSubport_startup (s : State) (i : Nat) (v : Subport) : (s.setSubport i v).startup = s.startup := rfl
@[simp] theorem State.setSubport_glb (s : State) (i : Nat) (v : Subport) : (s.setSubport i v).glb = s.glb := rfl
@[simp] theorem State.setSubport_pins (s : State) (i : Nat) (v : Subport) : (s.setSubport i v).pins = s.pins := rfl
@[simp] theorem State.setSubport_boot (s : State) (i : Nat) (v : Subport) : (s.setSubport i v).boot = s.boot := rfl
@[simp] theorem State.setSubport_mb (s : State) (i : Nat) (v : Subport) : (s.setSubport i v).mb = s.mb := rfl
@[simp] theorem State.setSubport_bx (s : State) (i : Nat) (v : Subport) : (s.setSubport i v).bx = s.bx := rfl
@[simp] theorem State.setSubport_rf (s : State) (i : Nat) (v : Subport) : (s.setSubport i v).rf = s.rf := rfl
@[simp] theorem State.setSubport_td (s : State) (i : Nat) (v : Subport) : (s.setSubport i v).td = s.td := rfl
@[simp] theorem State.setSubport_tb (s : State) (i : Nat) (v : Subport) : (s.setSubport i v).tb = s.tb := rfl
@[simp] theorem State.setSubport_ptp (s : State) (i : Nat) (v : Subport) : (s.setSubport i v).ptp = s.ptp := rfl
@[simp] theorem State.setSubport_tsq (s : State) (i : Nat) (v : Subport) : (s.setSubport i v).tsq = s.tsq := rfl
@[simp] theorem State.setSubport_sr (s : State) (i : Nat) (v : Subport) : (s.setSubport i v).sr = s.sr := rfl
@[simp] theorem State.setSubport_rx (s : State) (i : Nat) (v : Subport) : (s.setSubport i v).rx = s.rx := rfl
@[simp] theorem State.setSubport_rings (s : State) (i : Nat) (v : Subport) : (s.setSubport i v).rings = s.rings := rfl
@[simp] theorem State.setSubport_readouts (s : State) (i : Nat) (v : Subport) : (s.setSubport i v).readouts = s.readouts := rfl
@[simp] theorem State.setSubport_hbmStacks (s : State) (i : Nat) (v : Subport) : (s.setSubport i v).hbmStacks = s.hbmStacks := rfl
@[simp] theorem State.setSubport_scrubRate (s : State) (i : Nat) (v : Subport) : (s.setSubport i v).scrubRate = s.scrubRate := rfl
@[simp] theorem State.setSubport_xp (s : State) (i : Nat) (v : Subport) : (s.setSubport i v).xp = s.xp := rfl
@[simp] theorem State.setSubport_planeA (s : State) (i : Nat) (v : Subport) : (s.setSubport i v).planeA = s.planeA := rfl
@[simp] theorem State.setSubport_planeB (s : State) (i : Nat) (v : Subport) : (s.setSubport i v).planeB = s.planeB := rfl
@[simp] theorem State.setSubport_repeated (s : State) (i : Nat) (v : Subport) : (s.setSubport i v).repeated = s.repeated := rfl
@[simp] theorem State.setSubport_inPorts (s : State) (i : Nat) (v : Subport) : (s.setSubport i v).inPorts = s.inPorts := rfl
@[simp] theorem State.setSubport_de (s : State) (i : Nat) (v : Subport) : (s.setSubport i v).de = s.de := rfl
@[simp] theorem State.setSubport_tx (s : State) (i : Nat) (v : Subport) : (s.setSubport i v).tx = s.tx := rfl
@[simp] theorem State.setSubport_au (s : State) (i : Nat) (v : Subport) : (s.setSubport i v).au = s.au := rfl
@[simp] theorem State.setSubport_mq (s : State) (i : Nat) (v : Subport) : (s.setSubport i v).mq = s.mq := rfl
@[simp] theorem State.setSubport_veneers (s : State) (i : Nat) (v : Subport) : (s.setSubport i v).veneers = s.veneers := rfl
@[simp] theorem State.setSubport_dt (s : State) (i : Nat) (v : Subport) : (s.setSubport i v).dt = s.dt := rfl
@[simp] theorem State.setSubport_ties (s : State) (i : Nat) (v : Subport) : (s.setSubport i v).ties = s.ties := rfl
@[simp] theorem State.setSubport_depart (s : State) (i : Nat) (v : Subport) : (s.setSubport i v).depart = s.depart := rfl
@[simp] theorem State.setSubport_group (s : State) (i : Nat) (v : Subport) : (s.setSubport i v).group = s.group := rfl
@[simp] theorem State.setSubport_linkKeys (s : State) (i : Nat) (v : Subport) : (s.setSubport i v).linkKeys = s.linkKeys := rfl
@[simp] theorem State.setSubport_pr (s : State) (i : Nat) (v : Subport) : (s.setSubport i v).pr = s.pr := rfl
@[simp] theorem State.setSubport_fc (s : State) (i : Nat) (v : Subport) : (s.setSubport i v).fc = s.fc := rfl
@[simp] theorem State.setSubport_faultnLevel (s : State) (i : Nat) (v : Subport) : (s.setSubport i v).faultnLevel = s.faultnLevel := rfl
@[simp] theorem State.setSubport_ks (s : State) (i : Nat) (v : Subport) : (s.setSubport i v).ks = s.ks := rfl
@[simp] theorem State.setSubport_gr (s : State) (i : Nat) (v : Subport) : (s.setSubport i v).gr = s.gr := rfl
@[simp] theorem State.setSubport_ic (s : State) (i : Nat) (v : Subport) : (s.setSubport i v).ic = s.ic := rfl
@[simp] theorem State.setSubport_dma (s : State) (i : Nat) (v : Subport) : (s.setSubport i v).dma = s.dma := rfl
@[simp] theorem State.setSubport_dmaLast (s : State) (i : Nat) (v : Subport) : (s.setSubport i v).dmaLast = s.dmaLast := rfl
@[simp] theorem State.setSubport_hostMem (s : State) (i : Nat) (v : Subport) : (s.setSubport i v).hostMem = s.hostMem := rfl
@[simp] theorem State.setSubport_hbm (s : State) (i : Nat) (v : Subport) : (s.setSubport i v).hbm = s.hbm := rfl
@[simp] theorem State.setSubport_hbm2 (s : State) (i : Nat) (v : Subport) : (s.setSubport i v).hbm2 = s.hbm2 := rfl
@[simp] theorem State.setSubport_sram (s : State) (i : Nat) (v : Subport) : (s.setSubport i v).sram = s.sram := rfl
@[simp] theorem State.setSubport_hostBad (s : State) (i : Nat) (v : Subport) : (s.setSubport i v).hostBad = s.hostBad := rfl
@[simp] theorem State.setSubport_ln (s : State) (i : Nat) (v : Subport) : (s.setSubport i v).ln = s.ln := rfl
@[simp] theorem State.setSubport_ep (s : State) (i : Nat) (v : Subport) : (s.setSubport i v).ep = s.ep := rfl
@[simp] theorem State.setSubport_pw (s : State) (i : Nat) (v : Subport) : (s.setSubport i v).pw = s.pw := rfl
@[simp] theorem State.setSubport_tol (s : State) (i : Nat) (v : Subport) : (s.setSubport i v).tol = s.tol := rfl

/-! ## Writing `pdom` -/

@[simp] theorem State.pdom_setPdom (s : State) (i : Nat) (v : PwrDomain) : (s.setPdom i v).pdom i = v := Tbl.get_set_self ..
theorem State.pdom_setPdom_ne (s : State) {i j : Nat} (v : PwrDomain) (h : j ≠ i) : (s.setPdom i v).pdom j = s.pdom j :=
  Tbl.get_set_ne _ _ h
@[simp] theorem State.updPdom_eq (s : State) (i : Nat) (f : PwrDomain → PwrDomain) : s.updPdom i f = s.setPdom i (f (s.pdom i)) := rfl
@[simp] theorem State.setPdom_pending (s : State) (i : Nat) (v : PwrDomain) : (s.setPdom i v).pending = s.pending := rfl
@[simp] theorem State.setPdom_clk (s : State) (i : Nat) (v : PwrDomain) : (s.setPdom i v).clk = s.clk := rfl
@[simp] theorem State.setPdom_clkFrac (s : State) (i : Nat) (v : PwrDomain) : (s.setPdom i v).clkFrac = s.clkFrac := rfl
@[simp] theorem State.setPdom_cycles (s : State) (i : Nat) (v : PwrDomain) : (s.setPdom i v).cycles = s.cycles := rfl
@[simp] theorem State.setPdom_fuses (s : State) (i : Nat) (v : PwrDomain) : (s.setPdom i v).fuses = s.fuses := rfl
@[simp] theorem State.setPdom_straps (s : State) (i : Nat) (v : PwrDomain) : (s.setPdom i v).straps = s.straps := rfl
@[simp] theorem State.setPdom_startup (s : State) (i : Nat) (v : PwrDomain) : (s.setPdom i v).startup = s.startup := rfl
@[simp] theorem State.setPdom_glb (s : State) (i : Nat) (v : PwrDomain) : (s.setPdom i v).glb = s.glb := rfl
@[simp] theorem State.setPdom_pins (s : State) (i : Nat) (v : PwrDomain) : (s.setPdom i v).pins = s.pins := rfl
@[simp] theorem State.setPdom_boot (s : State) (i : Nat) (v : PwrDomain) : (s.setPdom i v).boot = s.boot := rfl
@[simp] theorem State.setPdom_mb (s : State) (i : Nat) (v : PwrDomain) : (s.setPdom i v).mb = s.mb := rfl
@[simp] theorem State.setPdom_bx (s : State) (i : Nat) (v : PwrDomain) : (s.setPdom i v).bx = s.bx := rfl
@[simp] theorem State.setPdom_rf (s : State) (i : Nat) (v : PwrDomain) : (s.setPdom i v).rf = s.rf := rfl
@[simp] theorem State.setPdom_td (s : State) (i : Nat) (v : PwrDomain) : (s.setPdom i v).td = s.td := rfl
@[simp] theorem State.setPdom_tb (s : State) (i : Nat) (v : PwrDomain) : (s.setPdom i v).tb = s.tb := rfl
@[simp] theorem State.setPdom_ptp (s : State) (i : Nat) (v : PwrDomain) : (s.setPdom i v).ptp = s.ptp := rfl
@[simp] theorem State.setPdom_tsq (s : State) (i : Nat) (v : PwrDomain) : (s.setPdom i v).tsq = s.tsq := rfl
@[simp] theorem State.setPdom_sr (s : State) (i : Nat) (v : PwrDomain) : (s.setPdom i v).sr = s.sr := rfl
@[simp] theorem State.setPdom_rx (s : State) (i : Nat) (v : PwrDomain) : (s.setPdom i v).rx = s.rx := rfl
@[simp] theorem State.setPdom_rings (s : State) (i : Nat) (v : PwrDomain) : (s.setPdom i v).rings = s.rings := rfl
@[simp] theorem State.setPdom_readouts (s : State) (i : Nat) (v : PwrDomain) : (s.setPdom i v).readouts = s.readouts := rfl
@[simp] theorem State.setPdom_hbmStacks (s : State) (i : Nat) (v : PwrDomain) : (s.setPdom i v).hbmStacks = s.hbmStacks := rfl
@[simp] theorem State.setPdom_scrubRate (s : State) (i : Nat) (v : PwrDomain) : (s.setPdom i v).scrubRate = s.scrubRate := rfl
@[simp] theorem State.setPdom_xp (s : State) (i : Nat) (v : PwrDomain) : (s.setPdom i v).xp = s.xp := rfl
@[simp] theorem State.setPdom_planeA (s : State) (i : Nat) (v : PwrDomain) : (s.setPdom i v).planeA = s.planeA := rfl
@[simp] theorem State.setPdom_planeB (s : State) (i : Nat) (v : PwrDomain) : (s.setPdom i v).planeB = s.planeB := rfl
@[simp] theorem State.setPdom_repeated (s : State) (i : Nat) (v : PwrDomain) : (s.setPdom i v).repeated = s.repeated := rfl
@[simp] theorem State.setPdom_inPorts (s : State) (i : Nat) (v : PwrDomain) : (s.setPdom i v).inPorts = s.inPorts := rfl
@[simp] theorem State.setPdom_de (s : State) (i : Nat) (v : PwrDomain) : (s.setPdom i v).de = s.de := rfl
@[simp] theorem State.setPdom_tx (s : State) (i : Nat) (v : PwrDomain) : (s.setPdom i v).tx = s.tx := rfl
@[simp] theorem State.setPdom_au (s : State) (i : Nat) (v : PwrDomain) : (s.setPdom i v).au = s.au := rfl
@[simp] theorem State.setPdom_mq (s : State) (i : Nat) (v : PwrDomain) : (s.setPdom i v).mq = s.mq := rfl
@[simp] theorem State.setPdom_veneers (s : State) (i : Nat) (v : PwrDomain) : (s.setPdom i v).veneers = s.veneers := rfl
@[simp] theorem State.setPdom_dt (s : State) (i : Nat) (v : PwrDomain) : (s.setPdom i v).dt = s.dt := rfl
@[simp] theorem State.setPdom_ties (s : State) (i : Nat) (v : PwrDomain) : (s.setPdom i v).ties = s.ties := rfl
@[simp] theorem State.setPdom_depart (s : State) (i : Nat) (v : PwrDomain) : (s.setPdom i v).depart = s.depart := rfl
@[simp] theorem State.setPdom_group (s : State) (i : Nat) (v : PwrDomain) : (s.setPdom i v).group = s.group := rfl
@[simp] theorem State.setPdom_linkKeys (s : State) (i : Nat) (v : PwrDomain) : (s.setPdom i v).linkKeys = s.linkKeys := rfl
@[simp] theorem State.setPdom_pr (s : State) (i : Nat) (v : PwrDomain) : (s.setPdom i v).pr = s.pr := rfl
@[simp] theorem State.setPdom_fc (s : State) (i : Nat) (v : PwrDomain) : (s.setPdom i v).fc = s.fc := rfl
@[simp] theorem State.setPdom_faultnLevel (s : State) (i : Nat) (v : PwrDomain) : (s.setPdom i v).faultnLevel = s.faultnLevel := rfl
@[simp] theorem State.setPdom_ks (s : State) (i : Nat) (v : PwrDomain) : (s.setPdom i v).ks = s.ks := rfl
@[simp] theorem State.setPdom_gr (s : State) (i : Nat) (v : PwrDomain) : (s.setPdom i v).gr = s.gr := rfl
@[simp] theorem State.setPdom_ic (s : State) (i : Nat) (v : PwrDomain) : (s.setPdom i v).ic = s.ic := rfl
@[simp] theorem State.setPdom_dma (s : State) (i : Nat) (v : PwrDomain) : (s.setPdom i v).dma = s.dma := rfl
@[simp] theorem State.setPdom_dmaLast (s : State) (i : Nat) (v : PwrDomain) : (s.setPdom i v).dmaLast = s.dmaLast := rfl
@[simp] theorem State.setPdom_hostMem (s : State) (i : Nat) (v : PwrDomain) : (s.setPdom i v).hostMem = s.hostMem := rfl
@[simp] theorem State.setPdom_hbm (s : State) (i : Nat) (v : PwrDomain) : (s.setPdom i v).hbm = s.hbm := rfl
@[simp] theorem State.setPdom_hbm2 (s : State) (i : Nat) (v : PwrDomain) : (s.setPdom i v).hbm2 = s.hbm2 := rfl
@[simp] theorem State.setPdom_sram (s : State) (i : Nat) (v : PwrDomain) : (s.setPdom i v).sram = s.sram := rfl
@[simp] theorem State.setPdom_hostBad (s : State) (i : Nat) (v : PwrDomain) : (s.setPdom i v).hostBad = s.hostBad := rfl
@[simp] theorem State.setPdom_ln (s : State) (i : Nat) (v : PwrDomain) : (s.setPdom i v).ln = s.ln := rfl
@[simp] theorem State.setPdom_ep (s : State) (i : Nat) (v : PwrDomain) : (s.setPdom i v).ep = s.ep := rfl
@[simp] theorem State.setPdom_sub (s : State) (i : Nat) (v : PwrDomain) : (s.setPdom i v).sub = s.sub := rfl
@[simp] theorem State.setPdom_tol (s : State) (i : Nat) (v : PwrDomain) : (s.setPdom i v).tol = s.tol := rfl

/-! ## Writing `cand` -/

@[simp] theorem State.cand_setCand (s : State) (i : Nat) (v : Cand) : (s.setCand i v).cand i = v := Tbl.get_set_self ..
theorem State.cand_setCand_ne (s : State) {i j : Nat} (v : Cand) (h : j ≠ i) : (s.setCand i v).cand j = s.cand j :=
  Tbl.get_set_ne _ _ h
@[simp] theorem State.updCand_eq (s : State) (i : Nat) (f : Cand → Cand) : s.updCand i f = s.setCand i (f (s.cand i)) := rfl
@[simp] theorem State.setCand_pending (s : State) (i : Nat) (v : Cand) : (s.setCand i v).pending = s.pending := rfl
@[simp] theorem State.setCand_clk (s : State) (i : Nat) (v : Cand) : (s.setCand i v).clk = s.clk := rfl
@[simp] theorem State.setCand_clkFrac (s : State) (i : Nat) (v : Cand) : (s.setCand i v).clkFrac = s.clkFrac := rfl
@[simp] theorem State.setCand_cycles (s : State) (i : Nat) (v : Cand) : (s.setCand i v).cycles = s.cycles := rfl
@[simp] theorem State.setCand_fuses (s : State) (i : Nat) (v : Cand) : (s.setCand i v).fuses = s.fuses := rfl
@[simp] theorem State.setCand_straps (s : State) (i : Nat) (v : Cand) : (s.setCand i v).straps = s.straps := rfl
@[simp] theorem State.setCand_startup (s : State) (i : Nat) (v : Cand) : (s.setCand i v).startup = s.startup := rfl
@[simp] theorem State.setCand_glb (s : State) (i : Nat) (v : Cand) : (s.setCand i v).glb = s.glb := rfl
@[simp] theorem State.setCand_pins (s : State) (i : Nat) (v : Cand) : (s.setCand i v).pins = s.pins := rfl
@[simp] theorem State.setCand_boot (s : State) (i : Nat) (v : Cand) : (s.setCand i v).boot = s.boot := rfl
@[simp] theorem State.setCand_mb (s : State) (i : Nat) (v : Cand) : (s.setCand i v).mb = s.mb := rfl
@[simp] theorem State.setCand_bx (s : State) (i : Nat) (v : Cand) : (s.setCand i v).bx = s.bx := rfl
@[simp] theorem State.setCand_td (s : State) (i : Nat) (v : Cand) : (s.setCand i v).td = s.td := rfl
@[simp] theorem State.setCand_tb (s : State) (i : Nat) (v : Cand) : (s.setCand i v).tb = s.tb := rfl
@[simp] theorem State.setCand_ptp (s : State) (i : Nat) (v : Cand) : (s.setCand i v).ptp = s.ptp := rfl
@[simp] theorem State.setCand_tsq (s : State) (i : Nat) (v : Cand) : (s.setCand i v).tsq = s.tsq := rfl
@[simp] theorem State.setCand_sr (s : State) (i : Nat) (v : Cand) : (s.setCand i v).sr = s.sr := rfl
@[simp] theorem State.setCand_rx (s : State) (i : Nat) (v : Cand) : (s.setCand i v).rx = s.rx := rfl
@[simp] theorem State.setCand_rings (s : State) (i : Nat) (v : Cand) : (s.setCand i v).rings = s.rings := rfl
@[simp] theorem State.setCand_readouts (s : State) (i : Nat) (v : Cand) : (s.setCand i v).readouts = s.readouts := rfl
@[simp] theorem State.setCand_hbmStacks (s : State) (i : Nat) (v : Cand) : (s.setCand i v).hbmStacks = s.hbmStacks := rfl
@[simp] theorem State.setCand_scrubRate (s : State) (i : Nat) (v : Cand) : (s.setCand i v).scrubRate = s.scrubRate := rfl
@[simp] theorem State.setCand_xp (s : State) (i : Nat) (v : Cand) : (s.setCand i v).xp = s.xp := rfl
@[simp] theorem State.setCand_planeA (s : State) (i : Nat) (v : Cand) : (s.setCand i v).planeA = s.planeA := rfl
@[simp] theorem State.setCand_planeB (s : State) (i : Nat) (v : Cand) : (s.setCand i v).planeB = s.planeB := rfl
@[simp] theorem State.setCand_repeated (s : State) (i : Nat) (v : Cand) : (s.setCand i v).repeated = s.repeated := rfl
@[simp] theorem State.setCand_inPorts (s : State) (i : Nat) (v : Cand) : (s.setCand i v).inPorts = s.inPorts := rfl
@[simp] theorem State.setCand_de (s : State) (i : Nat) (v : Cand) : (s.setCand i v).de = s.de := rfl
@[simp] theorem State.setCand_tx (s : State) (i : Nat) (v : Cand) : (s.setCand i v).tx = s.tx := rfl
@[simp] theorem State.setCand_au (s : State) (i : Nat) (v : Cand) : (s.setCand i v).au = s.au := rfl
@[simp] theorem State.setCand_mq (s : State) (i : Nat) (v : Cand) : (s.setCand i v).mq = s.mq := rfl
@[simp] theorem State.setCand_veneers (s : State) (i : Nat) (v : Cand) : (s.setCand i v).veneers = s.veneers := rfl
@[simp] theorem State.setCand_dt (s : State) (i : Nat) (v : Cand) : (s.setCand i v).dt = s.dt := rfl
@[simp] theorem State.setCand_ties (s : State) (i : Nat) (v : Cand) : (s.setCand i v).ties = s.ties := rfl
@[simp] theorem State.setCand_depart (s : State) (i : Nat) (v : Cand) : (s.setCand i v).depart = s.depart := rfl
@[simp] theorem State.setCand_group (s : State) (i : Nat) (v : Cand) : (s.setCand i v).group = s.group := rfl
@[simp] theorem State.setCand_linkKeys (s : State) (i : Nat) (v : Cand) : (s.setCand i v).linkKeys = s.linkKeys := rfl
@[simp] theorem State.setCand_pr (s : State) (i : Nat) (v : Cand) : (s.setCand i v).pr = s.pr := rfl
@[simp] theorem State.setCand_fc (s : State) (i : Nat) (v : Cand) : (s.setCand i v).fc = s.fc := rfl
@[simp] theorem State.setCand_faultnLevel (s : State) (i : Nat) (v : Cand) : (s.setCand i v).faultnLevel = s.faultnLevel := rfl
@[simp] theorem State.setCand_ks (s : State) (i : Nat) (v : Cand) : (s.setCand i v).ks = s.ks := rfl
@[simp] theorem State.setCand_gr (s : State) (i : Nat) (v : Cand) : (s.setCand i v).gr = s.gr := rfl
@[simp] theorem State.setCand_ic (s : State) (i : Nat) (v : Cand) : (s.setCand i v).ic = s.ic := rfl
@[simp] theorem State.setCand_dma (s : State) (i : Nat) (v : Cand) : (s.setCand i v).dma = s.dma := rfl
@[simp] theorem State.setCand_dmaLast (s : State) (i : Nat) (v : Cand) : (s.setCand i v).dmaLast = s.dmaLast := rfl
@[simp] theorem State.setCand_hostMem (s : State) (i : Nat) (v : Cand) : (s.setCand i v).hostMem = s.hostMem := rfl
@[simp] theorem State.setCand_hbm (s : State) (i : Nat) (v : Cand) : (s.setCand i v).hbm = s.hbm := rfl
@[simp] theorem State.setCand_hbm2 (s : State) (i : Nat) (v : Cand) : (s.setCand i v).hbm2 = s.hbm2 := rfl
@[simp] theorem State.setCand_sram (s : State) (i : Nat) (v : Cand) : (s.setCand i v).sram = s.sram := rfl
@[simp] theorem State.setCand_hostBad (s : State) (i : Nat) (v : Cand) : (s.setCand i v).hostBad = s.hostBad := rfl
@[simp] theorem State.setCand_ln (s : State) (i : Nat) (v : Cand) : (s.setCand i v).ln = s.ln := rfl
@[simp] theorem State.setCand_ep (s : State) (i : Nat) (v : Cand) : (s.setCand i v).ep = s.ep := rfl
@[simp] theorem State.setCand_sub (s : State) (i : Nat) (v : Cand) : (s.setCand i v).sub = s.sub := rfl
@[simp] theorem State.setCand_pw (s : State) (i : Nat) (v : Cand) : (s.setCand i v).pw = s.pw := rfl
@[simp] theorem State.setCand_tol (s : State) (i : Nat) (v : Cand) : (s.setCand i v).tol = s.tol := rfl

/-! ## Writing `fpOut` -/

@[simp] theorem State.fpOut_setFpOut (s : State) (i : Nat) (v : FpOut) : (s.setFpOut i v).fpOut i = v := Tbl.get_set_self ..
theorem State.fpOut_setFpOut_ne (s : State) {i j : Nat} (v : FpOut) (h : j ≠ i) : (s.setFpOut i v).fpOut j = s.fpOut j :=
  Tbl.get_set_ne _ _ h
@[simp] theorem State.updFpOut_eq (s : State) (i : Nat) (f : FpOut → FpOut) : s.updFpOut i f = s.setFpOut i (f (s.fpOut i)) := rfl
@[simp] theorem State.setFpOut_pending (s : State) (i : Nat) (v : FpOut) : (s.setFpOut i v).pending = s.pending := rfl
@[simp] theorem State.setFpOut_clk (s : State) (i : Nat) (v : FpOut) : (s.setFpOut i v).clk = s.clk := rfl
@[simp] theorem State.setFpOut_clkFrac (s : State) (i : Nat) (v : FpOut) : (s.setFpOut i v).clkFrac = s.clkFrac := rfl
@[simp] theorem State.setFpOut_cycles (s : State) (i : Nat) (v : FpOut) : (s.setFpOut i v).cycles = s.cycles := rfl
@[simp] theorem State.setFpOut_fuses (s : State) (i : Nat) (v : FpOut) : (s.setFpOut i v).fuses = s.fuses := rfl
@[simp] theorem State.setFpOut_straps (s : State) (i : Nat) (v : FpOut) : (s.setFpOut i v).straps = s.straps := rfl
@[simp] theorem State.setFpOut_startup (s : State) (i : Nat) (v : FpOut) : (s.setFpOut i v).startup = s.startup := rfl
@[simp] theorem State.setFpOut_glb (s : State) (i : Nat) (v : FpOut) : (s.setFpOut i v).glb = s.glb := rfl
@[simp] theorem State.setFpOut_pins (s : State) (i : Nat) (v : FpOut) : (s.setFpOut i v).pins = s.pins := rfl
@[simp] theorem State.setFpOut_boot (s : State) (i : Nat) (v : FpOut) : (s.setFpOut i v).boot = s.boot := rfl
@[simp] theorem State.setFpOut_mb (s : State) (i : Nat) (v : FpOut) : (s.setFpOut i v).mb = s.mb := rfl
@[simp] theorem State.setFpOut_bx (s : State) (i : Nat) (v : FpOut) : (s.setFpOut i v).bx = s.bx := rfl
@[simp] theorem State.setFpOut_td (s : State) (i : Nat) (v : FpOut) : (s.setFpOut i v).td = s.td := rfl
@[simp] theorem State.setFpOut_tb (s : State) (i : Nat) (v : FpOut) : (s.setFpOut i v).tb = s.tb := rfl
@[simp] theorem State.setFpOut_ptp (s : State) (i : Nat) (v : FpOut) : (s.setFpOut i v).ptp = s.ptp := rfl
@[simp] theorem State.setFpOut_tsq (s : State) (i : Nat) (v : FpOut) : (s.setFpOut i v).tsq = s.tsq := rfl
@[simp] theorem State.setFpOut_sr (s : State) (i : Nat) (v : FpOut) : (s.setFpOut i v).sr = s.sr := rfl
@[simp] theorem State.setFpOut_rx (s : State) (i : Nat) (v : FpOut) : (s.setFpOut i v).rx = s.rx := rfl
@[simp] theorem State.setFpOut_rings (s : State) (i : Nat) (v : FpOut) : (s.setFpOut i v).rings = s.rings := rfl
@[simp] theorem State.setFpOut_readouts (s : State) (i : Nat) (v : FpOut) : (s.setFpOut i v).readouts = s.readouts := rfl
@[simp] theorem State.setFpOut_hbmStacks (s : State) (i : Nat) (v : FpOut) : (s.setFpOut i v).hbmStacks = s.hbmStacks := rfl
@[simp] theorem State.setFpOut_scrubRate (s : State) (i : Nat) (v : FpOut) : (s.setFpOut i v).scrubRate = s.scrubRate := rfl
@[simp] theorem State.setFpOut_xp (s : State) (i : Nat) (v : FpOut) : (s.setFpOut i v).xp = s.xp := rfl
@[simp] theorem State.setFpOut_planeA (s : State) (i : Nat) (v : FpOut) : (s.setFpOut i v).planeA = s.planeA := rfl
@[simp] theorem State.setFpOut_planeB (s : State) (i : Nat) (v : FpOut) : (s.setFpOut i v).planeB = s.planeB := rfl
@[simp] theorem State.setFpOut_repeated (s : State) (i : Nat) (v : FpOut) : (s.setFpOut i v).repeated = s.repeated := rfl
@[simp] theorem State.setFpOut_inPorts (s : State) (i : Nat) (v : FpOut) : (s.setFpOut i v).inPorts = s.inPorts := rfl
@[simp] theorem State.setFpOut_de (s : State) (i : Nat) (v : FpOut) : (s.setFpOut i v).de = s.de := rfl
@[simp] theorem State.setFpOut_tx (s : State) (i : Nat) (v : FpOut) : (s.setFpOut i v).tx = s.tx := rfl
@[simp] theorem State.setFpOut_au (s : State) (i : Nat) (v : FpOut) : (s.setFpOut i v).au = s.au := rfl
@[simp] theorem State.setFpOut_mq (s : State) (i : Nat) (v : FpOut) : (s.setFpOut i v).mq = s.mq := rfl
@[simp] theorem State.setFpOut_veneers (s : State) (i : Nat) (v : FpOut) : (s.setFpOut i v).veneers = s.veneers := rfl
@[simp] theorem State.setFpOut_dt (s : State) (i : Nat) (v : FpOut) : (s.setFpOut i v).dt = s.dt := rfl
@[simp] theorem State.setFpOut_ties (s : State) (i : Nat) (v : FpOut) : (s.setFpOut i v).ties = s.ties := rfl
@[simp] theorem State.setFpOut_depart (s : State) (i : Nat) (v : FpOut) : (s.setFpOut i v).depart = s.depart := rfl
@[simp] theorem State.setFpOut_group (s : State) (i : Nat) (v : FpOut) : (s.setFpOut i v).group = s.group := rfl
@[simp] theorem State.setFpOut_linkKeys (s : State) (i : Nat) (v : FpOut) : (s.setFpOut i v).linkKeys = s.linkKeys := rfl
@[simp] theorem State.setFpOut_pr (s : State) (i : Nat) (v : FpOut) : (s.setFpOut i v).pr = s.pr := rfl
@[simp] theorem State.setFpOut_fc (s : State) (i : Nat) (v : FpOut) : (s.setFpOut i v).fc = s.fc := rfl
@[simp] theorem State.setFpOut_faultnLevel (s : State) (i : Nat) (v : FpOut) : (s.setFpOut i v).faultnLevel = s.faultnLevel := rfl
@[simp] theorem State.setFpOut_ks (s : State) (i : Nat) (v : FpOut) : (s.setFpOut i v).ks = s.ks := rfl
@[simp] theorem State.setFpOut_gr (s : State) (i : Nat) (v : FpOut) : (s.setFpOut i v).gr = s.gr := rfl
@[simp] theorem State.setFpOut_ic (s : State) (i : Nat) (v : FpOut) : (s.setFpOut i v).ic = s.ic := rfl
@[simp] theorem State.setFpOut_dma (s : State) (i : Nat) (v : FpOut) : (s.setFpOut i v).dma = s.dma := rfl
@[simp] theorem State.setFpOut_dmaLast (s : State) (i : Nat) (v : FpOut) : (s.setFpOut i v).dmaLast = s.dmaLast := rfl
@[simp] theorem State.setFpOut_hostMem (s : State) (i : Nat) (v : FpOut) : (s.setFpOut i v).hostMem = s.hostMem := rfl
@[simp] theorem State.setFpOut_hbm (s : State) (i : Nat) (v : FpOut) : (s.setFpOut i v).hbm = s.hbm := rfl
@[simp] theorem State.setFpOut_hbm2 (s : State) (i : Nat) (v : FpOut) : (s.setFpOut i v).hbm2 = s.hbm2 := rfl
@[simp] theorem State.setFpOut_sram (s : State) (i : Nat) (v : FpOut) : (s.setFpOut i v).sram = s.sram := rfl
@[simp] theorem State.setFpOut_hostBad (s : State) (i : Nat) (v : FpOut) : (s.setFpOut i v).hostBad = s.hostBad := rfl
@[simp] theorem State.setFpOut_ln (s : State) (i : Nat) (v : FpOut) : (s.setFpOut i v).ln = s.ln := rfl
@[simp] theorem State.setFpOut_ep (s : State) (i : Nat) (v : FpOut) : (s.setFpOut i v).ep = s.ep := rfl
@[simp] theorem State.setFpOut_sub (s : State) (i : Nat) (v : FpOut) : (s.setFpOut i v).sub = s.sub := rfl
@[simp] theorem State.setFpOut_pw (s : State) (i : Nat) (v : FpOut) : (s.setFpOut i v).pw = s.pw := rfl
@[simp] theorem State.setFpOut_tol (s : State) (i : Nat) (v : FpOut) : (s.setFpOut i v).tol = s.tol := rfl

/-! ## Writing `slot` -/

@[simp] theorem State.slot_setSlot (s : State) (i : Nat) (v : Slot) : (s.setSlot i v).slot i = v := Tbl.get_set_self ..
theorem State.slot_setSlot_ne (s : State) {i j : Nat} (v : Slot) (h : j ≠ i) : (s.setSlot i v).slot j = s.slot j :=
  Tbl.get_set_ne _ _ h
@[simp] theorem State.updSlot_eq (s : State) (i : Nat) (f : Slot → Slot) : s.updSlot i f = s.setSlot i (f (s.slot i)) := rfl
@[simp] theorem State.setSlot_pending (s : State) (i : Nat) (v : Slot) : (s.setSlot i v).pending = s.pending := rfl
@[simp] theorem State.setSlot_clk (s : State) (i : Nat) (v : Slot) : (s.setSlot i v).clk = s.clk := rfl
@[simp] theorem State.setSlot_clkFrac (s : State) (i : Nat) (v : Slot) : (s.setSlot i v).clkFrac = s.clkFrac := rfl
@[simp] theorem State.setSlot_cycles (s : State) (i : Nat) (v : Slot) : (s.setSlot i v).cycles = s.cycles := rfl
@[simp] theorem State.setSlot_fuses (s : State) (i : Nat) (v : Slot) : (s.setSlot i v).fuses = s.fuses := rfl
@[simp] theorem State.setSlot_straps (s : State) (i : Nat) (v : Slot) : (s.setSlot i v).straps = s.straps := rfl
@[simp] theorem State.setSlot_startup (s : State) (i : Nat) (v : Slot) : (s.setSlot i v).startup = s.startup := rfl
@[simp] theorem State.setSlot_glb (s : State) (i : Nat) (v : Slot) : (s.setSlot i v).glb = s.glb := rfl
@[simp] theorem State.setSlot_pins (s : State) (i : Nat) (v : Slot) : (s.setSlot i v).pins = s.pins := rfl
@[simp] theorem State.setSlot_boot (s : State) (i : Nat) (v : Slot) : (s.setSlot i v).boot = s.boot := rfl
@[simp] theorem State.setSlot_mb (s : State) (i : Nat) (v : Slot) : (s.setSlot i v).mb = s.mb := rfl
@[simp] theorem State.setSlot_bx (s : State) (i : Nat) (v : Slot) : (s.setSlot i v).bx = s.bx := rfl
@[simp] theorem State.setSlot_rf (s : State) (i : Nat) (v : Slot) : (s.setSlot i v).rf = s.rf := rfl
@[simp] theorem State.setSlot_td (s : State) (i : Nat) (v : Slot) : (s.setSlot i v).td = s.td := rfl
@[simp] theorem State.setSlot_tb (s : State) (i : Nat) (v : Slot) : (s.setSlot i v).tb = s.tb := rfl
@[simp] theorem State.setSlot_ptp (s : State) (i : Nat) (v : Slot) : (s.setSlot i v).ptp = s.ptp := rfl
@[simp] theorem State.setSlot_tsq (s : State) (i : Nat) (v : Slot) : (s.setSlot i v).tsq = s.tsq := rfl
@[simp] theorem State.setSlot_sr (s : State) (i : Nat) (v : Slot) : (s.setSlot i v).sr = s.sr := rfl
@[simp] theorem State.setSlot_rx (s : State) (i : Nat) (v : Slot) : (s.setSlot i v).rx = s.rx := rfl
@[simp] theorem State.setSlot_rings (s : State) (i : Nat) (v : Slot) : (s.setSlot i v).rings = s.rings := rfl
@[simp] theorem State.setSlot_readouts (s : State) (i : Nat) (v : Slot) : (s.setSlot i v).readouts = s.readouts := rfl
@[simp] theorem State.setSlot_hbmStacks (s : State) (i : Nat) (v : Slot) : (s.setSlot i v).hbmStacks = s.hbmStacks := rfl
@[simp] theorem State.setSlot_scrubRate (s : State) (i : Nat) (v : Slot) : (s.setSlot i v).scrubRate = s.scrubRate := rfl
@[simp] theorem State.setSlot_xp (s : State) (i : Nat) (v : Slot) : (s.setSlot i v).xp = s.xp := rfl
@[simp] theorem State.setSlot_planeA (s : State) (i : Nat) (v : Slot) : (s.setSlot i v).planeA = s.planeA := rfl
@[simp] theorem State.setSlot_planeB (s : State) (i : Nat) (v : Slot) : (s.setSlot i v).planeB = s.planeB := rfl
@[simp] theorem State.setSlot_repeated (s : State) (i : Nat) (v : Slot) : (s.setSlot i v).repeated = s.repeated := rfl
@[simp] theorem State.setSlot_inPorts (s : State) (i : Nat) (v : Slot) : (s.setSlot i v).inPorts = s.inPorts := rfl
@[simp] theorem State.setSlot_de (s : State) (i : Nat) (v : Slot) : (s.setSlot i v).de = s.de := rfl
@[simp] theorem State.setSlot_tx (s : State) (i : Nat) (v : Slot) : (s.setSlot i v).tx = s.tx := rfl
@[simp] theorem State.setSlot_au (s : State) (i : Nat) (v : Slot) : (s.setSlot i v).au = s.au := rfl
@[simp] theorem State.setSlot_mq (s : State) (i : Nat) (v : Slot) : (s.setSlot i v).mq = s.mq := rfl
@[simp] theorem State.setSlot_veneers (s : State) (i : Nat) (v : Slot) : (s.setSlot i v).veneers = s.veneers := rfl
@[simp] theorem State.setSlot_dt (s : State) (i : Nat) (v : Slot) : (s.setSlot i v).dt = s.dt := rfl
@[simp] theorem State.setSlot_ties (s : State) (i : Nat) (v : Slot) : (s.setSlot i v).ties = s.ties := rfl
@[simp] theorem State.setSlot_depart (s : State) (i : Nat) (v : Slot) : (s.setSlot i v).depart = s.depart := rfl
@[simp] theorem State.setSlot_group (s : State) (i : Nat) (v : Slot) : (s.setSlot i v).group = s.group := rfl
@[simp] theorem State.setSlot_linkKeys (s : State) (i : Nat) (v : Slot) : (s.setSlot i v).linkKeys = s.linkKeys := rfl
@[simp] theorem State.setSlot_pr (s : State) (i : Nat) (v : Slot) : (s.setSlot i v).pr = s.pr := rfl
@[simp] theorem State.setSlot_fc (s : State) (i : Nat) (v : Slot) : (s.setSlot i v).fc = s.fc := rfl
@[simp] theorem State.setSlot_faultnLevel (s : State) (i : Nat) (v : Slot) : (s.setSlot i v).faultnLevel = s.faultnLevel := rfl
@[simp] theorem State.setSlot_gr (s : State) (i : Nat) (v : Slot) : (s.setSlot i v).gr = s.gr := rfl
@[simp] theorem State.setSlot_ic (s : State) (i : Nat) (v : Slot) : (s.setSlot i v).ic = s.ic := rfl
@[simp] theorem State.setSlot_dma (s : State) (i : Nat) (v : Slot) : (s.setSlot i v).dma = s.dma := rfl
@[simp] theorem State.setSlot_dmaLast (s : State) (i : Nat) (v : Slot) : (s.setSlot i v).dmaLast = s.dmaLast := rfl
@[simp] theorem State.setSlot_hostMem (s : State) (i : Nat) (v : Slot) : (s.setSlot i v).hostMem = s.hostMem := rfl
@[simp] theorem State.setSlot_hbm (s : State) (i : Nat) (v : Slot) : (s.setSlot i v).hbm = s.hbm := rfl
@[simp] theorem State.setSlot_hbm2 (s : State) (i : Nat) (v : Slot) : (s.setSlot i v).hbm2 = s.hbm2 := rfl
@[simp] theorem State.setSlot_sram (s : State) (i : Nat) (v : Slot) : (s.setSlot i v).sram = s.sram := rfl
@[simp] theorem State.setSlot_hostBad (s : State) (i : Nat) (v : Slot) : (s.setSlot i v).hostBad = s.hostBad := rfl
@[simp] theorem State.setSlot_ln (s : State) (i : Nat) (v : Slot) : (s.setSlot i v).ln = s.ln := rfl
@[simp] theorem State.setSlot_ep (s : State) (i : Nat) (v : Slot) : (s.setSlot i v).ep = s.ep := rfl
@[simp] theorem State.setSlot_sub (s : State) (i : Nat) (v : Slot) : (s.setSlot i v).sub = s.sub := rfl
@[simp] theorem State.setSlot_pw (s : State) (i : Nat) (v : Slot) : (s.setSlot i v).pw = s.pw := rfl
@[simp] theorem State.setSlot_tol (s : State) (i : Nat) (v : Slot) : (s.setSlot i v).tol = s.tol := rfl

/-! ## Writing `salvo` -/

@[simp] theorem State.salvo_setSalvo (s : State) (i : Nat) (v : Salvo) : (s.setSalvo i v).salvo i = v := Tbl.get_set_self ..
theorem State.salvo_setSalvo_ne (s : State) {i j : Nat} (v : Salvo) (h : j ≠ i) : (s.setSalvo i v).salvo j = s.salvo j :=
  Tbl.get_set_ne _ _ h
@[simp] theorem State.updSalvo_eq (s : State) (i : Nat) (f : Salvo → Salvo) : s.updSalvo i f = s.setSalvo i (f (s.salvo i)) := rfl
@[simp] theorem State.setSalvo_pending (s : State) (i : Nat) (v : Salvo) : (s.setSalvo i v).pending = s.pending := rfl
@[simp] theorem State.setSalvo_clk (s : State) (i : Nat) (v : Salvo) : (s.setSalvo i v).clk = s.clk := rfl
@[simp] theorem State.setSalvo_clkFrac (s : State) (i : Nat) (v : Salvo) : (s.setSalvo i v).clkFrac = s.clkFrac := rfl
@[simp] theorem State.setSalvo_cycles (s : State) (i : Nat) (v : Salvo) : (s.setSalvo i v).cycles = s.cycles := rfl
@[simp] theorem State.setSalvo_fuses (s : State) (i : Nat) (v : Salvo) : (s.setSalvo i v).fuses = s.fuses := rfl
@[simp] theorem State.setSalvo_straps (s : State) (i : Nat) (v : Salvo) : (s.setSalvo i v).straps = s.straps := rfl
@[simp] theorem State.setSalvo_startup (s : State) (i : Nat) (v : Salvo) : (s.setSalvo i v).startup = s.startup := rfl
@[simp] theorem State.setSalvo_glb (s : State) (i : Nat) (v : Salvo) : (s.setSalvo i v).glb = s.glb := rfl
@[simp] theorem State.setSalvo_pins (s : State) (i : Nat) (v : Salvo) : (s.setSalvo i v).pins = s.pins := rfl
@[simp] theorem State.setSalvo_boot (s : State) (i : Nat) (v : Salvo) : (s.setSalvo i v).boot = s.boot := rfl
@[simp] theorem State.setSalvo_mb (s : State) (i : Nat) (v : Salvo) : (s.setSalvo i v).mb = s.mb := rfl
@[simp] theorem State.setSalvo_rf (s : State) (i : Nat) (v : Salvo) : (s.setSalvo i v).rf = s.rf := rfl
@[simp] theorem State.setSalvo_td (s : State) (i : Nat) (v : Salvo) : (s.setSalvo i v).td = s.td := rfl
@[simp] theorem State.setSalvo_tb (s : State) (i : Nat) (v : Salvo) : (s.setSalvo i v).tb = s.tb := rfl
@[simp] theorem State.setSalvo_ptp (s : State) (i : Nat) (v : Salvo) : (s.setSalvo i v).ptp = s.ptp := rfl
@[simp] theorem State.setSalvo_tsq (s : State) (i : Nat) (v : Salvo) : (s.setSalvo i v).tsq = s.tsq := rfl
@[simp] theorem State.setSalvo_sr (s : State) (i : Nat) (v : Salvo) : (s.setSalvo i v).sr = s.sr := rfl
@[simp] theorem State.setSalvo_rx (s : State) (i : Nat) (v : Salvo) : (s.setSalvo i v).rx = s.rx := rfl
@[simp] theorem State.setSalvo_rings (s : State) (i : Nat) (v : Salvo) : (s.setSalvo i v).rings = s.rings := rfl
@[simp] theorem State.setSalvo_readouts (s : State) (i : Nat) (v : Salvo) : (s.setSalvo i v).readouts = s.readouts := rfl
@[simp] theorem State.setSalvo_hbmStacks (s : State) (i : Nat) (v : Salvo) : (s.setSalvo i v).hbmStacks = s.hbmStacks := rfl
@[simp] theorem State.setSalvo_scrubRate (s : State) (i : Nat) (v : Salvo) : (s.setSalvo i v).scrubRate = s.scrubRate := rfl
@[simp] theorem State.setSalvo_xp (s : State) (i : Nat) (v : Salvo) : (s.setSalvo i v).xp = s.xp := rfl
@[simp] theorem State.setSalvo_planeA (s : State) (i : Nat) (v : Salvo) : (s.setSalvo i v).planeA = s.planeA := rfl
@[simp] theorem State.setSalvo_planeB (s : State) (i : Nat) (v : Salvo) : (s.setSalvo i v).planeB = s.planeB := rfl
@[simp] theorem State.setSalvo_repeated (s : State) (i : Nat) (v : Salvo) : (s.setSalvo i v).repeated = s.repeated := rfl
@[simp] theorem State.setSalvo_inPorts (s : State) (i : Nat) (v : Salvo) : (s.setSalvo i v).inPorts = s.inPorts := rfl
@[simp] theorem State.setSalvo_de (s : State) (i : Nat) (v : Salvo) : (s.setSalvo i v).de = s.de := rfl
@[simp] theorem State.setSalvo_tx (s : State) (i : Nat) (v : Salvo) : (s.setSalvo i v).tx = s.tx := rfl
@[simp] theorem State.setSalvo_au (s : State) (i : Nat) (v : Salvo) : (s.setSalvo i v).au = s.au := rfl
@[simp] theorem State.setSalvo_mq (s : State) (i : Nat) (v : Salvo) : (s.setSalvo i v).mq = s.mq := rfl
@[simp] theorem State.setSalvo_veneers (s : State) (i : Nat) (v : Salvo) : (s.setSalvo i v).veneers = s.veneers := rfl
@[simp] theorem State.setSalvo_dt (s : State) (i : Nat) (v : Salvo) : (s.setSalvo i v).dt = s.dt := rfl
@[simp] theorem State.setSalvo_ties (s : State) (i : Nat) (v : Salvo) : (s.setSalvo i v).ties = s.ties := rfl
@[simp] theorem State.setSalvo_depart (s : State) (i : Nat) (v : Salvo) : (s.setSalvo i v).depart = s.depart := rfl
@[simp] theorem State.setSalvo_group (s : State) (i : Nat) (v : Salvo) : (s.setSalvo i v).group = s.group := rfl
@[simp] theorem State.setSalvo_linkKeys (s : State) (i : Nat) (v : Salvo) : (s.setSalvo i v).linkKeys = s.linkKeys := rfl
@[simp] theorem State.setSalvo_pr (s : State) (i : Nat) (v : Salvo) : (s.setSalvo i v).pr = s.pr := rfl
@[simp] theorem State.setSalvo_fc (s : State) (i : Nat) (v : Salvo) : (s.setSalvo i v).fc = s.fc := rfl
@[simp] theorem State.setSalvo_faultnLevel (s : State) (i : Nat) (v : Salvo) : (s.setSalvo i v).faultnLevel = s.faultnLevel := rfl
@[simp] theorem State.setSalvo_ks (s : State) (i : Nat) (v : Salvo) : (s.setSalvo i v).ks = s.ks := rfl
@[simp] theorem State.setSalvo_gr (s : State) (i : Nat) (v : Salvo) : (s.setSalvo i v).gr = s.gr := rfl
@[simp] theorem State.setSalvo_ic (s : State) (i : Nat) (v : Salvo) : (s.setSalvo i v).ic = s.ic := rfl
@[simp] theorem State.setSalvo_dma (s : State) (i : Nat) (v : Salvo) : (s.setSalvo i v).dma = s.dma := rfl
@[simp] theorem State.setSalvo_dmaLast (s : State) (i : Nat) (v : Salvo) : (s.setSalvo i v).dmaLast = s.dmaLast := rfl
@[simp] theorem State.setSalvo_hostMem (s : State) (i : Nat) (v : Salvo) : (s.setSalvo i v).hostMem = s.hostMem := rfl
@[simp] theorem State.setSalvo_hbm (s : State) (i : Nat) (v : Salvo) : (s.setSalvo i v).hbm = s.hbm := rfl
@[simp] theorem State.setSalvo_hbm2 (s : State) (i : Nat) (v : Salvo) : (s.setSalvo i v).hbm2 = s.hbm2 := rfl
@[simp] theorem State.setSalvo_sram (s : State) (i : Nat) (v : Salvo) : (s.setSalvo i v).sram = s.sram := rfl
@[simp] theorem State.setSalvo_hostBad (s : State) (i : Nat) (v : Salvo) : (s.setSalvo i v).hostBad = s.hostBad := rfl
@[simp] theorem State.setSalvo_ln (s : State) (i : Nat) (v : Salvo) : (s.setSalvo i v).ln = s.ln := rfl
@[simp] theorem State.setSalvo_ep (s : State) (i : Nat) (v : Salvo) : (s.setSalvo i v).ep = s.ep := rfl
@[simp] theorem State.setSalvo_sub (s : State) (i : Nat) (v : Salvo) : (s.setSalvo i v).sub = s.sub := rfl
@[simp] theorem State.setSalvo_pw (s : State) (i : Nat) (v : Salvo) : (s.setSalvo i v).pw = s.pw := rfl
@[simp] theorem State.setSalvo_tol (s : State) (i : Nat) (v : Salvo) : (s.setSalvo i v).tol = s.tol := rfl

/-! ## `updFlight` -/

@[simp] theorem State.updFlight_pending (s : State) (id : Nat) (f : Flight → Flight) : (s.updFlight id f).pending = s.pending := rfl
@[simp] theorem State.updFlight_clk (s : State) (id : Nat) (f : Flight → Flight) : (s.updFlight id f).clk = s.clk := rfl
@[simp] theorem State.updFlight_clkFrac (s : State) (id : Nat) (f : Flight → Flight) : (s.updFlight id f).clkFrac = s.clkFrac := rfl
@[simp] theorem State.updFlight_cycles (s : State) (id : Nat) (f : Flight → Flight) : (s.updFlight id f).cycles = s.cycles := rfl
@[simp] theorem State.updFlight_fuses (s : State) (id : Nat) (f : Flight → Flight) : (s.updFlight id f).fuses = s.fuses := rfl
@[simp] theorem State.updFlight_straps (s : State) (id : Nat) (f : Flight → Flight) : (s.updFlight id f).straps = s.straps := rfl
@[simp] theorem State.updFlight_startup (s : State) (id : Nat) (f : Flight → Flight) : (s.updFlight id f).startup = s.startup := rfl
@[simp] theorem State.updFlight_glb (s : State) (id : Nat) (f : Flight → Flight) : (s.updFlight id f).glb = s.glb := rfl
@[simp] theorem State.updFlight_pins (s : State) (id : Nat) (f : Flight → Flight) : (s.updFlight id f).pins = s.pins := rfl
@[simp] theorem State.updFlight_boot (s : State) (id : Nat) (f : Flight → Flight) : (s.updFlight id f).boot = s.boot := rfl
@[simp] theorem State.updFlight_mb (s : State) (id : Nat) (f : Flight → Flight) : (s.updFlight id f).mb = s.mb := rfl
@[simp] theorem State.updFlight_rf (s : State) (id : Nat) (f : Flight → Flight) : (s.updFlight id f).rf = s.rf := rfl
@[simp] theorem State.updFlight_td (s : State) (id : Nat) (f : Flight → Flight) : (s.updFlight id f).td = s.td := rfl
@[simp] theorem State.updFlight_tb (s : State) (id : Nat) (f : Flight → Flight) : (s.updFlight id f).tb = s.tb := rfl
@[simp] theorem State.updFlight_ptp (s : State) (id : Nat) (f : Flight → Flight) : (s.updFlight id f).ptp = s.ptp := rfl
@[simp] theorem State.updFlight_tsq (s : State) (id : Nat) (f : Flight → Flight) : (s.updFlight id f).tsq = s.tsq := rfl
@[simp] theorem State.updFlight_sr (s : State) (id : Nat) (f : Flight → Flight) : (s.updFlight id f).sr = s.sr := rfl
@[simp] theorem State.updFlight_rx (s : State) (id : Nat) (f : Flight → Flight) : (s.updFlight id f).rx = s.rx := rfl
@[simp] theorem State.updFlight_rings (s : State) (id : Nat) (f : Flight → Flight) : (s.updFlight id f).rings = s.rings := rfl
@[simp] theorem State.updFlight_readouts (s : State) (id : Nat) (f : Flight → Flight) : (s.updFlight id f).readouts = s.readouts := rfl
@[simp] theorem State.updFlight_hbmStacks (s : State) (id : Nat) (f : Flight → Flight) : (s.updFlight id f).hbmStacks = s.hbmStacks := rfl
@[simp] theorem State.updFlight_scrubRate (s : State) (id : Nat) (f : Flight → Flight) : (s.updFlight id f).scrubRate = s.scrubRate := rfl
@[simp] theorem State.updFlight_xp (s : State) (id : Nat) (f : Flight → Flight) : (s.updFlight id f).xp = s.xp := rfl
@[simp] theorem State.updFlight_planeA (s : State) (id : Nat) (f : Flight → Flight) : (s.updFlight id f).planeA = s.planeA := rfl
@[simp] theorem State.updFlight_planeB (s : State) (id : Nat) (f : Flight → Flight) : (s.updFlight id f).planeB = s.planeB := rfl
@[simp] theorem State.updFlight_repeated (s : State) (id : Nat) (f : Flight → Flight) : (s.updFlight id f).repeated = s.repeated := rfl
@[simp] theorem State.updFlight_inPorts (s : State) (id : Nat) (f : Flight → Flight) : (s.updFlight id f).inPorts = s.inPorts := rfl
@[simp] theorem State.updFlight_de (s : State) (id : Nat) (f : Flight → Flight) : (s.updFlight id f).de = s.de := rfl
@[simp] theorem State.updFlight_tx (s : State) (id : Nat) (f : Flight → Flight) : (s.updFlight id f).tx = s.tx := rfl
@[simp] theorem State.updFlight_au (s : State) (id : Nat) (f : Flight → Flight) : (s.updFlight id f).au = s.au := rfl
@[simp] theorem State.updFlight_mq (s : State) (id : Nat) (f : Flight → Flight) : (s.updFlight id f).mq = s.mq := rfl
@[simp] theorem State.updFlight_veneers (s : State) (id : Nat) (f : Flight → Flight) : (s.updFlight id f).veneers = s.veneers := rfl
@[simp] theorem State.updFlight_dt (s : State) (id : Nat) (f : Flight → Flight) : (s.updFlight id f).dt = s.dt := rfl
@[simp] theorem State.updFlight_ties (s : State) (id : Nat) (f : Flight → Flight) : (s.updFlight id f).ties = s.ties := rfl
@[simp] theorem State.updFlight_depart (s : State) (id : Nat) (f : Flight → Flight) : (s.updFlight id f).depart = s.depart := rfl
@[simp] theorem State.updFlight_group (s : State) (id : Nat) (f : Flight → Flight) : (s.updFlight id f).group = s.group := rfl
@[simp] theorem State.updFlight_linkKeys (s : State) (id : Nat) (f : Flight → Flight) : (s.updFlight id f).linkKeys = s.linkKeys := rfl
@[simp] theorem State.updFlight_pr (s : State) (id : Nat) (f : Flight → Flight) : (s.updFlight id f).pr = s.pr := rfl
@[simp] theorem State.updFlight_fc (s : State) (id : Nat) (f : Flight → Flight) : (s.updFlight id f).fc = s.fc := rfl
@[simp] theorem State.updFlight_faultnLevel (s : State) (id : Nat) (f : Flight → Flight) : (s.updFlight id f).faultnLevel = s.faultnLevel := rfl
@[simp] theorem State.updFlight_ks (s : State) (id : Nat) (f : Flight → Flight) : (s.updFlight id f).ks = s.ks := rfl
@[simp] theorem State.updFlight_gr (s : State) (id : Nat) (f : Flight → Flight) : (s.updFlight id f).gr = s.gr := rfl
@[simp] theorem State.updFlight_ic (s : State) (id : Nat) (f : Flight → Flight) : (s.updFlight id f).ic = s.ic := rfl
@[simp] theorem State.updFlight_dma (s : State) (id : Nat) (f : Flight → Flight) : (s.updFlight id f).dma = s.dma := rfl
@[simp] theorem State.updFlight_dmaLast (s : State) (id : Nat) (f : Flight → Flight) : (s.updFlight id f).dmaLast = s.dmaLast := rfl
@[simp] theorem State.updFlight_hostMem (s : State) (id : Nat) (f : Flight → Flight) : (s.updFlight id f).hostMem = s.hostMem := rfl
@[simp] theorem State.updFlight_hbm (s : State) (id : Nat) (f : Flight → Flight) : (s.updFlight id f).hbm = s.hbm := rfl
@[simp] theorem State.updFlight_hbm2 (s : State) (id : Nat) (f : Flight → Flight) : (s.updFlight id f).hbm2 = s.hbm2 := rfl
@[simp] theorem State.updFlight_sram (s : State) (id : Nat) (f : Flight → Flight) : (s.updFlight id f).sram = s.sram := rfl
@[simp] theorem State.updFlight_hostBad (s : State) (id : Nat) (f : Flight → Flight) : (s.updFlight id f).hostBad = s.hostBad := rfl
@[simp] theorem State.updFlight_ln (s : State) (id : Nat) (f : Flight → Flight) : (s.updFlight id f).ln = s.ln := rfl
@[simp] theorem State.updFlight_ep (s : State) (id : Nat) (f : Flight → Flight) : (s.updFlight id f).ep = s.ep := rfl
@[simp] theorem State.updFlight_sub (s : State) (id : Nat) (f : Flight → Flight) : (s.updFlight id f).sub = s.sub := rfl
@[simp] theorem State.updFlight_pw (s : State) (id : Nat) (f : Flight → Flight) : (s.updFlight id f).pw = s.pw := rfl
@[simp] theorem State.updFlight_tol (s : State) (id : Nat) (f : Flight → Flight) : (s.updFlight id f).tol = s.tol := rfl

/-! ## `settle` -/

@[simp] theorem State.settle_pending (s : State) (id : Nat) (r : Rep) : (s.settle id r).pending = s.pending := rfl
@[simp] theorem State.settle_clk (s : State) (id : Nat) (r : Rep) : (s.settle id r).clk = s.clk := rfl
@[simp] theorem State.settle_clkFrac (s : State) (id : Nat) (r : Rep) : (s.settle id r).clkFrac = s.clkFrac := rfl
@[simp] theorem State.settle_cycles (s : State) (id : Nat) (r : Rep) : (s.settle id r).cycles = s.cycles := rfl
@[simp] theorem State.settle_fuses (s : State) (id : Nat) (r : Rep) : (s.settle id r).fuses = s.fuses := rfl
@[simp] theorem State.settle_straps (s : State) (id : Nat) (r : Rep) : (s.settle id r).straps = s.straps := rfl
@[simp] theorem State.settle_startup (s : State) (id : Nat) (r : Rep) : (s.settle id r).startup = s.startup := rfl
@[simp] theorem State.settle_glb (s : State) (id : Nat) (r : Rep) : (s.settle id r).glb = s.glb := rfl
@[simp] theorem State.settle_pins (s : State) (id : Nat) (r : Rep) : (s.settle id r).pins = s.pins := rfl
@[simp] theorem State.settle_boot (s : State) (id : Nat) (r : Rep) : (s.settle id r).boot = s.boot := rfl
@[simp] theorem State.settle_mb (s : State) (id : Nat) (r : Rep) : (s.settle id r).mb = s.mb := rfl
@[simp] theorem State.settle_rf (s : State) (id : Nat) (r : Rep) : (s.settle id r).rf = s.rf := rfl
@[simp] theorem State.settle_td (s : State) (id : Nat) (r : Rep) : (s.settle id r).td = s.td := rfl
@[simp] theorem State.settle_tb (s : State) (id : Nat) (r : Rep) : (s.settle id r).tb = s.tb := rfl
@[simp] theorem State.settle_ptp (s : State) (id : Nat) (r : Rep) : (s.settle id r).ptp = s.ptp := rfl
@[simp] theorem State.settle_tsq (s : State) (id : Nat) (r : Rep) : (s.settle id r).tsq = s.tsq := rfl
@[simp] theorem State.settle_sr (s : State) (id : Nat) (r : Rep) : (s.settle id r).sr = s.sr := rfl
@[simp] theorem State.settle_rx (s : State) (id : Nat) (r : Rep) : (s.settle id r).rx = s.rx := rfl
@[simp] theorem State.settle_rings (s : State) (id : Nat) (r : Rep) : (s.settle id r).rings = s.rings := rfl
@[simp] theorem State.settle_readouts (s : State) (id : Nat) (r : Rep) : (s.settle id r).readouts = s.readouts := rfl
@[simp] theorem State.settle_hbmStacks (s : State) (id : Nat) (r : Rep) : (s.settle id r).hbmStacks = s.hbmStacks := rfl
@[simp] theorem State.settle_scrubRate (s : State) (id : Nat) (r : Rep) : (s.settle id r).scrubRate = s.scrubRate := rfl
@[simp] theorem State.settle_xp (s : State) (id : Nat) (r : Rep) : (s.settle id r).xp = s.xp := rfl
@[simp] theorem State.settle_planeA (s : State) (id : Nat) (r : Rep) : (s.settle id r).planeA = s.planeA := rfl
@[simp] theorem State.settle_planeB (s : State) (id : Nat) (r : Rep) : (s.settle id r).planeB = s.planeB := rfl
@[simp] theorem State.settle_repeated (s : State) (id : Nat) (r : Rep) : (s.settle id r).repeated = s.repeated := rfl
@[simp] theorem State.settle_inPorts (s : State) (id : Nat) (r : Rep) : (s.settle id r).inPorts = s.inPorts := rfl
@[simp] theorem State.settle_de (s : State) (id : Nat) (r : Rep) : (s.settle id r).de = s.de := rfl
@[simp] theorem State.settle_tx (s : State) (id : Nat) (r : Rep) : (s.settle id r).tx = s.tx := rfl
@[simp] theorem State.settle_au (s : State) (id : Nat) (r : Rep) : (s.settle id r).au = s.au := rfl
@[simp] theorem State.settle_mq (s : State) (id : Nat) (r : Rep) : (s.settle id r).mq = s.mq := rfl
@[simp] theorem State.settle_veneers (s : State) (id : Nat) (r : Rep) : (s.settle id r).veneers = s.veneers := rfl
@[simp] theorem State.settle_dt (s : State) (id : Nat) (r : Rep) : (s.settle id r).dt = s.dt := rfl
@[simp] theorem State.settle_ties (s : State) (id : Nat) (r : Rep) : (s.settle id r).ties = s.ties := rfl
@[simp] theorem State.settle_depart (s : State) (id : Nat) (r : Rep) : (s.settle id r).depart = s.depart := rfl
@[simp] theorem State.settle_group (s : State) (id : Nat) (r : Rep) : (s.settle id r).group = s.group := rfl
@[simp] theorem State.settle_linkKeys (s : State) (id : Nat) (r : Rep) : (s.settle id r).linkKeys = s.linkKeys := rfl
@[simp] theorem State.settle_pr (s : State) (id : Nat) (r : Rep) : (s.settle id r).pr = s.pr := rfl
@[simp] theorem State.settle_fc (s : State) (id : Nat) (r : Rep) : (s.settle id r).fc = s.fc := rfl
@[simp] theorem State.settle_faultnLevel (s : State) (id : Nat) (r : Rep) : (s.settle id r).faultnLevel = s.faultnLevel := rfl
@[simp] theorem State.settle_ks (s : State) (id : Nat) (r : Rep) : (s.settle id r).ks = s.ks := rfl
@[simp] theorem State.settle_gr (s : State) (id : Nat) (r : Rep) : (s.settle id r).gr = s.gr := rfl
@[simp] theorem State.settle_ic (s : State) (id : Nat) (r : Rep) : (s.settle id r).ic = s.ic := rfl
@[simp] theorem State.settle_dma (s : State) (id : Nat) (r : Rep) : (s.settle id r).dma = s.dma := rfl
@[simp] theorem State.settle_dmaLast (s : State) (id : Nat) (r : Rep) : (s.settle id r).dmaLast = s.dmaLast := rfl
@[simp] theorem State.settle_hostMem (s : State) (id : Nat) (r : Rep) : (s.settle id r).hostMem = s.hostMem := rfl
@[simp] theorem State.settle_hbm (s : State) (id : Nat) (r : Rep) : (s.settle id r).hbm = s.hbm := rfl
@[simp] theorem State.settle_hbm2 (s : State) (id : Nat) (r : Rep) : (s.settle id r).hbm2 = s.hbm2 := rfl
@[simp] theorem State.settle_sram (s : State) (id : Nat) (r : Rep) : (s.settle id r).sram = s.sram := rfl
@[simp] theorem State.settle_hostBad (s : State) (id : Nat) (r : Rep) : (s.settle id r).hostBad = s.hostBad := rfl
@[simp] theorem State.settle_ln (s : State) (id : Nat) (r : Rep) : (s.settle id r).ln = s.ln := rfl
@[simp] theorem State.settle_ep (s : State) (id : Nat) (r : Rep) : (s.settle id r).ep = s.ep := rfl
@[simp] theorem State.settle_sub (s : State) (id : Nat) (r : Rep) : (s.settle id r).sub = s.sub := rfl
@[simp] theorem State.settle_pw (s : State) (id : Nat) (r : Rep) : (s.settle id r).pw = s.pw := rfl
@[simp] theorem State.settle_tol (s : State) (id : Nat) (r : Rep) : (s.settle id r).tol = s.tol := rfl

/-! ## `drawFree` -/

@[simp] theorem State.drawFree_pending (s : State) : (s.drawFree).pending = s.pending := rfl
@[simp] theorem State.drawFree_clk (s : State) : (s.drawFree).clk = s.clk := rfl
@[simp] theorem State.drawFree_clkFrac (s : State) : (s.drawFree).clkFrac = s.clkFrac := rfl
@[simp] theorem State.drawFree_cycles (s : State) : (s.drawFree).cycles = s.cycles := rfl
@[simp] theorem State.drawFree_fuses (s : State) : (s.drawFree).fuses = s.fuses := rfl
@[simp] theorem State.drawFree_straps (s : State) : (s.drawFree).straps = s.straps := rfl
@[simp] theorem State.drawFree_startup (s : State) : (s.drawFree).startup = s.startup := rfl
@[simp] theorem State.drawFree_glb (s : State) : (s.drawFree).glb = s.glb := rfl
@[simp] theorem State.drawFree_pins (s : State) : (s.drawFree).pins = s.pins := rfl
@[simp] theorem State.drawFree_boot (s : State) : (s.drawFree).boot = s.boot := rfl
@[simp] theorem State.drawFree_mb (s : State) : (s.drawFree).mb = s.mb := rfl
@[simp] theorem State.drawFree_rf (s : State) : (s.drawFree).rf = s.rf := rfl
@[simp] theorem State.drawFree_td (s : State) : (s.drawFree).td = s.td := rfl
@[simp] theorem State.drawFree_tb (s : State) : (s.drawFree).tb = s.tb := rfl
@[simp] theorem State.drawFree_ptp (s : State) : (s.drawFree).ptp = s.ptp := rfl
@[simp] theorem State.drawFree_tsq (s : State) : (s.drawFree).tsq = s.tsq := rfl
@[simp] theorem State.drawFree_sr (s : State) : (s.drawFree).sr = s.sr := rfl
@[simp] theorem State.drawFree_rx (s : State) : (s.drawFree).rx = s.rx := rfl
@[simp] theorem State.drawFree_rings (s : State) : (s.drawFree).rings = s.rings := rfl
@[simp] theorem State.drawFree_readouts (s : State) : (s.drawFree).readouts = s.readouts := rfl
@[simp] theorem State.drawFree_hbmStacks (s : State) : (s.drawFree).hbmStacks = s.hbmStacks := rfl
@[simp] theorem State.drawFree_scrubRate (s : State) : (s.drawFree).scrubRate = s.scrubRate := rfl
@[simp] theorem State.drawFree_xp (s : State) : (s.drawFree).xp = s.xp := rfl
@[simp] theorem State.drawFree_planeA (s : State) : (s.drawFree).planeA = s.planeA := rfl
@[simp] theorem State.drawFree_planeB (s : State) : (s.drawFree).planeB = s.planeB := rfl
@[simp] theorem State.drawFree_repeated (s : State) : (s.drawFree).repeated = s.repeated := rfl
@[simp] theorem State.drawFree_inPorts (s : State) : (s.drawFree).inPorts = s.inPorts := rfl
@[simp] theorem State.drawFree_de (s : State) : (s.drawFree).de = s.de := rfl
@[simp] theorem State.drawFree_tx (s : State) : (s.drawFree).tx = s.tx := rfl
@[simp] theorem State.drawFree_au (s : State) : (s.drawFree).au = s.au := rfl
@[simp] theorem State.drawFree_mq (s : State) : (s.drawFree).mq = s.mq := rfl
@[simp] theorem State.drawFree_veneers (s : State) : (s.drawFree).veneers = s.veneers := rfl
@[simp] theorem State.drawFree_dt (s : State) : (s.drawFree).dt = s.dt := rfl
@[simp] theorem State.drawFree_ties (s : State) : (s.drawFree).ties = s.ties := rfl
@[simp] theorem State.drawFree_depart (s : State) : (s.drawFree).depart = s.depart := rfl
@[simp] theorem State.drawFree_group (s : State) : (s.drawFree).group = s.group := rfl
@[simp] theorem State.drawFree_linkKeys (s : State) : (s.drawFree).linkKeys = s.linkKeys := rfl
@[simp] theorem State.drawFree_pr (s : State) : (s.drawFree).pr = s.pr := rfl
@[simp] theorem State.drawFree_fc (s : State) : (s.drawFree).fc = s.fc := rfl
@[simp] theorem State.drawFree_faultnLevel (s : State) : (s.drawFree).faultnLevel = s.faultnLevel := rfl
@[simp] theorem State.drawFree_ks (s : State) : (s.drawFree).ks = s.ks := rfl
@[simp] theorem State.drawFree_gr (s : State) : (s.drawFree).gr = s.gr := rfl
@[simp] theorem State.drawFree_ic (s : State) : (s.drawFree).ic = s.ic := rfl
@[simp] theorem State.drawFree_dma (s : State) : (s.drawFree).dma = s.dma := rfl
@[simp] theorem State.drawFree_dmaLast (s : State) : (s.drawFree).dmaLast = s.dmaLast := rfl
@[simp] theorem State.drawFree_hostMem (s : State) : (s.drawFree).hostMem = s.hostMem := rfl
@[simp] theorem State.drawFree_hbm (s : State) : (s.drawFree).hbm = s.hbm := rfl
@[simp] theorem State.drawFree_hbm2 (s : State) : (s.drawFree).hbm2 = s.hbm2 := rfl
@[simp] theorem State.drawFree_sram (s : State) : (s.drawFree).sram = s.sram := rfl
@[simp] theorem State.drawFree_hostBad (s : State) : (s.drawFree).hostBad = s.hostBad := rfl
@[simp] theorem State.drawFree_ln (s : State) : (s.drawFree).ln = s.ln := rfl
@[simp] theorem State.drawFree_ep (s : State) : (s.drawFree).ep = s.ep := rfl
@[simp] theorem State.drawFree_sub (s : State) : (s.drawFree).sub = s.sub := rfl
@[simp] theorem State.drawFree_pw (s : State) : (s.drawFree).pw = s.pw := rfl
@[simp] theorem State.drawFree_tol (s : State) : (s.drawFree).tol = s.tol := rfl

/-! ## `raiseVector` -/

@[simp] theorem State.raiseVector_pending (s : State) (v : Nat) : (s.raiseVector v).pending = s.pending := rfl
@[simp] theorem State.raiseVector_clk (s : State) (v : Nat) : (s.raiseVector v).clk = s.clk := rfl
@[simp] theorem State.raiseVector_clkFrac (s : State) (v : Nat) : (s.raiseVector v).clkFrac = s.clkFrac := rfl
@[simp] theorem State.raiseVector_cycles (s : State) (v : Nat) : (s.raiseVector v).cycles = s.cycles := rfl
@[simp] theorem State.raiseVector_fuses (s : State) (v : Nat) : (s.raiseVector v).fuses = s.fuses := rfl
@[simp] theorem State.raiseVector_straps (s : State) (v : Nat) : (s.raiseVector v).straps = s.straps := rfl
@[simp] theorem State.raiseVector_startup (s : State) (v : Nat) : (s.raiseVector v).startup = s.startup := rfl
@[simp] theorem State.raiseVector_pins (s : State) (v : Nat) : (s.raiseVector v).pins = s.pins := rfl
@[simp] theorem State.raiseVector_boot (s : State) (v : Nat) : (s.raiseVector v).boot = s.boot := rfl
@[simp] theorem State.raiseVector_mb (s : State) (v : Nat) : (s.raiseVector v).mb = s.mb := rfl
@[simp] theorem State.raiseVector_bx (s : State) (v : Nat) : (s.raiseVector v).bx = s.bx := rfl
@[simp] theorem State.raiseVector_rf (s : State) (v : Nat) : (s.raiseVector v).rf = s.rf := rfl
@[simp] theorem State.raiseVector_td (s : State) (v : Nat) : (s.raiseVector v).td = s.td := rfl
@[simp] theorem State.raiseVector_tb (s : State) (v : Nat) : (s.raiseVector v).tb = s.tb := rfl
@[simp] theorem State.raiseVector_ptp (s : State) (v : Nat) : (s.raiseVector v).ptp = s.ptp := rfl
@[simp] theorem State.raiseVector_tsq (s : State) (v : Nat) : (s.raiseVector v).tsq = s.tsq := rfl
@[simp] theorem State.raiseVector_sr (s : State) (v : Nat) : (s.raiseVector v).sr = s.sr := rfl
@[simp] theorem State.raiseVector_rx (s : State) (v : Nat) : (s.raiseVector v).rx = s.rx := rfl
@[simp] theorem State.raiseVector_rings (s : State) (v : Nat) : (s.raiseVector v).rings = s.rings := rfl
@[simp] theorem State.raiseVector_readouts (s : State) (v : Nat) : (s.raiseVector v).readouts = s.readouts := rfl
@[simp] theorem State.raiseVector_hbmStacks (s : State) (v : Nat) : (s.raiseVector v).hbmStacks = s.hbmStacks := rfl
@[simp] theorem State.raiseVector_scrubRate (s : State) (v : Nat) : (s.raiseVector v).scrubRate = s.scrubRate := rfl
@[simp] theorem State.raiseVector_xp (s : State) (v : Nat) : (s.raiseVector v).xp = s.xp := rfl
@[simp] theorem State.raiseVector_planeA (s : State) (v : Nat) : (s.raiseVector v).planeA = s.planeA := rfl
@[simp] theorem State.raiseVector_planeB (s : State) (v : Nat) : (s.raiseVector v).planeB = s.planeB := rfl
@[simp] theorem State.raiseVector_repeated (s : State) (v : Nat) : (s.raiseVector v).repeated = s.repeated := rfl
@[simp] theorem State.raiseVector_inPorts (s : State) (v : Nat) : (s.raiseVector v).inPorts = s.inPorts := rfl
@[simp] theorem State.raiseVector_de (s : State) (v : Nat) : (s.raiseVector v).de = s.de := rfl
@[simp] theorem State.raiseVector_tx (s : State) (v : Nat) : (s.raiseVector v).tx = s.tx := rfl
@[simp] theorem State.raiseVector_au (s : State) (v : Nat) : (s.raiseVector v).au = s.au := rfl
@[simp] theorem State.raiseVector_mq (s : State) (v : Nat) : (s.raiseVector v).mq = s.mq := rfl
@[simp] theorem State.raiseVector_veneers (s : State) (v : Nat) : (s.raiseVector v).veneers = s.veneers := rfl
@[simp] theorem State.raiseVector_dt (s : State) (v : Nat) : (s.raiseVector v).dt = s.dt := rfl
@[simp] theorem State.raiseVector_ties (s : State) (v : Nat) : (s.raiseVector v).ties = s.ties := rfl
@[simp] theorem State.raiseVector_depart (s : State) (v : Nat) : (s.raiseVector v).depart = s.depart := rfl
@[simp] theorem State.raiseVector_group (s : State) (v : Nat) : (s.raiseVector v).group = s.group := rfl
@[simp] theorem State.raiseVector_linkKeys (s : State) (v : Nat) : (s.raiseVector v).linkKeys = s.linkKeys := rfl
@[simp] theorem State.raiseVector_pr (s : State) (v : Nat) : (s.raiseVector v).pr = s.pr := rfl
@[simp] theorem State.raiseVector_fc (s : State) (v : Nat) : (s.raiseVector v).fc = s.fc := rfl
@[simp] theorem State.raiseVector_faultnLevel (s : State) (v : Nat) : (s.raiseVector v).faultnLevel = s.faultnLevel := rfl
@[simp] theorem State.raiseVector_ks (s : State) (v : Nat) : (s.raiseVector v).ks = s.ks := rfl
@[simp] theorem State.raiseVector_gr (s : State) (v : Nat) : (s.raiseVector v).gr = s.gr := rfl
@[simp] theorem State.raiseVector_ic (s : State) (v : Nat) : (s.raiseVector v).ic = s.ic := rfl
@[simp] theorem State.raiseVector_dma (s : State) (v : Nat) : (s.raiseVector v).dma = s.dma := rfl
@[simp] theorem State.raiseVector_dmaLast (s : State) (v : Nat) : (s.raiseVector v).dmaLast = s.dmaLast := rfl
@[simp] theorem State.raiseVector_hostMem (s : State) (v : Nat) : (s.raiseVector v).hostMem = s.hostMem := rfl
@[simp] theorem State.raiseVector_hbm (s : State) (v : Nat) : (s.raiseVector v).hbm = s.hbm := rfl
@[simp] theorem State.raiseVector_hbm2 (s : State) (v : Nat) : (s.raiseVector v).hbm2 = s.hbm2 := rfl
@[simp] theorem State.raiseVector_sram (s : State) (v : Nat) : (s.raiseVector v).sram = s.sram := rfl
@[simp] theorem State.raiseVector_hostBad (s : State) (v : Nat) : (s.raiseVector v).hostBad = s.hostBad := rfl
@[simp] theorem State.raiseVector_ln (s : State) (v : Nat) : (s.raiseVector v).ln = s.ln := rfl
@[simp] theorem State.raiseVector_ep (s : State) (v : Nat) : (s.raiseVector v).ep = s.ep := rfl
@[simp] theorem State.raiseVector_sub (s : State) (v : Nat) : (s.raiseVector v).sub = s.sub := rfl
@[simp] theorem State.raiseVector_pw (s : State) (v : Nat) : (s.raiseVector v).pw = s.pw := rfl
@[simp] theorem State.raiseVector_tol (s : State) (v : Nat) : (s.raiseVector v).tol = s.tol := rfl

end Sys2Proof.Machine
end

