-- ==== Sys2Proof/Laws/Balix.lean ====
section
/-! SUPPORT. What a command fetched alone does: refused, carried out at once, or begun. -/
namespace Sys2Proof.Machine

open Sys2Proof.Safety

/-- A command that Balix does not fetch changes nothing. -/
theorem runCommand_idle {p : CmdSpec} {mb : Nat} {c : Cmd} {s : State} (h : ¬Fetched p mb c s) :
    runCommand p mb c s = s := by
  unfold runCommand
  rw [if_neg]
  simpa [Fetched, ran, and_assoc] using h

/-- A command fetched alone enters and is judged. -/
theorem runCommand_fetched {p : CmdSpec} {mb : Nat} {c : Cmd} {s : State} (h : Fetched p mb c s) :
    runCommand p mb c s = (entered p mb c s).acceptOne p (context p mb c s) := by
  unfold runCommand
  rw [if_pos (by simpa [Fetched, ran, and_assoc] using h)]
  rfl

/-- The id of a new command is above every member of a list it bounds. -/
theorem le_foldl_max (l : List Nat) (m : Nat) : m ≤ l.foldl (fun k i => max k (i + 1)) m
    ∧ ∀ i ∈ l, i < l.foldl (fun k i => max k (i + 1)) m := by
  induction l generalizing m with
  | nil => exact ⟨Nat.le_refl _, by simp⟩
  | cons a l ih =>
    obtain ⟨h1, h2⟩ := ih (max m (a + 1))
    refine ⟨by rw [List.foldl_cons]; omega, fun i hi => ?_⟩
    rw [List.foldl_cons]
    rcases List.mem_cons.1 hi with rfl | hi
    · omega
    · exact h2 i hi

/-- No staged work has the id of a new command. -/
theorem State.staged_newId (s : State) (w : Staged) (hw : w ∈ s.bx.staged) : w.id ≠ s.newId := by
  have := (le_foldl_max (s.bx.flights.map (fun f => f.id) ++ s.bx.staged.map (fun w => w.id)) s.bx.nextId).2 w.id
    (List.mem_append_right _ (List.mem_map_of_mem hw))
  unfold State.newId
  omega

/-- A command that enters alone has no member before it in its chain. -/
theorem entered_afterMembers (p : CmdSpec) (mb : Nat) (c : Cmd) (s : State) (op : Nat) :
    (entered p mb c s).afterMembers [s.newId] op = entered p mb c s := by
  have h : (entered p mb c s).bx.staged.filter (fun w => [s.newId].contains w.id) = [] := by
    rw [List.filter_eq_nil_iff]
    intro w hw
    simpa using State.staged_newId s w hw
  unfold State.afterMembers
  rw [h]
  rfl

/-- A check of R447 refuses the command: it completes with that status, and nothing else happens. -/
theorem runCommand_refused {p : CmdSpec} {mb : Nat} {c : Cmd} {s : State} {r : Rep} (h : Fetched p mb c s)
    (hj : judge p (entered p mb c s) (context p mb c s) = some r) :
    runCommand p mb c s = (entered p mb c s).settle s.newId r := by
  rw [runCommand_fetched h]
  unfold State.acceptOne
  split
  · simp only [State.tickUnit, List.map_cons, List.map_nil, show (context p mb c s).id = s.newId from rfl, State.stageAll,
      entered_afterMembers, hj]
  · simp only [hj]
    rfl
  · simp only [hj]
    rfl

/-- An accepted command that is not tick-applied is carried out. -/
theorem runCommand_accepted {p : CmdSpec} {mb : Nat} {c : Cmd} {s : State} (h : Accepted p mb c s) (hp : p.isTick = false) :
    runCommand p mb c s = (acting p mb c s).carryOut p (context p mb c s) := by
  have hw : (entered p mb c s).carryOrWake p (context p mb c s) = (acting p mb c s).carryOut p (context p mb c s) := by
    have h2 := h.2
    unfold State.carryOrWake
    unfold acting needed at h2
    unfold acting needed
    simp only [show (context p mb c s).cmd = ran p c from rfl, h2]
  rw [runCommand_fetched h.1.1]
  unfold State.acceptOne
  split
  · rename_i e
    simp [CmdSpec.isTick, e] at hp
  · simp only [h.1.2, hw]
  · simp only [h.1.2, hw]

/-- The commands that the active does not mirror as they are. -/
def plain (op : Nat) : Bool := op != 0x0202 && op != 0x0203 && op != 0x0205 && op != 0x0705

theorem mirrorCommand_plain {op : Nat} (h : plain op = true) (s : State) (c : Cmd) : s.mirrorCommand op c = s := by
  simp only [plain, Bool.and_eq_true, bne_iff_ne, ne_eq] at h
  simp [State.mirrorCommand, h]

/-- An at-once command that is not mirrored as it is completes as its effect says. -/
theorem atOnce_of {p : CmdSpec} {row : Nat → Cmd → Instr} {E : State → Ctx → State} {R : State → Ctx → Rep}
    {act : State → Ctx → State × Rep} (hp : p.effect = .atOnce act) (hm : plain p.opcode = true)
    (hx : ∀ mb c s, exec (row mb c) s = .next (runCommand p mb c s))
    (hE : ∀ mb c s, Accepted p mb c s → act (acting p mb c s) (context p mb c s)
      = (E (acting p mb c s) (context p mb c s), R (acting p mb c s) (context p mb c s))) :
    AtOnce p row E R := by
  intro mb c s h
  rw [hx, runCommand_accepted h (by simp [CmdSpec.isTick, hp])]
  simp only [State.carryOut, hp, hE mb c s h, mirrorCommand_plain hm, ite_self]
  rfl

/-- An at-once command whose completion is DONE and whose mirror item is `M`. -/
theorem atOnceThen_of {p : CmdSpec} {row : Nat → Cmd → Instr} {E : State → Ctx → State} {R : State → Ctx → Rep}
    {M : Ctx → State → State} {act : State → Ctx → State × Rep} (hp : p.effect = .atOnce act)
    (hx : ∀ mb c s, exec (row mb c) s = .next (runCommand p mb c s))
    (hE : ∀ s x, act s x = (E s x, R s x)) (hok : ∀ s x, (R s x).ok = true)
    (hM : ∀ mb c s t, t.mirrorCommand p.opcode (context p mb c s).cmd = M (context p mb c s) t) :
    AtOnceThen p row E R M := by
  intro mb c s h
  rw [hx, runCommand_accepted h (by simp [CmdSpec.isTick, hp])]
  simp only [State.carryOut, hp, hE, hok, if_true, hM]
  rfl

/-- A command that begins does so as its effect says. -/
theorem begins_of {p : CmdSpec} {row : Nat → Cmd → Instr} {E : State → Ctx → State} {start : State → Ctx → State}
    (hp : p.effect = .later start) (hx : ∀ mb c s, exec (row mb c) s = .next (runCommand p mb c s))
    (hE : ∀ mb c s, Accepted p mb c s → start (acting p mb c s) (context p mb c s)
      = E (acting p mb c s) (context p mb c s)) :
    Begins p row E := by
  intro mb c s h
  rw [hx, runCommand_accepted h (by simp [CmdSpec.isTick, hp])]
  simp only [State.carryOut, hp, hE mb c s h]

/-- A tick-applied command whose entries have found their places is held for its tick. -/
theorem onTick_of {p : CmdSpec} {row : Nat → Cmd → Instr} {E : State → Ctx → List (Nat × List Entry)}
    {G : State → Ctx → State} (hp : p.effect = .tick E G)
    (hx : ∀ mb c s, exec (row mb c) s = .next (runCommand p mb c s)) : OnTick p row E G := by
  intro mb c s n late places h ha hf
  have hs : ((entered p mb c s).stageParts p (context p mb c s) n [s.newId]).wakeAll
      ((range 0 8).flatMap (((entered p mb c s).stageParts p (context p mb c s) n [s.newId]).stagedNeeds [s.newId]))
      = staging p E G mb c s n := by
    unfold State.stageParts
    rw [hp]
    rfl
  rw [hx, runCommand_fetched h.1]
  unfold State.acceptOne
  rw [hp]
  have hid : (context p mb c s).id = s.newId := rfl
  have hc : (context p mb c s).cmd = ran p c := rfl
  simp only [State.tickUnit, List.map_cons, List.map_nil, ha, State.stageAll, entered_afterMembers, h.2, hid, hc, hs, hf]
  simp

/-- A command row runs its command. -/
theorem exec_command {i : Instr} {mb : Nat} {c : Cmd} {p : CmdSpec} (h : commandOf i = some (mb, c, p)) (s : State) :
    exec i s = .next (runCommand p mb c s) := by
  cases i <;> cases h <;> rfl

end Sys2Proof.Machine
end

