-- ==== Sys2Proof/Laws/Kept.lean ====
section
/-! SUPPORT. What the operations of the model keep: `f_still` says that `f` keeps the queue, the fuses, the straps, start-up
and the memories; `f_fixed` says it of all but the memories. This file: the two parts of the state, the shared
operations, and the commands in general. -/
namespace Sys2Proof.Machine

/-! ## Ops -/

/-- The part of the state that only resets, start-up and the step itself change. -/
structure Fixed where
  pending : List Instr
  fuses : Fuses
  straps : Straps
  startup : Startup

/-- That part with the memories and the ranges of host memory that answer with a bus error. -/
structure Still where
  fixed : Fixed
  hostMem : Memory
  hbm : Memory
  hbm2 : Memory
  sram : Memory
  hostBad : List (Nat × Nat)

/-- The whole of it. -/
def Still.whole (k : Still) : Still := k

/-- That part of a state. -/
def State.still (s : State) : Still :=
  ⟨⟨s.pending, s.fuses, s.straps, s.startup⟩, s.hostMem, s.hbm, s.hbm2, s.sram, s.hostBad⟩

/-- A next state has a part as it was before. -/
def Keeps {α : Type} (φ : Still → α) (s : State) (o : Host.Outcome State Fault Refusal) : Prop :=
  ∀ t, o = .next t → φ t.still = φ s.still

/-- An update of the other fields keeps it. -/
theorem still_mk (s : State)
    (x1 : Nat) (x2 : Int) (x3 : Nat) (x7 : Glb) (x8 : Pins) (x9 : Boot) (x10 : Tbl Mailbox) (x11 : Bx) (x12 : Rf)
    (x13 : Tbl Domain) (x14 : Tbl TimeBase) (x15 : Tbl Ptp) (x16 : Tbl Tsq) (x17 : Tbl Source) (x18 : Tbl RxFlow)
    (x19 : Tbl Ring) (x20 : List Readout) (x21 : Tbl Stack) (x22 : Nat) (x23 : Tbl OutPort) (x24 : Plane) (x25 :
    Plane) (x26 : Nat) (x27 : Tbl (Option FabLine)) (x28 : Tbl Dest) (x29 : Tbl TxFlow) (x30 : Au) (x31 : Tbl Engine)
    (x32 : Tbl Veneer) (x33 : Tbl Link) (x34 : List Tie) (x35 : List Tie) (x36 : Group) (x37 : Tbl (List Byte)) (x38
    : Pairing) (x39 : Tbl FaultSrc) (x40 : Nat) (x41 : Ks) (x42 : Grain) (x43 : Ic) (x44 : Tbl Chan) (x45 : Nat) (x51
    : Tbl Lane) (x52 : Tbl Port) (x53 : Tbl Subport) (x54 : Tbl PwrDomain) (x55 : Tbl Nat) :
    (State.mk
      s.pending x1 x2 x3 s.fuses s.straps s.startup x7 x8 x9 x10 x11 x12 x13 x14 x15 x16 x17 x18 x19 x20 x21 x22 x23
      x24 x25 x26 x27 x28 x29 x30 x31 x32 x33 x34 x35 x36 x37 x38 x39 x40 x41 x42 x43 x44 x45 s.hostMem s.hbm s.hbm2
      s.sram s.hostBad x51 x52 x53 x54 x55).still = s.still := rfl

/-- An update of the other fields and the memories keeps the fixed part. -/
theorem fixed_mk (s : State)
    (x1 : Nat) (x2 : Int) (x3 : Nat) (x7 : Glb) (x8 : Pins) (x9 : Boot) (x10 : Tbl Mailbox) (x11 : Bx) (x12 : Rf)
    (x13 : Tbl Domain) (x14 : Tbl TimeBase) (x15 : Tbl Ptp) (x16 : Tbl Tsq) (x17 : Tbl Source) (x18 : Tbl RxFlow)
    (x19 : Tbl Ring) (x20 : List Readout) (x21 : Tbl Stack) (x22 : Nat) (x23 : Tbl OutPort) (x24 : Plane) (x25 :
    Plane) (x26 : Nat) (x27 : Tbl (Option FabLine)) (x28 : Tbl Dest) (x29 : Tbl TxFlow) (x30 : Au) (x31 : Tbl Engine)
    (x32 : Tbl Veneer) (x33 : Tbl Link) (x34 : List Tie) (x35 : List Tie) (x36 : Group) (x37 : Tbl (List Byte)) (x38
    : Pairing) (x39 : Tbl FaultSrc) (x40 : Nat) (x41 : Ks) (x42 : Grain) (x43 : Ic) (x44 : Tbl Chan) (x45 : Nat) (x46
    : Memory) (x47 : Memory) (x48 : Memory) (x49 : Memory) (x50 : List (Nat × Nat)) (x51 : Tbl Lane) (x52 : Tbl Port)
    (x53 : Tbl Subport) (x54 : Tbl PwrDomain) (x55 : Tbl Nat) :
    (State.mk
      s.pending x1 x2 x3 s.fuses s.straps s.startup x7 x8 x9 x10 x11 x12 x13 x14 x15 x16 x17 x18 x19 x20 x21 x22 x23
      x24 x25 x26 x27 x28 x29 x30 x31 x32 x33 x34 x35 x36 x37 x38 x39 x40 x41 x42 x43 x44 x45 x46 x47 x48 x49 x50 x51
      x52 x53 x54 x55).still.fixed = s.still.fixed := rfl

/-- A choice between two states. -/
theorem still_ite (c : Prop) [Decidable c] (a b : State) : (if c then a else b).still = if c then a.still else b.still := by
  split <;> rfl

/-- A choice between two states, of the fixed part. -/
theorem fixed_ite (c : Prop) [Decidable c] (a b : State) :
    (if c then a else b).still.fixed = if c then a.still.fixed else b.still.fixed := by
  split <;> rfl

/-- Changes one after another keep a part when each does. -/
theorem foldl_keeps {α β : Type} (φ : Still → β) (f : State → α → State) (h : ∀ t x, φ (f t x).still = φ t.still)
    (l : List α) (s : State) : φ (l.foldl f s).still = φ s.still := by
  induction l generalizing s with
  | nil => rfl
  | cons a l ih => simp only [List.foldl_cons, ih, h]

/-- Changes one after another keep it when each does. -/
theorem still_foldl {α : Type} (f : State → α → State) (h : ∀ t x, (f t x).still = t.still) (l : List α) (s : State) :
    (l.foldl f s).still = s.still := foldl_keeps Still.whole f h l s

/-- Changes one after another keep the fixed part when each does. -/
theorem fixed_foldl {α : Type} (f : State → α → State) (h : ∀ t x, (f t x).still.fixed = t.still.fixed) (l : List α)
    (s : State) : (l.foldl f s).still.fixed = s.still.fixed := foldl_keeps Still.fixed f h l s

/-- A next state keeps a part when it is as before. -/
theorem keeps_next {α : Type} (φ : Still → α) (s t : State) : Keeps φ s (.next t) ↔ φ t.still = φ s.still :=
  ⟨fun h => h t rfl, fun h u e => by cases e; exact h⟩

/-- A refusal answers no next state. -/
theorem keeps_refused {α : Type} (φ : Still → α) (s : State) (r : Refusal) : Keeps φ s (.refused r) ↔ True :=
  ⟨fun _ => trivial, fun _ _ e => by cases e⟩

/-- A choice between two outcomes keeps a part when both do. -/
theorem keeps_ite {α : Type} (φ : Still → α) (s : State) (c : Prop) [Decidable c]
    (a b : Host.Outcome State Fault Refusal) :
    Keeps φ s (if c then a else b) ↔ (c → Keeps φ s a) ∧ (¬c → Keeps φ s b) := by
  split <;> simp_all

theorem State.setMbox_still (s : State) (i : Nat) (v : Mailbox) : (State.setMbox s i v).still = s.still := rfl
theorem State.updMbox_still (s : State) (i : Nat) (f : Mailbox → Mailbox) : (State.updMbox s i f).still = s.still := rfl
theorem State.setDom_still (s : State) (i : Nat) (v : Domain) : (State.setDom s i v).still = s.still := rfl
theorem State.updDom_still (s : State) (i : Nat) (f : Domain → Domain) : (State.updDom s i f).still = s.still := rfl
theorem State.setBase_still (s : State) (i : Nat) (v : TimeBase) : (State.setBase s i v).still = s.still := rfl
theorem State.updBase_still (s : State) (i : Nat) (f : TimeBase → TimeBase) : (State.updBase s i f).still = s.still := rfl
theorem State.setInst_still (s : State) (i : Nat) (v : Ptp) : (State.setInst s i v).still = s.still := rfl
theorem State.updInst_still (s : State) (i : Nat) (f : Ptp → Ptp) : (State.updInst s i f).still = s.still := rfl
theorem State.setQueue_still (s : State) (i : Nat) (v : Tsq) : (State.setQueue s i v).still = s.still := rfl
theorem State.updQueue_still (s : State) (i : Nat) (f : Tsq → Tsq) : (State.updQueue s i f).still = s.still := rfl
theorem State.setSource_still (s : State) (i : Nat) (v : Source) : (State.setSource s i v).still = s.still := rfl
theorem State.updSource_still (s : State) (i : Nat) (f : Source → Source) : (State.updSource s i f).still = s.still := rfl
theorem State.setRxFlow_still (s : State) (i : Nat) (v : RxFlow) : (State.setRxFlow s i v).still = s.still := rfl
theorem State.updRxFlow_still (s : State) (i : Nat) (f : RxFlow → RxFlow) : (State.updRxFlow s i f).still = s.still := rfl
theorem State.setRing_still (s : State) (i : Nat) (v : Ring) : (State.setRing s i v).still = s.still := rfl
theorem State.updRing_still (s : State) (i : Nat) (f : Ring → Ring) : (State.updRing s i f).still = s.still := rfl
theorem State.setStack_still (s : State) (i : Nat) (v : Stack) : (State.setStack s i v).still = s.still := rfl
theorem State.updStack_still (s : State) (i : Nat) (f : Stack → Stack) : (State.updStack s i f).still = s.still := rfl
theorem State.setOut_still (s : State) (i : Nat) (v : OutPort) : (State.setOut s i v).still = s.still := rfl
theorem State.updOut_still (s : State) (i : Nat) (f : OutPort → OutPort) : (State.updOut s i f).still = s.still := rfl
theorem State.setDest_still (s : State) (i : Nat) (v : Dest) : (State.setDest s i v).still = s.still := rfl
theorem State.updDest_still (s : State) (i : Nat) (f : Dest → Dest) : (State.updDest s i f).still = s.still := rfl
theorem State.setTxFlow_still (s : State) (i : Nat) (v : TxFlow) : (State.setTxFlow s i v).still = s.still := rfl
theorem State.updTxFlow_still (s : State) (i : Nat) (f : TxFlow → TxFlow) : (State.updTxFlow s i f).still = s.still := rfl
theorem State.setEngine_still (s : State) (i : Nat) (v : Engine) : (State.setEngine s i v).still = s.still := rfl
theorem State.updEngine_still (s : State) (i : Nat) (f : Engine → Engine) : (State.updEngine s i f).still = s.still := rfl
theorem State.hbmPut_fixed (s : State) (a : Nat) (b : Byte) : (State.hbmPut s a b).still.fixed = s.still.fixed := rfl
theorem State.hbmWrite_fixed (s : State) (z0 : Nat) (z1 : List Byte) : (State.hbmWrite s z0 z1).still.fixed =
    s.still.fixed := by
  induction z1 generalizing s z0 with
  | nil => rfl
  | cons b bs ih => rw [State.hbmWrite, ih, State.hbmPut_fixed]

theorem State.copyTo_fixed (s : State) (st : Nat) : (State.copyTo s st).still.fixed = s.still.fixed := by
  simp only [State.copyTo, fixed_mk, fixed_ite, ite_self]

theorem State.setVeneer_still (s : State) (i : Nat) (v : Veneer) : (State.setVeneer s i v).still = s.still := rfl
theorem State.updVeneer_still (s : State) (i : Nat) (f : Veneer → Veneer) : (State.updVeneer s i f).still = s.still := rfl
theorem State.setLink_still (s : State) (i : Nat) (v : Link) : (State.setLink s i v).still = s.still := rfl
theorem State.updLink_still (s : State) (i : Nat) (f : Link → Link) : (State.updLink s i f).still = s.still := rfl
theorem State.setFault_still (s : State) (i : Nat) (v : FaultSrc) : (State.setFault s i v).still = s.still := rfl
theorem State.updFault_still (s : State) (i : Nat) (f : FaultSrc → FaultSrc) : (State.updFault s i f).still =
    s.still := rfl

theorem State.setChan_still (s : State) (i : Nat) (v : Chan) : (State.setChan s i v).still = s.still := rfl
theorem State.updChan_still (s : State) (i : Nat) (f : Chan → Chan) : (State.updChan s i f).still = s.still := rfl
theorem State.setLane_still (s : State) (i : Nat) (v : Lane) : (State.setLane s i v).still = s.still := rfl
theorem State.updLane_still (s : State) (i : Nat) (f : Lane → Lane) : (State.updLane s i f).still = s.still := rfl
theorem State.setPort_still (s : State) (i : Nat) (v : Port) : (State.setPort s i v).still = s.still := rfl
theorem State.updPort_still (s : State) (i : Nat) (f : Port → Port) : (State.updPort s i f).still = s.still := rfl
theorem State.setSubport_still (s : State) (i : Nat) (v : Subport) : (State.setSubport s i v).still = s.still := rfl
theorem State.updSubport_still (s : State) (i : Nat) (f : Subport → Subport) : (State.updSubport s i f).still =
    s.still := rfl

theorem State.setPdom_still (s : State) (i : Nat) (v : PwrDomain) : (State.setPdom s i v).still = s.still := rfl
theorem State.updPdom_still (s : State) (i : Nat) (f : PwrDomain → PwrDomain) : (State.updPdom s i f).still =
    s.still := rfl

theorem State.setCand_still (s : State) (i : Nat) (v : Cand) : (State.setCand s i v).still = s.still := rfl
theorem State.updCand_still (s : State) (i : Nat) (f : Cand → Cand) : (State.updCand s i f).still = s.still := rfl
theorem State.setFpOut_still (s : State) (i : Nat) (v : FpOut) : (State.setFpOut s i v).still = s.still := rfl
theorem State.updFpOut_still (s : State) (i : Nat) (f : FpOut → FpOut) : (State.updFpOut s i f).still = s.still := rfl
theorem State.setSlot_still (s : State) (i : Nat) (v : Slot) : (State.setSlot s i v).still = s.still := rfl
theorem State.updSlot_still (s : State) (i : Nat) (f : Slot → Slot) : (State.updSlot s i f).still = s.still := rfl
theorem State.writeSlot_still (s : State) (n : Nat) (v : Slot) (key : BitVec 256) : (State.writeSlot s n v
    key).still = s.still := rfl

theorem State.eraseKey_still (s : State) (n : Nat) : (State.eraseKey s n).still = s.still := rfl
theorem State.emptySlot_still (s : State) (n : Nat) : (State.emptySlot s n).still = s.still := rfl
theorem State.setLinkKey_still (s : State) (n : Nat) (k : BitVec 256) : (State.setLinkKey s n k).still = s.still := rfl
theorem State.setSalvo_still (s : State) (i : Nat) (v : Salvo) : (State.setSalvo s i v).still = s.still := rfl
theorem State.updSalvo_still (s : State) (i : Nat) (f : Salvo → Salvo) : (State.updSalvo s i f).still = s.still := rfl
theorem State.setPlane_still (s : State) (b : Bool) (p : Plane) : (State.setPlane s b p).still = s.still := by
  simp only [State.setPlane, still_mk, still_ite, ite_self]

theorem State.macsecTake_still (s : State) (i n : Nat) : (State.macsecTake s i n).1.still = s.still := by
  simp only [State.macsecTake]
  repeat' split
  all_goals simp only [State.setSlot_still, State.updSubport_still]

theorem State.drawFree_still (s : State) : (State.drawFree s).still = s.still := rfl

theorem State.untrain_still (s : State) (ls : List Nat) : (State.untrain s ls).still = s.still :=
  still_foldl _ (fun _ _ => State.updLane_still ..) ls s

theorem State.adapt_still (s : State) (ls : List Nat) (train : Bool) : (State.adapt s ls train).still = s.still := by
  unfold State.adapt
  exact (State.drawFree_still _).trans (still_foldl _ (fun _ _ => State.updLane_still ..) ls s)

theorem State.raiseVector_still (s : State) (v : Nat) : (State.raiseVector s v).still = s.still := rfl
theorem State.setErr_still (s : State) (n cause : Nat) : (State.setErr s n cause).still = s.still := by
  simp only [State.setErr, State.raiseVector_still, State.setMbox_still, still_ite, ite_self]

theorem State.updFlight_still (s : State) (id : Nat) (f : Flight → Flight) : (State.updFlight s id f).still =
    s.still := rfl

theorem State.settle_still (s : State) (id : Nat) (r : Rep) : (State.settle s id r).still = s.still := rfl
theorem State.holdFor_still (s : State) (z0 : Option Nat) : (State.holdFor s z0).still = s.still := by cases z0 <;> simp only [State.holdFor,
  State.updFlight_still]

theorem State.giveRecord_still (s : State) (type inst : Nat) (tick : Option (Nat × Nat)) (body : List Byte) (id :
    Option Nat) : (State.giveRecord s type inst tick body id).still = s.still := by
  simp only [State.giveRecord, State.holdFor_still, still_mk, still_ite, ite_self]

theorem State.refEvent_still (s : State) (event from' goal cand dom : Nat) (step : Int) : (State.refEvent s event
    from' goal cand dom step).still = s.still := by
  simp only [State.refEvent, State.giveRecord_still]

theorem State.realignEvent_still (s : State) (d n inst : Nat) : (State.realignEvent s d n inst).still = s.still := by
  simp only [State.realignEvent, State.giveRecord_still]

theorem State.timeEvent_still (s : State) (tb event state stepcnt : Nat) (amount : Int) (gm : Nat) :
    (State.timeEvent s tb event state stepcnt amount gm).still = s.still := by
  simp only [State.timeEvent, State.giveRecord_still]

theorem State.stateEvent_still (s : State) (event subject state : Nat) : (State.stateEvent s event subject
    state).still = s.still := by
  simp only [State.stateEvent, State.giveRecord_still]

/-! ## LinkFrames -/

theorem State.dropUnder_still (s : State) (slot : Nat) : (State.dropUnder s slot).still = s.still := rfl
/-- A frame that a link sends leaves the Grain log as it is. -/
theorem State.sendFrame_gr (s : State) (k : Nat) (body : LinkBody) : (State.sendFrame s k body).gr = s.gr := by
  unfold State.sendFrame
  dsimp only
  split
  · rfl
  · split
    · unfold State.dropUnder State.setSlot; rfl
    · rfl

theorem State.sendFrame_still (s : State) (k : Nat) (body : LinkBody) : (State.sendFrame s k body).still = s.still := by
  simp only [State.sendFrame, State.dropUnder_still, State.setLink_still, still_ite, ite_self]

theorem State.resendFrames_still (s : State) (k : Nat) (seqs : List Nat) : (State.resendFrames s k seqs).still =
    s.still := rfl

theorem State.unpaired_still (s : State) (k : Nat) : (State.unpaired s k).still = s.still := by
  simp only [State.unpaired, still_mk, still_ite, ite_self]

theorem State.unalign_still (s : State) (d : Nat) : (State.unalign s d).still = s.still := rfl

/-! ## Roles -/

theorem State.sendBeat_still (s : State) (b : List Byte) : (State.sendBeat s b).still = s.still := by
  simp only [State.sendBeat, State.sendFrame_still, still_mk]

theorem State.eventBeat_still (s : State) : (State.eventBeat s).still = s.still := by
  simp only [State.eventBeat, State.sendBeat_still, still_ite, ite_self]

theorem State.refreshClamp_still (s : State) : (State.refreshClamp s).still = s.still := rfl
theorem State.pairEvent_still (s : State) (event from' goal : Nat) (map : List Byte) : (State.pairEvent s event
    from' goal map).still = s.still := by
  simp only [State.pairEvent, State.giveRecord_still]

theorem State.sendItem_still (s : State) (item : MirrorItem) : (State.sendItem s item).still = s.still := by
  simp only [State.sendItem, State.sendFrame_still, still_mk]

theorem State.forward_still (s : State) (r : GrainRec) : (State.forward s r).still = s.still := by
  simp only [State.forward, State.sendFrame_still, still_ite, ite_self]

theorem State.forwardAll_still (s : State) : (State.forwardAll s).still = s.still := by
  simp only [State.forwardAll, State.forward_still, still_foldl, implies_true]

theorem State.mirror_still (s : State) (category : Nat) (item : MirrorItem) : (State.mirror s category
    item).still = s.still := by
  simp only [State.mirror, State.sendItem_still, still_ite, ite_self]

theorem State.settleWhere_still (s : State) (p : Flight → Bool) (r : Rep) : (State.settleWhere s p r).still =
    s.still := rfl

theorem State.dropPending_still (s : State) (f : Flight) : (State.dropPending s f).still = s.still := by
  simp only [State.dropPending, State.emptySlot_still, still_ite, ite_self]

theorem State.refuseWhere_still (s : State) (p : Flight → Bool) (r : Rep) : (State.refuseWhere s p r).still =
    s.still := by
  simp only [State.refuseWhere, State.dropPending_still, State.settleWhere_still, still_foldl,
    implies_true]

theorem State.loseAuthority_still (s : State) : (State.loseAuthority s).still = s.still := rfl
theorem State.dropRoles_still (s : State) : (State.dropRoles s).still = s.still := by
  simp only [State.dropRoles, State.loseAuthority_still, State.pairEvent_still, still_mk, still_ite, ite_self]

theorem State.pairGo_still (s : State) (goal : PairState) : (State.pairGo s goal).still = s.still := by
  simp only [State.pairGo, State.dropRoles_still, State.eventBeat_still, State.pairEvent_still,
    State.refreshClamp_still, still_mk, still_ite, ite_self]

/-! ## Flags -/

theorem State.faultEvent_still (s : State) (n event subject : Nat) : (State.faultEvent s n event subject).still =
    s.still := by
  simp only [State.faultEvent, State.giveRecord_still]

theorem State.failover_still (s : State) (port : Nat) (planeB : Bool) : (State.failover s port planeB).still =
    s.still := by
  simp only [State.failover, State.setOut_still, still_ite, ite_self]

theorem State.failoverAll_still (s : State) (planeB : Bool) : (State.failoverAll s planeB).still = s.still := by
  simp only [State.failoverAll, State.failover_still, still_foldl, implies_true]

theorem State.spareLane_still (s : State) (k lane : Nat) : (State.spareLane s k lane).still = s.still := by
  simp only [State.spareLane]
  repeat' split
  all_goals simp only [State.setLink_still]

theorem State.freezeNow_still (s : State) : (State.freezeNow s).still = s.still := by
  simp only [State.freezeNow, State.pairGo_still, still_mk, still_ite, ite_self]

theorem State.escalate_still (s : State) (n : Nat) : (State.escalate s n).still = s.still := by
  simp only [State.escalate, State.faultEvent_still, State.raiseVector_still, State.updFault_still, still_ite, ite_self]

theorem State.latch_still (s : State) (n : Nat) (syn adr : Word) (subject : Nat) : (State.latch s n syn adr
    subject).still = s.still := by
  simp only [State.latch]
  repeat' split
  all_goals simp only [State.escalate_still, State.faultEvent_still, State.raiseVector_still, State.setFault_still, still_mk, still_foldl, implies_true]

theorem State.failRemote_still (s : State) (p : Tie → Bool) (r : Rep) : (State.failRemote s p r).still = s.still := by
  simp only [State.failRemote, State.settleWhere_still]
  rw [still_foldl]
  intros
  simp only [State.settleWhere_still]

theorem State.refStopped_still (s : State) : (State.refStopped s).still = s.still := by
  simp only [State.refStopped, State.drawFree_still, State.latch_still, State.updCand_still, still_ite,
    ite_self]

theorem State.stopLink_still (s : State) (k : Nat) : (State.stopLink s k).still = s.still := by
  simp only [State.stopLink, State.drawFree_still, State.failRemote_still, State.latch_still,
    State.refStopped_still, State.setLink_still, State.settleWhere_still, State.stateEvent_still,
    State.unpaired_still, still_mk, still_ite, ite_self]

theorem State.aliveRelease_still (s : State) : (State.aliveRelease s).still = s.still := by
  simp only [State.aliveRelease, State.dropRoles_still, State.eventBeat_still, State.refreshClamp_still, still_mk,
    still_ite, ite_self, still_foldl, State.stopLink_still, implies_true]

theorem State.mirrorSwitch_still (s : State) (st : Nat) : (State.mirrorSwitch s st).still = s.still := by
  simp only [State.mirrorSwitch, State.aliveRelease_still, State.drawFree_still, State.latch_still,
    State.setStack_still, still_ite, ite_self]

theorem State.act_still (s : State) (n action subject : Nat) : (State.act s n action subject).still = s.still := by
  simp only [State.act]
  repeat' split
  all_goals simp only [State.aliveRelease_still, State.failoverAll_still, State.failover_still, State.freezeNow_still,
    State.mirrorSwitch_still, State.spareLane_still]

theorem State.fire_still (s : State) (n : Nat) (syn adr : Word) (subject : Nat) : (State.fire s n syn adr
    subject).still = s.still := by
  simp only [State.fire, State.act_still, State.latch_still, still_ite, ite_self]

theorem State.strike_still (s : State) (n subject : Nat) : (State.strike s n subject).still = s.still := by
  simp only [State.strike, State.drawFree_still, State.fire_still]

theorem State.fall_still (s : State) (n : Nat) : (State.fall s n).still = s.still := by
  simp only [State.fall, State.updFault_still, still_ite, ite_self]

theorem State.level_still (s : State) (n : Nat) (cond : Bool) (subject : Nat) : (State.level s n cond
    subject).still = s.still := by
  simp only [State.level, State.fall_still, State.strike_still, still_ite, ite_self]

theorem State.keyEvent_still (s : State) (n event inst : Nat) : (State.keyEvent s n event inst).still = s.still := by
  simp only [State.keyEvent, State.giveRecord_still]

theorem State.tagFails_still (s : State) (n : Nat) : (State.tagFails s n).still = s.still := by
  simp only [State.tagFails, State.keyEvent_still, State.updSlot_still, still_ite, ite_self]

theorem State.handKey_still (s : State) (n : Nat) : (State.handKey s n).still = s.still := by
  simp only [State.handKey, State.strike_still, State.tagFails_still, still_ite, ite_self]

theorem State.ackFault_still (s : State) (n : Nat) : (State.ackFault s n).still = s.still := by
  simp only [State.ackFault, State.faultEvent_still, State.setFault_still, still_ite, ite_self]

/-! ## Windows -/

theorem State.forgetTicks_still (s : State) (d : Nat) : (State.forgetTicks s d).still = s.still := rfl
theorem State.allot_still (s : State) (d n : Nat) (c : Cost) : (State.allot s d n c).still = s.still := rfl

/-! ## Wake -/

theorem State.startWake_still (s : State) (n : Nat) : (State.startWake s n).still = s.still := by
  simp only [State.startWake, State.setPdom_still, still_ite, ite_self]

theorem State.wakeAll_still (s : State) (ns : List Nat) : (State.wakeAll s ns).still = s.still := by
  simp only [State.wakeAll, State.startWake_still, State.updPdom_still, still_foldl, implies_true]

end Sys2Proof.Machine
end

