-- ==== Sys2Proof/Laws/KeptMedia.lean ====
section
/-! SUPPORT. What the operations of the reference, time, ingress, frame store, fabric, egress, Marquetry, audio and Dovetail
families keep, named as in Laws/Kept.lean. -/
namespace Sys2Proof.Machine

/-! ## Balix -/

/-- A relation between the parts before and after that holds of no change and of changes one after another. -/
structure Chains (R : Still → Still → Prop) : Prop where
  refl : ∀ a, R a a
  trans : ∀ {a b c}, R a b → R b c → R a c

/-- Nothing of the part changes. -/
def Same (a b : Still) : Prop := b = a

/-- Nothing of the fixed part changes. -/
def SameFixed (a b : Still) : Prop := b.fixed = a.fixed

theorem chains_same : Chains Same := ⟨fun _ => rfl, fun h k => Eq.trans k h⟩
theorem chains_sameFixed : Chains SameFixed := ⟨fun _ => rfl, fun h k => Eq.trans k h⟩
/-- Two states of the same part are related. -/
theorem Chains.of_eq {R : Still → Still → Prop} (hR : Chains R) {a b : Still} (h : b = a) : R a b := h ▸ hR.refl a

/-- The effect of a command moves the part as a relation says. -/
def CmdSpec.Keeps (R : Still → Still → Prop) (p : CmdSpec) : Prop :=
  match p.effect with
  | .atOnce act => ∀ s x, R s.still (act s x).1.still
  | .later start => ∀ s x, R s.still (start s x).still
  | .tick _ onStage => ∀ s x, R s.still (onStage s x).still

/-- A command that changes nothing of the part moves it as any relation of the kind says. -/
theorem CmdSpec.Keeps.narrow {R : Still → Still → Prop} (hR : Chains R) {p : CmdSpec} (h : p.Keeps Same) : p.Keeps R := by
  unfold CmdSpec.Keeps at *
  split <;> (rename_i e; simp only [e] at h; exact fun s x => hR.of_eq (h s x))

theorem State.updWork_still (s : State) (id d : Nat) (f : Staged → Staged) : (State.updWork s id d f).still =
    s.still := rfl

theorem State.updTie_still (s : State) (src td : Nat) (f : Tie → Tie) : (State.updTie s src td f).still = s.still := rfl
theorem State.sendTie_still (s : State) (dev : Nat) (m : TieMsg) : (State.sendTie s dev m).still = s.still := by
  simp only [State.sendTie, State.sendFrame_still, State.updLink_still]

theorem State.reserveTie_still (s : State) (d n src : Nat) : (State.reserveTie s d n src).still = s.still := by
  simp only [State.reserveTie]
  repeat' split
  all_goals simp only [State.sendTie_still, State.updTie_still, still_mk]

theorem State.reserveFor_still (s : State) (ids : List Nat) : (State.reserveFor s ids).still = s.still := by
  unfold State.reserveFor
  rw [still_foldl]
  intro t w
  rw [still_foldl]
  intro u e
  cases e <;> simp only [State.reserveTie_still]

theorem State.effectDone_still (s : State) (id k : Nat) : (State.effectDone s id k).still = s.still := rfl
theorem State.entriesLost_still (s : State) (id k winner : Nat) : (State.entriesLost s id k winner).still = s.still := by
  simp only [State.entriesLost, State.effectDone_still, State.updFlight_still, still_ite, ite_self]

theorem State.entriesSkipped_still (s : State) (id k : Nat) : (State.entriesSkipped s id k).still = s.still := rfl
theorem State.dropEmpty_still (s : State) : (State.dropEmpty s).still = s.still := rfl
theorem State.skipTakes_still (s : State) (id d : Nat) (dsts : List Nat) : (State.skipTakes s id d dsts).still =
    s.still := by
  simp only [State.skipTakes, State.dropEmpty_still, State.entriesSkipped_still, State.updFlight_still,
    State.updWork_still, still_ite, ite_self]

theorem State.failFlight_still (s : State) (id : Nat) (r : Rep) : (State.failFlight s id r).still = s.still := by
  simp only [State.failFlight, State.refuseWhere_still]

theorem State.unwrite_still (s : State) (w : Staged) : (State.unwrite s w).still = s.still := by
  simp only [State.unwrite]
  refine still_foldl _ (fun t e => ?_) _ _
  split
  · exact State.updOut_still ..
  · rfl

theorem State.failRest_still (s : State) (id : Nat) (r : Rep) : (State.failRest s id r).still = s.still := by
  simp only [State.failRest, State.failFlight_still, State.unwrite_still, still_mk, still_foldl,
    implies_true]

theorem State.stageParts_keeps {R : Still → Still → Prop} (hR : Chains R) (s : State) (p : CmdSpec) (x : Ctx) (t0 : Nat)
    (ids : List Nat) (hp : p.Keeps R) : R s.still (s.stageParts p x t0 ids).still := by
  unfold CmdSpec.Keeps at hp
  unfold State.stageParts
  split
  · rename_i e
    simp only [e] at hp
    refine hR.trans (hR.of_eq ?_) (hp _ x)
    rw [State.updFlight_still]
    rfl
  · exact hR.refl _
  · exact hR.refl _

theorem State.commitPlaces_still (s : State) (ids : List Nat) (z0 : List (Nat × Nat × Bool × Bool)) :
    (State.commitPlaces s ids z0).still = s.still := by
  induction z0 generalizing s with
  | nil => rfl
  | cons q rest ih =>
    obtain ⟨d, n, fits, late⟩ := q
    simp only [State.commitPlaces, ih, still_ite, State.allot_still, still_mk, ite_self]

theorem State.setMaps_still (s : State) (e : Entry) : (State.setMaps s e).still = s.still := by
  simp only [State.setMaps]
  repeat' split
  all_goals simp only [State.updDest_still, still_mk]

theorem State.wouldLeave_still (s : State) (d op sess : Nat) (e : Entry) : (State.wouldLeave s d op sess e).still
    = s.still := by
  simp only [State.wouldLeave]
  repeat' split
  all_goals simp only [State.setMaps_still, State.updOut_still, still_mk]

theorem State.afterMembers_still (s : State) (ids : List Nat) (op : Nat) : (State.afterMembers s ids op).still =
    s.still := by
  simp only [State.afterMembers, State.wouldLeave_still, still_foldl, implies_true]

theorem State.skipHeld_still (s : State) (ids : List Nat) : (State.skipHeld s ids).still = s.still := by
  simp only [State.skipHeld, State.skipTakes_still, still_foldl, implies_true]

theorem State.setTakeover_still (s : State) (n : Nat) : (State.setTakeover s n).still = s.still := by
  simp only [State.setTakeover, State.raiseVector_still, State.setMbox_still, still_ite, ite_self]

theorem State.takeoverDone_still (s : State) : (State.takeoverDone s).still = s.still := by
  simp only [State.takeoverDone, State.setTakeover_still, still_mk, still_ite, still_foldl, ite_self, implies_true]

theorem State.enter_still (s : State) (mb : Nat) (c : Cmd) (stamp : Nat) (chain : List Nat) : (State.enter s mb c
    stamp chain).still = s.still := rfl

theorem State.mirrorCommand_still (s : State) (op : Nat) (c : Cmd) : (State.mirrorCommand s op c).still = s.still := by
  simp only [State.mirrorCommand, State.mirror_still, still_ite, ite_self]

theorem State.carryOut_keeps {R : Still → Still → Prop} (hR : Chains R) (s : State) (p : CmdSpec) (x : Ctx)
    (hp : p.Keeps R) : R s.still (s.carryOut p x).still := by
  unfold CmdSpec.Keeps at hp
  unfold State.carryOut
  split
  · exact hR.refl _
  · rename_i e
    simp only [e] at hp
    refine hR.trans (hp s x) (hR.of_eq ?_)
    simp only [State.mirrorCommand_still, State.settle_still, still_ite, ite_self]
  · rename_i e
    simp only [e] at hp
    exact hp s x

theorem State.carryOrWake_keeps {R : Still → Still → Prop} (hR : Chains R) (s : State) (p : CmdSpec) (x : Ctx)
    (hp : p.Keeps R) : R s.still (s.carryOrWake p x).still := by
  simp only [State.carryOrWake]
  split
  · exact hR.of_eq (by rw [State.updFlight_still, State.wakeAll_still])
  · exact hR.trans (hR.of_eq (State.wakeAll_still ..)) (State.carryOut_keeps hR _ _ _ hp)

theorem State.stageAll_keeps {R : Still → Still → Prop} (hR : Chains R) (l : List (CmdSpec × Ctx)) (s : State) (t0 : Nat)
    (ids : List Nat) (h : ∀ m ∈ l, m.1.Keeps R) (u : State) (e : s.stageAll t0 ids l = .ok u) : R s.still u.still := by
  induction l generalizing s with
  | nil => cases e; exact hR.refl _
  | cons m rest ih =>
    obtain ⟨p, x⟩ := m
    unfold State.stageAll at e
    split at e
    · cases e
    · exact hR.trans (State.stageParts_keeps hR s p x t0 ids (h _ List.mem_cons_self))
        (ih _ (fun q hq => h q (List.mem_cons_of_mem _ hq)) e)

theorem State.tickUnit_keeps {R : Still → Still → Prop} (hR : Chains R) (s : State) (members : List (CmdSpec × Ctx))
    (h : ∀ m ∈ members, m.1.Keeps R) (t : State) (e : s.tickUnit members = .staged t) : R s.still t.still := by
  unfold State.tickUnit at e
  split at e
  · cases e; exact hR.refl _
  · dsimp only at e
    split at e
    · cases e
    · rename_i u hu
      have hs := State.stageAll_keeps hR _ s _ _ (h := h) u hu
      split at e
      · cases e
      · split at e
        · cases e
        · cases e
          refine hR.trans hs (hR.of_eq ?_)
          simp only [State.reserveFor_still, State.skipHeld_still, still_mk, State.commitPlaces_still, State.wakeAll_still]

theorem State.acceptOne_keeps {R : Still → Still → Prop} (hR : Chains R) (s : State) (p : CmdSpec) (x : Ctx)
    (hp : p.Keeps R) : R s.still (s.acceptOne p x).still := by
  unfold State.acceptOne
  split
  · split
    · exact hR.of_eq (State.settle_still ..)
    · exact hR.of_eq (State.settle_still ..)
    · rename_i t ht
      exact State.tickUnit_keeps hR s [(p, x)] (by simpa using hp) t ht
  all_goals
    split
    · exact hR.of_eq (State.settle_still ..)
    · exact State.carryOrWake_keeps hR s p x hp

theorem State.fetchOne_keeps {R : Still → Still → Prop} (hR : Chains R) (s : State) (p : CmdSpec) (mb : Nat) (c : Cmd)
    (stamp : Nat) (hp : p.Keeps R) : R s.still (s.fetchOne p mb c stamp).still :=
  hR.trans (hR.of_eq (State.enter_still ..)) (State.acceptOne_keeps hR _ _ _ hp)

/-- A command fetched alone moves the part as its effect does. -/
theorem runCommand_keeps {R : Still → Still → Prop} (hR : Chains R) (p : CmdSpec) (mb : Nat) (c : Cmd) (s : State)
    (hp : p.Keeps R) : R s.still (runCommand p mb c s).still := by
  unfold runCommand
  split
  · exact State.fetchOne_keeps hR _ _ _ _ _ hp
  · exact hR.refl _

/-! ## Reference -/

theorem State.refFaults_still (s : State) : (State.refFaults s).still = s.still := by
  simp only [State.refFaults, State.level_still]

theorem State.refGo_still (s : State) (goal : RefState) : (State.refGo s goal).still = s.still := by
  simp only [State.refGo, State.refEvent_still, State.refFaults_still, still_mk, still_ite, ite_self]

theorem State.setCand2_still (s : State) (c : Option Nat) : (State.setCand2 s c).still = s.still := by
  simp only [State.setCand2, State.refEvent_still, still_mk, still_ite, ite_self]

theorem State.refHold_still (s : State) : (State.refHold s).still = s.still := by
  simp only [State.refHold, State.refGo_still, State.setCand2_still, still_mk, still_ite, ite_self]

theorem State.refChoose_still (s : State) (c : Nat) : (State.refChoose s c).still = s.still := by
  simp only [State.refChoose, State.refGo_still, State.setCand2_still, still_mk, still_ite, ite_self]

theorem State.disqualify_still (s : State) (c : Nat) : (State.disqualify s c).still = s.still := by
  simp only [State.disqualify, State.refHold_still, State.strike_still, State.updCand_still, still_ite,
    ite_self]

theorem State.forgetEvent_still (s : State) (c : Nat) : (State.forgetEvent s c).still = s.still := rfl
theorem State.seeEvent_still (s : State) (c ev : Nat) : (State.seeEvent s c ev).still = s.still := rfl
theorem execCandidateQualify_still (cand : Nat) (s : State) : Keeps Still.whole s (execCandidateQualify cand s) := by
  simp only [execCandidateQualify, State.setCand_still, implies_true,
    keeps_next, Still.whole, keeps_ite, and_self]

theorem execCandidateDisqualify_still (cand : Nat) (why : DisqCause) (s : State) : Keeps Still.whole s
    (execCandidateDisqualify cand why s) := by
  simp only [execCandidateDisqualify, State.disqualify_still, State.forgetEvent_still, still_ite,
    ite_self, implies_true, keeps_next, Still.whole, keeps_ite, and_self]

theorem State.markSuspect_still (s : State) (c partner : Nat) : (State.markSuspect s c partner).still = s.still := by
  simp only [State.markSuspect, State.refEvent_still, State.setCand_still, still_ite, ite_self]

theorem State.clearSuspect_still (s : State) (c : Nat) : (State.clearSuspect s c).still = s.still := by
  simp only [State.clearSuspect, State.refEvent_still, State.updCand_still, still_ite, ite_self]

theorem State.agree_still (s : State) (c : Nat) : (State.agree s c).still = s.still := by
  simp only [State.agree, State.clearSuspect_still, State.setCand_still, still_ite, ite_self]

theorem State.clearAgreed_still (s : State) : (State.clearAgreed s).still = s.still := by
  simp only [State.clearAgreed, State.agree_still, still_foldl, implies_true]

theorem State.takeCand_still (s : State) (m : RefMeas) (c : Nat) : (State.takeCand s m c).still = s.still := by
  simp only [State.takeCand]
  repeat' split
  all_goals simp only [State.disqualify_still, State.seeEvent_still, State.updCand_still]

theorem State.takeMeas_still (s : State) (m : RefMeas) : (State.takeMeas s m).still = s.still := by
  simp only [State.takeMeas, State.takeCand_still, still_foldl, implies_true]

theorem State.comparePairs_still (s : State) : (State.comparePairs s).still = s.still := by
  simp only [State.comparePairs, State.markSuspect_still, still_ite, still_foldl, ite_self, implies_true]

theorem State.keepOrHold_still (s : State) : (State.keepOrHold s).still = s.still := by
  simp only [State.keepOrHold]
  repeat' split
  all_goals simp only [State.refHold_still]

theorem State.autoAdopt_still (s : State) (top : List Nat) (c0 : Nat) : (State.autoAdopt s top c0).still = s.still := by
  simp only [State.autoAdopt, State.keepOrHold_still, State.refChoose_still, still_ite, ite_self]

theorem State.autoChoose_still (s : State) (top : List Nat) : (State.autoChoose s top).still = s.still := by
  simp only [State.autoChoose]
  repeat' split
  all_goals simp only [State.autoAdopt_still, State.refHold_still]

theorem State.choose_still (s : State) : (State.choose s).still = s.still := by
  simp only [State.choose]
  repeat' split
  all_goals simp only [State.autoChoose_still, State.comparePairs_still, State.refChoose_still, State.refHold_still]

theorem State.track_still (s : State) (m : RefMeas) : (State.track s m).still = s.still := by
  simp only [State.track]
  repeat' split
  all_goals simp only [still_mk]

theorem execRefEvaluation_still (meas : RefMeas) (s : State) : Keeps Still.whole s (execRefEvaluation meas s) := by
  simp only [execRefEvaluation, State.choose_still, State.clearAgreed_still, State.takeMeas_still,
    State.track_still, still_mk, implies_true, keeps_next, Still.whole,
    keeps_ite, and_self]

theorem execPullEnd_still (s : State) : Keeps Still.whole s (execPullEnd s) := by
  simp only [execPullEnd]
  repeat' split
  all_goals simp only [still_mk, keeps_next, Still.whole]

theorem execLockDwellExpiry_still (s : State) : Keeps Still.whole s (execLockDwellExpiry s) := by
  simp only [execLockDwellExpiry]
  repeat' split
  all_goals simp only [State.refGo_still, keeps_next, Still.whole]

theorem execHoldoverHistoryValid_still (s : State) : Keeps Still.whole s (execHoldoverHistoryValid s) := by
  simp only [execHoldoverHistoryValid]
  repeat' split
  all_goals simp only [still_mk, keeps_next, Still.whole]

theorem execHoldoverLimit_still (s : State) : Keeps Still.whole s (execHoldoverLimit s) := by
  simp only [execHoldoverLimit]
  repeat' split
  all_goals simp only [State.refGo_still, keeps_next, Still.whole]

theorem State.startTicks_still (s : State) (d rate : Nat) (ref : Option Nat) : (State.startTicks s d rate
    ref).still = s.still := by
  simp only [State.startTicks]
  repeat' split
  all_goals simp only [State.forgetTicks_still, State.setDom_still]

theorem cmdTdConfig_still : cmdTdConfig.Keeps Same := by
  simp only [CmdSpec.Keeps, Same, cmdTdConfig]
  intros
  repeat' split
  all_goals simp only [State.forgetTicks_still, State.setDom_still, State.startTicks_still]

theorem execTdConfig_still (mb : Nat) (c : Cmd) (s : State) : Keeps Still.whole s (execTdConfig mb c s) := by
  rw [execTdConfig, keeps_next]
  exact runCommand_keeps chains_same _ _ _ _ cmdTdConfig_still

theorem State.refConfig_still (s : State) (c : Cmd) : (State.refConfig s c).still = s.still := by
  simp only [State.refConfig]
  repeat' split
  all_goals simp only [State.setCand_still, State.updFpOut_still, still_mk]

theorem cmdRefConfig_still : cmdRefConfig.Keeps Same := by
  simp only [CmdSpec.Keeps, Same, cmdRefConfig, State.refConfig_still, implies_true]

theorem execRefConfig_still (mb : Nat) (c : Cmd) (s : State) : Keeps Still.whole s (execRefConfig mb c s) := by
  rw [execRefConfig, keeps_next]
  exact runCommand_keeps chains_same _ _ _ _ cmdRefConfig_still

theorem State.setRanks_still (s : State) (c : Cmd) : (State.setRanks s c).still = s.still := by
  simp only [State.setRanks]
  rw [still_foldl]
  intros
  simp only [State.updCand_still]

theorem cmdRefPriority_still : cmdRefPriority.Keeps Same := by
  simp only [CmdSpec.Keeps, Same, cmdRefPriority, State.setRanks_still, implies_true]

theorem execRefPriority_still (mb : Nat) (c : Cmd) (s : State) : Keeps Still.whole s (execRefPriority mb c s) := by
  rw [execRefPriority, keeps_next]
  exact runCommand_keeps chains_same _ _ _ _ cmdRefPriority_still

theorem State.refForce_still (s : State) (f : RefForce) : (State.refForce s f).still = s.still := by
  simp only [State.refForce]
  repeat' split
  all_goals simp only [State.clearSuspect_still, State.refEvent_still, still_mk]

theorem cmdRefForce_still : cmdRefForce.Keeps Same := by
  simp only [CmdSpec.Keeps, Same, cmdRefForce, State.refForce_still, implies_true]

theorem execRefForce_still (mb : Nat) (c : Cmd) (s : State) : Keeps Still.whole s (execRefForce mb c s) := by
  rw [execRefForce, keeps_next]
  exact runCommand_keeps chains_same _ _ _ _ cmdRefForce_still

theorem cmdRefStatus_still : cmdRefStatus.Keeps Same := by
  simp only [CmdSpec.Keeps, Same, cmdRefStatus, implies_true]

theorem execRefStatus_still (mb : Nat) (c : Cmd) (s : State) : Keeps Still.whole s (execRefStatus mb c s) := by
  rw [execRefStatus, keeps_next]
  exact runCommand_keeps chains_same _ _ _ _ cmdRefStatus_still

theorem cmdFpRealign_still : cmdFpRealign.Keeps Same := by
  simp only [CmdSpec.Keeps, Same, cmdFpRealign, implies_true]

theorem execFpRealign_still (mb : Nat) (c : Cmd) (s : State) : Keeps Still.whole s (execFpRealign mb c s) := by
  rw [execFpRealign, keeps_next]
  exact runCommand_keeps chains_same _ _ _ _ cmdFpRealign_still

theorem cmdCutoffSet_still : cmdCutoffSet.Keeps Same := by
  simp only [CmdSpec.Keeps, Same, cmdCutoffSet, implies_true]

theorem execCutoffSet_still (mb : Nat) (c : Cmd) (s : State) : Keeps Still.whole s (execCutoffSet mb c s) := by
  rw [execCutoffSet, keeps_next]
  exact runCommand_keeps chains_same _ _ _ _ cmdCutoffSet_still

/-! ## TimeBase -/

theorem State.putHost_fixed (s : State) (a : Nat) (bs : List Byte) : (State.putHost s a bs).still.fixed =
    s.still.fixed := rfl

theorem State.spoilHost_fixed (s : State) (a n : Nat) : (State.spoilHost s a n).still.fixed = s.still.fixed := rfl
theorem State.answer_fixed (s : State) (a : Nat) (bs : List Byte) (r : Rep) : (State.answer s a bs
    r).1.still.fixed = s.still.fixed := by
  simp only [State.answer]
  repeat' split
  all_goals simp only [State.putHost_fixed, State.spoilHost_fixed]

theorem State.tbGo_still (s : State) (n : Nat) (goal : TbState) : (State.tbGo s n goal).still = s.still := by
  simp only [State.tbGo]
  repeat' split
  all_goals simp only [State.disqualify_still, State.level_still, State.setBase_still, State.timeEvent_still,
    State.updCand_still]

theorem State.tbStep_still (s : State) (n : Nat) (time : Nat) : (State.tbStep s n time).still = s.still := by
  simp only [State.tbStep, State.disqualify_still, State.setBase_still, State.timeEvent_still, still_mk]

theorem State.tbStepBy_still (s : State) (n : Nat) (amount : Int) : (State.tbStepBy s n amount).still = s.still := by
  simp only [State.tbStepBy, State.tbStep_still]

theorem State.servo_still (s : State) (n : Nat) (theta : Int) : (State.servo s n theta).1.still = s.still := by
  simp only [State.servo, State.setBase_still, State.tbGo_still, State.tbStepBy_still, State.updBase_still,
    still_ite, ite_self]

theorem State.offset_still (s : State) (n stepcnt : Nat) (theta : Int) : (State.offset s n stepcnt theta).1.still
    = s.still := by
  simp only [State.offset]
  repeat' split
  all_goals simp only [State.servo_still]

theorem State.freeRun_still (s : State) (n : Nat) : (State.freeRun s n).still = s.still := by
  simp only [State.freeRun, State.setBase_still, State.tbGo_still, still_ite, ite_self]

theorem State.tbParams_still (s : State) (n : Nat) (c : Cmd) : (State.tbParams s n c).still = s.still := rfl
theorem State.tbInit_still (s : State) (n : Nat) (c : Cmd) : (State.tbInit s n c).still = s.still := by
  simp only [State.tbInit, State.tbGo_still, State.tbParams_still, State.tbStep_still, State.updBase_still,
    still_mk, still_ite, ite_self]

theorem State.ppsBind_still (s : State) (c : Cmd) : (State.ppsBind s c).still = s.still := rfl
theorem cmdTbConfig_still : cmdTbConfig.Keeps Same := by
  simp only [CmdSpec.Keeps, Same, cmdTbConfig, State.ppsBind_still, State.tbInit_still, State.tbParams_still,
    still_ite, ite_self, implies_true]

theorem execTbConfig_still (mb : Nat) (c : Cmd) (s : State) : Keeps Still.whole s (execTbConfig mb c s) := by
  rw [execTbConfig, keeps_next]
  exact runCommand_keeps chains_same _ _ _ _ cmdTbConfig_still

theorem cmdTbOffset_still : cmdTbOffset.Keeps Same := by
  simp only [CmdSpec.Keeps, Same, cmdTbOffset, State.offset_still, implies_true]

theorem execTbOffset_still (mb : Nat) (c : Cmd) (s : State) : Keeps Still.whole s (execTbOffset mb c s) := by
  rw [execTbOffset, keeps_next]
  exact runCommand_keeps chains_same _ _ _ _ cmdTbOffset_still

theorem cmdTbStep_still : cmdTbStep.Keeps Same := by
  simp only [CmdSpec.Keeps, Same, cmdTbStep, State.tbStepBy_still, State.tbStep_still, still_ite,
    ite_self, implies_true]

theorem execTbStep_still (mb : Nat) (c : Cmd) (s : State) : Keeps Still.whole s (execTbStep mb c s) := by
  rw [execTbStep, keeps_next]
  exact runCommand_keeps chains_same _ _ _ _ cmdTbStep_still

theorem State.ptpSet_still (s : State) (c : Cmd) : (State.ptpSet s c).still = s.still := by
  simp only [State.ptpSet, State.freeRun_still, State.setInst_still, State.updBase_still]

theorem State.ptpRemove_still (s : State) (n : Nat) : (State.ptpRemove s n).still = s.still := by
  simp only [State.ptpRemove, State.freeRun_still, State.setInst_still, State.updBase_still, still_ite,
    ite_self]

theorem cmdPtpInstance_still : cmdPtpInstance.Keeps Same := by
  simp only [CmdSpec.Keeps, Same, cmdPtpInstance, State.ptpRemove_still, State.ptpSet_still, still_ite,
    ite_self, implies_true]

theorem execPtpInstance_still (mb : Nat) (c : Cmd) (s : State) : Keeps Still.whole s (execPtpInstance mb c s) := by
  rw [execPtpInstance, keeps_next]
  exact runCommand_keeps chains_same _ _ _ _ cmdPtpInstance_still

theorem cmdTbStatus_fixed : cmdTbStatus.Keeps SameFixed := by
  simp only [CmdSpec.Keeps, SameFixed, cmdTbStatus]
  intros
  repeat' split
  all_goals simp only [State.answer_fixed, State.drawFree_still]

theorem execTbStatus_fixed (mb : Nat) (c : Cmd) (s : State) : Keeps Still.fixed s (execTbStatus mb c s) := by
  rw [execTbStatus, keeps_next]
  exact runCommand_keeps chains_sameFixed _ _ _ _ cmdTbStatus_fixed

theorem execPtpOffset_still (inst stepcnt : Nat) (theta : Int) (gm : BitVec 64) (s : State) : Keeps Still.whole s
    (execPtpOffset inst stepcnt theta gm s) := by
  simp only [execPtpOffset, State.offset_still, implies_true,
    keeps_next, Still.whole, keeps_ite, and_self]

theorem execMasterTimeout_still (base : Nat) (s : State) : Keeps Still.whole s (execMasterTimeout base s) := by
  simp only [execMasterTimeout]
  repeat' split
  all_goals simp only [State.freeRun_still, keeps_next, Still.whole]

theorem execGrandmasterChange_still (inst : Nat) (gm : GmData) (s : State) : Keeps Still.whole s
    (execGrandmasterChange inst gm s) := by
  simp only [execGrandmasterChange, State.freeRun_still, State.setInst_still, State.timeEvent_still, still_ite,
    ite_self, implies_true, keeps_next, Still.whole, keeps_ite, and_self]

theorem State.updPtpPort_still (s : State) (inst port : Nat) (f : PtpPort → PtpPort) : (State.updPtpPort s inst
    port f).still = s.still := rfl

theorem State.ptpSend_still (s : State) (inst coded : Nat) (kinds : List PtpKind) : (State.ptpSend s inst coded
    kinds).1.still = s.still := by
  simp only [State.ptpSend]
  repeat' split
  all_goals simp only [State.macsecTake_still, State.updInst_still]

theorem execPtpSyncSend_still (inst port : Nat) (s : State) : Keeps Still.whole s (execPtpSyncSend inst port s) := by
  simp only [execPtpSyncSend]
  repeat' split
  all_goals simp only [State.ptpSend_still, State.updPtpPort_still, keeps_next, Still.whole]

theorem execDelayReqSend_still (inst port : Nat) (s : State) : Keeps Still.whole s (execDelayReqSend inst port s) := by
  simp only [execDelayReqSend]
  repeat' split
  all_goals simp only [State.ptpSend_still, State.updPtpPort_still, keeps_next, Still.whole]

theorem execPpsOutPulse_still (s : State) : Keeps Still.whole s (execPpsOutPulse s) := by
  simp only [execPpsOutPulse]
  repeat' split
  all_goals simp only [still_mk, keeps_next, Still.whole]

theorem State.pushStamp_still (s : State) (port sub id : Nat) : (State.pushStamp s port sub id).still = s.still := by
  simp only [State.pushStamp, State.setQueue_still, State.strike_still, still_ite, ite_self]

theorem execTxTimestamp_still (port sub id : Nat) (s : State) : Keeps Still.whole s (execTxTimestamp port sub id s) := by
  simp only [execTxTimestamp, State.pushStamp_still, State.updPort_still, implies_true, keeps_next, Still.whole, keeps_ite, and_self]

theorem State.answerDelay_still (s : State) (inst coded : Nat) (m : PtpFrame) (b : TimeBase) : (State.answerDelay
    s inst coded m b).still = s.still := by
  simp only [State.answerDelay]
  repeat' split
  all_goals simp only [State.ptpSend_still]

theorem State.ptpReceive_still (s : State) (inst coded : Nat) (m : PtpFrame) : (State.ptpReceive s inst coded
    m).still = s.still := by
  simp only [State.ptpReceive, State.answerDelay_still, State.ptpSend_still, State.updInst_still, still_ite, still_foldl, ite_self, implies_true]

/-! ## Compose -/

theorem State.mqKeep_still (s : State) (e : Nat) : (State.mqKeep s e).still = s.still := by
  simp only [State.mqKeep]
  repeat' split
  all_goals simp only [State.updEngine_still]

/-! ## Ingress -/

theorem State.srcFaults_still (s : State) (n : Nat) : (State.srcFaults s n).still = s.still := by
  simp only [State.srcFaults, State.level_still]

theorem State.srcGo_still (s : State) (n : Nat) (goal : SrcState) : (State.srcGo s n goal).still = s.still := by
  simp only [State.srcGo, State.setSource_still, State.srcFaults_still, State.stateEvent_still,
    State.updRing_still, still_ite, ite_self]

theorem State.noSignal_still (s : State) (n : Nat) : (State.noSignal s n).still = s.still := by
  simp only [State.noSignal, State.srcGo_still, State.updSource_still]

theorem State.ringSet_still (s : State) (n : Nat) (pic : Nat × Nat × Nat) (at' : Nat × Nat) : (State.ringSet s n
    pic at').still = s.still := rfl

theorem State.ringHold_still (s : State) (n : Nat) : (State.ringHold s n).still = s.still := rfl
theorem State.ringFollow_still (s : State) (n : Nat) (pic : Nat × Nat × Nat) : (State.ringFollow s n pic).still =
    s.still := by
  simp only [State.ringFollow]
  repeat' split
  all_goals simp only [State.ringHold_still, State.ringSet_still, State.srcGo_still, State.updSource_still]

theorem State.takeFormat_still (s : State) (n : Nat) (pic : Nat × Nat × Nat) (tr : Nat) : (State.takeFormat s n
    pic tr).still = s.still := by
  simp only [State.takeFormat, State.disqualify_still, State.ringFollow_still, State.srcGo_still,
    State.updSource_still, still_ite, still_foldl, ite_self, implies_true]

theorem State.groupFault_still (s : State) (g : Nat) : (State.groupFault s g).still = s.still := by
  simp only [State.groupFault, State.level_still]

theorem execFormatValid_still (src : Nat) (sig : Structure) (s : State) : Keeps Still.whole s (execFormatValid
    src sig s) := by
  simp only [execFormatValid, State.setSource_still, State.srcGo_still, State.takeFormat_still, still_ite, ite_self,
    implies_true, keeps_next, Still.whole, keeps_ite, and_self]

theorem State.resumeOne_still (s : State) (o : Nat) : (State.resumeOne s o).still = s.still := by
  simp only [State.resumeOne]
  repeat' split
  all_goals simp only [State.ringSet_still, State.srcGo_still]

theorem execBudgetHoldResume_still (s : State) : Keeps Still.whole s (execBudgetHoldResume s) := by
  simp only [execBudgetHoldResume, State.resumeOne_still, still_foldl, implies_true,
    keeps_next, Still.whole]

theorem State.lateLine_still (s : State) (n : Nat) (tick : Nat) (second : Bool) (l : FabLine) : (State.lateLine s
    n tick second l).still = s.still := rfl

theorem State.ringWrite_still (s : State) (n : Nat) (tick : Nat) (second : Bool) (l : FabLine) : (State.ringWrite
    s n tick second l).still = s.still := by
  simp only [State.ringWrite, State.lateLine_still, State.setRing_still, still_ite, ite_self]

theorem State.frameTurn_still (s : State) (n tick : Nat) (second : Bool) : (State.frameTurn s n tick
    second).still = s.still := by
  simp only [State.frameTurn, State.setSource_still, State.srcFaults_still, still_ite, ite_self]

theorem State.sourceLine_still (s : State) (n line tick : Nat) (second : Bool) (arrival : Int) (came : Bool) (pic
    : Nat × Nat × Nat) (samples : List Nat) (anc : List AncPacket) : (State.sourceLine s n line tick second arrival
    came pic samples anc).still = s.still := by
  simp only [State.sourceLine, State.frameTurn_still, State.ringWrite_still, State.setSource_still, still_ite, ite_self]

theorem State.sdiLine_still (s : State) (n : Nat) (pic : Nat × Nat × Nat) (l : LineIn) : (State.sdiLine s n pic
    l).still = s.still := by
  simp only [State.sdiLine, State.drawFree_still, State.sourceLine_still, State.updSource_still, still_ite, ite_self]

theorem State.deembed_still (s : State) (n : Nat) (anc : List AncPacket) : (State.deembed s n anc).still = s.still := by
  simp only [State.deembed]
  refine still_foldl _ (fun t p => ?_) _ _
  split
  · exact still_foldl _ (fun _ _ => still_mk ..) _ _
  · rfl

theorem execLineArrival_still (src : Nat) (l : LineIn) (s : State) : Keeps Still.whole s (execLineArrival src l s) := by
  simp only [execLineArrival, State.deembed_still, State.sdiLine_still, State.setSource_still, State.srcGo_still,
    still_ite, ite_self, implies_true, keeps_next, Still.whole, keeps_ite,
    and_self]

theorem execOutOfWindow_still (src : Nat) (s : State) : Keeps Still.whole s (execOutOfWindow src s) := by
  simp only [execOutOfWindow, State.setSource_still, State.srcFaults_still, implies_true, keeps_next, Still.whole,
    keeps_ite, and_self]

theorem State.deliver_still (s : State) (n : Nat) (l : FabLine) : (State.deliver s n l).still = s.still := rfl
theorem execLineRelease_still (src : Nat) (s : State) : Keeps Still.whole s (execLineRelease src s) := by
  simp only [execLineRelease]
  repeat' split
  all_goals simp only [State.deliver_still, State.setSource_still, keeps_next, Still.whole]

/-! ## Sources -/

theorem State.bindSrc_still (s : State) (n : Nat) (c : Cmd) : (State.bindSrc s n c).still = s.still := by
  simp only [State.bindSrc]
  repeat' split
  all_goals simp only [State.ringSet_still, State.setRing_still, State.setSource_still, State.srcFaults_still,
    State.srcGo_still, still_mk]

theorem State.unbindSrc_still (s : State) (n : Nat) : (State.unbindSrc s n).still = s.still := by
  simp only [State.unbindSrc, State.setRing_still, State.setSource_still, State.srcFaults_still, State.srcGo_still,
    still_mk, still_ite, ite_self]

theorem cmdSrcBind_still : cmdSrcBind.Keeps Same := by
  simp only [CmdSpec.Keeps, Same, cmdSrcBind, State.bindSrc_still, State.groupFault_still, State.unbindSrc_still,
    still_ite, still_foldl, ite_self, implies_true]

theorem execSrcBind_still (mb : Nat) (c : Cmd) (s : State) : Keeps Still.whole s (execSrcBind mb c s) := by
  rw [execSrcBind, keeps_next]
  exact runCommand_keeps chains_same _ _ _ _ cmdSrcBind_still

theorem cmdSrcStatus_still : cmdSrcStatus.Keeps Same := by
  simp only [CmdSpec.Keeps, Same, cmdSrcStatus, State.updSource_still, implies_true]

theorem execSrcStatus_still (mb : Nat) (c : Cmd) (s : State) : Keeps Still.whole s (execSrcStatus mb c s) := by
  rw [execSrcStatus, keeps_next]
  exact runCommand_keeps chains_same _ _ _ _ cmdSrcStatus_still

theorem State.syncMode_still (s : State) (n : Nat) (toF : Bool) (align : Int) (hold : Nat) : (State.syncMode s n
    toF align hold).still = s.still := by
  simp only [State.syncMode]
  repeat' split
  all_goals simp only [State.ringSet_still, State.setRing_still, State.setSource_still, State.srcGo_still]

theorem cmdSrcSyncMode_still : cmdSrcSyncMode.Keeps Same := by
  simp only [CmdSpec.Keeps, Same, cmdSrcSyncMode, State.syncMode_still, implies_true]

theorem execSrcSyncMode_still (mb : Nat) (c : Cmd) (s : State) : Keeps Still.whole s (execSrcSyncMode mb c s) := by
  rw [execSrcSyncMode, keeps_next]
  exact runCommand_keeps chains_same _ _ _ _ cmdSrcSyncMode_still

/-! ## Packets -/

theorem cmdRxFlowSet_still : cmdRxFlowSet.Keeps Same := by
  simp only [CmdSpec.Keeps, Same, cmdRxFlowSet, State.setRxFlow_still, implies_true]

theorem execRxFlowSet_still (mb : Nat) (c : Cmd) (s : State) : Keeps Still.whole s (execRxFlowSet mb c s) := by
  rw [execRxFlowSet, keeps_next]
  exact runCommand_keeps chains_same _ _ _ _ cmdRxFlowSet_still

theorem State.clearFlow_still (s : State) (idx : Nat) : (State.clearFlow s idx).still = s.still := by
  simp only [State.clearFlow, State.noSignal_still, State.setRxFlow_still, State.updSource_still, still_ite, ite_self]

theorem cmdRxFlowClear_still : cmdRxFlowClear.Keeps Same := by
  simp only [CmdSpec.Keeps, Same, cmdRxFlowClear, State.clearFlow_still, implies_true]

theorem execRxFlowClear_still (mb : Nat) (c : Cmd) (s : State) : Keeps Still.whole s (execRxFlowClear mb c s) := by
  rw [execRxFlowClear, keeps_next]
  exact runCommand_keeps chains_same _ _ _ _ cmdRxFlowClear_still

theorem State.usePacket_still (s : State) (f : RxFlow) (key : Nat) : (State.usePacket s f key).still = s.still := by
  simp only [State.usePacket, State.updSource_still, still_mk, still_ite, ite_self]

theorem State.packetSource_still (s : State) (n : Nat) (f : RxFlow) : (State.packetSource s n f).still = s.still := by
  simp only [State.packetSource, State.setSource_still, State.takeFormat_still, still_ite, ite_self]

theorem State.placeVideo_still (s : State) (idx n : Nat) (pic : Nat × Nat × Nat) (p : RtpPkt) : (State.placeVideo
    s idx n pic p).still = s.still := by
  simp only [State.placeVideo, State.setSource_still, State.updRxFlow_still, still_ite, ite_self]

theorem State.placeAnc_still (s : State) (idx n : Nat) (p : RtpPkt) : (State.placeAnc s idx n p).still = s.still := by
  simp only [State.placeAnc, State.setSource_still, State.updRxFlow_still, still_ite, ite_self]

theorem State.placeAudio_still (s : State) (idx af : Nat) (p : RtpPkt) : (State.placeAudio s idx af p).still =
    s.still := by
  simp only [State.placeAudio, State.updRxFlow_still, still_mk, still_ite, ite_self]

theorem State.placeMedia_still (s : State) (n : Nat) (p : RtpPkt) : (State.placeMedia s n p).still = s.still := rfl
theorem State.mediaPacket_still (s : State) (idx : Nat) (p : RtpPkt) : (State.mediaPacket s idx p).still = s.still := by
  simp only [State.mediaPacket, State.packetSource_still, State.placeAnc_still, State.placeAudio_still,
    State.placeMedia_still, State.placeVideo_still, State.setRxFlow_still, State.usePacket_still, still_ite, ite_self]

theorem execLineClose_still (src line : Nat) (s : State) : Keeps Still.whole s (execLineClose src line s) := by
  simp only [execLineClose]
  repeat' split
  all_goals simp only [State.drawFree_still, State.setSource_still, State.sourceLine_still, keeps_next, Still.whole]

theorem execLegTimeout_still (src leg : Nat) (s : State) : Keeps Still.whole s (execLegTimeout src leg s) := by
  simp only [execLegTimeout]
  repeat' split
  all_goals simp only [State.noSignal_still, State.setSource_still, keeps_next, Still.whole]

/-! ## FrameStore -/

theorem State.updReads_still (s : State) (tail : Bool) (src td : Nat) (f : Readout → Readout) : (State.updReads s
    tail src td f).still = s.still := rfl

theorem State.updReadout_still (s : State) (src td : Nat) (f : Readout → Readout) : (State.updReadout s src td
    f).still = s.still := rfl

theorem State.leaveTail_still (s : State) (r : Readout) : (State.leaveTail s r).still = s.still := rfl
theorem State.passChoice_still (s : State) (src td choice : Nat) : (State.passChoice s src td choice).still =
    s.still := by
  simp only [State.passChoice, State.sendItem_still, still_mk, still_ite, ite_self]

theorem State.readoutTake_still (s : State) (src td : Nat) (tick : Nat) (second : Bool) (at' : Nat) :
    (State.readoutTake s src td tick second at').still = s.still := by
  simp only [State.readoutTake]
  repeat' split
  all_goals simp only [State.leaveTail_still, State.passChoice_still, State.updReadout_still]

theorem execReadoutFrameStart_still (src td : Nat) (s : State) : Keeps Still.whole s (execReadoutFrameStart src
    td s) := by
  simp only [execReadoutFrameStart]
  repeat' split
  all_goals simp only [State.readoutTake_still, keeps_next, Still.whole]

theorem execLossHoldExpiry_still (src td : Nat) (s : State) : Keeps Still.whole s (execLossHoldExpiry src td s) := by
  simp only [execLossHoldExpiry]
  repeat' split
  all_goals simp only [State.updReadout_still, keeps_next, Still.whole]

theorem execReadoutLineRelease_still (src td line : Nat) (s : State) : Keeps Still.whole s
    (execReadoutLineRelease src td line s) := by
  simp only [execReadoutLineRelease]
  repeat' split
  all_goals simp only [State.updReadout_still, State.updReads_still, still_mk, keeps_next, Still.whole]

theorem State.hbmError_still (s : State) (st : Nat) (err : HbmError) : (State.hbmError s st err).still = s.still := by
  simp only [State.hbmError]
  repeat' split
  all_goals simp only [State.mirrorSwitch_still, State.mqKeep_still, State.strike_still, State.updEngine_still, State.updReads_still, State.updStack_still]

theorem execHbmReadError_still (stack : Nat) (err : HbmError) (s : State) : Keeps Still.whole s (execHbmReadError
    stack err s) := by
  simp only [execHbmReadError, State.hbmError_still, implies_true,
    keeps_next, Still.whole, keeps_ite, and_self]

theorem State.copyPackets_still (s : State) (stack : Nat) : (State.copyPackets s stack).still = s.still := rfl
theorem execStackReturnComplete_fixed (stack : Nat) (s : State) : Keeps Still.fixed s (execStackReturnComplete
    stack s) := by
  simp only [execStackReturnComplete, State.copyPackets_still, State.copyTo_fixed, State.fall_still,
    State.updStack_still, implies_true, keeps_next, keeps_ite, and_self]

theorem execHbmScrub_still (stack : Nat) (err : Option HbmError) (s : State) : Keeps Still.whole s (execHbmScrub
    stack err s) := by
  simp only [execHbmScrub]
  repeat' split
  all_goals simp only [State.hbmError_still, State.updStack_still, keeps_next, Still.whole]

/-! ## Takes -/

theorem cmdXptTake_still : cmdXptTake.Keeps Same := by
  simp only [CmdSpec.Keeps, Same, cmdXptTake, implies_true]

theorem execXptTake_still (mb : Nat) (c : Cmd) (s : State) : Keeps Still.whole s (execXptTake mb c s) := by
  rw [execXptTake, keeps_next]
  exact runCommand_keeps chains_same _ _ _ _ cmdXptTake_still

theorem cmdXptSalvoLoad_still : cmdXptSalvoLoad.Keeps Same := by
  simp only [CmdSpec.Keeps, Same, cmdXptSalvoLoad, State.setSalvo_still, implies_true]

theorem execXptSalvoLoad_still (mb : Nat) (c : Cmd) (s : State) : Keeps Still.whole s (execXptSalvoLoad mb c s) := by
  rw [execXptSalvoLoad, keeps_next]
  exact runCommand_keeps chains_same _ _ _ _ cmdXptSalvoLoad_still

theorem cmdXptSalvoFire_still : cmdXptSalvoFire.Keeps Same := by
  simp only [CmdSpec.Keeps, Same, cmdXptSalvoFire, implies_true]

theorem execXptSalvoFire_still (mb : Nat) (c : Cmd) (s : State) : Keeps Still.whole s (execXptSalvoFire mb c s) := by
  rw [execXptSalvoFire, keeps_next]
  exact runCommand_keeps chains_same _ _ _ _ cmdXptSalvoFire_still

theorem cmdXptProtect_still : cmdXptProtect.Keeps Same := by
  simp only [CmdSpec.Keeps, Same, cmdXptProtect, implies_true]

theorem execXptProtect_still (mb : Nat) (c : Cmd) (s : State) : Keeps Still.whole s (execXptProtect mb c s) := by
  rw [execXptProtect, keeps_next]
  exact runCommand_keeps chains_same _ _ _ _ cmdXptProtect_still

theorem cmdXptLock_still : cmdXptLock.Keeps Same := by
  simp only [CmdSpec.Keeps, Same, cmdXptLock, implies_true]

theorem execXptLock_still (mb : Nat) (c : Cmd) (s : State) : Keeps Still.whole s (execXptLock mb c s) := by
  rw [execXptLock, keeps_next]
  exact runCommand_keeps chains_same _ _ _ _ cmdXptLock_still

theorem cmdXptQuery_still : cmdXptQuery.Keeps Same := by
  simp only [CmdSpec.Keeps, Same, cmdXptQuery, State.updOut_still, implies_true]

theorem execXptQuery_still (mb : Nat) (c : Cmd) (s : State) : Keeps Still.whole s (execXptQuery mb c s) := by
  rw [execXptQuery, keeps_next]
  exact runCommand_keeps chains_same _ _ _ _ cmdXptQuery_still

/-! ## Planes -/

theorem State.planeFaults_still (s : State) : (State.planeFaults s).still = s.still := by
  simp only [State.planeFaults, State.level_still]

theorem State.planeGo_still (s : State) (b : Bool) (goal : PlaneState) : (State.planeGo s b goal).still = s.still := by
  simp only [State.planeGo, State.planeFaults_still, State.setPlane_still]

theorem State.trustAll_still (s : State) (b : Bool) : (State.trustAll s b).still = s.still := by
  simp only [State.trustAll]
  rw [still_foldl]
  intros
  simp only [State.updOut_still]

theorem State.planeSettle_still (s : State) (b : Bool) (action : Nat) (r : Rep) : (State.planeSettle s b action
    r).still = s.still := rfl

theorem State.planeOffline_still (s : State) (x : Ctx) (b : Bool) : (State.planeOffline s x b).still = s.still := by
  simp only [State.planeOffline]
  repeat' split
  all_goals simp only [State.planeGo_still, State.planeSettle_still, State.settle_still, State.trustAll_still,
    State.updFlight_still]

theorem State.planeControl_still (s : State) (x : Ctx) : (State.planeControl s x).still = s.still := by
  unfold State.planeControl
  dsimp only
  split
  · exact State.planeOffline_still ..
  · split
    · rw [State.planeGo_still]
      exact State.updFlight_still ..
    · rw [State.settle_still]
      exact State.trustAll_still ..

theorem cmdPlaneControl_still : cmdPlaneControl.Keeps Same := by
  simp only [CmdSpec.Keeps, Same, cmdPlaneControl, State.planeControl_still, implies_true]

theorem execPlaneControl_still (mb : Nat) (c : Cmd) (s : State) : Keeps Still.whole s (execPlaneControl mb c s) := by
  rw [execPlaneControl, keeps_next]
  exact runCommand_keeps chains_same _ _ _ _ cmdPlaneControl_still

theorem execPlaneOfflineComplete_still (plane : Nat) (s : State) : Keeps Still.whole s (execPlaneOfflineComplete
    plane s) := by
  simp only [execPlaneOfflineComplete, State.planeGo_still, State.planeSettle_still, implies_true, keeps_next,
    Still.whole, keeps_ite, and_self]

theorem execPlaneLoaded_still (plane : Nat) (s : State) : Keeps Still.whole s (execPlaneLoaded plane s) := by
  simp only [execPlaneLoaded, keeps_ite, keeps_next, Still.whole, implies_true, and_true]
  intro _
  rw [still_foldl, State.planeGo_still]
  intros
  rfl

theorem execPlaneShadowPass_still (plane : Nat) (s : State) : Keeps Still.whole s (execPlaneShadowPass plane s) := by
  simp only [execPlaneShadowPass, State.planeGo_still, State.planeSettle_still, implies_true, keeps_next, Still.whole,
    keeps_ite, and_self]

theorem cmdPlaneStatus_still : cmdPlaneStatus.Keeps Same := by
  simp only [CmdSpec.Keeps, Same, cmdPlaneStatus, still_mk, implies_true]

theorem execPlaneStatus_still (mb : Nat) (c : Cmd) (s : State) : Keeps Still.whole s (execPlaneStatus mb c s) := by
  rw [execPlaneStatus, keeps_next]
  exact runCommand_keeps chains_same _ _ _ _ cmdPlaneStatus_still

/-! ## Egress -/

theorem State.destFaults_still (s : State) (dst : Nat) : (State.destFaults s dst).still = s.still := by
  simp only [State.destFaults, State.level_still]

theorem State.pairLegs_still (s : State) : (State.pairLegs s).still = s.still := by
  simp only [State.pairLegs, State.destFaults_still, still_foldl, implies_true]

theorem State.destGo_still (s : State) (dst goal : Nat) : (State.destGo s dst goal).still = s.still := by
  simp only [State.destGo, State.destFaults_still, State.stateEvent_still, State.updDest_still, still_ite, ite_self]

theorem State.destJudge_still (s : State) (dst : Nat) : (State.destJudge s dst).still = s.still := by
  simp only [State.destJudge, State.destGo_still]

theorem State.flowPicture_still (s : State) (dst : Nat) : (State.flowPicture s dst).still = s.still := by
  simp only [State.flowPicture]
  repeat' split
  all_goals simp only [State.updDest_still]

theorem State.unbindDst_still (s : State) (dst : Nat) : (State.unbindDst s dst).still = s.still := by
  simp only [State.unbindDst, State.destGo_still, State.setDest_still, still_mk, still_ite, ite_self]

theorem cmdDstBind_still : cmdDstBind.Keeps Same := by
  simp only [CmdSpec.Keeps, Same, cmdDstBind, State.destJudge_still, State.flowPicture_still, State.setDest_still,
    State.unbindDst_still, still_ite, ite_self, implies_true]

theorem execDstBind_still (mb : Nat) (c : Cmd) (s : State) : Keeps Still.whole s (execDstBind mb c s) := by
  rw [execDstBind, keeps_next]
  exact runCommand_keeps chains_same _ _ _ _ cmdDstBind_still

theorem cmdTxFlowSet_still : cmdTxFlowSet.Keeps Same := by
  simp only [CmdSpec.Keeps, Same, cmdTxFlowSet, State.destFaults_still, State.flowPicture_still,
    State.updTxFlow_still, still_ite, ite_self, implies_true]

theorem execTxFlowSet_still (mb : Nat) (c : Cmd) (s : State) : Keeps Still.whole s (execTxFlowSet mb c s) := by
  rw [execTxFlowSet, keeps_next]
  exact runCommand_keeps chains_same _ _ _ _ cmdTxFlowSet_still

theorem cmdDstStatus_still : cmdDstStatus.Keeps Same := by
  simp only [CmdSpec.Keeps, Same, cmdDstStatus, State.updDest_still, implies_true]

theorem execDstStatus_still (mb : Nat) (c : Cmd) (s : State) : Keeps Still.whole s (execDstStatus mb c s) := by
  rw [execDstStatus, keeps_next]
  exact runCommand_keeps chains_same _ _ _ _ cmdDstStatus_still

theorem cmdDstMitreSet_still : cmdDstMitreSet.Keeps Same := by
  simp only [CmdSpec.Keeps, Same, cmdDstMitreSet, State.updDest_still, implies_true]

theorem execDstMitreSet_still (mb : Nat) (c : Cmd) (s : State) : Keeps Still.whole s (execDstMitreSet mb c s) := by
  rw [execDstMitreSet, keeps_next]
  exact runCommand_keeps chains_same _ _ _ _ cmdDstMitreSet_still

/-! ## Framing -/

theorem State.laneOut_still (s : State) (dst : Nat) : (State.laneOut s dst).still = s.still := by
  unfold State.laneOut
  rw [still_foldl]
  intros
  rw [State.updLane_still]

/-! ## Outputs -/

theorem State.latchFlows_still (s : State) (dst : Nat) : (State.latchFlows s dst).still = s.still := by
  simp only [State.latchFlows]
  rw [still_foldl]
  intros
  simp only [State.updTxFlow_still]

theorem State.witClose_still (s : State) (dst : Nat) (video : Bool) : (State.witClose s dst video).still = s.still := rfl
theorem State.witLine_still (s : State) (dst : Nat) (l : FabLine) (again : Bool) : (State.witLine s dst l
    again).still = s.still := by
  simp only [State.witLine, State.updDest_still, State.witClose_still, still_ite, ite_self]

theorem execDstFrameStart_still (dst : Nat) (s : State) : Keeps Still.whole s (execDstFrameStart dst s) := by
  simp only [execDstFrameStart]
  repeat' split
  all_goals simp only [State.destJudge_still, State.latchFlows_still, State.setDest_still, State.updDest_still,
    State.witClose_still, keeps_next, Still.whole]

theorem State.entryFault_still (s : State) (dst : Nat) (b : Bool) (f : CopyFault) : (State.entryFault s dst b
    f).still = s.still := by
  simp only [State.entryFault]
  repeat' split
  all_goals simp only [State.strike_still, State.updOut_still]

theorem State.countBad_still (s : State) (b : Bool) : (State.countBad s b).still = s.still := by
  simp only [State.countBad, State.planeGo_still, State.planeSettle_still, State.setPlane_still, still_ite, ite_self]

theorem State.slotLine_still (s : State) (dst at' : Nat) (l : FabLine) (good : Bool) : (State.slotLine s dst at'
    l good).still = s.still := by
  simp only [State.slotLine, State.setDest_still, State.strike_still, State.updOut_still, still_mk, still_ite,
    ite_self]

theorem State.reportCopy_still (s : State) (dst : Nat) (b slotGood : Bool) : (State.reportCopy s dst b
    slotGood).still = s.still := by
  simp only [State.reportCopy, State.countBad_still, State.strike_still, still_ite, ite_self]

theorem State.readEntries_still (s : State) (dst : Nat) (a b : CopyFault) : (State.readEntries s dst a b).still =
    s.still := by
  simp only [State.readEntries, State.entryFault_still, still_ite, ite_self]

theorem State.reportCopies_still (t s : State) (dst : Nat) (a b : CopyFault) (good : Bool) : (State.reportCopies
    t s dst a b good).still = t.still := by
  simp only [State.reportCopies, State.reportCopy_still, still_ite, ite_self]

theorem State.tapLine_still (t s : State) (dst : Nat) (a b : CopyFault) (x : ReplaySlot) : (State.tapLine t s dst
    a b x).still = t.still := by
  simp only [State.tapLine]
  repeat' split
  all_goals simp only [State.updEngine_still]

theorem State.departLine_still (t s : State) (dst : Nat) (x : ReplaySlot) : (State.departLine t s dst x).still =
    t.still := by
  simp only [State.departLine]
  repeat' split
  all_goals simp only [State.sendFrame_still]

theorem State.portReceive_still (s : State) (dst : Nat) (a b : CopyFault) : (State.portReceive s dst a b).still =
    s.still := by
  simp only [State.portReceive, State.departLine_still, State.drawFree_still, State.readEntries_still,
    State.reportCopies_still, State.tapLine_still, still_ite, ite_self]

theorem execEgressLineReceive_still (dst : Nat) (a b : CopyFault) (s : State) : Keeps Still.whole s
    (execEgressLineReceive dst a b s) := by
  simp only [execEgressLineReceive]
  repeat' split
  all_goals simp only [State.drawFree_still, State.portReceive_still, State.readEntries_still, State.reportCopies_still, State.slotLine_still, keeps_next, Still.whole]

theorem State.sendOn_still (s : State) (dst : Nat) (l : FabLine) (sent late : Bool) (i : Nat) : (State.sendOn s dst l
    sent late i).still = s.still := by
  simp only [State.sendOn, State.macsecTake_still, State.setTxFlow_still, still_ite, ite_self]

theorem State.tapLoops_still (s : State) (dst : Nat) (l : FabLine) : (State.tapLoops s dst l).still = s.still := rfl
theorem State.emit_still (s : State) (dst : Nat) (l : FabLine) (again : Bool) : (State.emit s dst l again).still
    = s.still := by
  simp only [State.emit, State.laneOut_still, State.tapLoops_still, State.updDest_still, State.witLine_still,
    still_ite, ite_self]

theorem State.sendLine_still (s : State) (dst : Nat) (l : FabLine) (again : Bool) (fit : Nat) : (State.sendLine s
    dst l again fit).still = s.still := by
  simp only [State.sendLine, State.emit_still, State.sendOn_still, State.setDest_still, still_ite, still_foldl, ite_self, implies_true]

theorem execEgressLineSend_still (dst ancFit : Nat) (s : State) : Keeps Still.whole s (execEgressLineSend dst
    ancFit s) := by
  simp only [execEgressLineSend]
  repeat' split
  all_goals simp only [State.sendLine_still, keeps_next, Still.whole]

theorem State.audioLeg_still (s : State) (k : Nat) (p : SentPkt) (i : Nat) : (State.audioLeg s k p i).still =
    s.still := by
  simp only [State.audioLeg, State.macsecTake_still, State.setTxFlow_still, still_ite, ite_self]

theorem execAudioPacketSend_still (tf : Nat) (s : State) : Keeps Still.whole s (execAudioPacketSend tf s) := by
  simp only [execAudioPacketSend, State.audioLeg_still, still_ite, ite_self, implies_true,
    keeps_next, Still.whole, keeps_ite, and_self]

theorem execFrameDigest_still (dst : Nat) (s : State) : Keeps Still.whole s (execFrameDigest dst s) := by
  simp only [execFrameDigest]
  repeat' split
  all_goals simp only [State.giveRecord_still, State.setDest_still, keeps_next, Still.whole]

/-! ## Marquetry -/

theorem cmdMqOutput_still : cmdMqOutput.Keeps Same := by
  simp only [CmdSpec.Keeps, Same, cmdMqOutput, State.updEngine_still, implies_true]

theorem execMqOutput_still (mb : Nat) (c : Cmd) (s : State) : Keeps Still.whole s (execMqOutput mb c s) := by
  rw [execMqOutput, keeps_next]
  exact runCommand_keeps chains_same _ _ _ _ cmdMqOutput_still

theorem cmdMqLayout_still : cmdMqLayout.Keeps Same := by
  simp only [CmdSpec.Keeps, Same, cmdMqLayout, State.updEngine_still, implies_true]

theorem execMqLayout_still (mb : Nat) (c : Cmd) (s : State) : Keeps Still.whole s (execMqLayout mb c s) := by
  rw [execMqLayout, keeps_next]
  exact runCommand_keeps chains_same _ _ _ _ cmdMqLayout_still

theorem cmdMqVeneer_still : cmdMqVeneer.Keeps Same := by
  simp only [CmdSpec.Keeps, Same, cmdMqVeneer, implies_true]

theorem execMqVeneer_still (mb : Nat) (c : Cmd) (s : State) : Keeps Still.whole s (execMqVeneer mb c s) := by
  rw [execMqVeneer, keeps_next]
  exact runCommand_keeps chains_same _ _ _ _ cmdMqVeneer_still

theorem cmdMqFenceGroup_still : cmdMqFenceGroup.Keeps Same := by
  simp only [CmdSpec.Keeps, Same, cmdMqFenceGroup, implies_true]

theorem execMqFenceGroup_still (mb : Nat) (c : Cmd) (s : State) : Keeps Still.whole s (execMqFenceGroup mb c s) := by
  rw [execMqFenceGroup, keeps_next]
  exact runCommand_keeps chains_same _ _ _ _ cmdMqFenceGroup_still

theorem State.flipVeneer_still (s : State) (m : Nat × Nat × Nat) : (State.flipVeneer s m).still = s.still := rfl
theorem State.beginFlip_still (s : State) (id : Nat) (veneers : List Nat) : (State.beginFlip s id veneers).still
    = s.still := by
  simp only [State.beginFlip]
  repeat' split
  all_goals simp only [State.settleWhere_still, State.updFlight_still]

theorem State.testFlip_still (s : State) (n : Nat) (f : Flight) : (State.testFlip s n f).still = s.still := by
  simp only [State.testFlip]
  split
  · simp only [State.effectDone_still, State.updFlight_still]
    rw [still_foldl]
    intros
    simp only [State.flipVeneer_still]
  · rfl

theorem State.testFlips_still (s : State) (d n : Nat) : (State.testFlips s d n).still = s.still := by
  simp only [State.testFlips, State.testFlip_still, still_foldl, implies_true]

theorem execVeneerWaitExpiry_still (id : Nat) (s : State) : Keeps Still.whole s (execVeneerWaitExpiry id s) := by
  simp only [execVeneerWaitExpiry]
  repeat' split
  all_goals simp only [State.settle_still, keeps_next, Still.whole]

theorem State.followMonitor_still (s : State) (e : Nat) : (State.followMonitor s e).still = s.still := by
  simp only [State.followMonitor]
  repeat' split
  all_goals simp only [State.noSignal_still, State.takeFormat_still]

theorem State.applyOutput_still (s : State) (e : Nat) (v : List Nat) : (State.applyOutput s e v).still = s.still := by
  simp only [State.applyOutput]
  split
  · exact State.setEngine_still ..
  · exact (still_foldl _ (fun _ _ => State.updVeneer_still ..) _ _).trans (State.setEngine_still ..)

theorem State.takeOutput_still (s : State) (e at' : Nat) : (State.takeOutput s e at').still = s.still := by
  simp only [State.takeOutput]
  repeat' split
  all_goals simp only [State.applyOutput_still, State.updEngine_still, still_foldl, implies_true]

theorem State.takeLayout_still (s : State) (e at' : Nat) : (State.takeLayout s e at').still = s.still := rfl
theorem execMqFrameStart_still (engine : Nat) (s : State) : Keeps Still.whole s (execMqFrameStart engine s) := by
  simp only [execMqFrameStart, State.followMonitor_still, State.mqKeep_still, State.takeLayout_still,
    State.takeOutput_still, State.updEngine_still, still_ite, ite_self, implies_true,
    keeps_next, Still.whole, keeps_ite, and_self]

theorem State.stageTaps_still (s : State) (x : Ctx) (e : Nat) (srcs : List Nat) : (State.stageTaps s x e
    srcs).still = s.still := by
  simp only [State.stageTaps, State.reserveFor_still, still_mk]

theorem State.startCompare_still (s : State) (x : Ctx) : (State.startCompare s x).still = s.still := by
  simp only [State.startCompare, State.stageTaps_still, State.updEngine_still]

theorem cmdMqCompare_still : cmdMqCompare.Keeps Same := by
  simp only [CmdSpec.Keeps, Same, cmdMqCompare, State.stageTaps_still, State.startCompare_still,
    State.updEngine_still, still_ite, ite_self, implies_true]

theorem execMqCompare_still (mb : Nat) (c : Cmd) (s : State) : Keeps Still.whole s (execMqCompare mb c s) := by
  rw [execMqCompare, keeps_next]
  exact runCommand_keeps chains_same _ _ _ _ cmdMqCompare_still

theorem State.reportFill_still (s : State) (engine n : Nat) : (State.reportFill s engine n).still = s.still := by
  simp only [State.reportFill, State.updChan_still, still_ite, still_foldl, ite_self, implies_true]

theorem execMqCompareReport_fixed (engine low : Nat) (second : Bool) (s : State) :
    Keeps Still.fixed s (execMqCompareReport engine low second s) := by
  simp only [execMqCompareReport]
  repeat' split
  all_goals simp only [State.hbmWrite_fixed, State.setEngine_still, State.reportFill_still, State.strike_still, keeps_next]

theorem cmdMqStatus_still : cmdMqStatus.Keeps Same := by
  simp only [CmdSpec.Keeps, Same, cmdMqStatus, implies_true]

theorem execMqStatus_still (mb : Nat) (c : Cmd) (s : State) : Keeps Still.whole s (execMqStatus mb c s) := by
  rw [execMqStatus, keeps_next]
  exact runCommand_keeps chains_same _ _ _ _ cmdMqStatus_still

/-! ## Gains -/

theorem State.setGain_still (s : State) (i : Nat) (g : Gain) : (State.setGain s i g).still = s.still := rfl
theorem State.setRamp_still (s : State) (i : Nat) (r : Option Ramp) : (State.setRamp s i r).still = s.still := rfl
theorem State.takeGain_still (s : State) (i code sess tick : Nat) : (State.takeGain s i code sess tick).still =
    s.still := by
  simp only [State.takeGain, State.setGain_still, State.setRamp_still, still_ite, ite_self]

theorem State.realignAudio_still (s : State) : (State.realignAudio s).still = s.still := by
  simp only [State.realignAudio]
  split
  · split
    · exact still_mk ..
    · rfl
  · rfl

/-! ## Audio -/

theorem cmdAudGainSet_still : cmdAudGainSet.Keeps Same := by
  simp only [CmdSpec.Keeps, Same, cmdAudGainSet, implies_true]

theorem execAudGainSet_still (mb : Nat) (c : Cmd) (s : State) : Keeps Still.whole s (execAudGainSet mb c s) := by
  rw [execAudGainSet, keeps_next]
  exact runCommand_keeps chains_same _ _ _ _ cmdAudGainSet_still

theorem cmdAudGainBlock_still : cmdAudGainBlock.Keeps Same := by
  simp only [CmdSpec.Keeps, Same, cmdAudGainBlock, implies_true]

theorem execAudGainBlock_still (mb : Nat) (c : Cmd) (s : State) : Keeps Still.whole s (execAudGainBlock mb c s) := by
  rw [execAudGainBlock, keeps_next]
  exact runCommand_keeps chains_same _ _ _ _ cmdAudGainBlock_still

theorem cmdAudMapIn_still : cmdAudMapIn.Keeps Same := by
  simp only [CmdSpec.Keeps, Same, cmdAudMapIn, implies_true]

theorem execAudMapIn_still (mb : Nat) (c : Cmd) (s : State) : Keeps Still.whole s (execAudMapIn mb c s) := by
  rw [execAudMapIn, keeps_next]
  exact runCommand_keeps chains_same _ _ _ _ cmdAudMapIn_still

theorem cmdAudMapOut_still : cmdAudMapOut.Keeps Same := by
  simp only [CmdSpec.Keeps, Same, cmdAudMapOut, implies_true]

theorem execAudMapOut_still (mb : Nat) (c : Cmd) (s : State) : Keeps Still.whole s (execAudMapOut mb c s) := by
  rw [execAudMapOut, keeps_next]
  exact runCommand_keeps chains_same _ _ _ _ cmdAudMapOut_still

theorem cmdAudRampSet_still : cmdAudRampSet.Keeps Same := by
  simp only [CmdSpec.Keeps, Same, cmdAudRampSet, State.realignAudio_still, still_mk, still_ite, ite_self, implies_true]

theorem execAudRampSet_still (mb : Nat) (c : Cmd) (s : State) : Keeps Still.whole s (execAudRampSet mb c s) := by
  rw [execAudRampSet, keeps_next]
  exact runCommand_keeps chains_same _ _ _ _ cmdAudRampSet_still

theorem cmdAudFollow_still : cmdAudFollow.Keeps Same := by
  simp only [CmdSpec.Keeps, Same, cmdAudFollow, implies_true]

theorem execAudFollow_still (mb : Nat) (c : Cmd) (s : State) : Keeps Still.whole s (execAudFollow mb c s) := by
  rw [execAudFollow, keeps_next]
  exact runCommand_keeps chains_same _ _ _ _ cmdAudFollow_still

theorem cmdAudStatus_fixed : cmdAudStatus.Keeps SameFixed := by
  simp only [CmdSpec.Keeps, SameFixed, cmdAudStatus]
  intros
  repeat' split
  all_goals simp only [State.answer_fixed, fixed_mk]

theorem execAudStatus_fixed (mb : Nat) (c : Cmd) (s : State) : Keeps Still.fixed s (execAudStatus mb c s) := by
  rw [execAudStatus, keeps_next]
  exact runCommand_keeps chains_sameFixed _ _ _ _ cmdAudStatus_fixed

theorem State.audioCut_still (s : State) (w : Staged) (es : List (Nat × Entry)) : (State.audioCut s w es).still =
    s.still := by
  simp only [State.audioCut, State.failFlight_still, still_mk, still_ite, ite_self]

theorem State.applyAudio_still (s : State) (w : AuWork) (e : Entry) : (State.applyAudio s w e).still = s.still := by
  simp only [State.applyAudio]
  repeat' split
  all_goals simp only [State.setMaps_still, State.takeGain_still]

theorem State.gainBatch_still (s : State) (w : AuWork) (done : List Entry) : (State.gainBatch s w done).still =
    s.still := by
  simp only [State.gainBatch, State.giveRecord_still]

theorem State.takeUp_still (s : State) (b : Nat) (ws : List AuWork) (w : AuWork) : (State.takeUp s b ws w).still
    = s.still := by
  simp only [State.takeUp, State.applyAudio_still, State.effectDone_still, State.entriesLost_still,
    State.gainBatch_still, State.updFlight_still, still_ite, still_foldl, ite_self, implies_true]

theorem State.swapBanks_still (s : State) (b : Nat) : (State.swapBanks s b).still = s.still := by
  simp only [State.swapBanks, State.strike_still, State.takeUp_still, still_mk, still_ite, still_foldl, ite_self,
    implies_true]

theorem State.takeEmbedded_still (s : State) : (State.takeEmbedded s).still = s.still := rfl
theorem State.ageSamples_still (s : State) : (State.ageSamples s).still = s.still := rfl
theorem State.mixOutput_still (s : State) (inp : AudioIn) (t : State) (ao : Nat) : (State.mixOutput s inp t
    ao).still = t.still := by
  simp only [State.mixOutput, still_mk]

theorem State.runRamps_still (s : State) (b : Nat) : (State.runRamps s b).still = s.still := rfl
theorem State.verify_still (s : State) (inp : AudioIn) (t : State) : (State.verify s inp t).still = t.still := by
  simp only [State.verify]
  repeat' split
  all_goals simp only [State.strike_still, still_mk]

theorem State.countSlips_still (s : State) (af n : Nat) : (State.countSlips s af n).still = s.still := rfl
theorem State.gather_still (s : State) (b af : Nat) : (State.gather s b af).still = s.still := by
  simp only [State.gather]
  repeat' split
  all_goals simp only [State.countSlips_still, still_mk]

theorem State.gatherAll_still (s : State) (b : Nat) : (State.gatherAll s b).still = s.still := by
  simp only [State.gatherAll, State.gather_still, still_mk, still_foldl, implies_true]

theorem State.rateOf_still (s : State) (p : Nat × Int) : (State.rateOf s p).still = s.still := by
  simp only [State.rateOf, State.updSource_still, still_ite, ite_self]

theorem State.sendExports_still (s : State) (ended : State) : (State.sendExports s ended).still = s.still := by
  simp only [State.sendExports, State.sendFrame_still, still_mk, still_ite, still_foldl, ite_self, implies_true]

theorem execAudioBlockBoundary_still (inp : AudioIn) (s : State) : Keeps Still.whole s (execAudioBlockBoundary
    inp s) := by
  simp only [execAudioBlockBoundary, State.ageSamples_still, State.gatherAll_still, State.mixOutput_still,
    State.rateOf_still, State.runRamps_still, State.sendExports_still, State.swapBanks_still,
    State.takeEmbedded_still, State.verify_still, still_mk, still_foldl, implies_true,
    keeps_next, Still.whole, keeps_ite, and_self]

theorem execRampEnd_still (ai ao : Nat) (s : State) : Keeps Still.whole s (execRampEnd ai ao s) := by
  simp only [execRampEnd]
  repeat' split
  all_goals simp only [State.setRamp_still, keeps_next, Still.whole]

/-! ## Dovetail -/

theorem State.linkGo_still (s : State) (k : Nat) (goal : LinkState) : (State.linkGo s k goal).still = s.still := by
  simp only [State.linkGo, State.stateEvent_still, State.updLink_still, still_ite, ite_self]

theorem State.linkSettle_still (s : State) (k : Nat) (r : Rep) : (State.linkSettle s k r).still = s.still := rfl
theorem State.linkLost_still (s : State) (k : Nat) : (State.linkLost s k).still = s.still := by
  simp only [State.linkLost, State.destJudge_still, State.disqualify_still, State.failRemote_still,
    State.forgetEvent_still, State.level_still, State.unpaired_still, State.updLink_still, still_mk, still_ite,
    still_foldl, ite_self, implies_true]

theorem State.linkFall_still (s : State) (k : Nat) (goal : LinkState) : (State.linkFall s k goal).still = s.still := by
  simp only [State.linkFall, State.linkGo_still, State.linkLost_still, still_ite, ite_self]

theorem State.linkFail_still (s : State) (k reason : Nat) : (State.linkFail s k reason).still = s.still := by
  simp only [State.linkFail, State.linkFall_still, State.linkSettle_still, State.updLink_still]

theorem State.linkUp_still (s : State) (k : Nat) (goal : LinkState) : (State.linkUp s k goal).still = s.still := by
  simp only [State.linkUp, State.fall_still, State.forwardAll_still, State.handKey_still, State.linkGo_still, State.linkSettle_still,
    State.setLinkKey_still, State.updLink_still, still_ite, ite_self]

theorem State.drawShare_still (s : State) (k : Nat) : (State.drawShare s k).still = s.still := by
  simp only [State.drawShare, State.updLink_still, still_mk, still_ite, ite_self]

theorem State.linkBegin_still (s : State) (k : Nat) : (State.linkBegin s k).still = s.still := by
  simp only [State.linkBegin, State.drawShare_still, State.linkFail_still, State.linkFall_still,
    State.untrain_still, State.updLink_still, still_ite, ite_self]

theorem cmdDtLinkUp_still : cmdDtLinkUp.Keeps Same := by
  simp only [CmdSpec.Keeps, Same, cmdDtLinkUp, State.linkBegin_still, State.linkFall_still,
    State.settleWhere_still, State.settle_still, State.updFlight_still, State.updLink_still, still_ite,
    ite_self, implies_true]

theorem execDtLinkUp_still (mb : Nat) (c : Cmd) (s : State) : Keeps Still.whole s (execDtLinkUp mb c s) := by
  rw [execDtLinkUp, keeps_next]
  exact runCommand_keeps chains_same _ _ _ _ cmdDtLinkUp_still

theorem execDtNegotiationRecord_still (link : Nat) (rec : NegRecord) (s : State) : Keeps Still.whole s
    (execDtNegotiationRecord link rec s) := by
  simp only [execDtNegotiationRecord]
  repeat' split
  all_goals simp only [State.linkFail_still, State.linkGo_still, State.updLink_still, keeps_next, Still.whole]

theorem execDtTrainingResult_still (link : Nat) (lanes : List Nat) (s : State) : Keeps Still.whole s
    (execDtTrainingResult link lanes s) := by
  simp only [execDtTrainingResult, State.adapt_still, State.linkGo_still, State.linkUp_still, State.updLink_still, implies_true,
    keeps_next, Still.whole, keeps_ite, and_self]

theorem execDtStepTimeout_still (link : Nat) (s : State) : Keeps Still.whole s (execDtStepTimeout link s) := by
  simp only [execDtStepTimeout]
  repeat' split
  all_goals simp only [State.linkFail_still, State.linkGo_still, State.updLink_still, keeps_next, Still.whole]

theorem State.askAgain_still (s : State) (k : Nat) (f : LinkFrame) : (State.askAgain s k f).still = s.still := by
  simp only [State.askAgain, State.sendFrame_still, State.updLink_still, still_ite, ite_self]

theorem execDtLinkFrame_still (link : Nat) (f : LinkFrame) (s : State) : Keeps Still.whole s (execDtLinkFrame
    link f s) := by
  simp only [execDtLinkFrame, State.askAgain_still, State.dropUnder_still, State.resendFrames_still,
    State.setLink_still, implies_true, keeps_next, Still.whole,
    keeps_ite, and_self]

theorem execDtAuthFailLimit_still (link : Nat) (s : State) : Keeps Still.whole s (execDtAuthFailLimit link s) := by
  simp only [execDtAuthFailLimit, State.linkFall_still, implies_true,
    keeps_next, Still.whole, keeps_ite, and_self]

theorem execDtKeyRenewal_still (link : Nat) (receive : Bool) (s : State) : Keeps Still.whole s (execDtKeyRenewal
    link receive s) := by
  simp only [execDtKeyRenewal, State.linkBegin_still, State.setLinkKey_still, State.setLink_still, implies_true,
    keeps_next, Still.whole, keeps_ite, and_self]

theorem execDtLaneFailNoSpare_still (link lane : Nat) (s : State) : Keeps Still.whole s (execDtLaneFailNoSpare
    link lane s) := by
  simp only [execDtLaneFailNoSpare, State.linkBegin_still, State.updLink_still, implies_true, keeps_next, Still.whole,
    keeps_ite, and_self]

theorem execDtLinkDown_still (link : Nat) (s : State) : Keeps Still.whole s (execDtLinkDown link s) := by
  simp only [execDtLinkDown, State.linkFall_still, implies_true,
    keeps_next, Still.whole, keeps_ite, and_self]

theorem cmdDtStatus_still : cmdDtStatus.Keeps Same := by
  simp only [CmdSpec.Keeps, Same, cmdDtStatus, State.updLink_still, implies_true]

theorem execDtStatus_still (mb : Nat) (c : Cmd) (s : State) : Keeps Still.whole s (execDtStatus mb c s) := by
  rw [execDtStatus, keeps_next]
  exact runCommand_keeps chains_same _ _ _ _ cmdDtStatus_still

theorem cmdDtGroup_still : cmdDtGroup.Keeps Same := by
  simp only [CmdSpec.Keeps, Same, cmdDtGroup, still_mk, implies_true]

theorem execDtGroup_still (mb : Nat) (c : Cmd) (s : State) : Keeps Still.whole s (execDtGroup mb c s) := by
  rw [execDtGroup, keeps_next]
  exact runCommand_keeps chains_same _ _ _ _ cmdDtGroup_still

theorem execDtGroupTickStamp_still (link cycles : Nat) (s : State) : Keeps Still.whole s (execDtGroupTickStamp
    link cycles s) := by
  simp only [execDtGroupTickStamp, State.fall_still, State.seeEvent_still, implies_true, keeps_next, Still.whole, keeps_ite, and_self]

theorem State.tellLinks_still (s : State) (d n inst : Nat) : (State.tellLinks s d n inst).still = s.still := by
  simp only [State.tellLinks, State.sendFrame_still, State.updLink_still, still_ite, still_foldl,
    ite_self, implies_true]

theorem State.trimLanes_still (s : State) (d : Nat) (q : Nat × Int) : (State.trimLanes s d q).still = s.still := by
  simp only [State.trimLanes]
  split
  · split
    · exact still_foldl _ (fun _ _ => State.updLane_still ..) _ _
    · rfl
  · rfl

theorem State.pairExchange_still (s : State) (d : Nat) (ok : Bool) (departs : List (Nat × Int)) :
    (State.pairExchange s d ok departs).still = s.still := by
  simp only [State.pairExchange, State.pairLegs_still, State.trimLanes_still, still_mk, still_foldl,
    implies_true]

theorem execDtAlignExchange_still (link d : Nat) (rec : AlignRecord) (s : State) : Keeps Still.whole s
    (execDtAlignExchange link d rec s) := by
  simp only [execDtAlignExchange, State.pairExchange_still, State.updLink_still, still_ite, ite_self, implies_true, keeps_next, Still.whole, keeps_ite, and_self]

theorem State.releaseTies_still (s : State) (d n : Nat) : (State.releaseTies s d n).still = s.still := rfl
theorem State.sendReleases_still (s : State) (d n : Nat) : (State.sendReleases s d n).still = s.still := by
  unfold State.sendReleases
  dsimp only
  rw [still_foldl]
  · rfl
  · intros
    rw [State.sendTie_still]

theorem cmdDtTieReserve_still : cmdDtTieReserve.Keeps Same := by
  simp only [CmdSpec.Keeps, Same, cmdDtTieReserve]
  intros
  repeat' split
  all_goals simp only [State.releaseTies_still, State.sendTie_still, State.settle_still, State.updFlight_still, State.updTie_still, still_mk]

theorem execDtTieReserve_still (mb : Nat) (c : Cmd) (s : State) : Keeps Still.whole s (execDtTieReserve mb c s) := by
  rw [execDtTieReserve, keeps_next]
  exact runCommand_keeps chains_same _ _ _ _ cmdDtTieReserve_still

theorem execDtReservationConfirm_still (link : Nat) (r : TieAnswer) (s : State) : Keeps Still.whole s
    (execDtReservationConfirm link r s) := by
  simp only [execDtReservationConfirm]
  repeat' split
  all_goals simp only [State.failRemote_still, State.settleWhere_still, State.updTie_still, still_mk, keeps_next,
    Still.whole]

theorem execDtTieLineRelease_still (link src td : Nat) (l : Option FabLine) (s : State) : Keeps Still.whole s
    (execDtTieLineRelease link src td l s) := by
  simp only [execDtTieLineRelease]
  repeat' split
  all_goals simp only [State.updLink_still, State.updTie_still, keeps_next, Still.whole]

theorem State.placeTie_still (s : State) (r : TieRequest) (p n : Nat) : (State.placeTie s r p n).still = s.still := rfl
theorem State.keepTie_still (s : State) (r : TieRequest) (t : Tie) : (State.keepTie s r t).still = s.still := by
  simp only [State.keepTie, State.sendTie_still, still_mk, still_ite, ite_self]

theorem execDtReservation_still (link : Nat) (r : TieRequest) (s : State) : Keeps Still.whole s
    (execDtReservation link r s) := by
  simp only [execDtReservation]
  repeat' split
  all_goals simp only [State.keepTie_still, State.placeTie_still, State.sendTie_still, keeps_next, Still.whole]

theorem execDtTieRelease_still (link src td tick : Nat) (s : State) : Keeps Still.whole s (execDtTieRelease link
    src td tick s) := by
  simp only [execDtTieRelease, still_mk, implies_true, keeps_next, Still.whole,
    keeps_ite, and_self]

end Sys2Proof.Machine
end

