-- ==== Sys2Proof/Laws/KeptSystem.lean ====
section
/-! SUPPORT. What the operations of the system, Grain, pairing, fault, key, lane, port, power, mailbox, register, DMA, fetch,
cutoff, tick and mirror families keep, named as in Laws/Kept.lean. -/
namespace Sys2Proof.Machine

/-! ## System -/

theorem cmdDeviceInfo_still : cmdDeviceInfo.Keeps Same := by
  simp only [CmdSpec.Keeps, Same, cmdDeviceInfo, implies_true]

theorem execDeviceInfo_still (mb : Nat) (c : Cmd) (s : State) : Keeps Still.whole s (execDeviceInfo mb c s) := by
  rw [execDeviceInfo, keeps_next]
  exact runCommand_keeps chains_same _ _ _ _ cmdDeviceInfo_still

theorem cmdFwStatus_still : cmdFwStatus.Keeps Same := by
  simp only [CmdSpec.Keeps, Same, cmdFwStatus, implies_true]

theorem execFwStatus_still (mb : Nat) (c : Cmd) (s : State) : Keeps Still.whole s (execFwStatus mb c s) := by
  rw [execFwStatus, keeps_next]
  exact runCommand_keeps chains_same _ _ _ _ cmdFwStatus_still

theorem State.openSession_still (s : State) (n rank roles : Nat) : (State.openSession s n rank roles).still =
    s.still := rfl

theorem cmdSessionOpen_still : cmdSessionOpen.Keeps Same := by
  simp only [CmdSpec.Keeps, Same, cmdSessionOpen, State.openSession_still, implies_true]

theorem execSessionOpen_still (mb : Nat) (c : Cmd) (s : State) : Keeps Still.whole s (execSessionOpen mb c s) := by
  rw [execSessionOpen, keeps_next]
  exact runCommand_keeps chains_same _ _ _ _ cmdSessionOpen_still

theorem State.releaseTie_still (s : State) (src td : Nat) : (State.releaseTie s src td).still = s.still := by
  unfold State.releaseTie
  dsimp only
  rw [still_foldl]
  · rfl
  · intros
    rw [State.sendTie_still]

theorem State.undoLater_still (s : State) (f : Flight) : (State.undoLater s f).still = s.still := by
  simp only [State.undoLater]
  repeat' split
  all_goals simp only [State.releaseTie_still, State.setPlane_still, State.stateEvent_still, State.updLane_still, State.updLink_still]

theorem State.abortWhere_still (s : State) (p : Flight → Bool) (detail : Nat) : (State.abortWhere s p
    detail).still = s.still := by
  simp only [State.abortWhere, State.dropPending_still, State.settleWhere_still, State.undoLater_still, still_foldl,
    implies_true]

theorem State.closeSession_still (s : State) (n id : Nat) : (State.closeSession s n id).still = s.still := by
  simp only [State.closeSession, State.abortWhere_still, State.updMbox_still, still_mk]

theorem cmdSessionClose_still : cmdSessionClose.Keeps Same := by
  simp only [CmdSpec.Keeps, Same, cmdSessionClose, State.closeSession_still, State.settle_still, implies_true]

theorem execSessionClose_still (mb : Nat) (c : Cmd) (s : State) : Keeps Still.whole s (execSessionClose mb c s) := by
  rw [execSessionClose, keeps_next]
  exact runCommand_keeps chains_same _ _ _ _ cmdSessionClose_still

theorem cmdNopEcho_still : cmdNopEcho.Keeps Same := by
  simp only [CmdSpec.Keeps, Same, cmdNopEcho, implies_true]

theorem execNopEcho_still (mb : Nat) (c : Cmd) (s : State) : Keeps Still.whole s (execNopEcho mb c s) := by
  rw [execNopEcho, keeps_next]
  exact runCommand_keeps chains_same _ _ _ _ cmdNopEcho_still

/-! ## Grain -/

theorem State.setFill_still (s : State) (n : Nat) : (State.setFill s n).still = s.still := by
  simp only [State.setFill, State.level_still, still_mk]

theorem State.released_still (s : State) (z0 : Option Nat) : (State.released s z0).still = s.still := by cases z0 <;> simp only [State.released,
  State.updFlight_still]

theorem State.chainAt_still (s : State) (r : GrainRec) (count : Nat) (chain : BitVec 384) : (State.chainAt s r
    count chain).still = s.still := by
  simp only [State.chainAt, State.mirror_still, State.released_still, State.setFill_still, still_mk]

theorem State.chainNext_still (s : State) (r : GrainRec) : (State.chainNext s r).still = s.still := by
  simp only [State.chainNext, State.chainAt_still]

theorem State.chainStaged_still (s : State) : (State.chainStaged s).still = s.still := by
  simp only [State.chainStaged, State.chainNext_still, still_mk, still_foldl, implies_true]

theorem State.loseRecord_still (s : State) (r : GrainRec) : (State.loseRecord s r).still = s.still := by
  simp only [State.loseRecord, State.released_still, still_mk]

theorem State.shedDigest_still (s : State) (r : GrainRec) : (State.shedDigest s r).still = s.still := rfl
theorem State.receive_still (s : State) (r : GrainRec) : (State.receive s r).still = s.still := by
  simp only [State.receive, State.chainNext_still, State.forward_still, State.loseRecord_still, State.released_still,
    State.setFill_still, State.shedDigest_still, still_mk, still_ite, ite_self]

theorem execGrainRecord_still (s : State) : Keeps Still.whole s (execGrainRecord s) := by
  simp only [execGrainRecord]
  repeat' split
  all_goals simp only [State.receive_still, still_mk, keeps_next, Still.whole]

theorem State.receiveAll_still (s : State) : (State.receiveAll s).still = s.still := by
  simp only [State.receiveAll, State.receive_still, still_mk, still_foldl, implies_true]

theorem execGrainForwardReceive_still (rec' : GrainRec) (s : State) : Keeps Still.whole s
    (execGrainForwardReceive rec' s) := by
  simp only [execGrainForwardReceive, State.chainNext_still, State.sendFrame_still, still_mk, implies_true, keeps_next, Still.whole,
    keeps_ite, and_self]

theorem execGrainForwardAck_still (s : State) : Keeps Still.whole s (execGrainForwardAck s) := by
  simp only [execGrainForwardAck]
  repeat' split
  all_goals simp only [State.released_still, State.setFill_still, still_mk, keeps_next, Still.whole]

theorem State.sealAnswered_still (s : State) (count : Nat) (head : BitVec 384) (id : Nat) : (State.sealAnswered s
    count head id).still = s.still := rfl

theorem State.writeSeal_still (s : State) (reason inst : Nat) (tick : Option (Nat × Nat)) : (State.writeSeal s
    reason inst tick).still = s.still := by
  simp only [State.writeSeal]
  repeat' split
  · exact State.loseRecord_still ..
  · rw [still_foldl]
    · simp only [still_mk, State.chainNext_still]
    · intros
      exact State.sealAnswered_still ..
  · rfl

theorem State.sealAtTick_still (s : State) (reason inst d n : Nat) : (State.sealAtTick s reason inst d n).still =
    s.still := by
  simp only [State.sealAtTick]
  repeat' split
  · rw [still_foldl]
    · simp only [still_mk]
    · intros
      exact State.sealAnswered_still ..
  · exact State.writeSeal_still ..
  · exact State.writeSeal_still ..

theorem State.grainSealAt_still (s : State) (id d n inst : Nat) : (State.grainSealAt s id d n inst).still = s.still := by
  simp only [State.grainSealAt, State.failFlight_still, State.sealAtTick_still, still_mk, still_ite, ite_self]

theorem execGrainPeriodicSeal_still (s : State) : Keeps Still.whole s (execGrainPeriodicSeal s) := by
  simp only [execGrainPeriodicSeal]
  repeat' split
  all_goals simp only [State.sealAtTick_still, State.writeSeal_still, still_mk, keeps_next, Still.whole]

theorem State.resumeWith_still (s : State) (reason cflags : Nat) (cited : Option (Nat × Nat × BitVec 384)) :
    (State.resumeWith s reason cflags cited).still = s.still := by
  simp only [State.resumeWith]
  repeat' split
  all_goals simp only [State.chainAt_still, State.setFill_still, still_mk]

theorem State.takeSigner_still (s : State) : (State.takeSigner s).still = s.still := by
  simp only [State.takeSigner]
  repeat' split
  all_goals simp only [State.chainAt_still, State.chainStaged_still]

theorem State.grainSet_still (s : State) (c : Cmd) : (State.grainSet s c).still = s.still := rfl
theorem State.grainStart_still (s : State) (old : List Byte) : (State.grainStart s old).still = s.still := by
  simp only [State.grainStart, State.chainStaged_still, State.forwardAll_still, State.resumeWith_still, State.writeSeal_still, still_mk,
    still_ite, ite_self]

theorem cmdGrainConfig_still : cmdGrainConfig.Keeps Same := by
  simp only [CmdSpec.Keeps, Same, cmdGrainConfig, State.grainSet_still, State.grainStart_still, still_ite, ite_self,
    implies_true]

theorem execGrainConfig_still (mb : Nat) (c : Cmd) (s : State) : Keeps Still.whole s (execGrainConfig mb c s) := by
  rw [execGrainConfig, keeps_next]
  exact runCommand_keeps chains_same _ _ _ _ cmdGrainConfig_still

theorem cmdGrainWitness_still : cmdGrainWitness.Keeps Same := by
  simp only [CmdSpec.Keeps, Same, cmdGrainWitness, State.updDest_still, implies_true]

theorem execGrainWitness_still (mb : Nat) (c : Cmd) (s : State) : Keeps Still.whole s (execGrainWitness mb c s) := by
  rw [execGrainWitness, keeps_next]
  exact runCommand_keeps chains_same _ _ _ _ cmdGrainWitness_still

theorem cmdGrainSeal_still : cmdGrainSeal.Keeps Same := by
  simp only [CmdSpec.Keeps, Same, cmdGrainSeal, implies_true]

theorem execGrainSeal_still (mb : Nat) (c : Cmd) (s : State) : Keeps Still.whole s (execGrainSeal mb c s) := by
  rw [execGrainSeal, keeps_next]
  exact runCommand_keeps chains_same _ _ _ _ cmdGrainSeal_still

theorem cmdGrainStatus_still : cmdGrainStatus.Keeps Same := by
  simp only [CmdSpec.Keeps, Same, cmdGrainStatus, still_mk, still_ite, ite_self, implies_true]

theorem execGrainStatus_still (mb : Nat) (c : Cmd) (s : State) : Keeps Still.whole s (execGrainStatus mb c s) := by
  rw [execGrainStatus, keeps_next]
  exact runCommand_keeps chains_same _ _ _ _ cmdGrainStatus_still

theorem execPwrfailSeal_still (s : State) : Keeps Still.whole s (execPwrfailSeal s) := by
  simp only [execPwrfailSeal, State.receiveAll_still, State.writeSeal_still, still_mk, implies_true, keeps_next,
    Still.whole, keeps_ite, and_self]

/-! ## Pair -/

theorem State.tryHold_still (s : State) : (State.tryHold s).still = s.still := by
  simp only [State.tryHold, State.eventBeat_still, State.pairEvent_still, State.takeSigner_still, still_mk,
    still_ite, ite_self]

theorem State.pairMove_still (s : State) (goal : PairState) : (State.pairMove s goal).still = s.still := by
  simp only [State.pairMove, State.pairGo_still, State.pairLegs_still]

theorem State.pairEnter_still (s : State) (goal : PairState) : (State.pairEnter s goal).still = s.still := by
  simp only [State.pairEnter, State.pairMove_still, State.tryHold_still]

theorem State.completeAll_still (s : State) (op : Nat) (r : Rep) : (State.completeAll s op r).still = s.still := rfl
theorem State.promote_still (s : State) (why : Nat) : (State.promote s why).still = s.still := by
  simp only [State.promote]
  repeat' split
  all_goals simp only [State.pairEnter_still, State.settle_still, still_mk]

theorem State.pairOn_still (s : State) (c : Cmd) : (State.pairOn s c).still = s.still := by
  simp only [State.pairOn, State.loseAuthority_still, State.pairMove_still, still_mk]

theorem State.pairOff_still (s : State) (c : Cmd) : (State.pairOff s c).still = s.still := by
  simp only [State.pairOff, State.fall_still, State.level_still, State.pairEvent_still, State.pairLegs_still,
    State.refreshClamp_still, State.takeSigner_still, still_mk, still_ite, ite_self]

theorem cmdPairConfig_still : cmdPairConfig.Keeps Same := by
  simp only [CmdSpec.Keeps, Same, cmdPairConfig, State.pairOff_still, State.pairOn_still, still_ite,
    ite_self, implies_true]

theorem execPairConfig_still (mb : Nat) (c : Cmd) (s : State) : Keeps Still.whole s (execPairConfig mb c s) := by
  rw [execPairConfig, keeps_next]
  exact runCommand_keeps chains_same _ _ _ _ cmdPairConfig_still

theorem cmdPairStatus_still : cmdPairStatus.Keeps Same := by
  simp only [CmdSpec.Keeps, Same, cmdPairStatus, still_mk, implies_true]

theorem execPairStatus_still (mb : Nat) (c : Cmd) (s : State) : Keeps Still.whole s (execPairStatus mb c s) := by
  rw [execPairStatus, keeps_next]
  exact runCommand_keeps chains_same _ _ _ _ cmdPairStatus_still

theorem State.setModes_still (s : State) (n : Nat) (z0 : List Byte) : (State.setModes s n z0).still = s.still := by
  induction z0 generalizing s n with
  | nil => rfl
  | cons b bs ih => simp only [State.setModes, ih, State.updDest_still]

theorem State.pairModes_still (s : State) (modes : List Byte) : (State.pairModes s modes).still = s.still := by
  simp only [State.pairModes, State.pairLegs_still, State.setModes_still]

theorem cmdPairMirrorSet_still : cmdPairMirrorSet.Keeps Same := by
  simp only [CmdSpec.Keeps, Same, cmdPairMirrorSet, State.mirror_still, State.pairModes_still, still_mk, implies_true]

theorem execPairMirrorSet_still (mb : Nat) (c : Cmd) (s : State) : Keeps Still.whole s (execPairMirrorSet mb c s) := by
  rw [execPairMirrorSet, keeps_next]
  exact runCommand_keeps chains_same _ _ _ _ cmdPairMirrorSet_still

theorem State.handOver_still (s : State) (id : Nat) : (State.handOver s id).still = s.still := by
  simp only [State.handOver, State.pairMove_still, State.writeSeal_still, still_mk]

theorem cmdPairSwitch_still : cmdPairSwitch.Keeps Same := by
  simp only [CmdSpec.Keeps, Same, cmdPairSwitch, State.handOver_still, State.promote_still, State.settle_still,
    still_ite, ite_self, implies_true]

theorem execPairSwitch_still (mb : Nat) (c : Cmd) (s : State) : Keeps Still.whole s (execPairSwitch mb c s) := by
  rw [execPairSwitch, keeps_next]
  exact runCommand_keeps chains_same _ _ _ _ cmdPairSwitch_still

theorem cmdPairResync_still : cmdPairResync.Keeps Same := by
  simp only [CmdSpec.Keeps, Same, cmdPairResync, State.pairMove_still, still_mk, implies_true]

theorem execPairResync_still (mb : Nat) (c : Cmd) (s : State) : Keeps Still.whole s (execPairResync mb c s) := by
  rw [execPairResync, keeps_next]
  exact runCommand_keeps chains_same _ _ _ _ cmdPairResync_still

theorem execHeartbeatSend_still (s : State) : Keeps Still.whole s (execHeartbeatSend s) := by
  simp only [execHeartbeatSend, State.sendBeat_still, still_mk, implies_true,
    keeps_next, Still.whole, keeps_ite, and_self]

theorem State.noteBeat_still (s : State) (path : PairPath) (bs : List Byte) : (State.noteBeat s path bs).still =
    s.still := by
  simp only [State.noteBeat, State.fall_still, State.level_still, State.pairEvent_still, still_mk, still_ite,
    ite_self]

theorem State.hearMove_still (s : State) (before : Option Nat) : (State.hearMove s before).still = s.still := by
  simp only [State.hearMove]
  repeat' split
  all_goals simp only [State.pairEnter_still, State.promote_still]

theorem State.hearAfter_still (s : State) : (State.hearAfter s).still = s.still := by
  simp only [State.hearAfter]
  repeat' split
  all_goals simp only [State.dropRoles_still, State.eventBeat_still, State.fall_still, State.settle_still,
    State.tryHold_still, still_mk]

theorem execHeartbeatReceive_still (path : PairPath) (bytes : List Byte) (s : State) : Keeps Still.whole s
    (execHeartbeatReceive path bytes s) := by
  simp only [execHeartbeatReceive, State.hearAfter_still, State.hearMove_still, State.noteBeat_still, implies_true,
    keeps_next, Still.whole, keeps_ite, and_self]

theorem execPairingPathLost_still (path : PairPath) (s : State) : Keeps Still.whole s (execPairingPathLost path s) := by
  simp only [execPairingPathLost, State.level_still, State.pairEvent_still, implies_true, keeps_next, Still.whole,
    keeps_ite, and_self]

theorem State.lostMove_still (s : State) (why : Nat) : (State.lostMove s why).still = s.still := by
  simp only [State.lostMove]
  repeat' split
  all_goals simp only [State.pairEnter_still, State.promote_still]

theorem execPartnerLost_still (s : State) : Keeps Still.whole s (execPartnerLost s) := by
  simp only [execPartnerLost, State.level_still, State.lostMove_still, still_mk, implies_true, keeps_next, Still.whole, keeps_ite, and_self]

theorem execPeerNotAlive_still (high : Nat) (s : State) : Keeps Still.whole s (execPeerNotAlive high s) := by
  simp only [execPeerNotAlive, State.lostMove_still, still_mk, still_ite, ite_self, implies_true,
    keeps_next, Still.whole, keeps_ite, and_self]

theorem execClampGntStable_still (s : State) : Keeps Still.whole s (execClampGntStable s) := by
  simp only [execClampGntStable, State.eventBeat_still, State.tryHold_still, still_mk, still_ite, ite_self,
    implies_true, keeps_next, Still.whole, keeps_ite, and_self]

theorem execClampGntDeassert_still (s : State) : Keeps Still.whole s (execClampGntDeassert s) := by
  simp only [execClampGntDeassert, State.dropRoles_still, State.eventBeat_still, still_mk, still_ite, ite_self,
    implies_true, keeps_next, Still.whole, keeps_ite, and_self]

theorem State.bankAcked_still (s : State) (d : Nat) : (State.bankAcked s d).still = s.still := rfl
theorem execMirrorAck_still (d tick : Nat) (s : State) : Keeps Still.whole s (execMirrorAck d tick s) := by
  simp only [execMirrorAck, State.bankAcked_still, implies_true,
    keeps_next, Still.whole, keeps_ite, and_self]

theorem execMirrorAckTimeout_still (d : Nat) (s : State) : Keeps Still.whole s (execMirrorAckTimeout d s) := by
  simp only [execMirrorAckTimeout]
  repeat' split
  all_goals simp only [State.bankAcked_still, State.level_still, State.pairEnter_still, keeps_next, Still.whole]

theorem execMirrorTbOffset_still (base stepcnt : Nat) (theta : Int) (s : State) : Keeps Still.whole s
    (execMirrorTbOffset base stepcnt theta s) := by
  simp only [execMirrorTbOffset, State.offset_still, implies_true,
    keeps_next, Still.whole, keeps_ite, and_self]

theorem execDivergeReceive_still (map : BitVec 1024) (s : State) : Keeps Still.whole s (execDivergeReceive map s) := by
  simp only [execDivergeReceive, still_mk, implies_true, keeps_next, Still.whole,
    keeps_ite, and_self]

theorem execJoinComplete_still (s : State) : Keeps Still.whole s (execJoinComplete s) := by
  simp only [execJoinComplete, State.completeAll_still, State.pairEnter_still, implies_true, keeps_next, Still.whole,
    keeps_ite, and_self]

/-! ## FaultCmds -/

theorem cmdFaultRead_still : cmdFaultRead.Keeps Same := by
  simp only [CmdSpec.Keeps, Same, cmdFaultRead, implies_true]

theorem execFaultRead_still (mb : Nat) (c : Cmd) (s : State) : Keeps Still.whole s (execFaultRead mb c s) := by
  rw [execFaultRead, keeps_next]
  exact runCommand_keeps chains_same _ _ _ _ cmdFaultRead_still

theorem State.ackWord_still (s : State) (w mask : Nat) : (State.ackWord s w mask).still = s.still := by
  simp only [State.ackWord, State.ackFault_still, still_ite, still_foldl, ite_self, implies_true]

theorem cmdFaultAck_still : cmdFaultAck.Keeps Same := by
  simp only [CmdSpec.Keeps, Same, cmdFaultAck, State.ackWord_still, implies_true]

theorem execFaultAck_still (mb : Nat) (c : Cmd) (s : State) : Keeps Still.whole s (execFaultAck mb c s) := by
  rw [execFaultAck, keeps_next]
  exact runCommand_keeps chains_same _ _ _ _ cmdFaultAck_still

theorem State.faultMap_still (s : State) (c : Cmd) : (State.faultMap s c).still = s.still := by
  simp only [State.faultMap, State.faultEvent_still, State.giveRecord_still, State.updFault_still, still_mk,
    still_ite, ite_self]

theorem cmdFaultMap_still : cmdFaultMap.Keeps Same := by
  simp only [CmdSpec.Keeps, Same, cmdFaultMap, State.faultMap_still, implies_true]

theorem execFaultMap_still (mb : Nat) (c : Cmd) (s : State) : Keeps Still.whole s (execFaultMap mb c s) := by
  rw [execFaultMap, keeps_next]
  exact runCommand_keeps chains_same _ _ _ _ cmdFaultMap_still

theorem State.inject_still (s : State) (n hold target : Nat) (run : Bool) : (State.inject s n hold target
    run).still = s.still := by
  simp only [State.inject, State.act_still, State.drawFree_still, State.faultEvent_still, State.latch_still,
    State.updFault_still, still_ite, ite_self]

theorem cmdFaultInject_still : cmdFaultInject.Keeps Same := by
  simp only [CmdSpec.Keeps, Same, cmdFaultInject, State.inject_still, implies_true]

theorem execFaultInject_still (mb : Nat) (c : Cmd) (s : State) : Keeps Still.whole s (execFaultInject mb c s) := by
  rw [execFaultInject, keeps_next]
  exact runCommand_keeps chains_same _ _ _ _ cmdFaultInject_still

theorem execInjectedHoldExpiry_still (source : Nat) (s : State) : Keeps Still.whole s (execInjectedHoldExpiry
    source s) := by
  simp only [execInjectedHoldExpiry]
  repeat' split
  all_goals simp only [State.updFault_still, keeps_next, Still.whole]

theorem State.testStart_still (s : State) (x : Ctx) : (State.testStart s x).still = s.still := by
  simp only [State.testStart]
  repeat' split
  all_goals simp only [State.drawFree_still, State.planeGo_still, State.setPlane_still, State.settle_still,
    State.updFlight_still, still_mk]

theorem cmdSelftestRun_still : cmdSelftestRun.Keeps Same := by
  simp only [CmdSpec.Keeps, Same, cmdSelftestRun, State.testStart_still, implies_true]

theorem execSelftestRun_still (mb : Nat) (c : Cmd) (s : State) : Keeps Still.whole s (execSelftestRun mb c s) := by
  rw [execSelftestRun, keeps_next]
  exact runCommand_keeps chains_same _ _ _ _ cmdSelftestRun_still

theorem State.testEnd_still (s : State) (test target : Nat) (pass : Bool) : (State.testEnd s test target
    pass).still = s.still := by
  simp only [State.testEnd]
  repeat' split
  all_goals simp only [State.planeGo_still, State.setPlane_still, State.strike_still, State.updStack_still, still_mk]

theorem execSelftestComplete_still (id : Nat) (result : TestResult) (s : State) : Keeps Still.whole s
    (execSelftestComplete id result s) := by
  simp only [execSelftestComplete]
  repeat' split
  all_goals simp only [State.settle_still, State.testEnd_still, keeps_next, Still.whole]

theorem execCcFailure_still (cluster : Nat) (s : State) : Keeps Still.whole s (execCcFailure cluster s) := by
  simp only [execCcFailure, State.level_still, still_mk, still_ite, ite_self, implies_true,
    keeps_next, Still.whole, keeps_ite, and_self]

theorem execCcTakeover_still (s : State) : Keeps Still.whole s (execCcTakeover s) := by
  simp only [execCcTakeover, State.abortWhere_still, State.takeoverDone_still, still_mk, implies_true, keeps_next, Still.whole, keeps_ite, and_self]

/-! ## Keys -/

theorem cmdKeyLoad_still : cmdKeyLoad.Keeps Same := by
  simp only [CmdSpec.Keeps, Same, cmdKeyLoad, State.handKey_still, State.writeSlot_still, still_ite,
    ite_self, implies_true]

theorem execKeyLoad_still (mb : Nat) (c : Cmd) (s : State) : Keeps Still.whole s (execKeyLoad mb c s) := by
  rw [execKeyLoad, keeps_next]
  exact runCommand_keeps chains_same _ _ _ _ cmdKeyLoad_still

theorem cmdKeyDerive_still : cmdKeyDerive.Keeps Same := by
  simp only [CmdSpec.Keeps, Same, cmdKeyDerive, State.writeSlot_still, implies_true]

theorem execKeyDerive_still (mb : Nat) (c : Cmd) (s : State) : Keeps Still.whole s (execKeyDerive mb c s) := by
  rw [execKeyDerive, keeps_next]
  exact runCommand_keeps chains_same _ _ _ _ cmdKeyDerive_still

theorem cmdKeyInvalidate_still : cmdKeyInvalidate.Keeps Same := by
  simp only [CmdSpec.Keeps, Same, cmdKeyInvalidate, implies_true]

theorem execKeyInvalidate_still (mb : Nat) (c : Cmd) (s : State) : Keeps Still.whole s (execKeyInvalidate mb c s) := by
  rw [execKeyInvalidate, keeps_next]
  exact runCommand_keeps chains_same _ _ _ _ cmdKeyInvalidate_still

theorem cmdKeyInfo_still : cmdKeyInfo.Keeps Same := by
  simp only [CmdSpec.Keeps, Same, cmdKeyInfo, State.updSlot_still, implies_true]

theorem execKeyInfo_still (mb : Nat) (c : Cmd) (s : State) : Keeps Still.whole s (execKeyInfo mb c s) := by
  rw [execKeyInfo, keeps_next]
  exact runCommand_keeps chains_same _ _ _ _ cmdKeyInfo_still

theorem cmdAttest_fixed : cmdAttest.Keeps SameFixed := by
  simp only [CmdSpec.Keeps, SameFixed, cmdAttest, State.answer_fixed, implies_true]

theorem execAttest_fixed (mb : Nat) (c : Cmd) (s : State) : Keeps Still.fixed s (execAttest mb c s) := by
  rw [execAttest, keeps_next]
  exact runCommand_keeps chains_sameFixed _ _ _ _ cmdAttest_fixed

theorem cmdIdCertRead_fixed : cmdIdCertRead.Keeps SameFixed := by
  simp only [CmdSpec.Keeps, SameFixed, cmdIdCertRead, State.answer_fixed, implies_true]

theorem execIdCertRead_fixed (mb : Nat) (c : Cmd) (s : State) : Keeps Still.fixed s (execIdCertRead mb c s) := by
  rw [execIdCertRead, keeps_next]
  exact runCommand_keeps chains_sameFixed _ _ _ _ cmdIdCertRead_fixed

theorem State.revokeSlot_still (s : State) (n : Nat) : (State.revokeSlot s n).still = s.still := by
  simp only [State.revokeSlot, State.emptySlot_still, State.eraseKey_still, State.keyEvent_still,
    State.linkFall_still, State.linkSettle_still, State.settleWhere_still, State.updSlot_still, still_ite,
    still_foldl, ite_self, implies_true]

theorem State.revoke_still (s : State) (roots : List Nat) : (State.revoke s roots).1.still = s.still := by
  simp only [State.revoke, State.revokeSlot_still, still_foldl, implies_true]

theorem State.invalidate_still (s : State) (k : Nat) (f : Flight) : (State.invalidate s k f).still = s.still := by
  simp only [State.invalidate, State.revoke_still, State.settle_still]

theorem State.emptyRevoked_still (s : State) : (State.emptyRevoked s).still = s.still := by
  simp only [State.emptyRevoked]
  exact still_foldl _ (fun _ _ => State.emptySlot_still ..) _ _

theorem State.activate_still (s : State) (k n : Nat) : (State.activate s k n).still = s.still := by
  simp only [State.activate]
  split
  · rw [still_foldl]
    · exact State.setSlot_still ..
    · intros
      simp only [State.effectDone_still, State.updFlight_still]
  · rfl

theorem State.keyTick_still (s : State) (k : Nat) : (State.keyTick s k).still = s.still := by
  simp only [State.keyTick]
  rw [still_foldl _ (fun _ _ => State.activate_still ..), still_foldl _ (fun _ _ => State.updSlot_still ..),
    State.revoke_still, still_foldl _ (fun _ _ => State.invalidate_still ..), State.emptyRevoked_still, still_mk]

theorem execKeyTick_still (s : State) : Keeps Still.whole s (execKeyTick s) := by
  simp only [execKeyTick, State.keyTick_still, implies_true,
    keeps_next, Still.whole, keeps_ite, and_self]

theorem State.keyOpAt_still (s : State) (n inst : Nat) : (State.keyOpAt s n inst).still = s.still := rfl
theorem execFaultLatch_still (source : Nat) (line : FaultLine) (s : State) : Keeps Still.whole s (execFaultLatch
    source line s) := by
  simp only [execFaultLatch, State.fall_still, State.fire_still, State.tagFails_still, still_ite,
    ite_self, implies_true, keeps_next, Still.whole, keeps_ite, and_self]

theorem execDrbgReseed_still (s : State) : Keeps Still.whole s (execDrbgReseed s) := by
  have h : ∀ k, ({ s with ks := k } : State).still = s.still := fun _ => rfl
  unfold execDrbgReseed
  split
  · rw [keeps_next]
    exact h _
  · rw [keeps_next]

/-! ## Lanes -/

theorem State.laneConfig_still (s : State) (l role pol rates : Nat) : (State.laneConfig s l role pol rates).still
    = s.still := rfl

theorem cmdLaneConfig_still : cmdLaneConfig.Keeps Same := by
  simp only [CmdSpec.Keeps, Same, cmdLaneConfig, State.laneConfig_still, implies_true]

theorem execLaneConfig_still (mb : Nat) (c : Cmd) (s : State) : Keeps Still.whole s (execLaneConfig mb c s) := by
  rw [execLaneConfig, keeps_next]
  exact runCommand_keeps chains_same _ _ _ _ cmdLaneConfig_still

theorem cmdLaneEq_still : cmdLaneEq.Keeps Same := by
  simp only [CmdSpec.Keeps, Same, cmdLaneEq, State.updLane_still, implies_true]

theorem execLaneEq_still (mb : Nat) (c : Cmd) (s : State) : Keeps Still.whole s (execLaneEq mb c s) := by
  rw [execLaneEq, keeps_next]
  exact runCommand_keeps chains_same _ _ _ _ cmdLaneEq_still

theorem cmdLaneBitslip_still : cmdLaneBitslip.Keeps Same := by
  simp only [CmdSpec.Keeps, Same, cmdLaneBitslip, State.updLane_still, implies_true]

theorem execLaneBitslip_still (mb : Nat) (c : Cmd) (s : State) : Keeps Still.whole s (execLaneBitslip mb c s) := by
  rw [execLaneBitslip, keeps_next]
  exact runCommand_keeps chains_same _ _ _ _ cmdLaneBitslip_still

theorem State.lanePrbs_still (s : State) (l op pattern invert inject : Nat) : (State.lanePrbs s l op pattern
    invert inject).still = s.still := by
  simp only [State.lanePrbs, State.setLane_still, still_ite, ite_self]

theorem cmdLanePrbs_still : cmdLanePrbs.Keeps Same := by
  simp only [CmdSpec.Keeps, Same, cmdLanePrbs, State.lanePrbs_still, implies_true]

theorem execLanePrbs_still (mb : Nat) (c : Cmd) (s : State) : Keeps Still.whole s (execLanePrbs mb c s) := by
  rw [execLanePrbs, keeps_next]
  exact runCommand_keeps chains_same _ _ _ _ cmdLanePrbs_still

theorem execPrbsCheckerLock_still (lane : Nat) (seen : PrbsBits) (s : State) : Keeps Still.whole s
    (execPrbsCheckerLock lane seen s) := by
  simp only [execPrbsCheckerLock, State.updLane_still, implies_true,
    keeps_next, Still.whole, keeps_ite, and_self]

theorem State.icError_still (s : State) (m : Master) (timeout write space : Bool) (addr : Nat) : (State.icError s
    m timeout write space addr).still = s.still := rfl

theorem State.seenDebug_still (s : State) (m : Master) : (State.seenDebug s m).still = s.still := by
  simp only [State.seenDebug, still_mk, still_ite, ite_self]

theorem State.denied_still (s : State) (o : Nat) : (State.denied s o).still = s.still := rfl
theorem State.writeReg_still (s : State) (m : Master) (o : Nat) (hostMay : Bool) (act : State → State) (h : ∀ u,
    (act u).still = u.still) : (State.writeReg s m o hostMay act).still = s.still := by
  simp only [State.writeReg]
  repeat' split
  all_goals simp only [h, State.denied_still, State.icError_still, State.seenDebug_still]

theorem State.testCtrlWrite_still (s : State) (l : Nat) (value : Word) : (State.testCtrlWrite s l value).still =
    s.still := by
  simp only [State.testCtrlWrite, State.updLane_still, still_ite, ite_self]

theorem execPlTestCtrlWrite_still (m : Master) (lane : Nat) (value : Word) (s : State) : Keeps Still.whole s
    (execPlTestCtrlWrite m lane value s) := by
  simp only [execPlTestCtrlWrite, State.testCtrlWrite_still, State.writeReg_still, implies_true, keeps_next,
    Still.whole, keeps_ite, and_self]

theorem execInjOne_still (m : Master) (lane : Nat) (s : State) : Keeps Still.whole s (execInjOne m lane s) := by
  simp only [execInjOne, State.testCtrlWrite_still, State.writeReg_still, implies_true, keeps_next, Still.whole,
    keeps_ite, and_self]

theorem cmdLaneEyescan_still : cmdLaneEyescan.Keeps Same := by
  simp only [CmdSpec.Keeps, Same, cmdLaneEyescan, State.updFlight_still, State.updLane_still, implies_true]

theorem execLaneEyescan_still (mb : Nat) (c : Cmd) (s : State) : Keeps Still.whole s (execLaneEyescan mb c s) := by
  rw [execLaneEyescan, keeps_next]
  exact runCommand_keeps chains_same _ _ _ _ cmdLaneEyescan_still

theorem execEyescanComplete_fixed (lane : Nat) (scan : EyeScan) (s : State) : Keeps Still.fixed s
    (execEyescanComplete lane scan s) := by
  simp only [execEyescanComplete]
  repeat' split
  all_goals simp only [State.answer_fixed, State.settle_still, State.updLane_still, keeps_next]

theorem execSdiHuntDwell_still (lane : Nat) (s : State) : Keeps Still.whole s (execSdiHuntDwell lane s) := by
  simp only [execSdiHuntDwell, State.updLane_still, implies_true,
    keeps_next, Still.whole, keeps_ite, and_self]

theorem execSdiLaneLock_still (lane family ctle : Nat) (s : State) : Keeps Still.whole s (execSdiLaneLock lane
    family ctle s) := by
  simp only [execSdiLaneLock, State.groupFault_still, State.updLane_still, implies_true, keeps_next, Still.whole,
    keeps_ite, and_self]

theorem execSdiLockLoss_still (lane : Nat) (s : State) : Keeps Still.whole s (execSdiLockLoss lane s) := by
  simp only [execSdiLockLoss, State.disqualify_still, State.forgetEvent_still, State.groupFault_still,
    State.noSignal_still, State.updLane_still, still_foldl, implies_true, keeps_next,
    Still.whole, keeps_ite, and_self]

/-! ## Ports -/

theorem State.portFault_still (s : State) (p : Nat) : (State.portFault s p).still = s.still := by
  simp only [State.portFault, State.level_still]

theorem State.legsOf_still (s : State) (coded : Nat) : (State.legsOf s coded).still = s.still := by
  simp only [State.legsOf, State.destFaults_still, still_foldl, implies_true]

theorem execEthSubportLinkUp_still (port sub : Nat) (s : State) : Keeps Still.whole s (execEthSubportLinkUp port
    sub s) := by
  simp only [execEthSubportLinkUp, State.adapt_still, State.legsOf_still, State.portFault_still, State.updSubport_still, implies_true,
    keeps_next, Still.whole, keeps_ite, and_self]

theorem State.subDown_still (s : State) (port sub : Nat) (fault : LinkFault) : (State.subDown s port sub
    fault).still = s.still := by
  simp only [State.subDown, State.legsOf_still, State.portFault_still, State.updSubport_still]

theorem execEthSubportLinkDown_still (port sub : Nat) (fault : LinkFault) (s : State) : Keeps Still.whole s
    (execEthSubportLinkDown port sub fault s) := by
  simp only [execEthSubportLinkDown, State.subDown_still, implies_true,
    keeps_next, Still.whole, keeps_ite, and_self]

theorem State.portConfig_still (s : State) (c : Cmd) : (State.portConfig s c).still = s.still := by
  simp only [State.portConfig, State.portFault_still, State.setPort_still, State.subDown_still, still_ite,
    still_foldl, ite_self, implies_true]

theorem cmdPortConfig_still : cmdPortConfig.Keeps Same := by
  simp only [CmdSpec.Keeps, Same, cmdPortConfig, State.portConfig_still, implies_true]

theorem execPortConfig_still (mb : Nat) (c : Cmd) (s : State) : Keeps Still.whole s (execPortConfig mb c s) := by
  rw [execPortConfig, keeps_next]
  exact runCommand_keeps chains_same _ _ _ _ cmdPortConfig_still

theorem State.setSc_still (s : State) (i dir : Nat) (c : Sc) : (State.setSc s i dir c).still = s.still := rfl
theorem State.macsec_still (s : State) (c : Cmd) : (State.macsec s c).1.still = s.still := by
  simp only [State.macsec]
  repeat' split
  all_goals simp only [State.handKey_still, State.setSc_still]

theorem cmdMacsecSc_still : cmdMacsecSc.Keeps Same := by
  simp only [CmdSpec.Keeps, Same, cmdMacsecSc, State.macsec_still, implies_true]

theorem execMacsecSc_still (mb : Nat) (c : Cmd) (s : State) : Keeps Still.whole s (execMacsecSc mb c s) := by
  rw [execMacsecSc, keeps_next]
  exact runCommand_keeps chains_same _ _ _ _ cmdMacsecSc_still

theorem State.toHost_fixed (s : State) (port sub : Nat) (bytes : List Byte) : (State.toHost s port sub
    bytes).still.fixed = s.still.fixed := by
  simp only [State.toHost, State.hbmWrite_fixed, State.raiseVector_still, State.setPort_still, fixed_ite,
    ite_self]

theorem State.sendHost_still (s : State) (port sub len : Nat) (stamp : Bool) : (State.sendHost s port sub len
    stamp).1.still = s.still := by
  simp only [State.sendHost]
  repeat' split
  all_goals simp only [State.macsecTake_still]

theorem execHpTxPoll_fixed (port : Nat) (s : State) : Keeps Still.fixed s (execHpTxPoll port s) := by
  simp only [execHpTxPoll, State.hbmWrite_fixed, State.sendHost_still, State.setPort_still, fixed_ite,
    ite_self, implies_true, keeps_next, keeps_ite, and_self]

theorem State.secFail_still (s : State) (i why : Nat) : (State.secFail s i why).still = s.still := by
  simp only [State.secFail, State.strike_still, State.updSubport_still, still_ite, ite_self]

theorem State.verifyFrame_still (s : State) (i : Nat) (tag : SecTag) : (State.verifyFrame s i tag).1.still =
    s.still := by
  simp only [State.verifyFrame]
  repeat' split
  all_goals simp only [State.secFail_still, State.strike_still, State.tagFails_still, State.updSlot_still,
    State.updSubport_still]

theorem State.hostFrame_fixed (s : State) (port : Nat) (f : EthFrame) (cls : HostClass) : (State.hostFrame s port
    f cls).still.fixed = s.still.fixed := by
  simp only [State.hostFrame, State.toHost_fixed, State.updPort_still, fixed_ite, ite_self]

theorem State.classify_fixed (s : State) (port : Nat) (f : EthFrame) : (State.classify s port f).still.fixed =
    s.still.fixed := by
  simp only [State.classify]
  repeat' split
  all_goals simp only [State.hostFrame_fixed, State.mediaPacket_still, State.ptpReceive_still]

theorem execEthFrameReceive_fixed (port : Nat) (f : EthFrame) (s : State) : Keeps Still.fixed s
    (execEthFrameReceive port f s) := by
  simp only [execEthFrameReceive]
  repeat' split
  all_goals simp only [State.classify_fixed, State.secFail_still, State.verifyFrame_still, keeps_next]

/-! ## Power -/

theorem State.settlePower_still (s : State) (n : Nat) : (State.settlePower s n).still = s.still := by
  simp only [State.settlePower, State.setPdom_still, State.startWake_still, still_ite, ite_self]

theorem State.losePower_still (s : State) (n : Nat) : (State.losePower s n).still = s.still := by
  simp only [State.losePower, State.setEngine_still, State.setLink_still, State.setPort_still, still_mk, still_ite,
    ite_self]

theorem cmdPwrTolerance_still : cmdPwrTolerance.Keeps Same := by
  simp only [CmdSpec.Keeps, Same, cmdPwrTolerance, State.mirror_still, State.settlePower_still, still_mk,
    still_ite, still_foldl, ite_self, implies_true]

theorem execPwrTolerance_still (mb : Nat) (c : Cmd) (s : State) : Keeps Still.whole s (execPwrTolerance mb c s) := by
  rw [execPwrTolerance, keeps_next]
  exact runCommand_keeps chains_same _ _ _ _ cmdPwrTolerance_still

theorem cmdPwrStatus_still : cmdPwrStatus.Keeps Same := by
  simp only [CmdSpec.Keeps, Same, cmdPwrStatus, State.setPdom_still, implies_true]

theorem execPwrStatus_still (mb : Nat) (c : Cmd) (s : State) : Keeps Still.whole s (execPwrStatus mb c s) := by
  rw [execPwrStatus, keeps_next]
  exact runCommand_keeps chains_same _ _ _ _ cmdPwrStatus_still

theorem cmdPwrPin_still : cmdPwrPin.Keeps Same := by
  simp only [CmdSpec.Keeps, Same, cmdPwrPin, State.updPdom_still, still_ite, ite_self,
    implies_true]

theorem execPwrPin_still (mb : Nat) (c : Cmd) (s : State) : Keeps Still.whole s (execPwrPin mb c s) := by
  rw [execPwrPin, keeps_next]
  exact runCommand_keeps chains_same _ _ _ _ cmdPwrPin_still

theorem execPwrDomainIdle_still (dom : Nat) (s : State) : Keeps Still.whole s (execPwrDomainIdle dom s) := by
  simp only [execPwrDomainIdle, State.settlePower_still, State.updPdom_still, State.wakeAll_still, implies_true,
    keeps_next, Still.whole, keeps_ite, and_self]

theorem execPwrDomainEntryComplete_still (dom : Nat) (s : State) : Keeps Still.whole s
    (execPwrDomainEntryComplete dom s) := by
  simp only [execPwrDomainEntryComplete]
  repeat' split
  all_goals simp only [State.losePower_still, State.updPdom_still, keeps_next, Still.whole]

theorem State.thermal_still (s : State) (source limit : Nat) (t : Int) : (State.thermal s source limit t).still =
    s.still := by
  simp only [State.thermal, State.level_still]

theorem execTemperatureSample_still (readings : List Int) (s : State) : Keeps Still.whole s
    (execTemperatureSample readings s) := by
  simp only [execTemperatureSample]
  repeat' split
  all_goals simp only [State.thermal_still, still_mk, keeps_next, Still.whole]

theorem execOscInLoss_still (s : State) : Keeps Still.whole s (execOscInLoss s) := by
  simp only [execOscInLoss, State.level_still, still_mk, keeps_next, Still.whole]

theorem execPwrfailAssert_still (s : State) : Keeps Still.whole s (execPwrfailAssert s) := by
  simp only [execPwrfailAssert, State.level_still, still_mk, implies_true,
    keeps_next, Still.whole, keeps_ite, and_self]

theorem execPwrfailDeassert_still (s : State) : Keeps Still.whole s (execPwrfailDeassert s) := by
  simp only [execPwrfailDeassert, State.level_still, State.resumeWith_still, still_mk, still_ite, ite_self,
    implies_true, keeps_next, Still.whole, keeps_ite, and_self]

/-! ## Mailbox -/

theorem State.doorbell_still (s : State) (mb : Nat) (value : Word) : (State.doorbell s mb value).still = s.still := by
  simp only [State.doorbell, State.setErr_still, State.setMbox_still, still_ite, ite_self]

theorem State.fromHost_still (s t : State) (h : t.still = s.still) : (State.fromHost s t).still = s.still := by
  unfold State.fromHost
  split
  · exact h
  · rfl


theorem execMbDoorbell_still (mb : Nat) (value : Word) (s : State) : Keeps Still.whole s (execMbDoorbell mb value
    s) := by
  simp only [execMbDoorbell, State.doorbell_still, State.fromHost_still, keeps_next, Still.whole]

theorem State.enableSet_still (s : State) (mb : Nat) : (State.enableSet s mb).still = s.still := by
  simp only [State.enableSet, State.setErr_still, State.updMbox_still, still_ite, ite_self]

theorem execMbEnableSet_still (mb : Nat) (s : State) : Keeps Still.whole s (execMbEnableSet mb s) := by
  simp only [execMbEnableSet, State.enableSet_still, State.fromHost_still, keeps_next, Still.whole]

theorem State.enableClear_still (s : State) (mb : Nat) : (State.enableClear s mb).still = s.still := by
  simp only [State.enableClear, State.setErr_still, State.setMbox_still, still_ite, ite_self]

theorem execMbEnableClear_still (mb : Nat) (s : State) : Keeps Still.whole s (execMbEnableClear mb s) := by
  simp only [execMbEnableClear, State.enableClear_still, State.fromHost_still, keeps_next, Still.whole]

theorem State.ringBase_still (s : State) (mb off : Nat) (value : Word) : (State.ringBase s mb off value).still =
    s.still := by
  simp only [State.ringBase, State.setErr_still, State.setMbox_still, still_ite, ite_self]

theorem execMbRingBaseWrite_still (mb off : Nat) (value : Word) (s : State) : Keeps Still.whole s
    (execMbRingBaseWrite mb off value s) := by
  simp only [execMbRingBaseWrite, State.fromHost_still, State.ringBase_still, keeps_next, Still.whole]

theorem State.consumeCpl_still (s : State) (mb : Nat) (value : Word) : (State.consumeCpl s mb value).still =
    s.still := by
  simp only [State.consumeCpl, State.setErr_still, State.setMbox_still, still_ite, ite_self]

theorem execMbCplHead_still (mb : Nat) (value : Word) (s : State) : Keeps Still.whole s (execMbCplHead mb value s) := by
  simp only [execMbCplHead, State.consumeCpl_still, State.fromHost_still, keeps_next, Still.whole]

theorem State.irqCtrl_still (s : State) (mb : Nat) (value : Word) : (State.irqCtrl s mb value).still = s.still := by
  simp only [State.irqCtrl, State.setErr_still, State.updMbox_still, still_ite, ite_self]

theorem execMbIrqCtrl_still (mb : Nat) (value : Word) (s : State) : Keeps Still.whole s (execMbIrqCtrl mb value s) := by
  simp only [execMbIrqCtrl, State.fromHost_still, State.irqCtrl_still, keeps_next, Still.whole]

theorem State.releaseAlive_still (s : State) : (State.releaseAlive s).still = s.still := by
  simp only [State.releaseAlive, State.eventBeat_still, State.refreshClamp_still, still_mk]

theorem State.fireDevice_still (s : State) : (State.fireDevice s).still = s.still := by
  simp only [State.fireDevice, State.dropRoles_still, State.eventBeat_still, State.releaseAlive_still,
    State.writeSeal_still, still_mk, still_ite, ite_self]

theorem execMbResetArmExpiry_still (s : State) : Keeps Still.whole s (execMbResetArmExpiry s) := by
  simp only [execMbResetArmExpiry, still_mk, keeps_next,
    Still.whole]

/-! ## Regs -/

theorem State.clearRead_still (s : State) (o : Nat) : (State.clearRead s o).still = s.still := by
  simp only [State.clearRead, State.updDom_still, State.updOut_still, State.updPdom_still, State.updPort_still,
    State.updQueue_still, State.updStack_still, State.updSubport_still, still_mk, still_ite, ite_self]
  repeat' split
  all_goals simp only [State.updSource_still]

theorem State.returnData_still (s : State) (m : Master) (bs : List Byte) : (State.returnData s m bs).still =
    s.still := rfl

theorem State.readEffect_still (s : State) (m : Master) (o : Nat) : (State.readEffect s m o).still = s.still := by
  simp only [State.readEffect, State.clearRead_still, State.updQueue_still, still_mk, still_ite, ite_self]

theorem State.readOne_still (s : State) (m : Master) (o : Nat) : (State.readOne s m o).still = s.still := by
  simp only [State.readOne, State.readEffect_still, State.returnData_still]

theorem State.readAll_still (s : State) (m : Master) (os : List Nat) : (State.readAll s m os).still = s.still := by
  simp only [State.readAll, State.readOne_still, State.returnData_still, still_foldl,
    implies_true]

theorem State.readReg_still (s : State) (m : Master) (a : Access) : (State.readReg s m a).still = s.still := by
  simp only [State.readReg, State.icError_still, State.readAll_still, State.returnData_still,
    State.seenDebug_still, still_ite, ite_self]

theorem execTsqEntry3Read_still (m : Master) (q : UnitAccess) (s : State) : Keeps Still.whole s
    (execTsqEntry3Read m q s) := by
  simp only [execTsqEntry3Read, State.readReg_still, implies_true,
    keeps_next, Still.whole, keeps_ite, and_self]

theorem execTbSecLRead_still (m : Master) (q : UnitAccess) (s : State) : Keeps Still.whole s (execTbSecLRead m q s) := by
  simp only [execTbSecLRead, State.readReg_still, implies_true,
    keeps_next, Still.whole, keeps_ite, and_self]

theorem execGrainLastSeal0Read_still (r : MasterAccess) (s : State) : Keeps Still.whole s (execGrainLastSeal0Read
    r s) := by
  simp only [execGrainLastSeal0Read, State.readReg_still, implies_true,
    keeps_next, Still.whole, keeps_ite, and_self]

theorem execLowHalfRead_still (m : Master) (a : Access) (s : State) : Keeps Still.whole s (execLowHalfRead m a s) := by
  simp only [execLowHalfRead, State.readReg_still, implies_true,
    keeps_next, Still.whole, keeps_ite, and_self]

theorem execClearOnRead_still (m : Master) (a : Access) (s : State) : Keeps Still.whole s (execClearOnRead m a s) := by
  simp only [execClearOnRead, State.readReg_still, implies_true,
    keeps_next, Still.whole, keeps_ite, and_self]

/-! ## Dma -/

theorem State.dmaWrite_fixed (s : State) (host : Bool) (a : Nat) (bs : List Byte) : (State.dmaWrite s host a
    bs).still.fixed = s.still.fixed := by
  simp only [State.dmaWrite]
  repeat' split
  all_goals simp only [State.hbmWrite_fixed, State.putHost_fixed, fixed_mk]

theorem State.dmaIrq_still (s : State) (ch : Nat) : (State.dmaIrq s ch).still = s.still := by
  simp only [State.dmaIrq, State.raiseVector_still, State.updChan_still, still_ite, ite_self]

theorem State.dmaPut_fixed (s : State) (ch a : Nat) (bs : List Byte) : (State.dmaPut s ch a bs).still.fixed =
    s.still.fixed := by
  simp only [State.dmaPut, State.dmaWrite_fixed]

theorem State.noPath_still (s : State) (ch a : Nat) (write : Bool) : (State.noPath s ch a write).still = s.still := by
  simp only [State.noPath, State.icError_still, still_ite, ite_self]

theorem State.haltOnly_still (s : State) (ch cause : Nat) : (State.haltOnly s ch cause).still = s.still := by
  simp only [State.haltOnly, State.dmaIrq_still, State.level_still, State.updChan_still]

theorem State.dmaComplete_fixed (s : State) (ch id status flags done : Nat) : (State.dmaComplete s ch id status
    flags done).still.fixed = s.still.fixed := by
  simp only [State.dmaComplete, State.dmaPut_fixed, State.haltOnly_still, State.noPath_still, State.updChan_still,
    fixed_ite, ite_self]

theorem State.dmaHalted_fixed (s : State) (ch cause : Nat) : (State.dmaHalted s ch cause).still.fixed =
    s.still.fixed := by
  simp only [State.dmaHalted, State.dmaComplete_fixed, State.haltOnly_still]

theorem State.dmaError_fixed (s : State) (ch a : Nat) (write : Bool) (cause : Nat) : (State.dmaError s ch a write
    cause).still.fixed = s.still.fixed := by
  simp only [State.dmaError, State.dmaHalted_fixed, State.updChan_still]

theorem State.steer_still (s : State) (ch : Nat) (f : Chan → Chan) : (State.steer s ch f).still = s.still := by
  simp only [State.steer, State.level_still, State.updChan_still, still_ite, ite_self]

theorem State.dmaCtrl_still (s : State) (ch v : Nat) : (State.dmaCtrl s ch v).still = s.still := by
  simp only [State.dmaCtrl, State.steer_still, State.updChan_still, still_ite, ite_self]

theorem State.ctrlWrite_still (s : State) (m : Master) (ch v : Nat) : (State.ctrlWrite s m ch v).still = s.still := by
  simp only [State.ctrlWrite, State.dmaCtrl_still, State.writeReg_still, implies_true]

theorem execDmaStart_still (m : Master) (ch : Nat) (s : State) : Keeps Still.whole s (execDmaStart m ch s) := by
  simp only [execDmaStart, State.ctrlWrite_still, implies_true,
    keeps_next, Still.whole, keeps_ite, and_self]

theorem execDmaPause_still (m : Master) (ch : Nat) (s : State) : Keeps Still.whole s (execDmaPause m ch s) := by
  simp only [execDmaPause, State.ctrlWrite_still, implies_true,
    keeps_next, Still.whole, keeps_ite, and_self]

theorem execDmaResume_still (m : Master) (ch : Nat) (s : State) : Keeps Still.whole s (execDmaResume m ch s) := by
  simp only [execDmaResume, State.ctrlWrite_still, implies_true,
    keeps_next, Still.whole, keeps_ite, and_self]

theorem execDmaContinue_still (m : Master) (ch : Nat) (s : State) : Keeps Still.whole s (execDmaContinue m ch s) := by
  simp only [execDmaContinue, State.ctrlWrite_still, implies_true,
    keeps_next, Still.whole, keeps_ite, and_self]

theorem execDmaAbort_still (m : Master) (ch : Nat) (s : State) : Keeps Still.whole s (execDmaAbort m ch s) := by
  simp only [execDmaAbort, State.ctrlWrite_still, implies_true,
    keeps_next, Still.whole, keeps_ite, and_self]

theorem execDmaCqHeadWrite_still (m : Master) (ch : Nat) (value : Word) (s : State) : Keeps Still.whole s
    (execDmaCqHeadWrite m ch value s) := by
  simp only [execDmaCqHeadWrite, keeps_ite, keeps_next, Still.whole, implies_true, and_true]
  exact fun _ => State.writeReg_still _ _ _ _ _ (fun _ => State.updChan_still ..)

theorem execDmaDescriptorStart_fixed (ch : Nat) (s : State) : Keeps Still.fixed s (execDmaDescriptorStart ch s) := by
  simp only [execDmaDescriptorStart, State.dmaError_fixed, State.dmaHalted_fixed, State.noPath_still,
    State.updChan_still, implies_true, keeps_next, keeps_ite, and_self]

theorem State.moveBlock_fixed (s : State) (ch : Nat) : (State.moveBlock s ch).still.fixed = s.still.fixed := by
  simp only [State.moveBlock]
  repeat' split
  all_goals simp only [State.dmaError_fixed, State.dmaWrite_fixed, State.updChan_still, fixed_mk]

theorem State.grainShadow_fixed (s : State) : (State.grainShadow s).still.fixed = s.still.fixed := by
  simp only [State.grainShadow, State.haltOnly_still, State.putHost_fixed, State.updChan_still, fixed_ite, ite_self]

theorem State.uploadBlock_fixed (s : State) : (State.uploadBlock s).still.fixed = s.still.fixed := by
  simp only [State.uploadBlock, State.grainShadow_fixed, State.haltOnly_still, State.putHost_fixed,
    State.setFill_still, State.updChan_still, fixed_mk, fixed_ite, ite_self]

theorem execDmaBlock_fixed (ch : Nat) (s : State) : Keeps Still.fixed s (execDmaBlock ch s) := by
  simp only [execDmaBlock, State.moveBlock_fixed, State.uploadBlock_fixed, fixed_ite, ite_self, implies_true,
    keeps_next, keeps_ite, and_self]

theorem execDmaDescriptorComplete_fixed (ch : Nat) (s : State) : Keeps Still.fixed s (execDmaDescriptorComplete
    ch s) := by
  simp only [execDmaDescriptorComplete, State.dmaComplete_fixed, State.dmaIrq_still, State.updChan_still, fixed_ite,
    ite_self, implies_true, keeps_next, keeps_ite, and_self]

theorem execDmaHalt_fixed (ch : Nat) (err : DmaError) (s : State) : Keeps Still.fixed s (execDmaHalt ch err s) := by
  simp only [execDmaHalt, State.dmaError_fixed, implies_true,
    keeps_next, keeps_ite, and_self]

theorem execDmaLoopSuspect_fixed (ch : Nat) (s : State) : Keeps Still.fixed s (execDmaLoopSuspect ch s) := by
  simp only [execDmaLoopSuspect, State.dmaHalted_fixed, implies_true,
    keeps_next, keeps_ite, and_self]

theorem execDmaPaceRequest_still (ch : Nat) (fill : Nat) (s : State) : Keeps Still.whole s (execDmaPaceRequest ch
    fill s) := by
  simp only [execDmaPaceRequest, State.updChan_still, still_mk, implies_true,
    keeps_next, Still.whole, keeps_ite, and_self]

theorem execIcTimeout_still (m : Master) (write space : Bool) (addr : Nat) (s : State) : Keeps Still.whole s
    (execIcTimeout m write space addr s) := by
  simp only [execIcTimeout, State.icError_still, State.strike_still, keeps_next, Still.whole]

/-! ## RegWrites -/

theorem State.writeChan_still (s : State) (ch o : Nat) (v : Word) : (State.writeChan s ch o v).still = s.still := by
  simp only [State.writeChan]
  repeat' split
  all_goals simp only [State.dmaCtrl_still, State.updChan_still]

/-! ## Fetch -/

/-- The four commands that answer into host memory move the part as a relation says. -/
structure Answering (R : Still → Still → Prop) : Prop where
  TbStatus : cmdTbStatus.Keeps R
  AudStatus : cmdAudStatus.Keeps R
  Attest : cmdAttest.Keeps R
  IdCertRead : cmdIdCertRead.Keeps R

/-- Every command of part A moves the part as a relation says. -/
theorem specsA_keeps {R : Still → Still → Prop} (hR : Chains R) (hp : Answering R) :
    ∀ p ∈ specsA, p.Keeps R := by
  simp only [specsA, List.forall_mem_cons, List.not_mem_nil, false_imp_iff, implies_true, and_true]
  exact ⟨cmdDeviceInfo_still.narrow hR, cmdFwStatus_still.narrow hR, cmdSessionOpen_still.narrow hR,
    cmdSessionClose_still.narrow hR, cmdNopEcho_still.narrow hR, cmdTdConfig_still.narrow hR,
    cmdRefConfig_still.narrow hR, cmdRefPriority_still.narrow hR, cmdRefStatus_still.narrow hR,
    cmdRefForce_still.narrow hR, cmdFpRealign_still.narrow hR, cmdCutoffSet_still.narrow hR,
    cmdTbConfig_still.narrow hR, cmdTbOffset_still.narrow hR, cmdTbStep_still.narrow hR,
    cmdPtpInstance_still.narrow hR, hp.TbStatus, cmdSrcBind_still.narrow hR, cmdSrcStatus_still.narrow hR,
    cmdRxFlowSet_still.narrow hR⟩

/-- Every command of part B moves the part as a relation says. -/
theorem specsB_keeps {R : Still → Still → Prop} (hR : Chains R) (hp : Answering R) :
    ∀ p ∈ specsB, p.Keeps R := by
  simp only [specsB, List.forall_mem_cons, List.not_mem_nil, false_imp_iff, implies_true, and_true]
  exact ⟨cmdRxFlowClear_still.narrow hR, cmdSrcSyncMode_still.narrow hR, cmdXptTake_still.narrow hR,
    cmdXptSalvoLoad_still.narrow hR, cmdXptSalvoFire_still.narrow hR, cmdXptProtect_still.narrow hR,
    cmdXptLock_still.narrow hR, cmdXptQuery_still.narrow hR, cmdPlaneControl_still.narrow hR,
    cmdPlaneStatus_still.narrow hR, cmdDstBind_still.narrow hR, cmdTxFlowSet_still.narrow hR,
    cmdDstStatus_still.narrow hR, cmdDstMitreSet_still.narrow hR, cmdAudGainSet_still.narrow hR,
    cmdAudGainBlock_still.narrow hR, cmdAudMapIn_still.narrow hR, cmdAudMapOut_still.narrow hR,
    cmdAudRampSet_still.narrow hR, hp.AudStatus⟩

/-- Every command of part C moves the part as a relation says. -/
theorem specsC_keeps {R : Still → Still → Prop} (hR : Chains R) :
    ∀ p ∈ specsC, p.Keeps R := by
  simp only [specsC, List.forall_mem_cons, List.not_mem_nil, false_imp_iff, implies_true, and_true]
  exact ⟨cmdAudFollow_still.narrow hR, cmdMqLayout_still.narrow hR, cmdMqVeneer_still.narrow hR,
    cmdMqFenceGroup_still.narrow hR, cmdMqOutput_still.narrow hR, cmdMqCompare_still.narrow hR,
    cmdMqStatus_still.narrow hR, cmdDtLinkUp_still.narrow hR, cmdDtStatus_still.narrow hR,
    cmdDtGroup_still.narrow hR, cmdDtTieReserve_still.narrow hR, cmdPairConfig_still.narrow hR,
    cmdPairStatus_still.narrow hR, cmdPairMirrorSet_still.narrow hR, cmdPairSwitch_still.narrow hR,
    cmdPairResync_still.narrow hR, cmdFaultRead_still.narrow hR, cmdFaultAck_still.narrow hR,
    cmdFaultMap_still.narrow hR, cmdFaultInject_still.narrow hR⟩

/-- Every command of part D moves the part as a relation says. -/
theorem specsD_keeps {R : Still → Still → Prop} (hR : Chains R) (hp : Answering R) :
    ∀ p ∈ specsD, p.Keeps R := by
  simp only [specsD, List.forall_mem_cons, List.not_mem_nil, false_imp_iff, implies_true, and_true]
  exact ⟨cmdSelftestRun_still.narrow hR, cmdKeyLoad_still.narrow hR, cmdKeyDerive_still.narrow hR,
    cmdKeyInvalidate_still.narrow hR, cmdKeyInfo_still.narrow hR, hp.Attest, hp.IdCertRead,
    cmdGrainConfig_still.narrow hR, cmdGrainWitness_still.narrow hR, cmdGrainSeal_still.narrow hR,
    cmdGrainStatus_still.narrow hR, cmdPwrTolerance_still.narrow hR, cmdPwrStatus_still.narrow hR,
    cmdPwrPin_still.narrow hR, cmdLaneConfig_still.narrow hR, cmdLaneEq_still.narrow hR,
    cmdLaneBitslip_still.narrow hR, cmdLanePrbs_still.narrow hR, cmdLaneEyescan_still.narrow hR,
    cmdPortConfig_still.narrow hR⟩

/-- Every command of part E moves the part as a relation says. -/
theorem specsE_keeps {R : Still → Still → Prop} (hR : Chains R) :
    ∀ p ∈ specsE, p.Keeps R := by
  simp only [specsE, List.forall_mem_cons, List.not_mem_nil, false_imp_iff, implies_true, and_true]
  exact cmdMacsecSc_still.narrow hR

/-- Every command of the table moves the part as a relation says. -/
theorem specOf_keeps {R : Still → Still → Prop} (hR : Chains R) (hp : Answering R) (op : Nat) (p : CmdSpec)
    (h : specOf op = some p) : p.Keeps R := by
  have hm := List.mem_of_find?_eq_some h
  simp only [List.mem_append] at hm
  rcases hm with (((hm | hm) | hm) | hm) | hm
  · exact specsA_keeps hR hp p hm
  · exact specsB_keeps hR hp p hm
  · exact specsC_keeps hR p hm
  · exact specsD_keeps hR hp p hm
  · exact specsE_keeps hR p hm

theorem State.actChain_keeps {R : Still → Still → Prop} (hR : Chains R) (ha : Answering R) (l : List (Nat × Cmd)) (s : State)
    (mb stamp : Nat) (t : State) (e : s.actChain mb stamp l = .acted t) : R s.still t.still := by
  induction l generalizing s with
  | nil => cases e; exact hR.refl _
  | cons q rest ih =>
    obtain ⟨id, c⟩ := q
    unfold State.actChain at e
    dsimp only at e
    split at e
    · cases e
    · rename_i p hp
      have key : ∀ u, u = ((s.updFlight id (fun f => { f with
          sess := (s.ctxOf mb c stamp id).sess
          rank := (s.ctxOf mb c stamp id).rank
          roles := (s.ctxOf mb c stamp id).roles })).carryOut p (s.ctxOf mb c stamp id)) → R s.still u.still := by
        intro u hu
        rw [hu]
        exact hR.trans (hR.of_eq (State.updFlight_still ..)) (State.carryOut_keeps hR _ _ _ (specOf_keeps hR ha _ _ hp))
      split at e
      · cases e
      · split at e
        · split at e
          · split at e
            · exact hR.trans (key _ rfl) (ih _ e)
            · cases e
          · exact hR.trans (key _ rfl) (ih _ e)
        · exact hR.trans (key _ rfl) (ih _ e)

/-- The four commands that answer into host memory keep the fixed part. -/
theorem answering_fixed : Answering SameFixed where
  TbStatus := cmdTbStatus_fixed
  AudStatus := cmdAudStatus_fixed
  Attest := cmdAttest_fixed
  IdCertRead := cmdIdCertRead_fixed

theorem State.faultRing_still (s : State) (n : Nat) : (State.faultRing s n).still = s.still := by
  simp only [State.faultRing, State.setErr_still, State.updMbox_still, still_mk]

theorem State.settleChain_still (s : State) (ids : List (Nat × Option Rep)) (rest : Rep) : (State.settleChain s
    ids rest).still = s.still := by
  simp only [State.settleChain]
  exact still_foldl _ (fun _ _ => State.settle_still ..) _ _

theorem State.acceptPlain_keeps {R : Still → Still → Prop} (hR : Chains R) (ha : Answering R) (s : State) (mb stamp : Nat) (ms : List (Nat × Cmd)) :
    R s.still (State.acceptPlain s mb stamp ms).still := by
  simp only [State.acceptPlain]
  split
  · exact hR.of_eq (State.settleChain_still ..)
  · rename_i t e
    split
    · exact State.actChain_keeps hR ha _ _ _ _ _ e
    · refine hR.of_eq ?_
      rw [still_foldl]
      · exact State.wakeAll_still ..
      · intros
        exact State.updFlight_still ..

theorem State.acceptTicks_keeps {R : Still → Still → Prop} (hR : Chains R) (ha : Answering R) (s : State) (mb stamp : Nat) (ms : List (Nat × Cmd)) :
    R s.still (State.acceptTicks s mb stamp ms).still := by
  simp only [State.acceptTicks]
  split
  · exact hR.of_eq (State.settleChain_still ..)
  · exact hR.of_eq (State.settleChain_still ..)
  · rename_i t e
    refine State.tickUnit_keeps hR _ _ ?_ _ e
    intro m hm
    simp only [List.mem_filterMap, Option.map_eq_some_iff] at hm
    obtain ⟨q, _, p, hp, rfl⟩ := hm
    exact specOf_keeps hR ha _ _ hp

theorem State.acceptChain_keeps {R : Still → Still → Prop} (hR : Chains R) (ha : Answering R) (s : State) (mb stamp : Nat) (ms : List (Nat × Cmd)) :
    R s.still (State.acceptChain s mb stamp ms).still := by
  simp only [State.acceptChain]
  repeat' split
  all_goals first
    | exact State.acceptTicks_keeps hR ha ..
    | exact State.acceptPlain_keeps hR ha ..
    | exact hR.of_eq (State.settleChain_still ..)

theorem State.enterAll_still (s : State) (mb stamp : Nat) (ids : List Nat) (z0 : List Cmd) : (State.enterAll s mb
    stamp ids z0).still = s.still := by
  induction z0 generalizing s with
  | nil => rfl
  | cons c cs ih => simp only [State.enterAll, ih, State.enter_still]

theorem State.fetch_keeps {R : Still → Still → Prop} (hR : Chains R) (ha : Answering R) (s : State) (n : Nat) (cs : List Cmd) :
    R s.still (State.fetch s n cs).still := by
  simp only [State.fetch]
  repeat' split
  · rename_i p hp
    refine hR.trans (hR.of_eq ?_) (State.acceptOne_keeps hR _ _ _ (specOf_keeps hR ha _ _ hp))
    rw [State.enterAll_still, State.updMbox_still]
  · exact hR.of_eq (by simp only [State.settle_still, State.enterAll_still, State.updMbox_still])
  · refine hR.trans (hR.of_eq ?_) (State.acceptChain_keeps hR ha ..)
    simp only [State.enterAll_still, State.updMbox_still]

theorem State.fetch_fixed (s : State) (n : Nat) (cs : List Cmd) : (State.fetch s n cs).still.fixed = s.still.fixed :=
  State.fetch_keeps chains_sameFixed answering_fixed ..

theorem execCommandFetch_fixed (s : State) : Keeps Still.fixed s (execCommandFetch s) := by
  simp only [execCommandFetch]
  repeat' split
  all_goals simp only [State.faultRing_still, State.fetch_fixed, fixed_mk, keeps_next]

theorem State.raiseCpl_still (s : State) (n : Nat) : (State.raiseCpl s n).still = s.still := by
  simp only [State.raiseCpl, State.raiseVector_still, State.updMbox_still, still_ite, ite_self]

theorem State.countCpl_still (s : State) (n : Nat) : (State.countCpl s n).still = s.still := by
  simp only [State.countCpl, State.raiseCpl_still, State.updMbox_still, still_ite, ite_self]

theorem State.writeCpl_fixed (s : State) (f : Flight) : (State.writeCpl s f).still.fixed = s.still.fixed := by
  simp only [State.writeCpl, State.countCpl_still, State.faultRing_still,
    State.putHost_fixed, State.updMbox_still, fixed_ite, ite_self]

theorem State.extendDigest_still (s : State) (f : Flight) (eff : List Byte) : (State.extendDigest s f eff).still
    = s.still := by
  simp only [State.extendDigest, still_mk, still_ite, ite_self]

theorem State.afterPost_still (s : State) (f : Flight) (eff : List Byte) (written : Bool) : (State.afterPost s f
    eff written).still = s.still := by
  simp only [State.afterPost, State.extendDigest_still, State.keyEvent_still, still_ite, ite_self]

theorem State.postOne_fixed (s : State) (f : Flight) : (State.postOne s f).still.fixed = s.still.fixed := by
  simp only [State.postOne, State.afterPost_still, State.writeCpl_fixed]

theorem execCompletionPost_fixed (id : Nat) (s : State) : Keeps Still.fixed s (execCompletionPost id s) := by
  simp only [execCompletionPost]
  repeat' split
  all_goals simp only [State.drawFree_still, State.postOne_fixed, State.takeoverDone_still, fixed_mk, fixed_foldl, implies_true, keeps_next]

theorem execCplHoldoffExpiry_still (mb : Nat) (s : State) : Keeps Still.whole s (execCplHoldoffExpiry mb s) := by
  simp only [execCplHoldoffExpiry]
  repeat' split
  all_goals simp only [State.raiseCpl_still, keeps_next, Still.whole]

theorem State.wakeOne_keeps {R : Still → Still → Prop} (hR : Chains R) (ha : Answering R) (s : State) (f : Flight) :
    R s.still (State.wakeOne s f).still := by
  simp only [State.wakeOne]
  split
  · exact hR.of_eq (State.updFlight_still ..)
  · exact hR.refl _
  · refine hR.trans (hR.of_eq ?_) (State.carryOut_keeps hR _ _ _ (specOf_keeps hR ha _ _ ‹_›))
    rw [State.updFlight_still]

theorem State.wakeOne_fixed (s : State) (f : Flight) : (State.wakeOne s f).still.fixed = s.still.fixed :=
  State.wakeOne_keeps chains_sameFixed answering_fixed ..


theorem State.wakeFlight_keeps {R : Still → Still → Prop} (hR : Chains R) (ha : Answering R) (s : State) (id : Nat) :
    R s.still (State.wakeFlight s id).still := by
  simp only [State.wakeFlight]
  split
  · split
    · exact State.wakeOne_keeps hR ha ..
    · exact hR.refl _
  · exact hR.refl _

theorem State.wakeFlight_fixed (s : State) (id : Nat) : (State.wakeFlight s id).still.fixed = s.still.fixed :=
  State.wakeFlight_keeps chains_sameFixed answering_fixed ..


theorem State.wakeFlights_fixed (s : State) : (State.wakeFlights s).still.fixed = s.still.fixed := by
  simp only [State.wakeFlights]
  exact fixed_foldl _ (fun _ _ => State.wakeFlight_fixed ..) _ _

theorem execPwrWakeComplete_fixed (dom us : Nat) (s : State) : Keeps Still.fixed s (execPwrWakeComplete dom us s) := by
  simp only [execPwrWakeComplete, State.setPdom_still, State.wakeFlights_fixed, implies_true, keeps_next, keeps_ite,
    and_self]

theorem State.wakeFailed_still (s : State) (dom : Nat) : (State.wakeFailed s dom).still = s.still := by
  simp only [State.wakeFailed, State.refuseWhere_still]

theorem execPwrWakeTimeout_still (dom : Nat) (s : State) : Keeps Still.whole s (execPwrWakeTimeout dom s) := by
  simp only [execPwrWakeTimeout, State.losePower_still, State.setPdom_still, State.strike_still,
    State.wakeFailed_still, implies_true, keeps_next, Still.whole,
    keeps_ite, and_self]

/-! ## Cutoff -/

theorem State.retick_still (s : State) (id d n : Nat) (late : Bool) : (State.retick s id d n late).still = s.still := rfl
theorem State.salvoCut_still (s : State) (f : Flight) : (State.salvoCut s f).still = s.still := by
  unfold State.salvoCut
  dsimp only
  repeat' split
  all_goals (try rfl)
  all_goals simp only [State.failFlight_still, State.skipTakes_still, State.updFlight_still, still_foldl, implies_true]

theorem State.defer_still (s : State) (chain : List Nat) (d n : Nat) : (State.defer s chain d n).still = s.still := by
  simp only [State.defer]
  rw [still_foldl _ (fun _ _ => State.retick_still ..)]
  split <;> simp only [State.allot_still, still_mk]

theorem State.deferUnit_still (s : State) (d n : Nat) (chain : List Nat) : (State.deferUnit s d n chain).still =
    s.still := by
  simp only [State.deferUnit]
  repeat' split
  all_goals simp only [State.defer_still, State.refuseWhere_still, State.reserveFor_still, State.retick_still, still_ite, still_foldl, ite_self, implies_true]

theorem State.deferAll_still (s : State) (d n : Nat) : (State.deferAll s d n).still = s.still := by
  simp only [State.deferAll, State.deferUnit_still, still_foldl, implies_true]

theorem State.refuseTie_still (s : State) (d p : Nat) : (State.refuseTie s d p).still = s.still := by
  simp only [State.refuseTie]
  repeat' split
  all_goals simp only [State.sendTie_still, still_mk]

theorem State.barTakes_still (s : State) (w : Staged) (dsts : List Nat) : (State.barTakes s w dsts).still = s.still := by
  simp only [State.barTakes, State.refuseTie_still, State.skipTakes_still, still_ite, still_foldl,
    ite_self, implies_true]

theorem State.recheckWork_still (s : State) (w : Staged) : (State.recheckWork s w).still = s.still := by
  simp only [State.recheckWork]
  repeat' split
  all_goals simp only [State.barTakes_still, State.failRest_still, State.skipTakes_still]

theorem State.contend_still (s : State) (ws : List Staged) (w : Staged) : (State.contend s ws w).still = s.still := by
  simp only [State.contend]
  repeat' split
  all_goals simp only [State.dropEmpty_still, State.entriesLost_still, State.updWork_still]

theorem State.judgeReads_still (s : State) (d n : Nat) (z0 : Nat) : (State.judgeReads s d n z0).still = s.still := by
  induction z0 generalizing s with
  | zero => rfl
  | succ k ih =>
    simp only [State.judgeReads]
    split
    · rfl
    · split <;> simp only [ih, State.barTakes_still, State.failRest_still]

theorem State.createRead_still (s : State) (d n : Nat) (kept : List ReadUse) (src : Nat) : (State.createRead s d
    n kept src).still = s.still := by
  simp only [State.createRead]
  repeat' split
  all_goals simp only [still_mk]

theorem State.writeNext_still (s : State) (dst : Nat) (e : XEntry) : (State.writeNext s dst e).still = s.still := rfl
theorem State.supersede_still (s : State) (d dst winner : Nat) : (State.supersede s d dst winner).still = s.still := by
  simp only [State.supersede, State.dropEmpty_still, State.entriesLost_still, State.updWork_still, still_foldl,
    implies_true]

theorem State.writeTake_still (s : State) (d n : Nat) (kept : List ReadUse) (w : Staged) (dst src : Nat) :
    (State.writeTake s d n kept w dst src).still = s.still := by
  simp only [State.writeTake, State.createRead_still, State.supersede_still, State.writeNext_still]

theorem State.cutAudio_still (s : State) (w : Staged) (all : List Entry) : (State.cutAudio s w all).still = s.still := by
  simp only [State.cutAudio, State.audioCut_still, still_ite, ite_self]

theorem State.cutRealign_still (s : State) (d n : Nat) : (State.cutRealign s d n).still = s.still := by
  simp only [State.cutRealign]
  repeat' split
  · rfl
  · exact still_foldl _ (fun _ _ => State.failFlight_still ..) _ _
  · rw [still_foldl]
    · exact State.updDom_still ..
    · intros
      split <;> simp only [State.mirror_still, State.updFlight_still]

theorem State.cutGuards_still (s : State) (d n : Nat) : (State.cutGuards s d n).still = s.still := by
  simp only [State.cutGuards]
  refine still_foldl _ (fun t w => ?_) _ _
  refine still_foldl _ (fun u e => ?_) _ _
  split
  · exact State.updDom_still ..
  · rfl

theorem State.sendDiverge_still (s : State) (paired : List Nat) : (State.sendDiverge s paired).still = s.still := by
  simp only [State.sendDiverge, State.pairEvent_still, State.sendFrame_still, still_mk]

theorem State.readyBanks_still (s : State) (d : Nat) (dsts sound : List Nat) : (State.readyBanks s d dsts
    sound).still = s.still := by
  simp only [State.readyBanks, State.sendDiverge_still, State.updDom_still, still_ite, ite_self]

theorem State.bankSealed_still (s : State) (d n : Nat) (hs : List (Nat × MirrorItem)) (ws : List AuWork) (es :
    List (Nat × Nat × Nat)) : (State.bankSealed s d n hs ws es).still = s.still := by
  simp only [State.bankSealed, State.readyBanks_still, State.sendItem_still, State.updDom_still, still_ite, still_foldl, ite_self, implies_true]

theorem State.confirmTies_still (s : State) (d n : Nat) (ports : List Nat) : (State.confirmTies s d n
    ports).still = s.still := by
  unfold State.confirmTies
  dsimp only
  rw [still_foldl]
  · rfl
  · intros
    rw [State.sendTie_still]

theorem State.sealWork_still (s : State) (d n : Nat) (all : List (Nat × List Entry)) : (State.sealWork s d n
    all).still = s.still := by
  simp only [State.sealWork, State.bankSealed_still, State.confirmTies_still, State.cutAudio_still,
    State.writeTake_still, still_mk, still_foldl, implies_true]

theorem State.cutoffAt_still (s : State) (d n : Nat) : (State.cutoffAt s d n).still = s.still := by
  simp only [State.cutoffAt, State.contend_still, State.cutGuards_still, State.cutRealign_still,
    State.deferAll_still, State.judgeReads_still, State.recheckWork_still, State.salvoCut_still,
    State.sealWork_still, State.sendReleases_still, State.updDom_still, still_foldl, implies_true]

theorem execTickCutoff_still (d : Nat) (s : State) : Keeps Still.whole s (execTickCutoff d s) := by
  simp only [execTickCutoff, State.cutoffAt_still, implies_true,
    keeps_next, Still.whole, keeps_ite, and_self]

/-! ## Ticks -/

theorem State.takeRecord_still (s : State) (d n : Nat) (w : Staged) (dst src : Nat) : (State.takeRecord s d n w
    dst src).still = s.still := by
  simp only [State.takeRecord, State.giveRecord_still, State.updFlight_still]

theorem State.salvoRecords_still (s : State) (d n : Nat) (w : Staged) : (State.salvoRecords s d n w).still =
    s.still := by
  simp only [State.salvoRecords, State.giveRecord_still, still_foldl, implies_true]

theorem State.bankRecords_still (s : State) (d n : Nat) (w : Staged) : (State.bankRecords s d n w).still = s.still := by
  simp only [State.bankRecords, State.salvoRecords_still, State.takeRecord_still, still_ite, still_foldl,
    ite_self, implies_true]

theorem State.takeDone_still (s : State) (d dst : Nat) : (State.takeDone s d dst).still = s.still := by
  simp only [State.takeDone, State.dropEmpty_still]
  refine still_foldl _ (fun t w => ?_) _ _
  simp only [State.effectDone_still, State.updWork_still]

theorem State.takeUpBank_still (s : State) (d n : Nat) : (State.takeUpBank s d n).still = s.still := by
  simp only [State.takeUpBank, State.bankRecords_still, still_foldl,
    implies_true]

theorem State.moveBank_still (s : State) (d n : Nat) : (State.moveBank s d n).still = s.still := by
  simp only [State.moveBank]
  split <;>
  · first | rw [State.strike_still] | skip
    rw [still_mk, still_foldl]
    · exact State.updDom_still ..
    · intros
      simp only [State.updWork_still, State.retick_still]

theorem State.replaceReads_still (s : State) (d n : Nat) : (State.replaceReads s d n).still = s.still := by
  simp only [State.replaceReads]
  exact still_foldl _ (fun _ _ => State.leaveTail_still ..) _ _

theorem State.judgeArming_still (s : State) (d n : Nat) : (State.judgeArming s d n).still = s.still := by
  simp only [State.judgeArming, State.moveBank_still, State.replaceReads_still, State.takeUpBank_still,
    State.updDom_still, still_ite, ite_self]

theorem execDomainArming_still (d : Nat) (s : State) : Keeps Still.whole s (execDomainArming d s) := by
  simp only [execDomainArming, State.judgeArming_still, implies_true,
    keeps_next, Still.whole, keeps_ite, and_self]

theorem State.pruneReads_still (s : State) (d : Nat) : (State.pruneReads s d).still = s.still := by
  simp only [State.pruneReads, State.leaveTail_still, still_mk, still_ite, still_foldl, ite_self, implies_true]

theorem State.flipEntries_still (s : State) (p n : Nat) : (State.flipEntries s p n).still = s.still := rfl
theorem State.flipPort_still (s : State) (d n p : Nat) : (State.flipPort s d n p).still = s.still := by
  simp only [State.flipPort, State.flipEntries_still, State.pruneReads_still, State.releaseTies_still,
    State.takeDone_still, still_ite, ite_self]

theorem execMitreFlip_still (dst : Nat) (s : State) : Keeps Still.whole s (execMitreFlip dst s) := by
  simp only [execMitreFlip, State.destJudge_still, State.flipPort_still, State.updDest_still, implies_true, keeps_next, Still.whole, keeps_ite, and_self]

theorem State.applyHold_still (s : State) (lk : Bool) (dst op sess : Nat) : (State.applyHold s lk dst op
    sess).still = s.still := by
  simp only [State.applyHold, State.updOut_still]

theorem State.applyEntry_still (s : State) (d n inst : Nat) (w : Staged) (e : Entry) : (State.applyEntry s d n
    inst w e).still = s.still := by
  simp only [State.applyEntry]
  repeat' split
  all_goals simp only [State.applyHold_still, State.effectDone_still, State.grainSealAt_still, State.keyOpAt_still,
    State.realignEvent_still]

theorem State.applyWork_still (s : State) (d n inst : Nat) (w : Staged) : (State.applyWork s d n inst w).still =
    s.still := by
  simp only [State.applyWork, State.applyEntry_still, State.beginFlip_still, State.dropEmpty_still,
    State.updWork_still, still_ite, still_foldl, ite_self, implies_true]

theorem State.releaseProtects_still (s : State) (d : Nat) : (State.releaseProtects s d).still = s.still := by
  simp only [State.releaseProtects, State.mirror_still, State.updOut_still, still_mk, still_foldl,
    implies_true]

theorem State.flipTaps_still (s : State) (d n : Nat) : (State.flipTaps s d n).still = s.still := by
  simp only [State.flipTaps, State.flipPort_still, still_ite, still_foldl, ite_self, implies_true]

theorem State.endTies_still (s : State) (d n : Nat) : (State.endTies s d n).still = s.still := by
  simp only [State.endTies, State.pruneReads_still]
  rw [still_foldl]
  · simp only [still_mk]
  · intros
    exact State.updOut_still ..

theorem State.mirroredRealigns_still (s : State) (d n : Nat) : (State.mirroredRealigns s d n).still = s.still := by
  simp only [State.mirroredRealigns, State.realignEvent_still, State.updDom_still, still_ite, still_foldl,
    ite_self, implies_true]

theorem State.scheduleNext_still (s : State) (d n : Nat) : (State.scheduleNext s d n).still = s.still := by
  simp only [State.scheduleNext, State.mirroredRealigns_still, State.realignAudio_still, State.updDom_still,
    still_ite, ite_self]

theorem State.pulse_still (s : State) (d inst : Nat) : (State.pulse s d inst).still = s.still := by
  simp only [State.pulse, State.updFpOut_still, still_ite, still_foldl, ite_self, implies_true]

theorem State.tickAt_still (s : State) (d n inst : Nat) : (State.tickAt s d n inst).still = s.still := by
  simp only [State.tickAt, State.applyWork_still, State.endTies_still, State.flipTaps_still,
    State.judgeArming_still, State.pulse_still, State.releaseProtects_still, State.replaceReads_still,
    State.scheduleNext_still, State.tellLinks_still, State.testFlips_still, State.updDom_still, still_ite,
    still_foldl, ite_self, implies_true]

theorem execTdTick_still (d : Nat) (s : State) : Keeps Still.whole s (execTdTick d s) := by
  simp only [execTdTick, State.tickAt_still, implies_true, keeps_next,
    Still.whole, keeps_ite, and_self]

theorem State.advance_still (s : State) : (State.advance s).still = s.still := by
  simp only [State.advance]
  rw [still_foldl, still_foldl]
  · simp only [still_mk]
  · intros
    exact State.updBase_still ..
  · intros
    split
    · exact State.updDom_still ..
    · rfl

/-! ## Mirror -/

theorem State.outOfStep_still (s : State) : (State.outOfStep s).still = s.still := by
  simp only [State.outOfStep, State.pairEnter_still, still_ite, ite_self]

theorem State.orStep_still (s : State) (ok : Bool) (t : State) (h : t.still = s.still) : (State.orStep s ok
    t).still = s.still := by
  simp only [State.orStep, State.outOfStep_still, h, still_ite, ite_self]

theorem State.mirrorTake_still (s : State) (d n : Nat) (e : Nat × Nat × Nat) : (State.mirrorTake s d n e).still =
    s.still := by
  simp only [State.mirrorTake, State.createRead_still, State.outOfStep_still, State.writeNext_still, still_ite,
    ite_self]

theorem State.mirrorAudio_still (s : State) (d n : Nat) (es : List Entry) : (State.mirrorAudio s d n es).still =
    s.still := rfl

theorem State.mirrorWork_still (s : State) (d n : Nat) (es own : List Entry) : (State.mirrorWork s d n es
    own).still = s.still := rfl

theorem State.mirrorRef_still (s : State) (c : Cmd) : (State.mirrorRef s c).still = s.still := by
  have h : ∀ (f : Domain → Domain), (s.orStep (s.dom c.td).hasTicks (s.updDom c.td f)).still = s.still :=
    fun f => State.orStep_still _ _ _ (State.updDom_still ..)
  simp only [State.mirrorRef, still_ite, State.setRanks_still, State.orStep_still _ _ _ (State.refConfig_still ..),
    State.orStep_still _ _ _ (State.refForce_still ..)]
  cases s.realignStep c.td c.tick <;> simp only [h, State.outOfStep_still, ite_self]

theorem State.mirrorMap_still (s : State) (d n : Nat) (out : Bool) (es : List (List Byte)) : (State.mirrorMap s d
    n out es).still = s.still := by
  exact State.orStep_still _ _ _ (State.mirrorAudio_still ..)

theorem State.mirrorHold_still (s : State) (e : Entry) (sess d n : Nat) : (State.mirrorHold s e sess d n).still =
    s.still := rfl

theorem State.applyItem_still (s : State) (item : MirrorItem) : (State.applyItem s item).still = s.still := by
  simp only [State.applyItem]
  split
  · split <;>
    · try rw [State.sendFrame_still]
      try rw [still_mk]
      rw [State.updDom_still]
      exact still_foldl _ (fun _ _ => State.mirrorTake_still ..) _ _
  · exact State.orStep_still _ _ _ (State.updOut_still ..)
  · exact State.orStep_still _ _ _ (State.updOut_still ..)
  · exact State.orStep_still _ _ _ (State.mirrorHold_still ..)
  · exact State.orStep_still _ _ _ (State.mirrorWork_still ..)
  · rfl
  · exact State.mirrorMap_still ..
  · exact State.mirrorMap_still ..
  · exact State.orStep_still _ _ _ (State.mirrorWork_still ..)
  · exact State.mirrorRef_still ..
  · rfl
  · rw [still_mk]
    exact State.pairModes_still ..
  · rfl

theorem execMirrorReceive_still (item : MirrorItem) (s : State) : Keeps Still.whole s (execMirrorReceive item s) := by
  simp only [execMirrorReceive, State.applyItem_still, implies_true,
    keeps_next, Still.whole, keeps_ite, and_self]

theorem execMirrorSnapshotRequest_still (s : State) : Keeps Still.whole s (execMirrorSnapshotRequest s) := by
  simp only [execMirrorSnapshotRequest, State.mirror_still, still_foldl, implies_true, keeps_next, Still.whole,
    keeps_ite, and_self]

/-! ## Reset -/

theorem State.boardLevels_still (s : State) : (State.boardLevels s).still = s.still := by
  simp only [State.boardLevels]
  repeat' split
  all_goals simp only [State.level_still, State.thermal_still]

theorem State.deriveKeys_still (s : State) : (State.deriveKeys s).still = s.still := rfl
theorem State.scramble_still (s : State) : (State.scramble s).still = s.still := still_mk ..
theorem State.romRuns_still (s : State) : (State.romRuns s).still = s.still := still_mk ..
theorem State.untrained_still (s : State) (hbm : List Bool) : (State.untrained s hbm).still = s.still := by
  simp only [State.untrained, State.level_still, still_ite, still_foldl, ite_self, implies_true]

theorem State.clusterSources_still (s : State) : (State.clusterSources s).still = s.still := by
  simp only [State.clusterSources, State.fall_still, State.level_still]

theorem State.thaw_still (s : State) : (State.thaw s).still = s.still := by
  simp only [State.thaw, State.lostMove_still, State.pairLegs_still, State.pairMove_still, still_mk, still_ite,
    ite_self]

end Sys2Proof.Machine
end

