-- ==== Sys2Proof/Laws/Exec.lean ====
section
/-! SUPPORT. What `exec` keeps, row by row: a row of reach `control` keeps the queue, the fuses, the straps, start-up and the
memories, and a row of reach `memory` all but the memories. -/
namespace Sys2Proof.Machine

open Sys2Proof.Safety

/-- A row of reach `control` keeps the whole part. -/
theorem exec_still {i : Instr} (hi : reach i = .control) (s : State) : Keeps Still.whole s (exec i s) := by
  cases i with
  | deviceInfo mb c => exact execDeviceInfo_still mb c s
  | fwStatus mb c => exact execFwStatus_still mb c s
  | sessionOpen mb c => exact execSessionOpen_still mb c s
  | sessionClose mb c => exact execSessionClose_still mb c s
  | nopEcho mb c => exact execNopEcho_still mb c s
  | tdConfig mb c => exact execTdConfig_still mb c s
  | refConfig mb c => exact execRefConfig_still mb c s
  | refPriority mb c => exact execRefPriority_still mb c s
  | refStatus mb c => exact execRefStatus_still mb c s
  | refForce mb c => exact execRefForce_still mb c s
  | fpRealign mb c => exact execFpRealign_still mb c s
  | cutoffSet mb c => exact execCutoffSet_still mb c s
  | tbConfig mb c => exact execTbConfig_still mb c s
  | tbOffset mb c => exact execTbOffset_still mb c s
  | tbStep mb c => exact execTbStep_still mb c s
  | ptpInstance mb c => exact execPtpInstance_still mb c s
  | tbStatus _ _ => cases hi
  | srcBind mb c => exact execSrcBind_still mb c s
  | srcStatus mb c => exact execSrcStatus_still mb c s
  | rxFlowSet mb c => exact execRxFlowSet_still mb c s
  | rxFlowClear mb c => exact execRxFlowClear_still mb c s
  | srcSyncMode mb c => exact execSrcSyncMode_still mb c s
  | xptTake mb c => exact execXptTake_still mb c s
  | xptSalvoLoad mb c => exact execXptSalvoLoad_still mb c s
  | xptSalvoFire mb c => exact execXptSalvoFire_still mb c s
  | xptProtect mb c => exact execXptProtect_still mb c s
  | xptLock mb c => exact execXptLock_still mb c s
  | xptQuery mb c => exact execXptQuery_still mb c s
  | planeControl mb c => exact execPlaneControl_still mb c s
  | planeStatus mb c => exact execPlaneStatus_still mb c s
  | dstBind mb c => exact execDstBind_still mb c s
  | txFlowSet mb c => exact execTxFlowSet_still mb c s
  | dstStatus mb c => exact execDstStatus_still mb c s
  | dstMitreSet mb c => exact execDstMitreSet_still mb c s
  | audGainSet mb c => exact execAudGainSet_still mb c s
  | audGainBlock mb c => exact execAudGainBlock_still mb c s
  | audMapIn mb c => exact execAudMapIn_still mb c s
  | audMapOut mb c => exact execAudMapOut_still mb c s
  | audRampSet mb c => exact execAudRampSet_still mb c s
  | audStatus _ _ => cases hi
  | audFollow mb c => exact execAudFollow_still mb c s
  | mqLayout mb c => exact execMqLayout_still mb c s
  | mqVeneer mb c => exact execMqVeneer_still mb c s
  | mqFenceGroup mb c => exact execMqFenceGroup_still mb c s
  | mqOutput mb c => exact execMqOutput_still mb c s
  | mqCompare mb c => exact execMqCompare_still mb c s
  | mqStatus mb c => exact execMqStatus_still mb c s
  | dtLinkUp mb c => exact execDtLinkUp_still mb c s
  | dtStatus mb c => exact execDtStatus_still mb c s
  | dtGroup mb c => exact execDtGroup_still mb c s
  | dtTieReserve mb c => exact execDtTieReserve_still mb c s
  | pairConfig mb c => exact execPairConfig_still mb c s
  | pairStatus mb c => exact execPairStatus_still mb c s
  | pairMirrorSet mb c => exact execPairMirrorSet_still mb c s
  | pairSwitch mb c => exact execPairSwitch_still mb c s
  | pairResync mb c => exact execPairResync_still mb c s
  | faultRead mb c => exact execFaultRead_still mb c s
  | faultAck mb c => exact execFaultAck_still mb c s
  | faultMap mb c => exact execFaultMap_still mb c s
  | faultInject mb c => exact execFaultInject_still mb c s
  | selftestRun mb c => exact execSelftestRun_still mb c s
  | keyLoad mb c => exact execKeyLoad_still mb c s
  | keyDerive mb c => exact execKeyDerive_still mb c s
  | keyInvalidate mb c => exact execKeyInvalidate_still mb c s
  | keyInfo mb c => exact execKeyInfo_still mb c s
  | attest _ _ => cases hi
  | idCertRead _ _ => cases hi
  | grainConfig mb c => exact execGrainConfig_still mb c s
  | grainWitness mb c => exact execGrainWitness_still mb c s
  | grainSeal mb c => exact execGrainSeal_still mb c s
  | grainStatus mb c => exact execGrainStatus_still mb c s
  | pwrTolerance mb c => exact execPwrTolerance_still mb c s
  | pwrStatus mb c => exact execPwrStatus_still mb c s
  | pwrPin mb c => exact execPwrPin_still mb c s
  | laneConfig mb c => exact execLaneConfig_still mb c s
  | laneEq mb c => exact execLaneEq_still mb c s
  | laneBitslip mb c => exact execLaneBitslip_still mb c s
  | lanePrbs mb c => exact execLanePrbs_still mb c s
  | laneEyescan mb c => exact execLaneEyescan_still mb c s
  | portConfig mb c => exact execPortConfig_still mb c s
  | macsecSc mb c => exact execMacsecSc_still mb c s
  | mbDoorbell mb value => exact execMbDoorbell_still mb value s
  | mbEnableSet mb => exact execMbEnableSet_still mb s
  | mbEnableClear mb => exact execMbEnableClear_still mb s
  | mbRingBaseWrite mb off value => exact execMbRingBaseWrite_still mb off value s
  | mbCplHead mb value => exact execMbCplHead_still mb value s
  | mbIrqCtrl mb value => exact execMbIrqCtrl_still mb value s
  | mbResetDevice _ _ => cases hi
  | mbResetCcOnly _ _ => cases hi
  | mbResetArmExpiry => exact execMbResetArmExpiry_still s
  | bootGo _ => cases hi
  | tsqEntry3Read m q => exact execTsqEntry3Read_still m q s
  | tbSecLRead m q => exact execTbSecLRead_still m q s
  | grainLastSeal0Read r => exact execGrainLastSeal0Read_still r s
  | lowHalfRead m a => exact execLowHalfRead_still m a s
  | clearOnRead m a => exact execClearOnRead_still m a s
  | dmaStart m ch => exact execDmaStart_still m ch s
  | dmaPause m ch => exact execDmaPause_still m ch s
  | dmaResume m ch => exact execDmaResume_still m ch s
  | dmaContinue m ch => exact execDmaContinue_still m ch s
  | dmaAbort m ch => exact execDmaAbort_still m ch s
  | dmaCqHeadWrite m ch value => exact execDmaCqHeadWrite_still m ch value s
  | plTestCtrlWrite m lane value => exact execPlTestCtrlWrite_still m lane value s
  | injOne m lane => exact execInjOne_still m lane s
  | registerWrite _ _ _ => cases hi
  | commandFetch => cases hi
  | completionPost _ => cases hi
  | cplHoldoffExpiry mb => exact execCplHoldoffExpiry_still mb s
  | tdTick d => exact execTdTick_still d s
  | tickCutoff d => exact execTickCutoff_still d s
  | domainArming d => exact execDomainArming_still d s
  | mitreFlip dst => exact execMitreFlip_still dst s
  | veneerWaitExpiry id => exact execVeneerWaitExpiry_still id s
  | audioBlockBoundary inp => exact execAudioBlockBoundary_still inp s
  | rampEnd ai ao => exact execRampEnd_still ai ao s
  | keyTick => exact execKeyTick_still s
  | drbgReseed => exact execDrbgReseed_still s
  | refEvaluation meas => exact execRefEvaluation_still meas s
  | candidateQualify cand => exact execCandidateQualify_still cand s
  | candidateDisqualify cand why => exact execCandidateDisqualify_still cand why s
  | pullEnd => exact execPullEnd_still s
  | lockDwellExpiry => exact execLockDwellExpiry_still s
  | holdoverHistoryValid => exact execHoldoverHistoryValid_still s
  | holdoverLimit => exact execHoldoverLimit_still s
  | ptpOffset inst stepcnt theta gm => exact execPtpOffset_still inst stepcnt theta gm s
  | masterTimeout base => exact execMasterTimeout_still base s
  | grandmasterChange inst gm => exact execGrandmasterChange_still inst gm s
  | ptpSyncSend inst port => exact execPtpSyncSend_still inst port s
  | ppsOutPulse => exact execPpsOutPulse_still s
  | txTimestamp port sub id => exact execTxTimestamp_still port sub id s
  | sdiHuntDwell lane => exact execSdiHuntDwell_still lane s
  | sdiLaneLock lane family ctle => exact execSdiLaneLock_still lane family ctle s
  | sdiLockLoss lane => exact execSdiLockLoss_still lane s
  | formatValid src sig => exact execFormatValid_still src sig s
  | budgetHoldResume => exact execBudgetHoldResume_still s
  | lineArrival src l => exact execLineArrival_still src l s
  | outOfWindow src => exact execOutOfWindow_still src s
  | lineRelease src => exact execLineRelease_still src s
  | ethFrameReceive _ _ => cases hi
  | lineClose src line => exact execLineClose_still src line s
  | legTimeout src leg => exact execLegTimeout_still src leg s
  | readoutFrameStart src td => exact execReadoutFrameStart_still src td s
  | lossHoldExpiry src td => exact execLossHoldExpiry_still src td s
  | readoutLineRelease src td line => exact execReadoutLineRelease_still src td line s
  | hbmReadError stack err => exact execHbmReadError_still stack err s
  | stackReturnComplete _ => cases hi
  | hbmScrub stack err => exact execHbmScrub_still stack err s
  | dstFrameStart dst => exact execDstFrameStart_still dst s
  | egressLineReceive dst a b => exact execEgressLineReceive_still dst a b s
  | egressLineSend dst ancFit => exact execEgressLineSend_still dst ancFit s
  | audioPacketSend tf => exact execAudioPacketSend_still tf s
  | frameDigest dst => exact execFrameDigest_still dst s
  | mqFrameStart engine => exact execMqFrameStart_still engine s
  | mqCompareReport _ _ _ => cases hi
  | faultLatch source line => exact execFaultLatch_still source line s
  | ccFailure cluster => exact execCcFailure_still cluster s
  | ccTakeover => exact execCcTakeover_still s
  | icTimeout m write space addr => exact execIcTimeout_still m write space addr s
  | dmaDescriptorStart _ => cases hi
  | dmaBlock _ => cases hi
  | dmaDescriptorComplete _ => cases hi
  | dmaHalt _ _ => cases hi
  | dmaLoopSuspect _ => cases hi
  | dmaPaceRequest ch fill => exact execDmaPaceRequest_still ch fill s
  | hpTxPoll _ => cases hi
  | ethSubportLinkUp port sub => exact execEthSubportLinkUp_still port sub s
  | ethSubportLinkDown port sub fault => exact execEthSubportLinkDown_still port sub fault s
  | prbsCheckerLock lane seen => exact execPrbsCheckerLock_still lane seen s
  | eyescanComplete _ _ => cases hi
  | selftestComplete id result => exact execSelftestComplete_still id result s
  | planeOfflineComplete plane => exact execPlaneOfflineComplete_still plane s
  | planeLoaded plane => exact execPlaneLoaded_still plane s
  | planeShadowPass plane => exact execPlaneShadowPass_still plane s
  | dtNegotiationRecord link rec => exact execDtNegotiationRecord_still link rec s
  | dtTrainingResult link lanes => exact execDtTrainingResult_still link lanes s
  | dtStepTimeout link => exact execDtStepTimeout_still link s
  | dtLinkFrame link f => exact execDtLinkFrame_still link f s
  | dtAuthFailLimit link => exact execDtAuthFailLimit_still link s
  | dtKeyRenewal link receive => exact execDtKeyRenewal_still link receive s
  | dtLaneFailNoSpare link lane => exact execDtLaneFailNoSpare_still link lane s
  | dtLinkDown link => exact execDtLinkDown_still link s
  | dtGroupTickStamp link cycles => exact execDtGroupTickStamp_still link cycles s
  | dtAlignExchange link d rec => exact execDtAlignExchange_still link d rec s
  | dtReservation link r => exact execDtReservation_still link r s
  | dtReservationConfirm link r => exact execDtReservationConfirm_still link r s
  | dtTieRelease link src td tick => exact execDtTieRelease_still link src td tick s
  | dtTieLineRelease link src td l => exact execDtTieLineRelease_still link src td l s
  | heartbeatSend => exact execHeartbeatSend_still s
  | heartbeatReceive path bytes => exact execHeartbeatReceive_still path bytes s
  | pairingPathLost path => exact execPairingPathLost_still path s
  | partnerLost => exact execPartnerLost_still s
  | peerNotAlive high => exact execPeerNotAlive_still high s
  | clampGntStable => exact execClampGntStable_still s
  | clampGntDeassert => exact execClampGntDeassert_still s
  | mirrorReceive item => exact execMirrorReceive_still item s
  | mirrorAck d tick => exact execMirrorAck_still d tick s
  | mirrorAckTimeout d => exact execMirrorAckTimeout_still d s
  | mirrorTbOffset base stepcnt theta => exact execMirrorTbOffset_still base stepcnt theta s
  | divergeReceive map => exact execDivergeReceive_still map s
  | joinComplete => exact execJoinComplete_still s
  | grainRecord => exact execGrainRecord_still s
  | grainForwardReceive rec => exact execGrainForwardReceive_still rec s
  | grainPeriodicSeal => exact execGrainPeriodicSeal_still s
  | pwrfailAssert => exact execPwrfailAssert_still s
  | pwrfailSeal => exact execPwrfailSeal_still s
  | pwrfailDeassert => exact execPwrfailDeassert_still s
  | oscInLoss => exact execOscInLoss_still s
  | temperatureSample readings => exact execTemperatureSample_still readings s
  | thermalTrip => cases hi
  | powerOnReset _ => cases hi
  | resetNAssert => cases hi
  | resetNRelease _ _ _ => cases hi
  | deviceResetRouterDie _ => cases hi
  | ccOnlyResetRelease _ => cases hi
  | ucieTrainTimeout => cases hi
  | imageAccept _ => cases hi
  | ready _ => cases hi
  | pwrDomainIdle dom => exact execPwrDomainIdle_still dom s
  | pwrWakeComplete _ _ => cases hi
  | pwrWakeTimeout dom => exact execPwrWakeTimeout_still dom s
  | injectedHoldExpiry source => exact execInjectedHoldExpiry_still source s
  | grainForwardAck => exact execGrainForwardAck_still s
  | delayReqSend inst port => exact execDelayReqSend_still inst port s
  | debugPortTransaction _ _ _ => cases hi
  | pwrDomainEntryComplete dom => exact execPwrDomainEntryComplete_still dom s
  | mirrorSnapshotRequest => exact execMirrorSnapshotRequest_still s

/-- A row of reach `memory` keeps the queue, the fuses, the straps and start-up. -/
theorem exec_fixed {i : Instr} (hi : reach i = .memory) (s : State) : Keeps Still.fixed s (exec i s) := by
  cases i with
  | deviceInfo _ _ => cases hi
  | fwStatus _ _ => cases hi
  | sessionOpen _ _ => cases hi
  | sessionClose _ _ => cases hi
  | nopEcho _ _ => cases hi
  | tdConfig _ _ => cases hi
  | refConfig _ _ => cases hi
  | refPriority _ _ => cases hi
  | refStatus _ _ => cases hi
  | refForce _ _ => cases hi
  | fpRealign _ _ => cases hi
  | cutoffSet _ _ => cases hi
  | tbConfig _ _ => cases hi
  | tbOffset _ _ => cases hi
  | tbStep _ _ => cases hi
  | ptpInstance _ _ => cases hi
  | tbStatus mb c => exact execTbStatus_fixed mb c s
  | srcBind _ _ => cases hi
  | srcStatus _ _ => cases hi
  | rxFlowSet _ _ => cases hi
  | rxFlowClear _ _ => cases hi
  | srcSyncMode _ _ => cases hi
  | xptTake _ _ => cases hi
  | xptSalvoLoad _ _ => cases hi
  | xptSalvoFire _ _ => cases hi
  | xptProtect _ _ => cases hi
  | xptLock _ _ => cases hi
  | xptQuery _ _ => cases hi
  | planeControl _ _ => cases hi
  | planeStatus _ _ => cases hi
  | dstBind _ _ => cases hi
  | txFlowSet _ _ => cases hi
  | dstStatus _ _ => cases hi
  | dstMitreSet _ _ => cases hi
  | audGainSet _ _ => cases hi
  | audGainBlock _ _ => cases hi
  | audMapIn _ _ => cases hi
  | audMapOut _ _ => cases hi
  | audRampSet _ _ => cases hi
  | audStatus mb c => exact execAudStatus_fixed mb c s
  | audFollow _ _ => cases hi
  | mqLayout _ _ => cases hi
  | mqVeneer _ _ => cases hi
  | mqFenceGroup _ _ => cases hi
  | mqOutput _ _ => cases hi
  | mqCompare _ _ => cases hi
  | mqStatus _ _ => cases hi
  | dtLinkUp _ _ => cases hi
  | dtStatus _ _ => cases hi
  | dtGroup _ _ => cases hi
  | dtTieReserve _ _ => cases hi
  | pairConfig _ _ => cases hi
  | pairStatus _ _ => cases hi
  | pairMirrorSet _ _ => cases hi
  | pairSwitch _ _ => cases hi
  | pairResync _ _ => cases hi
  | faultRead _ _ => cases hi
  | faultAck _ _ => cases hi
  | faultMap _ _ => cases hi
  | faultInject _ _ => cases hi
  | selftestRun _ _ => cases hi
  | keyLoad _ _ => cases hi
  | keyDerive _ _ => cases hi
  | keyInvalidate _ _ => cases hi
  | keyInfo _ _ => cases hi
  | attest mb c => exact execAttest_fixed mb c s
  | idCertRead mb c => exact execIdCertRead_fixed mb c s
  | grainConfig _ _ => cases hi
  | grainWitness _ _ => cases hi
  | grainSeal _ _ => cases hi
  | grainStatus _ _ => cases hi
  | pwrTolerance _ _ => cases hi
  | pwrStatus _ _ => cases hi
  | pwrPin _ _ => cases hi
  | laneConfig _ _ => cases hi
  | laneEq _ _ => cases hi
  | laneBitslip _ _ => cases hi
  | lanePrbs _ _ => cases hi
  | laneEyescan _ _ => cases hi
  | portConfig _ _ => cases hi
  | macsecSc _ _ => cases hi
  | mbDoorbell _ _ => cases hi
  | mbEnableSet _ => cases hi
  | mbEnableClear _ => cases hi
  | mbRingBaseWrite _ _ _ => cases hi
  | mbCplHead _ _ => cases hi
  | mbIrqCtrl _ _ => cases hi
  | mbResetDevice _ _ => cases hi
  | mbResetCcOnly _ _ => cases hi
  | mbResetArmExpiry => cases hi
  | bootGo _ => cases hi
  | tsqEntry3Read _ _ => cases hi
  | tbSecLRead _ _ => cases hi
  | grainLastSeal0Read _ => cases hi
  | lowHalfRead _ _ => cases hi
  | clearOnRead _ _ => cases hi
  | dmaStart _ _ => cases hi
  | dmaPause _ _ => cases hi
  | dmaResume _ _ => cases hi
  | dmaContinue _ _ => cases hi
  | dmaAbort _ _ => cases hi
  | dmaCqHeadWrite _ _ _ => cases hi
  | plTestCtrlWrite _ _ _ => cases hi
  | injOne _ _ => cases hi
  | registerWrite _ _ _ => cases hi
  | commandFetch => exact execCommandFetch_fixed s
  | completionPost id => exact execCompletionPost_fixed id s
  | cplHoldoffExpiry _ => cases hi
  | tdTick _ => cases hi
  | tickCutoff _ => cases hi
  | domainArming _ => cases hi
  | mitreFlip _ => cases hi
  | veneerWaitExpiry _ => cases hi
  | audioBlockBoundary _ => cases hi
  | rampEnd _ _ => cases hi
  | keyTick => cases hi
  | drbgReseed => cases hi
  | refEvaluation _ => cases hi
  | candidateQualify _ => cases hi
  | candidateDisqualify _ _ => cases hi
  | pullEnd => cases hi
  | lockDwellExpiry => cases hi
  | holdoverHistoryValid => cases hi
  | holdoverLimit => cases hi
  | ptpOffset _ _ _ _ => cases hi
  | masterTimeout _ => cases hi
  | grandmasterChange _ _ => cases hi
  | ptpSyncSend _ _ => cases hi
  | ppsOutPulse => cases hi
  | txTimestamp _ _ _ => cases hi
  | sdiHuntDwell _ => cases hi
  | sdiLaneLock _ _ _ => cases hi
  | sdiLockLoss _ => cases hi
  | formatValid _ _ => cases hi
  | budgetHoldResume => cases hi
  | lineArrival _ _ => cases hi
  | outOfWindow _ => cases hi
  | lineRelease _ => cases hi
  | ethFrameReceive port f => exact execEthFrameReceive_fixed port f s
  | lineClose _ _ => cases hi
  | legTimeout _ _ => cases hi
  | readoutFrameStart _ _ => cases hi
  | lossHoldExpiry _ _ => cases hi
  | readoutLineRelease _ _ _ => cases hi
  | hbmReadError _ _ => cases hi
  | stackReturnComplete stack => exact execStackReturnComplete_fixed stack s
  | hbmScrub _ _ => cases hi
  | dstFrameStart _ => cases hi
  | egressLineReceive _ _ _ => cases hi
  | egressLineSend _ _ => cases hi
  | audioPacketSend _ => cases hi
  | frameDigest _ => cases hi
  | mqFrameStart _ => cases hi
  | mqCompareReport engine low second => exact execMqCompareReport_fixed engine low second s
  | faultLatch _ _ => cases hi
  | ccFailure _ => cases hi
  | ccTakeover => cases hi
  | icTimeout _ _ _ _ => cases hi
  | dmaDescriptorStart ch => exact execDmaDescriptorStart_fixed ch s
  | dmaBlock ch => exact execDmaBlock_fixed ch s
  | dmaDescriptorComplete ch => exact execDmaDescriptorComplete_fixed ch s
  | dmaHalt ch err => exact execDmaHalt_fixed ch err s
  | dmaLoopSuspect ch => exact execDmaLoopSuspect_fixed ch s
  | dmaPaceRequest _ _ => cases hi
  | hpTxPoll port => exact execHpTxPoll_fixed port s
  | ethSubportLinkUp _ _ => cases hi
  | ethSubportLinkDown _ _ _ => cases hi
  | prbsCheckerLock _ _ => cases hi
  | eyescanComplete lane scan => exact execEyescanComplete_fixed lane scan s
  | selftestComplete _ _ => cases hi
  | planeOfflineComplete _ => cases hi
  | planeLoaded _ => cases hi
  | planeShadowPass _ => cases hi
  | dtNegotiationRecord _ _ => cases hi
  | dtTrainingResult _ _ => cases hi
  | dtStepTimeout _ => cases hi
  | dtLinkFrame _ _ => cases hi
  | dtAuthFailLimit _ => cases hi
  | dtKeyRenewal _ _ => cases hi
  | dtLaneFailNoSpare _ _ => cases hi
  | dtLinkDown _ => cases hi
  | dtGroupTickStamp _ _ => cases hi
  | dtAlignExchange _ _ _ => cases hi
  | dtReservation _ _ => cases hi
  | dtReservationConfirm _ _ => cases hi
  | dtTieRelease _ _ _ _ => cases hi
  | dtTieLineRelease _ _ _ _ => cases hi
  | heartbeatSend => cases hi
  | heartbeatReceive _ _ => cases hi
  | pairingPathLost _ => cases hi
  | partnerLost => cases hi
  | peerNotAlive _ => cases hi
  | clampGntStable => cases hi
  | clampGntDeassert => cases hi
  | mirrorReceive _ => cases hi
  | mirrorAck _ _ => cases hi
  | mirrorAckTimeout _ => cases hi
  | mirrorTbOffset _ _ _ => cases hi
  | divergeReceive _ => cases hi
  | joinComplete => cases hi
  | grainRecord => cases hi
  | grainForwardReceive _ => cases hi
  | grainPeriodicSeal => cases hi
  | pwrfailAssert => cases hi
  | pwrfailSeal => cases hi
  | pwrfailDeassert => cases hi
  | oscInLoss => cases hi
  | temperatureSample _ => cases hi
  | thermalTrip => cases hi
  | powerOnReset _ => cases hi
  | resetNAssert => cases hi
  | resetNRelease _ _ _ => cases hi
  | deviceResetRouterDie _ => cases hi
  | ccOnlyResetRelease _ => cases hi
  | ucieTrainTimeout => cases hi
  | imageAccept _ => cases hi
  | ready _ => cases hi
  | pwrDomainIdle _ => cases hi
  | pwrWakeComplete dom us => exact execPwrWakeComplete_fixed dom us s
  | pwrWakeTimeout _ => cases hi
  | injectedHoldExpiry _ => cases hi
  | grainForwardAck => cases hi
  | delayReqSend _ _ => cases hi
  | debugPortTransaction _ _ _ => cases hi
  | pwrDomainEntryComplete _ => cases hi
  | mirrorSnapshotRequest => cases hi

end Sys2Proof.Machine
end

