-- ==== Sys2Proof/Laws/Faults.lean ====
section
/-! SUPPORT. What a fault source that fires leaves alone, whatever its action: the time bases, the time-stamp queues and the
Grain chain. -/
namespace Sys2Proof.Machine

/-- The part of the state that no fault action reaches: the time bases and time-stamp queues, and the chain with the records
staged in it. -/
def State.core (s : State) : Tbl TimeBase × Tbl Tsq × BitVec 384 × Nat × List Byte :=
  (s.tb, s.tsq, s.gr.head, s.gr.count, s.gr.staged)

/-- An update of the other fields keeps it. -/
theorem core_mk (s : State)
    (x0 : List Instr) (x4 : Fuses) (x5 : Straps) (x6 : Startup) (x1 : Nat) (x2 : Int) (x3 : Nat) (x7 : Glb) (x8
    : Pins) (x9 : Boot) (x10 : Tbl Mailbox) (x11 : Bx) (x12 : Rf) (x13 : Tbl Domain) (x15 : Tbl Ptp) (x17 : Tbl Source) (x18 : Tbl RxFlow) (x19 : Tbl Ring) (x20 : List Readout) (x21 : Tbl Stack) (x22 :
    Nat) (x23 : Tbl OutPort) (x24 : Plane) (x25 : Plane) (x26 : Nat) (x27 : Tbl (Option FabLine)) (x28 : Tbl
    Dest) (x29 : Tbl TxFlow) (x30 : Au) (x31 : Tbl Engine) (x32 : Tbl Veneer) (x33 : Tbl Link) (x34 : List Tie)
    (x35 : List Tie) (x36 : Group) (x37 : Tbl (List Byte)) (x38 : Pairing) (x39 : Tbl FaultSrc) (x40 : Nat)
    (x41 : Ks) (x43 : Ic) (x44 : Tbl Chan) (x45 : Nat) (x46 : Memory) (x47 : Memory) (x47b : Memory) (x48 : Memory) (x49 : List
    (Nat × Nat)) (x50 : Tbl Lane) (x51 : Tbl Port) (x52 : Tbl Subport) (x53 : Tbl PwrDomain) (x54 : Tbl Nat) :
    (State.mk
      x0 x1 x2 x3 x4 x5 x6 x7 x8 x9 x10 x11 x12 x13 s.tb x15 s.tsq x17 x18 x19 x20 x21 x22 x23 x24 x25 x26 x27 x28
      x29 x30 x31 x32 x33 x34 x35 x36 x37 x38 x39 x40 x41 s.gr x43 x44 x45 x46 x47 x47b x48 x49 x50 x51 x52
      x53 x54).core = s.core := rfl

/-- A choice between two states. -/
theorem core_ite (c : Prop) [Decidable c] (a b : State) : (if c then a else b).core = if c then a.core else b.core := by
  split <;> rfl

/-- Changes one after another keep it when each does. -/
theorem core_foldl {α : Type} (f : State → α → State) (h : ∀ t x, (f t x).core = t.core) (l : List α) (s : State) :
    (l.foldl f s).core = s.core := by
  induction l generalizing s with
  | nil => rfl
  | cons a l ih => simp only [List.foldl_cons, ih, h]

theorem State.giveRecord_core (s : State) (type inst : Nat) (tick : Option (Nat × Nat)) (body : List Byte)
    (id : Option Nat) : (s.giveRecord type inst tick body id).core = s.core := by
  unfold State.giveRecord
  split
  · rfl
  · split
    · rfl
    · cases id <;> rfl

theorem State.pairEvent_core (s : State) (event a b : Nat) (map : List Byte) : (s.pairEvent event a b map).core = s.core :=
  State.giveRecord_core ..

theorem State.sendFrame_core (s : State) (k : Nat) (body : LinkBody) : (s.sendFrame k body).core = s.core := by
  unfold State.sendFrame
  dsimp only
  split
  · rfl
  · split <;> rfl

theorem State.eventBeat_core (s : State) : s.eventBeat.core = s.core := by
  unfold State.eventBeat
  split
  · rfl
  · exact State.sendFrame_core ..

theorem State.dropRoles_core (s : State) : s.dropRoles.core = s.core := by
  unfold State.dropRoles
  split
  · dsimp only
    split
    · exact State.pairEvent_core ..
    · exact State.pairEvent_core ..
  · rfl

theorem State.pairGo_core (s : State) (goal : PairState) : (s.pairGo goal).core = s.core := by
  unfold State.pairGo
  split
  · rfl
  · rw [State.eventBeat_core, State.pairEvent_core]
    split
    · exact State.dropRoles_core s
    · rfl

theorem State.faultEvent_core (s : State) (n event subject : Nat) : (s.faultEvent n event subject).core = s.core :=
  State.giveRecord_core ..

theorem State.stateEvent_core (s : State) (event subject state : Nat) : (s.stateEvent event subject state).core = s.core :=
  State.giveRecord_core ..

theorem State.failover_core (s : State) (port : Nat) (b : Bool) : (s.failover port b).core = s.core := by
  unfold State.failover
  dsimp only
  split <;> rfl

theorem State.failoverAll_core (s : State) (b : Bool) : (s.failoverAll b).core = s.core :=
  core_foldl _ (fun _ _ => State.failover_core ..) _ _

theorem State.spareLane_core (s : State) (k lane : Nat) : (s.spareLane k lane).core = s.core := by
  unfold State.spareLane
  dsimp only
  split
  · split <;> rfl
  · rfl

theorem State.freezeNow_core (s : State) : s.freezeNow.core = s.core := by
  unfold State.freezeNow
  dsimp only
  split
  · rfl
  · rw [State.pairGo_core]; rfl

theorem State.escalate_core (s : State) (n : Nat) : (s.escalate n).core = s.core := by
  unfold State.escalate
  dsimp only
  split
  · exact State.faultEvent_core ..
  · exact State.faultEvent_core ..

theorem State.latch_core (s : State) (n : Nat) (syn adr : Word) (subject : Nat) : (s.latch n syn adr subject).core = s.core := by
  unfold State.latch
  split
  · rfl
  · dsimp only
    split
    · rfl
    · rw [core_foldl _ (fun _ _ => State.escalate_core ..)]
      repeat' split
      all_goals
        first
        | exact State.faultEvent_core ..
        | exact (State.faultEvent_core ..).trans (State.faultEvent_core ..)

theorem State.failRemote_core (s : State) (p : Tie → Bool) (r : Rep) : (s.failRemote p r).core = s.core := by
  unfold State.failRemote
  exact core_foldl (fun (u : State) i => u.settleWhere (fun f => f.id == i) r) (fun _ _ => rfl) _ s

theorem State.refStopped_core (s : State) : s.refStopped.core = s.core := by
  unfold State.refStopped
  dsimp only
  split
  · exact State.latch_core ..
  · rfl

theorem State.settleWhere_core (s : State) (p : Flight → Bool) (r : Rep) : (s.settleWhere p r).core = s.core := rfl

theorem State.setLink_core (s : State) (k : Nat) (v : Link) : (s.setLink k v).core = s.core := rfl

theorem State.setStack_core (s : State) (k : Nat) (v : Stack) : (s.setStack k v).core = s.core := rfl

theorem State.drawFree_core (s : State) : s.drawFree.core = s.core := rfl

theorem State.refreshClamp_core (s : State) : s.refreshClamp.core = s.core := rfl

theorem State.unpaired_core (s : State) (k : Nat) : (s.unpaired k).core = s.core := by
  unfold State.unpaired
  split <;> rfl

theorem State.updFault_core (s : State) (n : Nat) (f : FaultSrc → FaultSrc) : (s.updFault n f).core = s.core := rfl

theorem State.stopLink_core (s : State) (k : Nat) : (s.stopLink k).core = s.core := by
  simp only [State.stopLink]
  repeat' split
  all_goals simp only [State.latch_core, State.drawFree_core, core_mk, State.failRemote_core, State.settleWhere_core,
    State.refStopped_core, State.stateEvent_core, State.setLink_core, State.unpaired_core, State.updFault_core]

theorem State.aliveRelease_core (s : State) : s.aliveRelease.core = s.core := by
  simp only [State.aliveRelease, State.dropRoles_core, State.eventBeat_core, State.refreshClamp_core, core_mk,
    core_ite, ite_self, core_foldl, State.stopLink_core, implies_true]

theorem State.mirrorSwitch_core (s : State) (st : Nat) : (s.mirrorSwitch st).core = s.core := by
  simp only [State.mirrorSwitch, State.aliveRelease_core, State.drawFree_core, State.latch_core,
    State.setStack_core, core_ite, ite_self]

theorem State.act_core (s : State) (n action subject : Nat) : (s.act n action subject).core = s.core := by
  unfold State.act
  repeat' split
  all_goals simp only [State.failover_core, State.failoverAll_core, State.mirrorSwitch_core, State.spareLane_core,
    State.freezeNow_core, State.aliveRelease_core]

/-- A source that fires leaves the time bases and the chain as they were. -/
theorem State.fire_core (s : State) (n : Nat) (syn adr : Word) (subject : Nat) : (s.fire n syn adr subject).core = s.core := by
  unfold State.fire
  dsimp only
  split
  · exact (State.act_core ..).trans (State.latch_core ..)
  · exact State.latch_core ..

theorem State.strike_core (s : State) (n subject : Nat) : (s.strike n subject).core = s.core := State.fire_core ..

theorem State.fall_core (s : State) (n : Nat) : (s.fall n).core = s.core := by
  unfold State.fall
  split <;> rfl

theorem State.level_core (s : State) (n : Nat) (cond : Bool) (subject : Nat) : (s.level n cond subject).core = s.core := by
  unfold State.level
  split
  · split
    · rfl
    · exact State.strike_core ..
  · exact State.fall_core ..

/-! ## The reference and the time bases -/

theorem State.refGo_core (s : State) (goal : RefState) : (s.refGo goal).core = s.core := by
  unfold State.refGo
  split
  · rfl
  · exact (State.level_core ..).trans ((State.level_core ..).trans (State.giveRecord_core ..))

theorem State.setCand2_core (s : State) (c : Option Nat) : (s.setCand2 c).core = s.core := by
  unfold State.setCand2
  split
  · rfl
  · exact State.giveRecord_core ..

theorem State.refHold_core (s : State) : s.refHold.core = s.core := by
  unfold State.refHold
  split
  · exact (State.refGo_core ..).trans (State.setCand2_core ..)
  · exact State.setCand2_core ..

/-- A candidate that is disqualified leaves the time bases as they were. -/
theorem State.disqualify_core (s : State) (c : Nat) : (s.disqualify c).core = s.core := by
  unfold State.disqualify
  dsimp only
  split
  · split
    · exact (State.refHold_core _).trans (State.strike_core ..)
    · exact State.strike_core ..
  · rfl

/-- A step of a base sets its time and adds 1 to its step count, and leaves every other base (R119). -/
theorem State.tbStep_tb (s : State) (n time : Nat) :
    (s.tbStep n time).tb = (s.setBase n { s.base n with time := time, stepcnt := ((s.base n).stepcnt + 1) % 256 }).tb :=
  congrArg Prod.fst ((State.disqualify_core ..).trans (State.giveRecord_core ..))

/-- A state whose bases are those of another but for one base with the same step count. -/
theorem stepcnt_of {s t : State} {n : Nat} {b : TimeBase} (e : t.tb = (s.setBase n b).tb)
    (h : b.stepcnt = (s.base n).stepcnt) (k : Nat) : (t.base k).stepcnt = (s.base k).stepcnt := by
  have q : t.base k = (s.setBase n b).base k := congrArg (fun l => Tbl.get _ l k) e
  rw [q]
  by_cases c : k = n
  · rw [c, State.base_setBase, h]
  · rw [State.base_setBase_ne _ _ c]

/-- A change of a base's state changes no step count. -/
theorem State.tbGo_stepcnt (s : State) (n k : Nat) (goal : TbState) : ((s.tbGo n goal).base k).stepcnt = (s.base k).stepcnt := by
  have h : ∀ t : State, t.core = (s.setBase n { s.base n with state := goal }).core →
      (t.base k).stepcnt = (s.base k).stepcnt := fun t e => stepcnt_of (congrArg Prod.fst e) rfl k
  by_cases c : (s.base n).state = goal
  · simp only [State.tbGo, c, if_true]
  · cases goal
    · refine h _ ?_
      simp only [State.tbGo, c, if_false]
      exact State.giveRecord_core ..
    · refine h _ ?_
      simp only [State.tbGo, c, if_false]
      rw [State.disqualify_core]
      split
      · exact (State.level_core ..).trans (State.giveRecord_core ..)
      · exact State.giveRecord_core ..
    · refine h _ ?_
      simp only [State.tbGo, c, if_false]
      exact (State.level_core ..).trans (State.giveRecord_core ..)

end Sys2Proof.Machine
end

