-- ==== Sys2Proof/Laws/Memories.lean ====
section
/-! SUPPORT. Every operation of the model keeps the canonical form of the memories. -/
namespace Sys2Proof.Machine

/-- The memories are in canonical form. -/
def MemOk (k : Still) : Prop := k.hostMem.wf = true ∧ k.hbm.wf = true ∧ k.hbm2.wf = true ∧ k.sram.wf = true

/-- The canonical form before gives the canonical form after. -/
structure KeepsMem (a b : Still) : Prop where
  keeps : MemOk a → MemOk b

theorem chains_keepsMem : Chains KeepsMem := ⟨fun _ => ⟨id⟩, fun h k => ⟨k.1 ∘ h.1⟩⟩

theorem KeepsMem.of_eq {s t : State} (h : t.still = s.still) : KeepsMem s.still t.still := chains_keepsMem.of_eq h

/-- A change that keeps the whole part may follow. -/
theorem KeepsMem.then {s t u : State} (h : KeepsMem s.still t.still) (k : u.still = t.still) : KeepsMem s.still u.still :=
  chains_keepsMem.trans h (.of_eq k)

/-- A change that keeps the whole part may come first. -/
theorem KeepsMem.after {s t u : State} (k : t.still = s.still) (h : KeepsMem t.still u.still) : KeepsMem s.still u.still :=
  chains_keepsMem.trans (.of_eq k) h

/-! ## Host buffers and answers -/

theorem State.putHost_mem (s : State) (a : Nat) (bs : List Byte) : KeepsMem s.still (s.putHost a bs).still :=
  ⟨fun h => ⟨Memory.wf_writeBytes _ _ _ h.1, h.2⟩⟩

theorem State.spoilHost_mem (s : State) (a n : Nat) : KeepsMem s.still (s.spoilHost a n).still :=
  (State.putHost_mem s a _).then (State.drawFree_still _)

theorem State.answer_mem (s : State) (a : Nat) (bs : List Byte) (r : Rep) : KeepsMem s.still (s.answer a bs r).1.still := by
  unfold State.answer
  split
  · exact State.putHost_mem ..
  · exact State.spoilHost_mem ..

theorem answering_mem : Answering KeepsMem where
  TbStatus := by
    intro s x
    dsimp only
    split
    · split
      · exact State.answer_mem ..
      · exact chains_keepsMem.refl _
    · exact .of_eq (State.drawFree_still s)
  AudStatus := by
    intro s x
    dsimp only
    split
    · exact chains_keepsMem.refl _
    · exact .of_eq rfl
    · exact State.answer_mem ..
  Attest := fun s x => State.answer_mem ..
  IdCertRead := fun s x => State.answer_mem ..

/-- A command row keeps the canonical form when its effect does. -/
theorem runCommand_mem {p : CmdSpec} (h : p.Keeps KeepsMem) (mb : Nat) (c : Cmd) (s : State) :
    KeepsMem s.still (runCommand p mb c s).still := runCommand_keeps chains_keepsMem p mb c s h

/-! ## Events that write a memory -/

theorem State.hbmPut_mem (s : State) (a : Nat) (b : Byte) : KeepsMem s.still (s.hbmPut a b).still := by
  refine ⟨fun h => ⟨h.1, ?_, ?_, h.2.2.2⟩⟩
  · show Memory.wf (if _ then _ else _) = true
    split
    · exact Memory.wf_write _ _ _ h.2.1
    · exact h.2.1
  · show Memory.wf (if _ then _ else _) = true
    split
    · exact Memory.wf_write _ _ _ h.2.2.1
    · exact h.2.2.1

theorem State.hbmWrite_mem (s : State) (a : Nat) (bs : List Byte) : KeepsMem s.still (s.hbmWrite a bs).still := by
  induction bs generalizing s a with
  | nil => exact chains_keepsMem.refl _
  | cons b bs ih => exact chains_keepsMem.trans (State.hbmPut_mem s a b) (ih _ _)

/-- A copy of a pair's entries is in canonical form when the memory copied over is. -/
theorem copyPair_wf (p : Nat) (old new : Memory) (h : old.wf = true) : (copyPair p old new).wf = true := by
  unfold copyPair
  have h0 : Memory.wf (List.filter (fun e => hbmPair e.1 != p) old) = true := Tbl.wfFrom_filter _ _ _ h
  generalize List.filter (fun e => hbmPair e.1 != p) old = m at h0 ⊢
  generalize List.filter (fun e => hbmPair e.1 == p) new = l
  induction l generalizing m with
  | nil => exact h0
  | cons e l ih => exact ih _ (Memory.wf_write _ _ _ h0)

theorem execStackReturnComplete_mem (k : Nat) (s t : State) (h : execStackReturnComplete k s = .next t) :
    KeepsMem s.still t.still := by
  unfold execStackReturnComplete at h
  split at h <;> cases h
  · refine .then ?_ ((State.fall_still ..).trans ((State.fall_still ..).trans (State.updStack_still ..)))
    unfold State.copyTo
    split
    · exact ⟨fun q => ⟨q.1, copyPair_wf _ _ _ q.2.1, q.2.2⟩⟩
    · exact ⟨fun q => ⟨q.1, q.2.1, copyPair_wf _ _ _ q.2.2.1, q.2.2.2⟩⟩
  · exact chains_keepsMem.refl _

theorem execEyescanComplete_mem (l : Nat) (scan : EyeScan) (s t : State) (h : execEyescanComplete l scan s = .next t) :
    KeepsMem s.still t.still := by
  unfold execEyescanComplete at h
  split at h <;> cases h
  · refine .then ?_ (State.settle_still ..)
    exact .after (State.updLane_still ..) (State.answer_mem ..)
  · exact chains_keepsMem.refl _

theorem execMqCompareReport_mem (e low : Nat) (second : Bool) (s t : State) (h : execMqCompareReport e low second s = .next t) :
    KeepsMem s.still t.still := by
  unfold execMqCompareReport at h
  dsimp only at h
  split at h
  · split at h
    · injection h with h
      rw [← h]
      split
      · exact .then (.after (State.setEngine_still ..) (State.hbmWrite_mem ..)) (State.reportFill_still ..)
      · exact .then (.after (State.setEngine_still ..) (State.hbmWrite_mem ..))
          ((State.strike_still ..).trans (State.reportFill_still ..))
    · cases h
      exact chains_keepsMem.refl _
  · cases h
    exact chains_keepsMem.refl _

theorem State.toHost_mem (s : State) (port sub : Nat) (bs : List Byte) : KeepsMem s.still (s.toHost port sub bs).still := by
  have key : ∀ (r : Bool) (v : Nat) (p : Port) (a b : Nat) (c d : List Byte),
      KeepsMem s.still (if r then (((s.hbmWrite a c).hbmWrite b d).setPort port p).raiseVector v
        else ((s.hbmWrite a c).hbmWrite b d).setPort port p).still := by
    intro r v p a b c d
    have h := chains_keepsMem.trans (State.hbmWrite_mem s a c) (State.hbmWrite_mem _ b d)
    split
    · exact .then h ((State.raiseVector_still ..).trans (State.setPort_still ..))
    · exact .then h (State.setPort_still ..)
  unfold State.toHost
  dsimp only
  by_cases hc : bit (s.hbmByte (hpArea port + 0x4000 + 32 * ((s.port port).rxTail % 512))).toNat 0 = true
  · rw [if_pos hc]
    exact key _ _ _ _ _ _ _
  · rw [if_neg hc]
    exact .of_eq (State.setPort_still ..)

theorem State.hostFrame_mem (s : State) (port : Nat) (f : EthFrame) (cls : HostClass) :
    KeepsMem s.still (s.hostFrame port f cls).still := by
  have key : ∀ (ok : Bool) (k : Port → Port),
      KeepsMem s.still (if ok then s.toHost port f.sub f.bytes else s.updPort port k).still := by
    intro ok k
    split
    · exact State.toHost_mem ..
    · exact .of_eq (State.updPort_still ..)
  exact key _ _

theorem State.classify_mem (s : State) (port : Nat) (f : EthFrame) : KeepsMem s.still (s.classify port f).still := by
  unfold State.classify
  split
  · exact chains_keepsMem.refl _
  · split
    · exact .of_eq (State.ptpReceive_still ..)
    · exact State.hostFrame_mem ..
  · split
    · exact .of_eq (State.mediaPacket_still ..)
    · exact State.hostFrame_mem ..
  · exact State.hostFrame_mem ..

theorem execEthFrameReceive_mem (port : Nat) (f : EthFrame) (s t : State) (h : execEthFrameReceive port f s = .next t) :
    KeepsMem s.still t.still := by
  unfold execEthFrameReceive at h
  dsimp only at h
  split at h
  · cases h
    exact chains_keepsMem.refl _
  split at h
  · split at h <;> cases h
    · exact .after (State.verifyFrame_still ..) (State.classify_mem ..)
    · exact .of_eq (State.verifyFrame_still ..)
  · split at h <;> cases h
    · exact .of_eq (State.secFail_still ..)
    · exact State.classify_mem ..

theorem execHpTxPoll_mem (port : Nat) (s t : State) (h : execHpTxPoll port s = .next t) : KeepsMem s.still t.still := by
  unfold execHpTxPoll at h
  dsimp only at h
  split at h <;> cases h
  · generalize hr : s.sendHost port _ _ _ = r
    have hs : r.1.still = s.still := hr ▸ State.sendHost_still ..
    refine .then (.after hs ?_) (State.setPort_still ..)
    split
    · exact chains_keepsMem.trans (chains_keepsMem.trans (State.hbmWrite_mem ..) (State.hbmWrite_mem ..)) (State.hbmWrite_mem ..)
    · exact chains_keepsMem.trans (State.hbmWrite_mem ..) (State.hbmWrite_mem ..)
  · exact chains_keepsMem.refl _

/-! ## DMA -/

theorem State.dmaWrite_mem (s : State) (host : Bool) (a : Nat) (bs : List Byte) :
    KeepsMem s.still (s.dmaWrite host a bs).still := by
  unfold State.dmaWrite
  split
  · exact State.putHost_mem ..
  split
  · exact State.hbmWrite_mem ..
  split
  · exact ⟨fun k => ⟨k.1, k.2.1, k.2.2.1, Memory.wf_writeBytes _ _ _ k.2.2.2⟩⟩
  · exact chains_keepsMem.refl _

theorem State.dmaComplete_mem (s : State) (ch id status flags done : Nat) :
    KeepsMem s.still (s.dmaComplete ch id status flags done).still := by
  unfold State.dmaComplete
  dsimp only
  split
  · exact .then (State.dmaWrite_mem ..) (State.updChan_still ..)
  · exact .of_eq (by rw [State.haltOnly_still, State.updChan_still, State.noPath_still])

theorem State.dmaHalted_mem (s : State) (ch cause : Nat) : KeepsMem s.still (s.dmaHalted ch cause).still :=
  .then (State.dmaComplete_mem ..) (State.haltOnly_still ..)

theorem State.dmaError_mem (s : State) (ch a : Nat) (w : Bool) (cause : Nat) :
    KeepsMem s.still (s.dmaError ch a w cause).still :=
  .after (State.updChan_still ..) (State.dmaHalted_mem ..)

theorem execDmaDescriptorStart_mem (ch : Nat) (s t : State) (h : execDmaDescriptorStart ch s = .next t) :
    KeepsMem s.still t.still := by
  unfold execDmaDescriptorStart at h
  dsimp only at h
  split at h
  · cases h
    exact chains_keepsMem.refl _
  split at h
  · cases h
    exact .of_eq (State.updChan_still ..)
  split at h
  · cases h
    exact .after (State.noPath_still ..) (State.dmaError_mem ..)
  split at h <;> cases h
  · exact .after (State.updChan_still ..) (State.dmaHalted_mem ..)
  · exact .of_eq (by rw [State.updChan_still, State.updChan_still])

theorem State.moveBlock_mem (s : State) (ch : Nat) : KeepsMem s.still (s.moveBlock ch).still := by
  unfold State.moveBlock
  dsimp only
  generalize (if bit (s.chan ch).flags 0 then s.firstBad _ _ else none) = r
  generalize (if bit (s.chan ch).flags 1 then s.firstBad _ _ else none) = w
  cases r with
  | some a => exact State.dmaError_mem ..
  | none =>
    cases w with
    | some a => exact State.dmaError_mem ..
    | none =>
      dsimp only
      generalize hu : State.updChan (s.dmaWrite _ _ _) ch _ = u
      have h : KeepsMem s.still u.still := hu ▸ .then (State.dmaWrite_mem ..) (State.updChan_still ..)
      split
      · exact h
      · exact .then h rfl

theorem State.grainShadow_mem (s : State) : KeepsMem s.still s.grainShadow.still := by
  unfold State.grainShadow
  split
  · exact chains_keepsMem.refl _
  split
  · exact State.putHost_mem ..
  · exact .of_eq (by rw [State.haltOnly_still, State.updChan_still])

theorem State.uploadBlock_mem (s : State) : KeepsMem s.still s.uploadBlock.still := by
  unfold State.uploadBlock
  dsimp only
  generalize s.gr.hostAddr + _ = a
  split
  · refine chains_keepsMem.trans ?_ (State.grainShadow_mem _)
    rw [State.updChan_still]
    generalize min (min (_ : Nat) _) (min _ _) = k
    generalize hu : State.setFill _ _ = u
    have h : KeepsMem s.still u.still := hu ▸ .then (.then (State.putHost_mem s a (s.gr.staged.take k)) rfl) (State.setFill_still ..)
    exact .then h rfl
  · exact .of_eq (by rw [State.haltOnly_still, State.updChan_still])

theorem execDmaBlock_mem (ch : Nat) (s t : State) (h : execDmaBlock ch s = .next t) : KeepsMem s.still t.still := by
  unfold execDmaBlock at h
  split at h <;> cases h
  · split
    · exact State.uploadBlock_mem s
    · exact State.moveBlock_mem ..
  · exact chains_keepsMem.refl _

theorem execDmaDescriptorComplete_mem (ch : Nat) (s t : State) (h : execDmaDescriptorComplete ch s = .next t) :
    KeepsMem s.still t.still := by
  unfold execDmaDescriptorComplete at h
  dsimp only at h
  split at h
  · cases h
    exact chains_keepsMem.refl _
  generalize hj : (flag (bit (s.chan ch).flags 2) + 2 * flag (bit (s.chan ch).flags 3)) = j at h
  generalize hd : (s.updChan ch _).dmaComplete ch _ 0 j _ = u at h
  have hu : KeepsMem s.still u.still := hd ▸ .after (State.updChan_still ..) (State.dmaComplete_mem ..)
  split at h <;> cases h
  · exact hu
  · split
    · exact .then hu (by rw [State.dmaIrq_still, State.updChan_still])
    · exact .then hu (State.updChan_still ..)

theorem execDmaHalt_mem (ch : Nat) (e : DmaError) (s t : State) (h : execDmaHalt ch e s = .next t) :
    KeepsMem s.still t.still := by
  unfold execDmaHalt at h
  dsimp only at h
  split at h <;> cases h
  · exact chains_keepsMem.refl _
  · exact State.dmaError_mem ..

theorem execDmaLoopSuspect_mem (ch : Nat) (s t : State) (h : execDmaLoopSuspect ch s = .next t) :
    KeepsMem s.still t.still := by
  unfold execDmaLoopSuspect at h
  dsimp only at h
  split at h <;> cases h
  · exact chains_keepsMem.refl _
  · exact State.dmaHalted_mem ..

/-! ## Fetching, posting and waking -/

theorem execCommandFetch_mem (s t : State) (h : execCommandFetch s = .next t) : KeepsMem s.still t.still := by
  unfold execCommandFetch at h
  split at h
  · split at h
    · cases h
      exact chains_keepsMem.refl _
    · rename_i n _
      dsimp only at h
      have hs : ({ s with bx := { s.bx with lastMb := n } } : State).still = s.still := rfl
      generalize ({ s with bx := { s.bx with lastMb := n } } : State) = u at h hs
      split at h <;> cases h
      · exact chains_keepsMem.refl _
      · exact .of_eq ((State.faultRing_still ..).trans hs)
      · exact .after hs (State.fetch_keeps chains_keepsMem answering_mem _ _ _)
  · cases h
    exact chains_keepsMem.refl _

theorem State.writeCpl_mem (s : State) (f : Flight) : KeepsMem s.still (s.writeCpl f).still := by
  unfold State.writeCpl
  dsimp only
  have h1 : ∀ a bs k, KeepsMem s.still ((s.putHost a bs).updMbox f.mb k).still :=
    fun a bs k => .then (State.putHost_mem ..) (State.updMbox_still ..)
  split
  · exact chains_keepsMem.refl _
  split
  · exact .of_eq (State.faultRing_still ..)
  split
  · exact .then (h1 _ _ _) (State.countCpl_still ..)
  split
  · exact chains_keepsMem.trans (h1 _ _ _) (.then (State.putHost_mem ..) (State.countCpl_still ..))
  · exact .then (h1 _ _ _) (State.faultRing_still ..)

theorem State.postOne_mem (s : State) (f : Flight) : KeepsMem s.still (s.postOne f).still :=
  .then (State.writeCpl_mem ..) (State.afterPost_still ..)

/-- Changes one after another keep the canonical form when each does. -/
theorem foldl_mem {α : Type} (f : State → α → State) (h : ∀ t x, KeepsMem t.still (f t x).still) (l : List α) (s : State) :
    KeepsMem s.still (l.foldl f s).still := by
  induction l generalizing s with
  | nil => exact chains_keepsMem.refl _
  | cons a l ih => exact chains_keepsMem.trans (h s a) (ih _)

theorem execCompletionPost_mem (id : Nat) (s t : State) (h : execCompletionPost id s = .next t) :
    KeepsMem s.still t.still := by
  unfold execCompletionPost at h
  split at h
  · cases h
    exact chains_keepsMem.refl _
  · split at h <;> cases h
    · rename_i f _ _
      refine .then (foldl_mem _ (fun t g => State.postOne_mem t g) (s.chainOf f) s) ((State.takeoverDone_still _).trans ?_)
      simp only [still_mk, State.drawFree_still]
    · exact chains_keepsMem.refl _

theorem execPwrWakeComplete_mem (d us : Nat) (s t : State) (h : execPwrWakeComplete d us s = .next t) :
    KeepsMem s.still t.still := by
  unfold execPwrWakeComplete at h
  dsimp only at h
  split at h <;> cases h
  · generalize hu : s.setPdom d _ = u
    refine .after (hu ▸ State.setPdom_still .. : u.still = s.still) ?_
    exact foldl_mem _ (fun t f => State.wakeFlight_keeps chains_keepsMem answering_mem _ _) _ _
  · exact chains_keepsMem.refl _

end Sys2Proof.Machine
end

