-- ==== Sys2Proof/Laws/Stance.lean ====
section
/-! SUPPORT. No fault source that fires makes a device ACTIVE: which state the pairing logic is in after each action of a fault. -/
namespace Sys2Proof.Machine

/-- Which state the pairing logic is in. -/
def State.stance (s : State) : PairState := s.pr.state

/-- An update of the other fields keeps it. -/
theorem stance_mk (s : State)
    (x0 : List Instr) (x4 : Fuses) (x5 : Straps) (x6 : Startup) (x1 : Nat) (x2 : Int) (x3 : Nat) (x7 : Glb) (x8
    : Pins) (x9 : Boot) (x10 : Tbl Mailbox) (x11 : Bx) (x12 : Rf) (x13 : Tbl Domain) (x14 : Tbl TimeBase) (x15 : Tbl Ptp) (x16 : Tbl Tsq) (x17 : Tbl Source) (x18 : Tbl RxFlow) (x19 : Tbl Ring) (x20 : List Readout) (x21 : Tbl Stack) (x22 :
    Nat) (x23 : Tbl OutPort) (x24 : Plane) (x25 : Plane) (x26 : Nat) (x27 : Tbl (Option FabLine)) (x28 : Tbl
    Dest) (x29 : Tbl TxFlow) (x30 : Au) (x31 : Tbl Engine) (x32 : Tbl Veneer) (x33 : Tbl Link) (x34 : List Tie)
    (x35 : List Tie) (x36 : Group) (x37 : Tbl (List Byte)) (x39 : Tbl FaultSrc) (x40 : Nat)
    (x41 : Ks) (x42 : Grain) (x43 : Ic) (x44 : Tbl Chan) (x45 : Nat) (x46 : Memory) (x47 : Memory) (x47b : Memory) (x48 : Memory) (x49 : List
    (Nat × Nat)) (x50 : Tbl Lane) (x51 : Tbl Port) (x52 : Tbl Subport) (x53 : Tbl PwrDomain) (x54 : Tbl Nat) :
    (State.mk
      x0 x1 x2 x3 x4 x5 x6 x7 x8 x9 x10 x11 x12 x13 x14 x15 x16 x17 x18 x19 x20 x21 x22 x23 x24 x25 x26 x27 x28
      x29 x30 x31 x32 x33 x34 x35 x36 x37 s.pr x39 x40 x41 x42 x43 x44 x45 x46 x47 x47b x48 x49 x50 x51 x52
      x53 x54).stance = s.stance := rfl

/-- A choice between two states. -/
theorem stance_ite (c : Prop) [Decidable c] (a b : State) : (if c then a else b).stance = if c then a.stance else b.stance := by
  split <;> rfl

/-- Changes one after another keep it when each does. -/
theorem stance_foldl {α : Type} (f : State → α → State) (h : ∀ t x, (f t x).stance = t.stance) (l : List α) (s : State) :
    (l.foldl f s).stance = s.stance := by
  induction l generalizing s with
  | nil => rfl
  | cons a l ih => simp only [List.foldl_cons, ih, h]

theorem State.giveRecord_stance (s : State) (type inst : Nat) (tick : Option (Nat × Nat)) (body : List Byte)
    (id : Option Nat) : (s.giveRecord type inst tick body id).stance = s.stance := by
  unfold State.giveRecord
  split
  · rfl
  · split
    · rfl
    · cases id <;> rfl

theorem State.pairEvent_stance (s : State) (event a b : Nat) (map : List Byte) : (s.pairEvent event a b map).stance = s.stance :=
  State.giveRecord_stance ..

theorem State.sendFrame_stance (s : State) (k : Nat) (body : LinkBody) : (s.sendFrame k body).stance = s.stance := by
  unfold State.sendFrame
  dsimp only
  split
  · rfl
  · split <;> rfl

theorem State.eventBeat_stance (s : State) : s.eventBeat.stance = s.stance := by
  unfold State.eventBeat
  split
  · rfl
  · exact State.sendFrame_stance ..

theorem State.dropRoles_stance (s : State) : s.dropRoles.stance = s.stance := by
  unfold State.dropRoles
  split
  · dsimp only
    split
    · exact State.pairEvent_stance ..
    · exact State.pairEvent_stance ..
  · rfl

theorem State.faultEvent_stance (s : State) (n event subject : Nat) : (s.faultEvent n event subject).stance = s.stance :=
  State.giveRecord_stance ..

theorem State.stateEvent_stance (s : State) (event subject state : Nat) : (s.stateEvent event subject state).stance = s.stance :=
  State.giveRecord_stance ..

theorem State.failover_stance (s : State) (port : Nat) (b : Bool) : (s.failover port b).stance = s.stance := by
  unfold State.failover
  dsimp only
  split <;> rfl

theorem State.failoverAll_stance (s : State) (b : Bool) : (s.failoverAll b).stance = s.stance :=
  stance_foldl _ (fun _ _ => State.failover_stance ..) _ _

theorem State.spareLane_stance (s : State) (k lane : Nat) : (s.spareLane k lane).stance = s.stance := by
  unfold State.spareLane
  dsimp only
  split
  · split <;> rfl
  · rfl

theorem State.escalate_stance (s : State) (n : Nat) : (s.escalate n).stance = s.stance := by
  unfold State.escalate
  dsimp only
  split
  · exact State.faultEvent_stance ..
  · exact State.faultEvent_stance ..

theorem State.latch_stance (s : State) (n : Nat) (syn adr : Word) (subject : Nat) : (s.latch n syn adr subject).stance = s.stance := by
  unfold State.latch
  split
  · rfl
  · dsimp only
    split
    · rfl
    · rw [stance_foldl _ (fun _ _ => State.escalate_stance ..)]
      repeat' split
      all_goals
        first
        | exact State.faultEvent_stance ..
        | exact (State.faultEvent_stance ..).trans (State.faultEvent_stance ..)

theorem State.failRemote_stance (s : State) (p : Tie → Bool) (r : Rep) : (s.failRemote p r).stance = s.stance := by
  unfold State.failRemote
  exact stance_foldl (fun (u : State) i => u.settleWhere (fun f => f.id == i) r) (fun _ _ => rfl) _ s

theorem State.refStopped_stance (s : State) : s.refStopped.stance = s.stance := by
  unfold State.refStopped
  dsimp only
  split
  · exact State.latch_stance ..
  · rfl

theorem State.settleWhere_stance (s : State) (p : Flight → Bool) (r : Rep) : (s.settleWhere p r).stance = s.stance := rfl

theorem State.setLink_stance (s : State) (k : Nat) (v : Link) : (s.setLink k v).stance = s.stance := rfl

theorem State.setStack_stance (s : State) (k : Nat) (v : Stack) : (s.setStack k v).stance = s.stance := rfl

theorem State.drawFree_stance (s : State) : s.drawFree.stance = s.stance := rfl

theorem State.refreshClamp_stance (s : State) : s.refreshClamp.stance = s.stance := rfl

theorem State.unpaired_stance (s : State) (k : Nat) : (s.unpaired k).stance = s.stance := by
  unfold State.unpaired
  split <;> rfl

theorem State.updFault_stance (s : State) (n : Nat) (f : FaultSrc → FaultSrc) : (s.updFault n f).stance = s.stance := rfl

theorem State.stopLink_stance (s : State) (k : Nat) : (s.stopLink k).stance = s.stance := by
  simp only [State.stopLink]
  repeat' split
  all_goals simp only [State.latch_stance, State.drawFree_stance, stance_mk, State.failRemote_stance, State.settleWhere_stance,
    State.refStopped_stance, State.stateEvent_stance, State.setLink_stance, State.unpaired_stance, State.updFault_stance]

theorem State.aliveRelease_stance (s : State) : s.aliveRelease.stance = s.stance := by
  simp only [State.aliveRelease, State.dropRoles_stance, State.eventBeat_stance, State.refreshClamp_stance, stance_mk,
    stance_ite, ite_self, stance_foldl, State.stopLink_stance, implies_true]

theorem State.mirrorSwitch_stance (s : State) (st : Nat) : (s.mirrorSwitch st).stance = s.stance := by
  simp only [State.mirrorSwitch, State.aliveRelease_stance, State.drawFree_stance, State.latch_stance,
    State.setStack_stance, stance_ite, ite_self]

/-- A source that fires leaves the time bases and the chain as they were. -/
theorem State.fall_stance (s : State) (n : Nat) : (s.fall n).stance = s.stance := by
  unfold State.fall
  split <;> rfl

/-! ## No fault makes a device ACTIVE -/

theorem State.freezeNow_idle {s : State} (h : s.pr.state ≠ .active) : s.freezeNow.pr.state ≠ .active := by
  unfold State.freezeNow
  dsimp only
  split
  · exact h
  · unfold State.pairGo
    split
    · exact h
    · show State.stance _ ≠ _
      rw [State.eventBeat_stance, State.pairEvent_stance]
      exact fun k => by cases k

theorem State.act_idle {s : State} (n action subject : Nat) (h : s.pr.state ≠ .active) :
    (s.act n action subject).pr.state ≠ .active := by
  have k : ∀ t : State, t.stance = s.stance → t.pr.state ≠ .active := fun t e => by
    show t.stance ≠ _
    rwa [e]
  unfold State.act
  split
  · split
    · exact k _ (State.failover_stance ..)
    · split
      · exact k _ (State.failoverAll_stance ..)
      · exact h
  · exact k _ (State.mirrorSwitch_stance ..)
  · exact k _ (State.spareLane_stance ..)
  · exact State.freezeNow_idle h
  · exact k _ (State.aliveRelease_stance ..)
  · exact h

/-- A source that fires makes no device ACTIVE. -/
theorem State.fire_idle {s : State} (n : Nat) (syn adr : Word) (subject : Nat) (h : s.pr.state ≠ .active) :
    (s.fire n syn adr subject).pr.state ≠ .active := by
  have k : (s.latch n syn adr subject).pr.state ≠ .active := by
    show State.stance _ ≠ _
    rwa [State.latch_stance]
  unfold State.fire
  dsimp only
  split
  · exact State.act_idle _ _ _ k
  · exact k

/-- The cause of a level source makes no device ACTIVE, whether it begins, lasts or ends. -/
theorem State.level_idle {s : State} (n : Nat) (cond : Bool) (subject : Nat) (h : s.pr.state ≠ .active) :
    (s.level n cond subject).pr.state ≠ .active := by
  unfold State.level
  split
  · split
    · exact h
    · exact State.fire_idle _ _ _ _ h
  · show State.stance _ ≠ _
    rwa [State.fall_stance]

/-- The sources of the destinations' legs make no device ACTIVE. -/
theorem State.pairLegs_idle {s : State} (h : s.pr.state ≠ .active) : s.pairLegs.pr.state ≠ .active := by
  have k : ∀ (t : State) (n : Nat), t.pr.state ≠ .active → (t.destFaults n).pr.state ≠ .active := fun _ _ q =>
    State.level_idle _ _ _ (State.level_idle _ _ _ (State.level_idle _ _ _ q))
  exact k _ _ (k _ _ (k _ _ (k _ _ h)))

/-- A record that enters the chain makes no device ACTIVE. -/
theorem State.chainAt_idle {s : State} (r : GrainRec) (n : Nat) (c : BitVec 384) (h : s.pr.state ≠ .active) :
    (s.chainAt r n c).pr.state ≠ .active := by
  have m : ∀ (t : State) (k : Nat) (i : MirrorItem), (t.mirror k i).stance = t.stance := by
    intro t k i
    unfold State.mirror
    split
    · exact State.sendFrame_stance ..
    · rfl
  have f : ∀ (t : State) (o : Option Nat), (t.released o).stance = t.stance := by
    intro t o
    cases o <;> rfl
  show State.stance _ ≠ _
  unfold State.chainAt
  dsimp only
  rw [m, f]
  exact State.level_idle _ _ _ h

theorem State.chainAll_idle (l : List GrainRec) {s : State} (h : s.pr.state ≠ .active) :
    (l.foldl (fun u r => u.chainNext r) s).pr.state ≠ .active := by
  induction l generalizing s with
  | nil => exact h
  | cons a l ih => exact ih (State.chainAt_idle _ _ _ h)

theorem State.chainStaged_idle {s : State} (h : s.pr.state ≠ .active) : s.chainStaged.pr.state ≠ .active :=
  State.chainAll_idle _ h

/-- A device that takes the signer's role is not made ACTIVE by it. -/
theorem State.takeSigner_idle {s : State} (h : s.pr.state ≠ .active) : s.takeSigner.pr.state ≠ .active := by
  unfold State.takeSigner
  split
  · apply State.chainStaged_idle
    split <;> exact State.chainAt_idle _ _ _ h
  · exact h

/-- A device that takes the roles is not made ACTIVE by it. -/
theorem State.tryHold_idle {s : State} (h : s.pr.state ≠ .active) : s.tryHold.pr.state ≠ .active := by
  have k : ∀ t : State, t.stance = s.stance →
      (State.eventBeat (t.pairEvent 3 t.pr.state.code t.pr.state.code [])).pr.state ≠ .active := by
    intro t e
    show State.stance _ ≠ _
    rwa [State.eventBeat_stance, State.pairEvent_stance, e]
  unfold State.tryHold
  split
  · dsimp only
    split
    · exact State.takeSigner_idle (k _ rfl)
    · exact k _ rfl
  · exact h

/-- A device that enters another state than ACTIVE is not ACTIVE after what that moves. -/
theorem State.pairEnter_idle (s : State) {goal : PairState} (g : goal ≠ .active) :
    (s.pairEnter goal).pr.state ≠ .active := by
  have a : (s.pairGo goal).pr.state ≠ .active := by
    unfold State.pairGo
    split
    · rename_i e
      rw [e]
      exact g
    · show State.stance _ ≠ _
      rw [State.eventBeat_stance, State.pairEvent_stance]
      exact g
  exact State.tryHold_idle (State.pairLegs_idle a)

end Sys2Proof.Machine
end

