-- ==== Sys2Proof/Laws/Start.lean ====
section
/-! SUPPORT. What the rows of reach `start` do to the queue, the fuses, the straps and start-up: resets, start-up, and the
register writes that reach them. -/
namespace Sys2Proof.Machine

open Sys2Proof.Safety

/-- How the fixed part may move in one row: the queue stays, the fuses keep all but an epoch that never falls and never
passes 4,096, BOOT_LOCK and MAP_SWAP stay set except in a reset (where `P` holds), and a consistent start-up stays
consistent. -/
structure MovesIf (P : Prop) (a b : Fixed) : Prop where
  pending : b.pending = a.pending
  fuses : b.fuses = { a.fuses with epoch := b.fuses.epoch }
  rises : a.fuses.epoch ≤ b.fuses.epoch
  bound : b.fuses.epoch ≤ max 4096 a.fuses.epoch
  locks : P → Fresh b.startup ∨ ((a.startup.bootLock = true → b.startup.bootLock = true)
    ∧ (a.startup.mapSwap = true → b.startup.mapSwap = true))
  startOk : StartOk a.startup → StartOk b.startup

/-- The same with no condition. -/
abbrev Moves (a b : Fixed) : Prop := MovesIf True a b

/-- A condition may be asked where none is needed. -/
theorem MovesIf.weaken {P Q : Prop} {a b : Fixed} (h : MovesIf P a b) (k : Q → P) : MovesIf Q a b :=
  ⟨h.pending, h.fuses, h.rises, h.bound, fun q => h.locks (k q), h.startOk⟩

theorem MovesIf.refl (a : Fixed) : Moves a a := ⟨rfl, rfl, Nat.le_refl _, by omega, fun _ => .inr ⟨id, id⟩, id⟩

/-- A fixed part that stays has moved in no way. -/
theorem MovesIf.of_eq {a b : Fixed} (h : b = a) : Moves a b := h ▸ MovesIf.refl a

/-- Moves one after another, whose locks are said of both together. -/
theorem MovesIf.trans {P Q R : Prop} {a b c : Fixed} (h : MovesIf P a b) (k : MovesIf Q b c)
    (l : R → Fresh c.startup ∨ ((a.startup.bootLock = true → c.startup.bootLock = true)
      ∧ (a.startup.mapSwap = true → c.startup.mapSwap = true))) : MovesIf R a c := by
  refine ⟨k.pending.trans h.pending, by rw [k.fuses, h.fuses], Nat.le_trans h.rises k.rises, ?_, l,
    fun q => k.startOk (h.startOk q)⟩
  have h1 := h.bound
  have h2 := k.bound
  omega

/-- How a row other than POWER_ON_RESET may move the fuses: not at all, or by the burn of a power-on that waited for it, of one bit at
most, which then waits no longer (R405). -/
def Burned (a b : Fixed) : Prop :=
  (b.fuses = a.fuses ∧ b.startup.burns = a.startup.burns)
    ∨ (a.startup.burns ≠ none ∧ b.startup.burns = none ∧ b.fuses = { a.fuses with epoch := b.fuses.epoch }
      ∧ a.fuses.epoch ≤ b.fuses.epoch ∧ b.fuses.epoch ≤ a.fuses.epoch + 1 ∧ b.fuses.epoch ≤ max 4096 a.fuses.epoch)

theorem Burned.same {a b : Fixed} (h : b.fuses = a.fuses) (k : b.startup.burns = a.startup.burns) : Burned a b := .inl ⟨h, k⟩

theorem Burned.of_eq {a b : Fixed} (h : b = a) : Burned a b := h ▸ .same rfl rfl

theorem Burned.trans {a b c : Fixed} (h : Burned a b) (k : Burned b c) : Burned a c := by
  rcases h with ⟨h1, h2⟩ | ⟨h1, h2, h3⟩
  · unfold Burned at k ⊢
    rwa [h1, h2] at k
  · rcases k with ⟨k1, k2⟩ | ⟨k1, -⟩
    · unfold Burned
      rw [k1, k2]
      exact .inr ⟨h1, h2, h3⟩
    · exact absurd h2 k1

/-- Where no burn waits, none is made. -/
theorem Burned.kept {a b : Fixed} (h : Burned a b) (n : a.startup.burns = none) : b.fuses = a.fuses :=
  h.elim (fun k => k.1) (fun k => absurd n k.1)

/-- A burn is of one bit at most. -/
theorem Burned.one {a b : Fixed} (h : Burned a b) : b.fuses.epoch ≤ a.fuses.epoch + 1 := by
  rcases h with ⟨h, -⟩ | ⟨-, -, -, -, h, -⟩
  · rw [h]
    exact Nat.le_succ _
  · exact h

/-- No burn begins to wait. -/
theorem Burned.waits {a b : Fixed} (h : Burned a b) : b.startup.burns = a.startup.burns ∨ b.startup.burns = none :=
  h.elim (fun k => .inl k.2) (fun k => .inr k.2.1)

/-- A move of start-up and of no fuse but the epoch's. -/
theorem MovesIf.of_startup {a b : Fixed} (hp : b.pending = a.pending) (hf : Burned a b)
    (hl : Fresh b.startup ∨ ((a.startup.bootLock = true → b.startup.bootLock = true)
      ∧ (a.startup.mapSwap = true → b.startup.mapSwap = true)))
    (hs : StartOk a.startup → StartOk b.startup) : Moves a b :=
  have h : b.fuses = { a.fuses with epoch := b.fuses.epoch } ∧ a.fuses.epoch ≤ b.fuses.epoch
      ∧ b.fuses.epoch ≤ max 4096 a.fuses.epoch := by
    rcases hf with ⟨h, -⟩ | ⟨-, -, h1, h2, -, h4⟩
    · rw [h]
      exact ⟨rfl, Nat.le_refl _, Nat.le_max_right _ _⟩
    · exact ⟨h1, h2, h4⟩
  ⟨hp, h.1, h.2.1, h.2.2, fun _ => hl, hs⟩

/-- The state moves as `MovesIf` says, the straps and fuses stay, and the memories keep their canonical form. -/
structure State.MovedIf (P : Prop) (s t : State) : Prop where
  moves : MovesIf P s.still.fixed t.still.fixed
  straps : t.straps = s.straps
  fuses : Burned s.still.fixed t.still.fixed
  mem : KeepsMem s.still t.still

/-- The same with no condition. -/
abbrev State.Moved (s t : State) : Prop := State.MovedIf True s t

/-- A condition may be asked where none is needed. -/
theorem State.MovedIf.weaken {P Q : Prop} {s t : State} (h : State.MovedIf P s t) (k : Q → P) : State.MovedIf Q s t :=
  ⟨h.moves.weaken k, h.straps, h.fuses, h.mem⟩

theorem State.MovedIf.of_eq {s t : State} (h : t.still = s.still) : s.Moved t :=
  ⟨MovesIf.of_eq (congrArg Still.fixed h), congrArg Fixed.straps (congrArg Still.fixed h),
    .of_eq (congrArg Still.fixed h), .of_eq h⟩

/-- Memories that stay keep their form. -/
theorem KeepsMem.of_same {s t : State} (h : t.hostMem = s.hostMem ∧ t.hbm = s.hbm ∧ t.hbm2 = s.hbm2 ∧ t.sram = s.sram) :
    KeepsMem s.still t.still :=
  ⟨fun k => ⟨by rw [show t.still.hostMem = s.still.hostMem from h.1]; exact k.1,
    by rw [show t.still.hbm = s.still.hbm from h.2.1]; exact k.2.1,
    by rw [show t.still.hbm2 = s.still.hbm2 from h.2.2.1]; exact k.2.2.1,
    by rw [show t.still.sram = s.still.sram from h.2.2.2]; exact k.2.2.2⟩⟩

/-- Memories that a reset has emptied are in canonical form. -/
theorem KeepsMem.of_reset {s t : State} (h : t.hostMem = s.hostMem ∧ t.hbm = [] ∧ t.hbm2 = [] ∧ t.sram = []) :
    KeepsMem s.still t.still :=
  ⟨fun k => ⟨by rw [show t.still.hostMem = s.still.hostMem from h.1]; exact k.1,
    by rw [show t.still.hbm = [] from h.2.1]; rfl, by rw [show t.still.hbm2 = [] from h.2.2.1]; rfl,
    by rw [show t.still.sram = [] from h.2.2.2]; rfl⟩⟩

/-- A state with the same fixed part may stand in for the first. -/
theorem State.MovedIf.left {s u t : State} (h : u.still = s.still) (m : u.Moved t) : s.Moved t := by
  have hs : u.straps = s.straps := congrArg Fixed.straps (congrArg Still.fixed h)
  exact ⟨h ▸ m.moves, hs ▸ m.straps, h ▸ m.fuses, .after h m.mem⟩

/-- A state with the same fixed part may stand in for the last. -/
theorem State.MovedIf.right {s u t : State} (m : s.Moved u) (h : t.still = u.still) : s.Moved t := by
  have hs : t.straps = u.straps := congrArg Fixed.straps (congrArg Still.fixed h)
  exact ⟨h ▸ m.moves, hs.trans m.straps, h ▸ m.fuses, .then m.mem h⟩

/-- A hold of start-up before step 6. -/
theorem State.holdAt_moved (s : State) (stage code : Nat) (hs : stage < 6) : s.Moved (s.holdAt stage code) := by
  refine ⟨MovesIf.of_startup rfl (.same rfl rfl) (.inr ⟨id, id⟩) (fun h => ⟨?_, ?_, h.2.2⟩), rfl, .same rfl rfl, .of_same ⟨rfl, rfl, rfl, rfl⟩⟩
  · show stage ≤ 7
    omega
  · intro hx
    have : 6 ≤ stage := hx
    omega

/-- A reset leaves a fresh start-up, before and after start-up has run its first steps. -/
theorem MovesIf.of_fresh {s t : State} (hp : t.pending = s.pending) (hf : Burned s.still.fixed t.still.fixed) (hu : Fresh t.startup)
    (hs : t.startup.stage < 6) : Moves s.still.fixed t.still.fixed :=
  MovesIf.of_startup hp hf (.inl hu) (fun _ => ⟨Nat.le_trans (Nat.le_of_lt hs) (by decide), fun h => absurd hs (Nat.not_lt.2 h),
    fun h => by rw [show t.still.fixed.startup.ready = t.startup.ready from rfl, hu.1] at h; cases h⟩)

/-- Two states with the same queue, straps, locks and READY, and the same fuses but for a bit that waited. -/
structure State.Alike (s t : State) : Prop where
  pending : t.pending = s.pending
  fuses : Burned s.still.fixed t.still.fixed
  straps : t.straps = s.straps
  bootLock : t.startup.bootLock = s.startup.bootLock
  mapSwap : t.startup.mapSwap = s.startup.mapSwap
  ready : t.startup.ready = s.startup.ready
  mem : t.hostMem = s.hostMem ∧ t.hbm = s.hbm ∧ t.hbm2 = s.hbm2 ∧ t.sram = s.sram

theorem State.Alike.trans {s t u : State} (h : s.Alike t) (k : t.Alike u) : s.Alike u :=
  ⟨k.1.trans h.1, h.2.trans k.2, k.3.trans h.3, k.4.trans h.4, k.5.trans h.5, k.6.trans h.6,
    k.7.1.trans h.7.1, k.7.2.1.trans h.7.2.1, k.7.2.2.1.trans h.7.2.2.1,
    k.7.2.2.2.trans h.7.2.2.2⟩

theorem State.Alike.of_still {s t : State} (h : t.still = s.still) : s.Alike t := by
  have e := congrArg Still.fixed h
  have := e
  simp only [State.still, Fixed.mk.injEq] at this
  obtain ⟨h1, h2, h3, h4⟩ := this
  exact ⟨h1, .of_eq e, h3, congrArg Startup.bootLock h4, congrArg Startup.mapSwap h4, congrArg Startup.ready h4,
    congrArg Still.hostMem h, congrArg Still.hbm h, congrArg Still.hbm2 h, congrArg Still.sram h⟩

/-- The stage of a state with the same fixed part. -/
theorem State.stage_of_still {s t : State} (h : t.still = s.still) : t.startup.stage = s.startup.stage :=
  congrArg Startup.stage (congrArg Fixed.startup (congrArg Still.fixed h))

/-- The clusters' tests leave the queue, fuses, straps and locks, and move start-up to its hold or not at all. -/
theorem State.clusterTests_alike (s : State) (t : BootTests) : s.Alike (s.clusterTests t)
    ∧ ((s.clusterTests t).startup.stage = s.startup.stage ∨ (s.clusterTests t).startup.stage = 2) := by
  unfold State.clusterTests
  split
  · exact ⟨⟨rfl, .same rfl rfl, rfl, rfl, rfl, rfl, rfl, rfl, rfl, rfl⟩, .inr rfl⟩
  · exact ⟨⟨rfl, .same rfl rfl, rfl, rfl, rfl, rfl, rfl, rfl, rfl, rfl⟩, .inl rfl⟩

/-- The burn of a power-on that waits for it leaves the queue, straps and locks, and holds start-up at step 1 or not at all. -/
theorem State.burnEpoch_alike (s : State) : s.Alike s.burnEpoch
    ∧ (s.burnEpoch.startup.stage = s.startup.stage ∨ s.burnEpoch.startup.stage = 1) := by
  unfold State.burnEpoch
  split
  · exact ⟨⟨rfl, .same rfl rfl, rfl, rfl, rfl, rfl, rfl, rfl, rfl, rfl⟩, .inl rfl⟩
  rename_i h
  have hn : s.startup.burns ≠ none := by rw [h]; simp
  dsimp only
  split
  · exact ⟨⟨rfl, .inr ⟨hn, rfl, rfl, Nat.le_refl _, Nat.le_succ _, Nat.le_max_right _ _⟩, rfl, rfl, rfl, rfl, rfl, rfl, rfl, rfl⟩, .inl rfl⟩
  rename_i he
  split
  · exact ⟨⟨rfl, .inr ⟨hn, rfl, rfl, Nat.le_succ _, Nat.le_refl _, by
      show s.fuses.epoch + 1 ≤ max 4096 s.fuses.epoch
      omega⟩, rfl, rfl, rfl, rfl, rfl, rfl, rfl, rfl⟩, .inl rfl⟩
  · exact ⟨⟨rfl, .inr ⟨hn, rfl, rfl, Nat.le_refl _, Nat.le_succ _, Nat.le_max_right _ _⟩, rfl, rfl, rfl, rfl, rfl, rfl, rfl, rfl⟩, .inr rfl⟩

/-- Start-up after the keys leaves the queue, fuses, straps and locks, and gets no further than step 4. -/
theorem State.pastKeys_alike (s : State) (t : BootTests) (hs : s.startup.stage < 6) :
    s.Alike (s.pastKeys t) ∧ (s.pastKeys t).startup.stage < 6 := by
  unfold State.pastKeys
  dsimp only
  split
  · exact ⟨⟨rfl, .same rfl rfl, rfl, rfl, rfl, rfl, rfl, rfl, rfl, rfl⟩, by show 2 < 6; decide⟩
  obtain ⟨hc, gc⟩ := State.clusterTests_alike s t
  generalize s.clusterTests t = w at *
  have g4 : w.startup.stage < 6 := by
    rcases gc with h | h <;> rw [h]
    · exact hs
    · decide
  split
  · exact ⟨hc, g4⟩
  · refine ⟨hc.trans ⟨rfl, .same rfl rfl, rfl, rfl, rfl, rfl, rfl, rfl, rfl, rfl⟩, ?_⟩
    show (if t.ucieOk then 4 else 3) < 6
    split <;> decide

/-- Start-up from a reset leaves the queue, straps and locks, and gets no further than step 4. -/
theorem State.startUp_alike (s : State) (t : BootTests) : s.Alike (s.startUp t) ∧ (s.startUp t).startup.stage < 6 := by
  unfold State.startUp
  dsimp only
  have h1 : s.Alike { s with
      startup := { s.startup with stage := 1, upSince := s.clk }
      glb := { s.glb with fuseSensed := t.fuseOk } } := ⟨rfl, .same rfl rfl, rfl, rfl, rfl, rfl, rfl, rfl, rfl, rfl⟩
  have g1 : ({ s with
      startup := { s.startup with stage := 1, upSince := s.clk }
      glb := { s.glb with fuseSensed := t.fuseOk } } : State).startup.stage = 1 := rfl
  generalize ({ s with
      startup := { s.startup with stage := 1, upSince := s.clk }
      glb := { s.glb with fuseSensed := t.fuseOk } } : State) = s1 at *
  have h2 := h1.trans (State.Alike.of_still (State.boardLevels_still s1))
  have g2 := (State.stage_of_still (State.boardLevels_still s1)).trans g1
  generalize s1.boardLevels = u at *
  split
  · exact ⟨h2.trans ⟨rfl, .same rfl rfl, rfl, rfl, rfl, rfl, rfl, rfl, rfl, rfl⟩, by show 1 < 6; decide⟩
  split
  · exact ⟨h2.trans ⟨rfl, .same rfl rfl, rfl, rfl, rfl, rfl, rfl, rfl, rfl, rfl⟩, by show 1 < 6; decide⟩
  obtain ⟨hb, gb⟩ := State.burnEpoch_alike u
  have h2 := h2.trans hb
  have g2 : u.burnEpoch.startup.stage = 1 := gb.elim (fun e => e.trans g2) id
  generalize u.burnEpoch = u at *
  split
  · exact ⟨h2, by rw [g2]; decide⟩
  have hl : (u.level 180 u.epochSaturated 0xFFFF).still = u.still := State.level_still ..
  have h3 := h2.trans (State.Alike.of_still hl)
  have g3 := (State.stage_of_still hl).trans g2
  generalize u.level 180 u.epochSaturated 0xFFFF = v at *
  have h3 := h3.trans (State.Alike.of_still (State.deriveKeys_still v))
  have g3 := (State.stage_of_still (State.deriveKeys_still v)).trans g3
  have h3 := h3.trans (State.Alike.of_still (State.scramble_still v.deriveKeys))
  have g3 := (State.stage_of_still (State.scramble_still v.deriveKeys)).trans g3
  have h3 := h3.trans (State.Alike.of_still (State.romRuns_still v.deriveKeys.scramble))
  have g3 := (State.stage_of_still (State.romRuns_still v.deriveKeys.scramble)).trans g3
  obtain ⟨k, hk⟩ := State.pastKeys_alike v.deriveKeys.scramble.romRuns t (by rw [g3]; decide)
  exact ⟨h3.trans k, hk⟩

/-- A move of start-up that sets locks and clears none, with a consistent start-up after it. -/
theorem State.MovedIf.of_locks {s t : State} (hp : t.pending = s.pending) (hf : Burned s.still.fixed t.still.fixed) (hs : t.straps = s.straps)
    (hl : s.startup.bootLock = true → t.startup.bootLock = true) (hm : s.startup.mapSwap = true → t.startup.mapSwap = true)
    (ho : StartOk s.startup → StartOk t.startup)
    (hk : t.hostMem = s.hostMem ∧ t.hbm = s.hbm ∧ t.hbm2 = s.hbm2 ∧ t.sram = s.sram := by exact ⟨rfl, rfl, rfl, rfl⟩) : s.Moved t :=
  ⟨MovesIf.of_startup hp hf (.inr ⟨hl, hm⟩) ho, hs, hf, .of_same hk⟩

/-- The clusters' tests move start-up to its hold or not at all. -/
theorem State.clusterTests_moved (s : State) (t : BootTests) : s.Moved (s.clusterTests t) := by
  obtain ⟨h, hs⟩ := State.clusterTests_alike s t
  refine .of_locks h.pending h.fuses h.straps (fun k => h.bootLock.trans k) (fun k => h.mapSwap.trans k) (fun k => ?_) h.mem
  refine ⟨?_, fun k6 => ?_, fun kr => ?_⟩
  · rcases hs with e | e <;> rw [e]
    · exact k.1
    · decide
  · rw [h.mapSwap]
    rcases hs with e | e <;> rw [e] at k6
    · exact k.2.1 k6
    · exact absurd k6 (by decide)
  · rw [h.mapSwap, h.bootLock]
    exact k.2.2 (h.ready ▸ kr)

theorem execPowerOnReset_moved (burns : List Bool) (s t : State) (h : execPowerOnReset burns s = .next t) :
    Moves s.still.fixed t.still.fixed ∧ t.straps = s.straps ∧ t.fuses = s.fuses := by
  cases h
  refine ⟨⟨rfl, rfl, Nat.le_refl _, Nat.le_max_right _ _, fun _ => .inl ⟨rfl, rfl, rfl⟩, fun _ => ⟨?_, ?_, ?_⟩⟩, rfl, rfl⟩
  · show 0 ≤ 7
    decide
  · exact fun k => absurd k (by show ¬6 ≤ 0; decide)
  · exact fun k => absurd k (by show ¬false = true; decide)

theorem execResetNAssert_moved (s t : State) (h : execResetNAssert s = .next t) : s.Moved t := by
  unfold execResetNAssert at h
  split at h <;> cases h
  · exact ⟨.of_fresh rfl (.same rfl rfl) ⟨rfl, rfl, rfl⟩ (by show 0 < 6; decide), rfl, .same rfl rfl, .of_reset ⟨rfl, rfl, rfl, rfl⟩⟩
  · exact .of_eq rfl

theorem execThermalTrip_moved (s t : State) (h : execThermalTrip s = .next t) : s.Moved t := by
  unfold execThermalTrip at h
  split at h
  · split at h <;> cases h
    · exact ⟨.of_fresh rfl (.same rfl rfl) ⟨rfl, rfl, rfl⟩ (by show 0 < 6; decide), rfl, .same rfl rfl, .of_reset ⟨rfl, rfl, rfl, rfl⟩⟩
    · exact .of_eq rfl
  · cases h
    exact .of_eq rfl

theorem execDeviceResetRouterDie_moved (b : BootTests) (s t : State) (h : execDeviceResetRouterDie b s = .next t) :
    s.Moved t := by
  unfold execDeviceResetRouterDie at h
  split at h
  · split at h <;> cases h
    · obtain ⟨k, hs⟩ := State.startUp_alike (s.cleared .device) b
      exact ⟨.of_fresh k.pending k.fuses ⟨k.ready, k.bootLock, k.mapSwap⟩ hs, k.straps, k.fuses, .of_reset k.mem⟩
    · exact .of_eq rfl
  · cases h
    exact .of_eq rfl

theorem execCcOnlyResetRelease_moved (b : BootTests) (s t : State) (h : execCcOnlyResetRelease b s = .next t) :
    s.Moved t := by
  unfold execCcOnlyResetRelease at h
  split at h
  · split at h
    · dsimp only at h
      split at h
      · cases h
        exact .left (u := { s with boot := { s.boot with firing := none } }) rfl (State.holdAt_moved _ _ _ (by decide))
      · have hm := State.clusterTests_moved { s with boot := { s.boot with firing := none } } b
        generalize State.clusterTests _ _ = w at *
        have hm : s.Moved w := .left (u := { s with boot := { s.boot with firing := none } }) rfl hm
        split at h <;> cases h
        · exact hm
        · refine ⟨⟨hm.1.pending, hm.1.fuses, hm.1.rises, hm.1.bound, hm.1.locks, fun k => ?_⟩, hm.2, hm.3, ⟨fun q => hm.4.keeps q⟩⟩
          have k := hm.1.startOk k
          exact ⟨by show 4 ≤ 7; decide, fun k6 => absurd k6 (by show ¬6 ≤ 4; decide), k.2.2⟩
    · cases h
      exact .of_eq rfl
  · cases h
    exact .of_eq rfl

theorem execUcieTrainTimeout_moved (s t : State) (h : execUcieTrainTimeout s = .next t) : s.Moved t := by
  unfold execUcieTrainTimeout at h
  split at h <;> cases h
  · exact State.holdAt_moved _ _ _ (by decide)
  · exact .of_eq rfl

theorem execImageAccept_moved (img : Image) (s t : State) (h : execImageAccept img s = .next t) : s.Moved t := by
  unfold execImageAccept at h
  split at h
  · split at h <;> cases h
    · exact .of_locks rfl (.same rfl rfl) rfl id id
        (fun k => ⟨by show 4 ≤ 7; decide, fun k6 => absurd k6 (by show ¬6 ≤ 4; decide), k.2.2⟩)
    · exact .of_locks rfl (.same rfl rfl) rfl id (fun _ => rfl)
        (fun k => ⟨by show 6 ≤ 7; decide, fun _ => rfl, fun kr => ⟨(k.2.2 kr).1, rfl⟩⟩)
  · cases h
    exact .of_eq rfl

/-- READY sets BOOT_LOCK; MAP_SWAP is set since step 6. -/
theorem State.readyUp_moved (s : State) (hs : s.startup.stage = 6) : s.Moved s.readyUp :=
  .of_locks rfl (.same rfl rfl) rfl (fun _ => rfl) id (fun k => by
    have hm : s.startup.mapSwap = true := k.2.1 (by omega)
    exact ⟨by show 7 ≤ 7; decide, fun _ => hm, fun _ => ⟨rfl, hm⟩⟩)

theorem execReady_moved (hbm : List Bool) (s t : State) (h : execReady hbm s = .next t) : s.Moved t := by
  unfold execReady at h
  split at h
  · cases h
    exact .of_eq rfl
  rename_i h6
  have h6 : s.startup.stage = 6 := by
    simp only [ne_eq, not_or, Classical.not_not] at h6
    exact h6.1
  split at h
  · cases h
    refine .right (State.readyUp_moved s h6) ?_
    rw [State.clusterSources_still]
    exact State.thaw_still ..
  split at h
  · cases h
    refine .of_locks rfl (.same rfl rfl) rfl id id (fun k => ⟨by show 6 ≤ 7; decide, fun _ => ?_, k.2.2⟩)
    exact k.2.1 (by omega)
  · cases h
    have hu := State.untrained_still s hbm
    refine .right (u := (s.untrained hbm).readyUp) ?_ ?_
    · exact .left hu (State.readyUp_moved _ ((State.stage_of_still hu).trans h6))
    · rw [State.clusterSources_still, State.refreshClamp_still]

theorem execBootGo_moved (v : Word) (s t : State) (h : execBootGo v s = .next t) : s.Moved t := by
  unfold execBootGo at h
  split at h <;> cases h
  · exact .of_locks rfl (.same rfl rfl) rfl id id
      (fun k => ⟨by show 5 ≤ 7; decide, fun k6 => absurd k6 (by show ¬6 ≤ 5; decide), k.2.2⟩)
  · exact .of_eq rfl

/-- The CC-only reset, when it fires. -/
theorem State.fireCcOnly_moved (s : State) : s.Moved s.fireCcOnly := by
  unfold State.fireCcOnly
  have h : ((s.bx.flights.filter (fun f => f.reply.isNone && !f.countsSealed)).foldl
      (fun t f => (t.undoLater f).dropPending f) s).still = s.still :=
    still_foldl _ (fun t f => by rw [State.dropPending_still, State.undoLater_still]) _ _
  dsimp only
  generalize List.foldl _ s _ = u at *
  exact .left h ⟨.of_fresh rfl (.same rfl rfl) ⟨rfl, rfl, rfl⟩ (by show 2 < 6; decide), rfl, .same rfl rfl, .of_same ⟨rfl, rfl, rfl, rfl⟩⟩

theorem State.resetWrite_moved (s : State) (mb : Nat) (v : Word) : s.Moved (s.resetWrite mb v) := by
  unfold State.resetWrite
  dsimp only
  split
  · exact .of_eq rfl
  split
  · exact .of_eq ((State.setErr_still ..))
  split
  · split
    · exact .of_eq (State.fireDevice_still s)
    · exact State.fireCcOnly_moved s
  · exact .of_eq rfl

theorem execMbReset_moved (mb : Nat) (v : Word) (s t : State)
    (h : (if mb < 16 then Host.Outcome.next (ρ := Refusal) (φ := Fault) (s.fromHost (s.resetWrite mb v)) else .next s) = .next t) :
    s.Moved t := by
  split at h <;> cases h
  · unfold State.fromHost
    split
    · exact State.resetWrite_moved ..
    · exact .of_eq rfl
  · exact .of_eq rfl

/-- A meaning that keeps the fixed part, run for its next state. -/
theorem nextOf_moved {o : Host.Outcome State Fault Refusal} {s : State} (h : ∀ t, o = .next t → s.Moved t) :
    s.Moved (nextOf o s) := by
  unfold nextOf
  split
  · exact h _ rfl
  · exact .of_eq rfl
  · exact .of_eq rfl

theorem Keeps.moved {o : Host.Outcome State Fault Refusal} {s : State} (h : Keeps Still.whole s o) (t : State)
    (e : o = .next t) : s.Moved t := .of_eq (h t e)

theorem State.writeMailbox_moved (s : State) (n o : Nat) (v : Word) : s.Moved (s.writeMailbox n o v) := by
  unfold State.writeMailbox
  split
  · split
    · exact .of_eq (State.enableSet_still ..)
    · exact .of_eq (State.enableClear_still ..)
  · exact .of_eq (State.doorbell_still ..)
  · exact .of_eq (State.consumeCpl_still ..)
  · exact .of_eq (State.irqCtrl_still ..)
  · exact .of_eq ((State.updMbox_still ..))
  · exact State.resetWrite_moved ..
  · split
    · exact .of_eq (State.ringBase_still ..)
    · exact .of_eq rfl

theorem State.writeBoot_moved (s : State) (o : Nat) (v : Word) : s.Moved (s.writeBoot o v) := by
  unfold State.writeBoot
  split
  · exact .of_eq rfl
  split
  · exact .of_locks rfl (.same rfl rfl) rfl id id id
  · exact .of_locks rfl (.same rfl rfl) rfl id id id
  · exact .of_locks rfl (.same rfl rfl) rfl id id id
  · exact nextOf_moved (execBootGo_moved v s)
  · exact .of_eq rfl

theorem State.regWrite_moved (s : State) (o : Nat) (v : Word) : s.Moved (s.regWrite o v) := by
  unfold State.regWrite
  repeat' split
  · exact State.writeMailbox_moved ..
  · exact State.writeBoot_moved ..
  · exact .of_eq ((State.testCtrlWrite_still ..))
  · exact .of_eq ((State.writeChan_still ..))
  · exact .of_locks rfl (.same rfl rfl) rfl (fun _ => rfl) id (fun k => ⟨k.1, k.2.1, fun kr => ⟨rfl, (k.2.2 kr).2⟩⟩)
  · exact .of_locks rfl (.same rfl rfl) rfl id (fun _ => rfl) (fun k => ⟨k.1, fun _ => rfl, fun kr => ⟨(k.2.2 kr).1, rfl⟩⟩)
  · exact .of_eq rfl

theorem State.writeReg_moved (s : State) (m : Master) (o : Nat) (ok : Bool) (act : State → State)
    (h : ∀ u : State, u.Moved (act u)) : s.Moved (s.writeReg m o ok act) := by
  have hd : s.Moved (act (s.seenDebug m)) := .left (State.seenDebug_still s m) (h _)
  unfold State.writeReg
  dsimp only
  repeat' split
  all_goals first
    | exact hd
    | exact .of_eq (by simp only [State.denied_still, State.icError_still, State.seenDebug_still])

theorem State.writeOne_moved (s : State) (m : Master) (whole : Bool) (o : Nat) (v : Word) : s.Moved (s.writeOne m whole o v) := by
  refine State.writeReg_moved _ _ _ _ _ (fun u => ?_)
  split
  · exact State.regWrite_moved u o v
  · exact .of_eq rfl

/-- BOOT_LOCK and MAP_SWAP stay set. -/
def Locked (a b : Startup) : Prop := (a.bootLock = true → b.bootLock = true) ∧ (a.mapSwap = true → b.mapSwap = true)

theorem Locked.of_still {s t : State} (h : t.still = s.still) : Locked s.startup t.startup := by
  rw [show t.startup = s.startup from congrArg Fixed.startup (congrArg Still.fixed h)]
  exact ⟨id, id⟩

/-- A register other than an MB_RESET keeps BOOT_LOCK and MAP_SWAP set, whatever is written to it. -/
theorem State.regWrite_locked (s : State) (o : Nat) (v : Word) (h : o % 64 ≠ 60) :
    Locked s.startup (s.regWrite o v).startup := by
  unfold State.regWrite
  repeat' split
  · unfold State.writeMailbox
    split
    · split
      · exact .of_still (State.enableSet_still ..)
      · exact .of_still (State.enableClear_still ..)
    · exact .of_still (State.doorbell_still ..)
    · exact .of_still (State.consumeCpl_still ..)
    · exact .of_still (State.irqCtrl_still ..)
    · exact .of_still (State.updMbox_still ..)
    · rename_i hr
      omega
    · split
      · exact .of_still (State.ringBase_still ..)
      · exact ⟨id, id⟩
  · unfold State.writeBoot
    repeat' split
    all_goals first
      | exact ⟨id, id⟩
      | skip
    unfold execBootGo
    split <;> exact ⟨id, id⟩
  · exact .of_still (State.testCtrlWrite_still ..)
  · exact .of_still (State.writeChan_still ..)
  · exact ⟨fun _ => rfl, id⟩
  · exact ⟨id, fun _ => rfl⟩
  · exact ⟨id, id⟩

theorem State.writeOne_locked (s : State) (m : Master) (whole : Bool) (o : Nat) (v : Word) (h : o % 64 ≠ 60) :
    Locked s.startup (s.writeOne m whole o v).startup := by
  have hs := Locked.of_still (State.seenDebug_still s m)
  have hd : Locked s.startup (if whole = true then (s.seenDebug m).regWrite o v else s.seenDebug m).startup := by
    split
    · have := State.regWrite_locked (s.seenDebug m) o v h
      exact ⟨this.1 ∘ hs.1, this.2 ∘ hs.2⟩
    · exact hs
  have e1 := fun o => Locked.of_still ((State.denied_still (s.seenDebug m) o).trans (State.seenDebug_still s m))
  have e2 := fun a b c d => Locked.of_still ((State.icError_still (s.seenDebug m) m a b c d).trans (State.seenDebug_still s m))
  unfold State.writeOne State.writeReg
  dsimp only
  revert hd
  generalize (if whole = true then (s.seenDebug m).regWrite o v else s.seenDebug m) = u
  intro hd
  cases m
  case host =>
    dsimp only
    repeat' split
    · exact hs
    · exact hd
    · exact e1 _
  case dma => exact e2 _ _ _ _
  case debug =>
    dsimp only
    split
    · exact e2 _ _ _ _
    · exact hd
  all_goals
    dsimp only
    split
    · exact hs
    · exact hd

/-- The writes of an access one after another move the state as `MovedIf` says; no condition on the locks is met here. -/
theorem State.writes_moved (m : Master) (whole : Bool) (w : Nat → Word) (l : List (Nat × Nat)) (s : State) :
    State.MovedIf False s (l.foldl (fun t q => t.writeOne m whole q.1 (w q.2)) s) := by
  induction l generalizing s with
  | nil => exact ⟨(MovesIf.of_eq rfl).weaken (fun h => h.elim), rfl, .same rfl rfl, chains_keepsMem.refl _⟩
  | cons q l ih =>
    have h := State.writeOne_moved s m whole q.1 (w q.2)
    have k := ih (s.writeOne m whole q.1 (w q.2))
    exact ⟨h.moves.trans k.moves (fun h => h.elim), k.straps.trans h.straps, h.fuses.trans k.fuses,
      chains_keepsMem.trans h.mem k.mem⟩

/-- Writes of which only the last may reach an MB_RESET end in a reset or keep the locks set. -/
theorem State.writes_locked (m : Master) (whole : Bool) (w : Nat → Word) (l : List (Nat × Nat)) (s : State)
    (h : ∀ q ∈ l.dropLast, q.1 % 64 ≠ 60) :
    Fresh (l.foldl (fun t q => t.writeOne m whole q.1 (w q.2)) s).startup
      ∨ Locked s.startup (l.foldl (fun t q => t.writeOne m whole q.1 (w q.2)) s).startup := by
  induction l generalizing s with
  | nil => exact .inr ⟨id, id⟩
  | cons q l ih =>
    cases l with
    | nil => exact (State.writeOne_moved s m whole q.1 (w q.2)).moves.locks trivial
    | cons r l =>
      have hq := State.writeOne_locked s m whole q.1 (w q.2) (h q (by simp))
      rcases ih (s.writeOne m whole q.1 (w q.2)) (fun x hx => h x (by simp [hx])) with k | k
      · exact .inl k
      · exact .inr ⟨k.1 ∘ hq.1, k.2 ∘ hq.2⟩

/-- An entry of a numbered list that is not its last. -/
theorem range_dropLast (f : Nat → Nat) (n k j : Nat) (q : Nat × Nat)
    (h : q ∈ (((range k n).map f).zipIdx j).dropLast) : ∃ i, i + 1 < k + n ∧ q.1 = f i := by
  induction n generalizing k j with
  | zero => simp [range] at h
  | succ n ih =>
    cases n with
    | zero => simp [range] at h
    | succ n =>
      rw [range, List.map_cons, List.zipIdx_cons, range, List.map_cons, List.zipIdx_cons, List.dropLast_cons_cons] at h
      rcases List.mem_cons.1 h with rfl | h
      · exact ⟨k, by omega, rfl⟩
      · rw [← List.zipIdx_cons, ← List.map_cons, ← range] at h
        obtain ⟨i, hi, e⟩ := ih (k + 1) (j + 1) h
        exact ⟨i, by omega, e⟩

/-- Only the last word of an aligned access of at most 64 bytes is at 60 of 64. -/
theorem last_word {x i n : Nat} (hn : n = 1 ∨ n = 2 ∨ n = 4 ∨ n = 8 ∨ n = 16 ∨ n = 32 ∨ n = 64)
    (hi : i + 1 < 0 + (x % 4 + n + 3) / 4) (h : x % n = 0) : (x / 4 * 4 + 4 * i) % 64 ≠ 60 := by
  rcases hn with rfl | rfl | rfl | rfl | rfl | rfl | rfl <;> omega

/-- In an aligned access only the last word can be an MB_RESET. -/
theorem words_reset {a : Access} (h : wfSize a.size a.off = true) : ∀ q ∈ a.words.zipIdx.dropLast, q.1 % 64 ≠ 60 := by
  intro q hq
  obtain ⟨i, hi, e⟩ := range_dropLast (fun i => a.off / 4 * 4 + 4 * i) _ 0 0 q hq
  simp only [wfSize, List.contains_cons, List.contains_nil, Bool.or_false, Bool.and_eq_true, Bool.or_eq_true,
    beq_iff_eq, decide_eq_true_eq] at h
  rw [e]
  exact last_word h.1 hi h.2

theorem State.writeAcc_moved (s : State) (m : Master) (a : Access) (v : Nat) :
    State.MovedIf (wfSize a.size a.off = true) s (s.writeAcc m a v) := by
  unfold State.writeAcc
  generalize decide (4 ≤ a.size) = whole
  have h := State.writes_moved m whole (fun i => BitVec.ofNat 32 (v / 2 ^ (32 * i))) a.words.zipIdx s
  have k := State.writes_locked m whole (fun i => BitVec.ofNat 32 (v / 2 ^ (32 * i))) a.words.zipIdx s
  exact ⟨(MovesIf.refl _ : Moves s.still.fixed s.still.fixed).trans h.moves (fun q => k (words_reset q)), h.straps, h.fuses,
    h.mem⟩

theorem execRegisterWrite_moved (m : Master) (a : Access) (v : Nat) (s t : State)
    (h : execRegisterWrite m a v s = .next t) : State.MovedIf (wfSize a.size a.off = true) s t := by
  unfold execRegisterWrite at h
  split at h <;> cases h
  exact State.writeAcc_moved ..

theorem execDebugPortTransaction_moved (w : Bool) (a : Access) (v : Nat) (s t : State)
    (h : execDebugPortTransaction w a v s = .next t) : State.MovedIf (wfSize a.size a.off = true) s t := by
  unfold execDebugPortTransaction at h
  dsimp only at h
  split at h
  · split at h
    · cases h
    · cases h
      split
      · have m := State.writeAcc_moved s .debug ⟨a.off - 0x40000000, a.size⟩ v
        refine ⟨m.moves.weaken (fun q => ?_), m.straps, m.fuses, m.mem⟩
        simp only [wfSize, List.contains_cons, List.contains_nil, Bool.or_false, Bool.and_eq_true, Bool.or_eq_true,
          beq_iff_eq, decide_eq_true_eq] at q ⊢
        refine ⟨q.1, ?_⟩
        obtain ⟨q1, q2⟩ := q
        rename_i hr _
        rcases q1 with e | e | e | e | e | e | e <;> rw [e] at q2 ⊢ <;> omega
      · exact State.MovedIf.weaken (.of_eq (State.readReg_still ..)) (fun _ => trivial)
  · split at h
    · cases h
      split
      · have hf : (((s.seenDebug .debug).dmaWrite false a.off (leBytes a.size v)).still).fixed = s.still.fixed := by
          rw [State.dmaWrite_fixed, State.seenDebug_still]
        exact ⟨(MovesIf.of_eq hf : Moves _ _).weaken (fun _ => trivial), congrArg Fixed.straps hf, .of_eq hf, .after (State.seenDebug_still _ _) (State.dmaWrite_mem ..)⟩
      · exact State.MovedIf.weaken (.of_eq (by rw [State.returnData_still, State.drawFree_still, State.seenDebug_still]))
          (fun _ => trivial)
    · cases h
      exact State.MovedIf.weaken (.of_eq (by rw [State.icError_still, State.seenDebug_still])) (fun _ => trivial)

/-- The one row that samples the straps: they become the pins' levels. -/
theorem execResetNRelease_moves (index : Nat) (pid : Bool) (b : BootTests) (s t : State)
    (h : execResetNRelease index pid b s = .next t) :
    Moves s.still.fixed t.still.fixed
    ∧ t.straps = (if s.pins.resetN then s.straps else { groupIdx := index % 4, pairId := pid }) := by
  unfold execResetNRelease at h
  split at h
  · rename_i hr
    cases h
    exact ⟨MovesIf.refl _, by rw [if_pos hr]⟩
  · rename_i hr
    rw [if_neg hr]
    dsimp only at h
    split at h
    · cases h
      exact ⟨⟨rfl, rfl, Nat.le_refl _, by show s.fuses.epoch ≤ max 4096 s.fuses.epoch; omega, fun _ => .inr ⟨id, id⟩, id⟩, rfl⟩
    · cases h
      obtain ⟨k, hs⟩ := State.startUp_alike { s with
        straps := { groupIdx := index % 4, pairId := pid }
        pins := { s.pins with resetN := true, pwrfail := false }
        glb := { s.glb with thermalHold := false } } b
      generalize State.startUp _ _ = w at *
      refine ⟨.of_startup k.pending k.fuses (.inr ⟨fun e => k.bootLock.trans e, fun e => k.mapSwap.trans e⟩)
        (fun q => ⟨Nat.le_trans (Nat.le_of_lt hs) (by decide), fun e => absurd hs (Nat.not_lt.2 e), fun e => ?_⟩), k.straps⟩
      obtain ⟨q1, q2⟩ := q.2.2 (k.ready.symm.trans e)
      exact ⟨k.bootLock.trans q1, k.mapSwap.trans q2⟩

/-- Whatever the row, the fixed part moves as `MovesIf` says. -/
theorem exec_moves (i : Instr) (s t : State) (h : exec i s = .next t) :
    MovesIf (i.wf = true) s.still.fixed t.still.fixed := by
  have all : ∀ {a b : Fixed}, Moves a b → MovesIf (i.wf = true) a b := fun m => m.weaken (fun _ => trivial)
  cases hr : reach i with
  | control => exact all (.of_eq (congrArg Still.fixed (exec_still hr s t h)))
  | memory => exact all (.of_eq (exec_fixed hr s t h))
  | start =>
    cases i
    case mbResetDevice mb v => exact all (execMbReset_moved _ _ _ _ h).moves
    case mbResetCcOnly mb v => exact all (execMbReset_moved _ _ _ _ h).moves
    case bootGo v => exact all (execBootGo_moved _ _ _ h).moves
    case registerWrite m o v => exact (execRegisterWrite_moved _ _ _ _ _ h).moves.weaken (fun q => by simp only [Instr.wf, wfAccess, Bool.and_eq_true] at q; exact q.1.1)
    case thermalTrip => exact all (execThermalTrip_moved _ _ h).moves
    case powerOnReset l => exact all (execPowerOnReset_moved _ _ _ h).1
    case resetNAssert => exact all (execResetNAssert_moved _ _ h).moves
    case deviceResetRouterDie b => exact all (execDeviceResetRouterDie_moved _ _ _ h).moves
    case ccOnlyResetRelease b => exact all (execCcOnlyResetRelease_moved _ _ _ h).moves
    case ucieTrainTimeout => exact all (execUcieTrainTimeout_moved _ _ h).moves
    case imageAccept m => exact all (execImageAccept_moved _ _ _ h).moves
    case ready l => exact all (execReady_moved _ _ _ h).moves
    case debugPortTransaction w a v => exact (execDebugPortTransaction_moved _ _ _ _ _ h).moves.weaken (fun q => by simp only [Instr.wf, Bool.and_eq_true] at q; exact q.1)
    case resetNRelease a b c => exact all (execResetNRelease_moves _ _ _ _ _ h).1
    all_goals cases hr

/-- No row but RESET_N_RELEASE changes the straps. -/
theorem exec_straps (i : Instr) (s t : State) (hi : ∀ a b c, i ≠ .resetNRelease a b c) (h : exec i s = .next t) :
    t.straps = s.straps := by
  cases hr : reach i with
  | control => exact congrArg Fixed.straps (congrArg Still.fixed (exec_still hr s t h))
  | memory => exact congrArg Fixed.straps (exec_fixed hr s t h)
  | start =>
    cases i
    case mbResetDevice mb v => exact (execMbReset_moved _ _ _ _ h).straps
    case mbResetCcOnly mb v => exact (execMbReset_moved _ _ _ _ h).straps
    case bootGo v => exact (execBootGo_moved _ _ _ h).straps
    case registerWrite m o v => exact (execRegisterWrite_moved _ _ _ _ _ h).straps
    case thermalTrip => exact (execThermalTrip_moved _ _ h).straps
    case powerOnReset l => exact (execPowerOnReset_moved _ _ _ h).2.1
    case resetNAssert => exact (execResetNAssert_moved _ _ h).straps
    case deviceResetRouterDie b => exact (execDeviceResetRouterDie_moved _ _ _ h).straps
    case ccOnlyResetRelease b => exact (execCcOnlyResetRelease_moved _ _ _ h).straps
    case ucieTrainTimeout => exact (execUcieTrainTimeout_moved _ _ h).straps
    case imageAccept m => exact (execImageAccept_moved _ _ _ h).straps
    case ready l => exact (execReady_moved _ _ _ h).straps
    case debugPortTransaction w a v => exact (execDebugPortTransaction_moved _ _ _ _ _ h).straps
    case resetNRelease a b c => exact absurd rfl (hi a b c)
    all_goals cases hr

/-- RESET_N_RELEASE burns the bit that waits and no other. -/
theorem execResetNRelease_burned (index : Nat) (pid : Bool) (b : BootTests) (s t : State)
    (h : execResetNRelease index pid b s = .next t) : Burned s.still.fixed t.still.fixed := by
  unfold execResetNRelease at h
  split at h
  · cases h
    exact .same rfl rfl
  · dsimp only at h
    split at h <;> cases h
    · exact .same rfl rfl
    · have k := (State.startUp_alike { s with
        straps := { groupIdx := index % 4, pairId := pid }
        pins := { s.pins with resetN := true, pwrfail := false }
        glb := { s.glb with thermalHold := false } } b).1.fuses
      generalize State.startUp _ _ = w at *
      exact k

/-- No row but POWER_ON_RESET lets a bit wait to be burned, and a row burns the bit that waits and no other. -/
theorem exec_burned (i : Instr) (s t : State) (hi : ∀ l, i ≠ .powerOnReset l) (h : exec i s = .next t) :
    Burned s.still.fixed t.still.fixed := by
  cases hr : reach i with
  | control => exact .of_eq (congrArg Still.fixed (exec_still hr s t h))
  | memory => exact .of_eq (exec_fixed hr s t h)
  | start =>
    cases i
    case mbResetDevice mb v => exact (execMbReset_moved _ _ _ _ h).fuses
    case mbResetCcOnly mb v => exact (execMbReset_moved _ _ _ _ h).fuses
    case bootGo v => exact (execBootGo_moved _ _ _ h).fuses
    case registerWrite m o v => exact (execRegisterWrite_moved _ _ _ _ _ h).fuses
    case thermalTrip => exact (execThermalTrip_moved _ _ h).fuses
    case powerOnReset l => exact absurd rfl (hi l)
    case resetNAssert => exact (execResetNAssert_moved _ _ h).fuses
    case deviceResetRouterDie b => exact (execDeviceResetRouterDie_moved _ _ _ h).fuses
    case ccOnlyResetRelease b => exact (execCcOnlyResetRelease_moved _ _ _ h).fuses
    case ucieTrainTimeout => exact (execUcieTrainTimeout_moved _ _ h).fuses
    case imageAccept m => exact (execImageAccept_moved _ _ _ h).fuses
    case ready l => exact (execReady_moved _ _ _ h).fuses
    case debugPortTransaction w a v => exact (execDebugPortTransaction_moved _ _ _ _ _ h).fuses
    case resetNRelease a b c => exact execResetNRelease_burned _ _ _ _ _ h
    all_goals cases hr

/-- Whatever the row, no fuse changes where no bit waits to be burned, and the epoch rises by 1 at most. -/
theorem exec_fuses (i : Instr) (s t : State) (h : exec i s = .next t) :
    (s.startup.burns = none → t.fuses = s.fuses) ∧ t.fuses.epoch ≤ s.fuses.epoch + 1 := by
  by_cases hi : ∃ l, i = .powerOnReset l
  · obtain ⟨l, rfl⟩ := hi
    have k : t.fuses = s.fuses := (execPowerOnReset_moved l s t h).2.2
    exact ⟨fun _ => k, k ▸ Nat.le_succ _⟩
  · have k := exec_burned i s t (fun l e => hi ⟨l, e⟩) h
    exact ⟨k.kept, k.one⟩

theorem execPowerOnReset_mem (burns : List Bool) (s t : State) (h : execPowerOnReset burns s = .next t) :
    KeepsMem s.still t.still := by
  cases h
  exact .of_reset ⟨rfl, rfl, rfl, rfl⟩

theorem execResetNRelease_mem (index : Nat) (pid : Bool) (b : BootTests) (s t : State)
    (h : execResetNRelease index pid b s = .next t) : KeepsMem s.still t.still := by
  unfold execResetNRelease at h
  split at h
  · cases h
    exact .of_eq rfl
  · dsimp only at h
    split at h <;> cases h
    · exact .of_same ⟨rfl, rfl, rfl, rfl⟩
    · exact .of_same (State.startUp_alike _ b).1.mem

/-- Every row keeps the canonical form of the memories. -/
theorem exec_mem (i : Instr) (s t : State) (h : exec i s = .next t) : KeepsMem s.still t.still := by
  cases hr : reach i with
  | control => exact .of_eq (exec_still hr s t h)
  | memory =>
    cases i
    case tbStatus mb c => cases h; exact runCommand_mem answering_mem.TbStatus mb c s
    case audStatus mb c => cases h; exact runCommand_mem answering_mem.AudStatus mb c s
    case attest mb c => cases h; exact runCommand_mem answering_mem.Attest mb c s
    case idCertRead mb c => cases h; exact runCommand_mem answering_mem.IdCertRead mb c s
    case eyescanComplete l scan => exact execEyescanComplete_mem _ _ _ _ h
    case stackReturnComplete k => exact execStackReturnComplete_mem _ _ _ h
    case mqCompareReport e low second => exact execMqCompareReport_mem _ _ _ _ _ h
    case ethFrameReceive p f => exact execEthFrameReceive_mem _ _ _ _ h
    case hpTxPoll p => exact execHpTxPoll_mem _ _ _ h
    case dmaDescriptorStart c => exact execDmaDescriptorStart_mem _ _ _ h
    case dmaBlock c => exact execDmaBlock_mem _ _ _ h
    case dmaDescriptorComplete c => exact execDmaDescriptorComplete_mem _ _ _ h
    case dmaHalt c e => exact execDmaHalt_mem _ _ _ _ h
    case dmaLoopSuspect c => exact execDmaLoopSuspect_mem _ _ _ h
    case commandFetch => exact execCommandFetch_mem _ _ h
    case completionPost i => exact execCompletionPost_mem _ _ _ h
    case pwrWakeComplete d u => exact execPwrWakeComplete_mem d u _ _ h
    all_goals cases hr
  | start =>
    cases i
    case powerOnReset l => exact execPowerOnReset_mem _ _ _ h
    case resetNRelease a b c => exact execResetNRelease_mem _ _ _ _ _ h
    case mbResetDevice mb v => exact (execMbReset_moved _ _ _ _ h).mem
    case mbResetCcOnly mb v => exact (execMbReset_moved _ _ _ _ h).mem
    case bootGo v => exact (execBootGo_moved _ _ _ h).mem
    case registerWrite m o v => exact (execRegisterWrite_moved _ _ _ _ _ h).mem
    case thermalTrip => exact (execThermalTrip_moved _ _ h).mem
    case resetNAssert => exact (execResetNAssert_moved _ _ h).mem
    case deviceResetRouterDie b => exact (execDeviceResetRouterDie_moved _ _ _ h).mem
    case ccOnlyResetRelease b => exact (execCcOnlyResetRelease_moved _ _ _ h).mem
    case ucieTrainTimeout => exact (execUcieTrainTimeout_moved _ _ h).mem
    case imageAccept m => exact (execImageAccept_moved _ _ _ h).mem
    case ready l => exact (execReady_moved _ _ _ h).mem
    case debugPortTransaction w a v => exact (execDebugPortTransaction_moved _ _ _ _ _ h).mem
    all_goals cases hr

end Sys2Proof.Machine
end

