-- ==== Sys2Proof/Laws/Step.lean ====
section
/-! SUPPORT. What one step does: time passes on an empty queue, or the front command acts; and what `still` says field by
field. -/
namespace Sys2Proof.Machine

open Sys2Proof.Safety

/-- The fields of the fixed part. -/
theorem State.fixed_fields {s t : State} (h : t.still.fixed = s.still.fixed) :
    t.pending = s.pending ∧ t.fuses = s.fuses ∧ t.straps = s.straps ∧ t.startup = s.startup := by
  simpa only [State.still, Fixed.mk.injEq] using h

/-- The fields of the whole part. -/
theorem State.still_fields {s t : State} (h : t.still = s.still) :
    (t.pending = s.pending ∧ t.fuses = s.fuses ∧ t.straps = s.straps ∧ t.startup = s.startup)
      ∧ t.hostMem = s.hostMem ∧ t.hbm = s.hbm ∧ t.hbm2 = s.hbm2 ∧ t.sram = s.sram ∧ t.hostBad = s.hostBad := by
  simpa only [State.still, Still.mk.injEq, Fixed.mk.injEq] using h

/-- What passes with one cycle leaves the queue, the fuses, the straps, start-up and the memories. -/
theorem State.advance_fields (s : State) :
    (s.advance.pending = s.pending ∧ s.advance.fuses = s.fuses ∧ s.advance.straps = s.straps
      ∧ s.advance.startup = s.startup)
      ∧ s.advance.hostMem = s.hostMem ∧ s.advance.hbm = s.hbm ∧ s.advance.hbm2 = s.hbm2
      ∧ s.advance.sram = s.sram ∧ s.advance.hostBad = s.hostBad := State.still_fields (State.advance_still s)

/-- One step: time passes on an empty queue, or the front command acts on the rest. -/
theorem step_cases {s t : State} (h : step s = .next t) :
    (s.pending = [] ∧ t = s.advance)
      ∨ ∃ c rest, s.pending = c :: rest ∧ exec c { s with pending := rest } = .next t := by
  unfold step at h
  split at h
  · rename_i e
    exact .inl ⟨e, (Host.Outcome.next.inj h).symm⟩
  · rename_i c rest e
    exact .inr ⟨c, rest, e, h⟩

end Sys2Proof.Machine
end

