-- ==== Sys2Proof/Tests/Slice0.lean ====
section
/-! SUPPORT. Tests: a witness for the conditions of every statement, ill-formed commands,
and examples of the spec. Expected values come from its worked examples, tables and rules. -/

namespace Sys2Proof.Tests

open Sys2Proof.Machine Sys2Proof.Safety

set_option Elab.async false

/-- The byte at an offset of some fields (offset, size, value). -/
def fieldByte (fs : List (Nat × Nat × Nat)) (i : Nat) : Byte :=
  match fs.find? (fun f => decide (f.1 ≤ i ∧ i < f.1 + f.2.1)) with
  | some f => BitVec.ofNat 8 (f.2.2 / 256 ^ (i - f.1))
  | none => 0

/-- A command of session 0x10 with payload fields (offset, size, value). -/
def cmd (fs : List (Nat × Nat × Nat)) : Cmd := ⟨(range 0 64).map (fieldByte (fs ++ [(4, 1, 0x10)]))⟩

/-- A buffer of `n` bytes with some fields. -/
def buffer (n : Nat) (fs : List (Nat × Nat × Nat)) : List Byte := (range 0 n).map (fieldByte fs)

/-- A READY device with one open session of every role on mailbox 0, and domain 0 with ticks at 50 Hz. -/
def up : State :=
  { State.reset with
    clk := 12000000000
    startup := { stage := 7, ready := true, bootLock := true, mapSwap := true, burns := none }
    pins := { State.reset.pins with resetN := true }
    mb := [(0, { en := true, isOpen := true, roles := 7, rank := 0, gen := 1 })]
    td := [(0,
        { rate := some 5, ref := some 0, count := 100, started := true, last := 11900000000, next := 12140000000 })] }

/-- The conditions of `Accepted`, to be computed. -/
def accepts (p : CmdSpec) (c : Cmd) (s : State) : Bool :=
  s.balixUp && s.hasRoom 0 1 && s.keysLogged (ran p c) && (judge p (entered p 0 c s) (context p 0 c s)).isNone
    && ((acting p 0 c s).asleep (needed p c)).isNone

theorem accepted_of {p : CmdSpec} {c : Cmd} {s : State} (h : accepts p c s = true) : Accepted p 0 c s := by
  simp only [accepts, Bool.and_eq_true, Option.isNone_iff_eq_none] at h
  exact ⟨⟨⟨h.1.1.1.1, by decide, h.1.1.1.2, h.1.1.2⟩, h.1.2⟩, h.2⟩

/-- The conditions of `OnTick` are met. -/
def Held (p : CmdSpec) (E : State → Ctx → List (Nat × List Entry)) (G : State → Ctx → State) (c : Cmd) (s : State) :
    Prop :=
  ∃ n late places, Passes p 0 c s ∧ (entered p 0 c s).assign (context p 0 c s) = .ok (n, late)
    ∧ (staging p E G 0 c s n).placeAll [s.newId] (ran p c).lateOk (range 0 8) = some places

/-- The conditions of `OnTick`, to be computed. -/
def holds (p : CmdSpec) (E : State → Ctx → List (Nat × List Entry)) (G : State → Ctx → State) (c : Cmd) (s : State) :
    Bool :=
  s.balixUp && s.hasRoom 0 1 && s.keysLogged (ran p c) && (judge p (entered p 0 c s) (context p 0 c s)).isNone
    && (match (entered p 0 c s).assign (context p 0 c s) with
        | .ok (n, _) => ((staging p E G 0 c s n).placeAll [s.newId] (ran p c).lateOk (range 0 8)).isSome
        | .error _ => false)

theorem held_of {p : CmdSpec} {E : State → Ctx → List (Nat × List Entry)} {G : State → Ctx → State} {c : Cmd} {s : State}
    (h : holds p E G c s = true) : Held p E G c s := by
  simp only [holds, Bool.and_eq_true, Option.isNone_iff_eq_none] at h
  obtain ⟨⟨⟨⟨hb, hr⟩, hk⟩, hj⟩, h⟩ := h
  split at h
  · rename_i n late ha
    obtain ⟨places, hp⟩ := Option.isSome_iff_exists.mp h
    exact ⟨n, late, places, ⟨⟨hb, by decide, hr, hk⟩, hj⟩, ha, hp⟩
  · cases h

/-- Each command of SystemCommandsComplete is accepted somewhere. -/
theorem witness_SystemCommandsComplete :
    Accepted cmdDeviceInfo 0 (cmd []) up ∧
    Accepted cmdFwStatus 0 (cmd []) up ∧
    Accepted cmdSessionOpen 0 (cmd [(4,1,0),(17,1,1)]) ({ up with mb := [] }) ∧
    Accepted cmdSessionClose 0 (cmd [(16,1,0xFF)]) up ∧
    Accepted cmdNopEcho 0 (cmd [(16,1,7)]) up :=
  ⟨accepted_of (by decide +kernel),
    accepted_of (by decide +kernel),
    accepted_of (by decide +kernel),
    accepted_of (by decide +kernel),
    accepted_of (by decide +kernel)⟩

/-- Each command of ReferenceCommandsComplete is accepted somewhere. -/
theorem witness_ReferenceCommandsComplete :
    Accepted cmdTdConfig 0 (cmd [(16,1,2)]) up ∧
    Accepted cmdRefConfig 0 (cmd [(22,2,20),(24,4,1000)]) up ∧
    Accepted cmdRefPriority 0 (cmd [(16,1,1)]) up ∧
    Accepted cmdRefForce 0 (cmd [(16,1,0)]) up ∧
    Accepted cmdRefStatus 0 (cmd []) up :=
  ⟨accepted_of (by decide +kernel),
    accepted_of (by decide +kernel),
    accepted_of (by decide +kernel),
    accepted_of (by decide +kernel),
    accepted_of (by decide +kernel)⟩

/-- Each command of TimeCommandsComplete is accepted somewhere. -/
theorem witness_TimeCommandsComplete :
    Accepted cmdTbConfig 0 (cmd [(16,1,1),(18,1,0x10),(19,1,1),(28,8,18446744073709551615),(36,2,30)]) up ∧
    Accepted cmdTbOffset 0 (cmd []) ({ up with tb := [(0, { state := .freeRunAtLast })] }) ∧
    Accepted cmdTbStep 0 (cmd []) ({ up with tb := [(0, { state := .freeRunAtLast })] }) ∧
    Accepted cmdPtpInstance 0 (cmd [(17,1,0)]) up ∧
    Accepted cmdTbStatus 0 (cmd []) up :=
  ⟨accepted_of (by decide +kernel),
    accepted_of (by decide +kernel),
    accepted_of (by decide +kernel),
    accepted_of (by decide +kernel),
    accepted_of (by decide +kernel)⟩

/-- Each command of IngressCommandsComplete is accepted somewhere. -/
theorem witness_IngressCommandsComplete :
    Accepted cmdSrcBind 0 (cmd []) up ∧
    Accepted cmdSrcStatus 0 (cmd []) up ∧
    Accepted cmdRxFlowSet 0 (cmd [(5,1,8),(16,8,0x1000),(24,4,128)])
        ({ up with ep := [(0, { mode := 1 })], hostMem := Memory.writeBytes [] 0x1000 (buffer 128 [(0,1,2),(52,1,2),(54,1,24),(56,2,48)]) })
        ∧
    Accepted cmdRxFlowClear 0 (cmd []) up ∧
    Accepted cmdSrcSyncMode 0 (cmd []) up :=
  ⟨accepted_of (by decide +kernel),
    accepted_of (by decide +kernel),
    accepted_of (by decide +kernel),
    accepted_of (by decide +kernel),
    accepted_of (by decide +kernel)⟩

/-- Each command of FabricAndEgressCommandsComplete is accepted somewhere. -/
theorem witness_FabricAndEgressCommandsComplete :
    Accepted cmdXptSalvoLoad 0 (cmd [(5,1,8),(16,8,0x1000),(24,4,4)])
        ({ up with hostMem := Memory.writeBytes [] 0x1000 (buffer 4 [(2,2,0xFFFF)]) }) ∧
    Accepted cmdXptQuery 0 (cmd []) up ∧
    Accepted cmdPlaneControl 0 (cmd [(17,1,2)]) up ∧
    Accepted cmdPlaneStatus 0 (cmd []) up ∧
    Accepted cmdDstBind 0 (cmd []) up ∧
    Accepted cmdTxFlowSet 0 (cmd [(5,1,8),(16,8,0x1000),(24,4,256),(28,2,2048)])
        ({ up with ep := [(0, { mode := 1 })], hostMem := Memory.writeBytes [] 0x1000 (buffer 256 [(0,1,2),(54,1,1),(58,1,2),(60,1,24)]) })
        ∧
    Accepted cmdDstStatus 0 (cmd []) up ∧
    Accepted cmdDstMitreSet 0 (cmd []) ({ up with de := [(0, { kind := 1, fmt := 0x32 })] }) :=
  ⟨accepted_of (by decide +kernel),
    accepted_of (by decide +kernel),
    accepted_of (by decide +kernel),
    accepted_of (by decide +kernel),
    accepted_of (by decide +kernel),
    accepted_of (by decide +kernel),
    accepted_of (by decide +kernel),
    accepted_of (by decide +kernel)⟩

/-- Each command of AudioAndMarquetryCommandsComplete is accepted somewhere. -/
theorem witness_AudioAndMarquetryCommandsComplete :
    Accepted cmdAudRampSet 0 (cmd [(20,2,1)]) up ∧
    Accepted cmdAudStatus 0 (cmd []) up ∧
    Accepted cmdMqOutput 0 (cmd [(22,1,1)]) up ∧
    Accepted cmdMqLayout 0 (cmd [(5,1,8),(16,8,0x1000),(24,4,16)])
        ({ up with mq := [(0, { mode := 2, fmt := 0x32 })], hostMem := Memory.writeBytes [] 0x1000 (buffer 16 [(4,2,16),(6,2,8),(8,2,0xFFFF)]) })
        ∧
    Accepted cmdMqCompare 0 (cmd []) ({ up with mq := [(0, { mode := 3 })] }) ∧
    Accepted cmdMqStatus 0 (cmd []) up :=
  ⟨accepted_of (by decide +kernel),
    accepted_of (by decide +kernel),
    accepted_of (by decide +kernel),
    accepted_of (by decide +kernel),
    accepted_of (by decide +kernel),
    accepted_of (by decide +kernel)⟩

/-- Each command of DovetailAndPairCommandsComplete is accepted somewhere. -/
theorem witness_DovetailAndPairCommandsComplete :
    Accepted cmdDtLinkUp 0 (cmd []) up ∧
    Accepted cmdDtStatus 0 (cmd []) up ∧
    Accepted cmdDtGroup 0 (cmd [(16,1,1),(17,1,0),(19,1,0xFF)]) up ∧
    Accepted cmdDtTieReserve 0 (cmd [(18,2,1024)]) ({ up with group := { set := true, members := 3 } }) ∧
    Accepted cmdPairConfig 0 (cmd [(17,1,0xFF)]) up ∧
    Accepted cmdPairStatus 0 (cmd []) up ∧
    Accepted cmdPairMirrorSet 0 (cmd [(5,1,8),(16,8,0x1000),(24,4,1024)])
        ({ up with pr := { up.pr with state := .active } }) ∧
    Accepted cmdPairSwitch 0 (cmd [(16,1,1)]) ({ up with pr := { up.pr with state := .isolated } }) ∧
    Accepted cmdPairResync 0 (cmd []) ({ up with pr := { up.pr with state := .standby } }) :=
  ⟨accepted_of (by decide +kernel),
    accepted_of (by decide +kernel),
    accepted_of (by decide +kernel),
    accepted_of (by decide +kernel),
    accepted_of (by decide +kernel),
    accepted_of (by decide +kernel),
    accepted_of (by decide +kernel),
    accepted_of (by decide +kernel),
    accepted_of (by decide +kernel)⟩

/-- Each command of FaultCommandsComplete is accepted somewhere. -/
theorem witness_FaultCommandsComplete :
    Accepted cmdFaultRead 0 (cmd []) up ∧
    Accepted cmdFaultAck 0 (cmd [(20,4,1)]) up ∧
    Accepted cmdFaultMap 0 (cmd [(16,2,0xFFFF),(21,1,1)]) up ∧
    Accepted cmdFaultInject 0 (cmd [(16,2,0),(20,2,1)]) up ∧
    Accepted cmdSelftestRun 0 (cmd [(16,1,5)]) up :=
  ⟨accepted_of (by decide +kernel),
    accepted_of (by decide +kernel),
    accepted_of (by decide +kernel),
    accepted_of (by decide +kernel),
    accepted_of (by decide +kernel)⟩

/-- Each command of KeyAndGrainCommandsComplete is accepted somewhere. -/
theorem witness_KeyAndGrainCommandsComplete :
    Accepted cmdKeyInvalidate 0 (cmd [(16,2,5)])
        ({ up with ks := { up.ks with slots := [(5, { state := .active, attr := 1 })] } }) ∧
    Accepted cmdKeyInfo 0 (cmd []) up ∧
    Accepted cmdAttest 0 (cmd [(56,4,432)]) up ∧
    Accepted cmdIdCertRead 0 (cmd [(32,4,2048)]) up ∧
    Accepted cmdGrainConfig 0 (cmd [(29,1,0),(36,4,4096),(48,4,65536)]) up ∧
    Accepted cmdGrainWitness 0 (cmd [(16,2,0)]) ({ up with de := [(0, { kind := 1 })] }) ∧
    Accepted cmdGrainStatus 0 (cmd []) up :=
  ⟨accepted_of (by decide +kernel),
    accepted_of (by decide +kernel),
    accepted_of (by decide +kernel),
    accepted_of (by decide +kernel),
    accepted_of (by decide +kernel),
    accepted_of (by decide +kernel),
    accepted_of (by decide +kernel)⟩

/-- Each command of PowerLaneAndPortCommandsComplete is accepted somewhere. -/
theorem witness_PowerLaneAndPortCommandsComplete :
    Accepted cmdPwrTolerance 0 (cmd []) up ∧
    Accepted cmdPwrPin 0 (cmd []) up ∧
    Accepted cmdPwrStatus 0 (cmd []) up ∧
    Accepted cmdLaneConfig 0 (cmd [(16,2,128),(18,1,1),(20,1,1)]) up ∧
    Accepted cmdLaneEq 0 (cmd [(16,2,128)]) up ∧
    Accepted cmdLaneBitslip 0 (cmd [(16,2,0),(18,1,1)]) ({ up with ln := [(0, { test := 2 })] }) ∧
    Accepted cmdLanePrbs 0 (cmd [(16,2,0),(18,1,2)]) up ∧
    Accepted cmdLaneEyescan 0 (cmd [(16,2,128),(18,1,6),(32,4,49152)]) ({ up with ln := [(128, { role := 1 })] }) ∧
    Accepted cmdPortConfig 0 (cmd [(17,1,1),(22,2,1518)]) up ∧
    Accepted cmdMacsecSc 0 (cmd [(18,1,1)]) ({ up with ep := [(0, { mode := 1 })] }) :=
  ⟨accepted_of (by decide +kernel),
    accepted_of (by decide +kernel),
    accepted_of (by decide +kernel),
    accepted_of (by decide +kernel),
    accepted_of (by decide +kernel),
    accepted_of (by decide +kernel),
    accepted_of (by decide +kernel),
    accepted_of (by decide +kernel),
    accepted_of (by decide +kernel),
    accepted_of (by decide +kernel)⟩

/-- Each tick-applied command is held for its tick somewhere. -/
theorem witness_TickCommandsHeld :
    Held cmdXptTake (fun _ x => [(x.cmd.td, [.take (x.cmd.u16 16) (x.cmd.u16 18)])]) (fun t _ => t) (cmd
        [(18,2,0xFFFF)]) ({ up with de := [(0, { kind := 1 })] }) ∧
    Held cmdXptSalvoFire (fun t x => t.salvoParts (t.salvo (x.cmd.u8 16)).entries) (fun t _ => t) (cmd [])
        ({ up with de := [(0, { kind := 1 })], bx := { up.bx with salvos := [(0, { loaded := true, entries := [(0, 0xFFFF)] })] } })
        ∧
    Held cmdXptProtect (fun _ x => [(x.cmd.td, [.protect (x.cmd.u16 16) (x.cmd.u8 18)])]) (fun t _ => t) (cmd
        [(18,1,1)]) ({ up with de := [(0, { kind := 1 })] }) ∧
    Held cmdXptLock (fun _ x => [(x.cmd.td, [.lock (x.cmd.u16 16) (x.cmd.u8 18)])]) (fun t _ => t) (cmd [(18,1,1)])
        ({ up with de := [(0, { kind := 1 })] }) ∧
    Held cmdAudGainSet (fun _ x => [(x.cmd.td, [.gain (x.cmd.u16 16) (x.cmd.u16 18) (x.cmd.u16 20)])]) (fun t _ => t)
        (cmd []) up ∧
    Held cmdAudGainBlock (fun _ x => [(x.cmd.td, (gainEntries x.buf).map (fun e => .gain e.1 e.2.1 e.2.2))]) (fun t _ =>
        t) (cmd [(5,1,8),(16,8,0x1000),(24,4,8)]) ({ up with hostMem := Memory.writeBytes [] 0x1000 (buffer 8 []) }) ∧
    Held cmdAudMapIn (fun _ x => [(x.cmd.td, (mapEntries x).map (fun q => .mapIn (le16 q.2 0) (byteAt q.2 2) (le16 q.2
        4) (byteAt q.2 3)))]) (fun t _ => t) (cmd
        [(16,8,0),(24,8,18446744073709551615),(32,8,18446744073709551615),(40,8,18446744073709551615),(48,8,18446744073709551615),(56,8,18446744073709551615)])
        up ∧
    Held cmdAudMapOut (fun _ x => [(x.cmd.td, (mapEntries x).map (fun q => .mapOut (byteAt q.2 2, le16 q.2 4, byteAt q.2
        3) (le16 q.2 0)))]) (fun t _ => t) (cmd
        [(16,8,0x10000),(24,8,18446744073709551615),(32,8,18446744073709551615),(40,8,18446744073709551615),(48,8,18446744073709551615),(56,8,18446744073709551615)])
        ({ up with de := [(0, { kind := 1, fmt := 0x32 })] }) ∧
    Held cmdAudFollow (fun _ x => [(x.cmd.td, [if x.cmd.u8 16 = 0 then .followDst (x.cmd.u16 18) (x.cmd.u8 17) else
        .followSrc (x.cmd.u16 20) (x.cmd.u16 22)])]) (fun t _ => t) (cmd [(16,1,1),(22,2,0xFFFF)]) up ∧
    Held cmdFpRealign (fun _ x => [(x.cmd.td, [.realign])]) (fun t _ => t) (cmd []) up ∧
    Held cmdCutoffSet (fun _ x => [(x.cmd.td, [.guard (x.cmd.u32 16)])]) (fun t _ => t) (cmd [(16,4,1000)]) up ∧
    Held cmdMqVeneer (fun _ x => [(x.cmd.td, (flipOf x.cmd).members.map (fun m => .veneer m.1 m.2.1))]) (fun t _ => t)
        (cmd [(24,1,1)]) ({ up with mq := [(0, { mode := 2, fmt := 0x32 })] }) ∧
    Held cmdMqFenceGroup (fun _ x => [(x.cmd.td, (flipOf x.cmd).members.map (fun m => .veneer m.1 m.2.1))]) (fun t _ =>
        t) (cmd [(16,1,2),(18,1,1),(27,1,1)])
        ({ up with mq := [(0, { mode := 2, fmt := 0x32 }), (1, { mode := 2, fmt := 0x32 })] }) ∧
    Held cmdKeyLoad (fun _ x => [(x.cmd.td, [.keyOp (x.cmd.u16 16)])]) (fun t x => (if x.cmd.u8 19 = 1 then t.handKey
        (x.cmd.u16 20) else t).writeSlot (x.cmd.u16 16)
        { state := .pending, attr := x.cmd.u8 18, origin := x.cmd.u8 19 } ((t.loadedKey x.cmd).getD 0)) (cmd
        [(16,2,5),(18,1,1)]) up ∧
    Held cmdKeyDerive (fun _ x => [(x.cmd.td, [.keyOp (x.cmd.u16 16)])]) (fun t x => t.writeSlot (x.cmd.u16 16)
        { state := .pending, attr := x.cmd.u8 18, parent := some (x.cmd.u16 20), depth := (t.slot (x.cmd.u16 20)).depth + 1, origin := 2 }
        (childKey (t.slotKey (x.cmd.u16 20)) x.cmd)) (cmd [(16,2,6),(18,1,1),(20,2,5)])
        ({ up with ks := { up.ks with slots := [(5, { state := .active, attr := 4 })] } }) ∧
    Held cmdGrainSeal (fun _ x => [(x.cmd.td, [.sealAt])]) (fun t _ => t) (cmd []) up :=
  ⟨held_of (by decide +kernel),
    held_of (by decide +kernel),
    held_of (by decide +kernel),
    held_of (by decide +kernel),
    held_of (by decide +kernel),
    held_of (by decide +kernel),
    held_of (by decide +kernel),
    held_of (by decide +kernel),
    held_of (by decide +kernel),
    held_of (by decide +kernel),
    held_of (by decide +kernel),
    held_of (by decide +kernel),
    held_of (by decide +kernel),
    held_of (by decide +kernel),
    held_of (by decide +kernel),
    held_of (by decide +kernel)⟩

/-- A state meets the conditions under which a row has its effect. -/
abbrev Meets (_ : Instr) (h : State → Prop) (s : State) : Prop := h s

/-- A command in flight. -/
def flight : Flight := { id := 1, mb := 0, cmd := cmd [], stamp := 0, sess := 0x10, rank := 0 }

/-- A line as the fabric carries it. -/
def fabLine : FabLine := ⟨⟨1, 0, 0, 1, 100, 0⟩, 69, 0, 10, [], []⟩

/-- A source line at ingress. -/
def lineIn : LineIn := ⟨1, 100, false, 12000000000, [], [], false, 0⟩

/-- A received frame. -/
def ethFrame : EthFrame := ⟨0, none, List.replicate 60 0, .plain .other⟩

/-- A read-out that shows no frame, and one that does. -/
def readout : Readout := { src := 0, td := 0, port := 1000 }
def readoutAt : Readout :=
    { readout with lastTick := some (100, false), black := true, frame := some ⟨0, 100, false, 69, 0, 10, [], 0, 0, 15⟩ }

/-- A device that delivers that read-out. -/
def shown : State := { up with readouts := [readoutAt] }

/-- Start-up tests that pass. -/
def bootOk : BootTests := ⟨true, true, true, true, true, true⟩

/-- 32 sensors at 0. -/
def temps32 : List Int := List.replicate 32 0

/-- A copy of a line that passes. -/
def copyOk : CopyFault := ⟨[], [], false, []⟩

/-- An output port whose both planes carry source 1 from input port 5. -/
def livePort : OutPort :=
  { a0 := { valid := true, port := 5, src := 1 }, b0 := { valid := true, port := 5, src := 1 } }

/-- The image of a transmit flow of kind audio. -/
def audioFlow : List Byte := buffer 64 [(0, 1, 2), (3, 1, 1)]

/-- The last line of a frame of tick 100 at a comparator tap. -/
def tapEnd : TapLine := ⟨12000000000, false, { fabLine with hdr := { fabLine.hdr with line := 1125 } }⟩

/-- A DMA descriptor of 64 bytes. -/
def descriptor : List Byte := buffer 32 [(16, 4, 64)]

/-- A link negotiation record that agrees. -/
def negRecord : NegRecord := ⟨3, 0, 0, false, false, 0x10, 1, true, false, 16, []⟩

/-- A tie that has been confirmed. -/
def tie : Tie := { src := 3077, td := 0, dev := 3, port := 1920, confirmed := true }

/-- The line of that tie that is due. -/
def dueLine : FabLine := { fabLine with hdr := up.tieDue tie 69 fabLine.hdr }

/-- A heartbeat of sequence 0. -/
def beatBytes : List Byte := buffer 28 [] ++ leBytes 4 (crc32c (buffer 28 [])).toNat

/-- A Grain record. -/
def grainRec : GrainRec := ⟨1, 0, 16, 1, [], none⟩

/-- A device whose pairing link is up. -/
def paired : State := { up with dt := [(0, { state := .up112 })], pr := { state := .active, link := 0 } }

/-- Every clause of DoorbellWrites that has a condition is met somewhere. -/
theorem witness_DoorbellWrites :
    ((fun mb v => Meets (.mbDoorbell mb v) (fun s => mb < 16 ∧ s.ucieUp = true ∧ (s.mbox mb).en = true ∧ 0 < ahead
        (v.toNat % 65536) (s.mbox mb).cmdTail ∧ ahead (v.toNat % 65536) (s.mbox mb).cmdTail ≤ 256 ∧ ahead (v.toNat %
        65536) (s.mbox mb).cmdHead ≤ 256)) 15 256 ({ up with mb := [(15, { en := true })] })) ∧
    ((fun mb v => Meets (.mbDoorbell mb v) (fun s => mb < 16 ∧ s.ucieUp = true ∧ (s.mbox mb).en = false)) 15 1 up) ∧
    ((fun mb v => Meets (.mbDoorbell mb v) (fun s => mb < 16 ∧ s.ucieUp = true ∧ (s.mbox mb).en = true ∧ (ahead (v.toNat
        % 65536) (s.mbox mb).cmdTail = 0 ∨ 256 < ahead (v.toNat % 65536) (s.mbox mb).cmdTail ∨ 256 < ahead (v.toNat %
        65536) (s.mbox mb).cmdHead))) 0 257 up) ∧
    ((fun mb v => Meets (.mbDoorbell mb v) (fun s => s.ucieUp = false)) 15 1 State.reset) :=
  ⟨by show Meets _ _ _; decide +kernel,
    by show Meets _ _ _; decide +kernel,
    by show Meets _ _ _; decide +kernel,
    by show Meets _ _ _; decide +kernel⟩

/-- Every clause of EnableWrites that has a condition is met somewhere. -/
theorem witness_EnableWrites :
    ((fun mb => Meets (.mbEnableSet mb) (fun s => mb < 16 ∧ s.ucieUp = true ∧ (s.mbox mb).en = false ∧ s.startup.ready =
        true)) 15 up) ∧
    ((fun mb => Meets (.mbEnableSet mb) (fun s => mb < 16 ∧ s.ucieUp = true ∧ (s.mbox mb).en = true)) 15
        ({ up with mb := [(15, { en := true })] })) ∧
    ((fun mb => Meets (.mbEnableSet mb) (fun s => mb < 16 ∧ s.ucieUp = true ∧ (s.mbox mb).en = false ∧ s.startup.ready =
        false)) 15 ({ up with startup := { stage := 4 } })) ∧
    ((fun mb => Meets (.mbEnableClear mb) (fun s => mb < 16 ∧ s.ucieUp = true ∧ (s.mbox mb).en = true ∧ (s.inflightOf mb
        = 0 ∨ (s.mbox mb).faulted = true))) 0 up) ∧
    ((fun mb => Meets (.mbEnableClear mb) (fun s => mb < 16 ∧ s.ucieUp = true ∧ (s.mbox mb).en = true ∧ s.inflightOf mb
        ≠ 0 ∧ (s.mbox mb).faulted = false)) 0 ({ up with bx := { flights := [flight] } })) ∧
    ((fun mb off v => Meets (.mbRingBaseWrite mb off v) (fun s => mb < 16 ∧ s.ucieUp = true ∧ off ≤ 0x14 ∧ off % 4 = 0 ∧
        (s.mbox mb).en = false)) 15 20 0xFFFFFFFF up) ∧
    ((fun mb off v => Meets (.mbRingBaseWrite mb off v) (fun s => mb < 16 ∧ s.ucieUp = true ∧ off ≤ 0x14 ∧ off % 4 = 0 ∧
        (s.mbox mb).en = true)) 0 0 1 up) ∧
    ((fun mb => Meets (.mbEnableSet mb) (fun s => s.ucieUp = false)) 15 State.reset) ∧
    ((fun mb => Meets (.mbEnableClear mb) (fun s => s.ucieUp = false)) 15 State.reset) ∧
    ((fun mb off v => Meets (.mbRingBaseWrite mb off v) (fun s => s.ucieUp = false)) 15 20 1 State.reset) :=
  ⟨by show Meets _ _ _; decide +kernel,
    by show Meets _ _ _; decide +kernel,
    by show Meets _ _ _; decide +kernel,
    by show Meets _ _ _; decide +kernel,
    by show Meets _ _ _; decide +kernel,
    by show Meets _ _ _; decide +kernel,
    by show Meets _ _ _; decide +kernel,
    by show Meets _ _ _; decide +kernel,
    by show Meets _ _ _; decide +kernel,
    by show Meets _ _ _; decide +kernel⟩

/-- Every clause of MailboxRegisterRows that has a condition is met somewhere. -/
theorem witness_MailboxRegisterRows :
    ((fun mb v => Meets (.mbCplHead mb v) (fun s => mb < 16 ∧ s.ucieUp = true ∧ ahead v.toNat (s.mbox mb).cplHead ≤
        ahead (s.mbox mb).cplTail (s.mbox mb).cplHead)) 0 65535
        ({ up with mb := [(0, { cplHead := 0, cplTail := 65535 })] })) ∧
    ((fun mb v => Meets (.mbIrqCtrl mb v) (fun s => mb < 16 ∧ s.ucieUp = true ∧ bitsOf v.toNat 23 16 ≠ 0)) 15 0xFF0000
        up) ∧
    ((fun mb t => Meets (.cplHoldoffExpiry mb) (fun s => (s.mbox mb).oldest = some t ∧ s.passed t (tuUs (s.mbox
        mb).holdoff) = true)) 0 11999987904 ({ up with mb := [(0, { oldest := some 11999987904 })] })) ∧
    ((fun mb v => Meets (.mbCplHead mb v) (fun s => mb < 16 ∧ s.ucieUp = true ∧ ahead (s.mbox mb).cplTail (s.mbox
        mb).cplHead < ahead v.toNat (s.mbox mb).cplHead)) 0 1 up) ∧
    ((fun mb v => Meets (.mbIrqCtrl mb v) (fun s => mb < 16 ∧ s.ucieUp = true ∧ bitsOf v.toNat 23 16 = 0)) 15 0xFF00FFFF
        up) ∧
    ((fun mb v => Meets (.mbResetDevice mb v) (fun s => mb < 16 ∧ s.ucieUp = true ∧ s.boot.firing = none ∧ (bitsOf
        v.toNat 31 16 ≠ 0xD1A1 ∨ (s.mbox mb).isOpen = false))) 0 0xD1A00001 up) ∧
    ((fun mb v => Meets (.mbCplHead mb v) (fun s => s.ucieUp = false)) 15 1 State.reset) ∧
    ((fun mb v => Meets (.mbIrqCtrl mb v) (fun s => s.ucieUp = false)) 15 0xFF0000 State.reset) ∧
    ((fun mb v => Meets (.mbResetDevice mb v) (fun s => s.ucieUp = false)) 15 0xD1A10001 State.reset) ∧
    ((fun mb v => Meets (.mbResetCcOnly mb v) (fun s => s.ucieUp = false)) 15 0xD1A10002 State.reset) :=
  ⟨by show Meets _ _ _; decide +kernel,
    by show Meets _ _ _; decide +kernel,
    by show Meets _ _ _; decide +kernel,
    by show Meets _ _ _; decide +kernel,
    by show Meets _ _ _; decide +kernel,
    by show Meets _ _ _; decide +kernel,
    by show Meets _ _ _; decide +kernel,
    by show Meets _ _ _; decide +kernel,
    by show Meets _ _ _; decide +kernel,
    by show Meets _ _ _; decide +kernel⟩

/-- Every clause of RegisterReadRows that has a condition is met somewhere. -/
theorem witness_RegisterReadRows :
    ((fun m q => Meets (.tsqEntry3Read m q) (fun s => q.unit < 16 ∧ q.acc.words.contains (0x40101C + 0x40 * q.unit) =
        true ∧ m ≠ .dma ∧ (s.seenDebug m).mayRead m = true)) .host (⟨15, ⟨0x4013D8, 8⟩⟩) up) ∧
    ((fun m q => Meets (.tbSecLRead m q) (fun s => q.unit < 8 ∧ q.acc.words.contains (0x400000 + 0x100 * q.unit) = true
        ∧ m ≠ .dma ∧ (s.seenDebug m).mayRead m = true)) .debug (⟨7, ⟨0x400700, 4⟩⟩) up) ∧
    ((fun r => Meets (.grainLastSeal0Read r) (fun s => r.acc.words.contains 0x2800100 = true ∧ r.master ≠ .dma ∧
        (s.seenDebug r.master).mayRead r.master = true)) (⟨.host, ⟨0x2800100, 4⟩⟩) up) ∧
    ((fun m a => Meets (.lowHalfRead m a) (fun s => a.words.any lowHalf = true ∧ m ≠ .dma ∧ (s.seenDebug m).mayRead m =
        true)) .cc0 (⟨0x20, 8⟩) up) ∧
    ((fun m a => Meets (.clearOnRead m a) (fun s => a.words.any hasRc = true ∧ m ≠ .dma ∧ (s.seenDebug m).mayRead m =
        true)) .host (⟨0x41, 1⟩) up) :=
  ⟨by show Meets _ _ _; decide +kernel,
    by show Meets _ _ _; decide +kernel,
    by show Meets _ _ _; decide +kernel,
    by show Meets _ _ _; decide +kernel,
    by show Meets _ _ _; decide +kernel⟩

/-- Every clause of RegisterWriteRows that has a condition is met somewhere. -/
theorem witness_RegisterWriteRows :
    ((fun m ch => Meets (.dmaStart m ch) (fun s => ch < 16 ∧ MayWrite s m (8 ≤ ch))) .host 15 up) ∧
    ((fun m ch => Meets (.dmaPause m ch) (fun s => ch < 16 ∧ MayWrite s m (8 ≤ ch))) .host 8 up) ∧
    ((fun m ch => Meets (.dmaResume m ch) (fun s => ch < 16 ∧ MayWrite s m (8 ≤ ch))) .cc0 0 up) ∧
    ((fun m ch => Meets (.dmaContinue m ch) (fun s => ch < 16 ∧ MayWrite s m (8 ≤ ch))) .cc1 7 up) ∧
    ((fun m ch => Meets (.dmaAbort m ch) (fun s => ch < 16 ∧ MayWrite s m (8 ≤ ch))) .debug 0 State.reset) ∧
    ((fun m ch v => Meets (.dmaCqHeadWrite m ch v) (fun s => ch < 16 ∧ MayWrite s m (8 ≤ ch))) .host 15 0xFFFFFFFF up) ∧
    ((fun m l v => Meets (.plTestCtrlWrite m l v) (fun s => l < 480 ∧ (s.lane l).test ≠ 0 ∧ MayWrite s m True)) .host
        479 1 ({ up with ln := [(479, { test := 1 })] })) ∧
    ((fun m l => Meets (.injOne m l) (fun s => l < 480 ∧ (s.lane l).test ≠ 0 ∧ MayWrite s m True)) .host 0
        ({ up with ln := [(0, { test := 1 })] })) ∧
    ((fun m a v => Meets (.registerWrite m a v) (fun s => (a.words.any inDebugBlock && s.reachesDebug m) = false))
        .debug (⟨0x3C00000, 4⟩) 1 up) ∧
    ((fun m off v => Meets (.registerWrite m ⟨off, 4⟩ v) (fun s => MayWrite s m (s.hostMay off = true) ∧ (inDebugBlock
        off = false ∨ m = .host))) .host 0x100000 1 up) :=
  ⟨by show Meets _ _ _; simp only [MayWrite]; decide,
    by show Meets _ _ _; simp only [MayWrite]; decide,
    by show Meets _ _ _; simp only [MayWrite]; decide,
    by show Meets _ _ _; simp only [MayWrite]; decide,
    by show Meets _ _ _; simp only [MayWrite]; decide,
    by show Meets _ _ _; simp only [MayWrite]; decide,
    by show Meets _ _ _; simp only [MayWrite]; decide,
    by show Meets _ _ _; simp only [MayWrite]; decide,
    by show Meets _ _ _; decide +kernel,
    by show Meets _ _ _; simp only [MayWrite]; decide⟩

/-- Every clause of DebugPortRow that has a condition is met somewhere. -/
theorem witness_DebugPortRow :
    ((fun o n v => Meets (.debugPortTransaction true ⟨0x40000000 + o, n⟩ v) (fun s => o < 0x4000000 ∧ ((⟨o, n⟩ :
        Access).words.any inDebugBlock = false ∨ s.startup.bootLock = true))) 0x3C00000 4 1 up) ∧
    ((fun o v => Meets (.debugPortTransaction true ⟨0x40000000 + o, 4⟩ v) (fun s => o < 0x4000000 ∧ inDebugBlock o =
        false ∧ s.startup.bootLock = false)) 0x3BFFFFC 1 State.reset) ∧
    ((fun o n v => Meets (.debugPortTransaction false ⟨0x40000000 + o, n⟩ v) (fun _ => o < 0x4000000 ∧ (⟨o, n⟩ :
        Access).words.any inDebugBlock = false)) 0x3BFFFF8 8 0 up) ∧
    ((fun a v => Meets (.debugPortTransaction true a v) (fun s => a.off < 0x40000000 ∧ s.debugPath true a.off a.size =
        true)) (⟨0x10000000, 4⟩) 1 State.reset) ∧
    ((fun a v => Meets (.debugPortTransaction false a v) (fun s => a.off < 0x40000000 ∧ s.debugPath false a.off a.size =
        true)) (⟨0x107FFFFC, 4⟩) 0 State.reset) ∧
    ((fun w a v => Meets (.debugPortTransaction w a v) (fun s => 0x44000000 ≤ a.off ∧ s.debugPath w a.off a.size =
        false)) true (⟨0x44000000, 4⟩) 0 up) :=
  ⟨by show Meets _ _ _; decide +kernel,
    by show Meets _ _ _; decide +kernel,
    by show Meets _ _ _; decide +kernel,
    by show Meets _ _ _; decide +kernel,
    by show Meets _ _ _; decide +kernel,
    by show Meets _ _ _; decide +kernel⟩

/-- Every clause of ResetCommandRows that has a condition is met somewhere. -/
theorem witness_ResetCommandRows :
    ((fun mb v => Meets (.mbResetDevice mb v) (fun s => mb < 16 ∧ s.ucieUp = true ∧ bitsOf v.toNat 31 16 = 0xD1A1 ∧
        v.toNat % 4 = 1 ∧ (s.mbox mb).isOpen = true ∧ (s.mbox mb).rank = 0 ∧ bit (s.mbox mb).roles 1 = true ∧
        s.boot.firing = none ∧ s.boot.armed = [])) 0 0xD1A1FFFD up) ∧
    ((fun mb v t => Meets (.mbResetDevice mb v) (fun s => mb < 16 ∧ s.ucieUp = true ∧ bitsOf v.toNat 31 16 = 0xD1A1 ∧
        v.toNat % 4 = 1 ∧ (s.mbox mb).isOpen = true ∧ (s.mbox mb).rank = 0 ∧ bit (s.mbox mb).roles 1 = true ∧
        s.boot.firing = none ∧ s.boot.armed = [(mb, 0xD1A10001, t)] ∧ s.clk < t + tuMs 1)) 0 0xD1A10005 11988000001
        ({ up with boot := { armed := [(0, 0xD1A10001, 11988000001)] } })) ∧
    ((fun mb v => Meets (.mbResetCcOnly mb v) (fun s => mb < 16 ∧ s.ucieUp = true ∧ bitsOf v.toNat 31 16 = 0xD1A1 ∧
        v.toNat % 4 = 2 ∧ (s.mbox mb).isOpen = true ∧ (s.mbox mb).rank = 0 ∧ bit (s.mbox mb).roles 1 = true ∧ (s.fault
        2).latched = true ∧ s.boot.firing = none ∧ s.boot.armed = [])) 0 0xD1A1FFFE
        ({ up with fc := [(2, { latched := true })] })) ∧
    ((fun mb v t => Meets (.mbResetCcOnly mb v) (fun s => mb < 16 ∧ s.ucieUp = true ∧ bitsOf v.toNat 31 16 = 0xD1A1 ∧
        v.toNat % 4 = 2 ∧ (s.mbox mb).isOpen = true ∧ (s.mbox mb).rank = 0 ∧ bit (s.mbox mb).roles 1 = true ∧ (s.fault
        2).latched = true ∧ s.boot.firing = none ∧ s.boot.armed = [(mb, 0xD1A10002, t)] ∧ s.clk < t + tuMs 1)) 0
        0xD1A10006 12000000000
        ({ up with fc := [(2, { latched := true })], boot := { armed := [(0, 0xD1A10002, 12000000000)] } })) :=
  ⟨by show Meets _ _ _; decide +kernel,
    by show Meets _ _ _; decide +kernel,
    by show Meets _ _ _; decide +kernel,
    by show Meets _ _ _; decide +kernel⟩

/-- Every clause of ResetPinRows that has a condition is met somewhere. -/
theorem witness_ResetPinRows :
    (Meets .resetNAssert (fun s => s.pins.resetN = true) up) ∧
    ((fun index pid b => Meets (.resetNRelease index pid b) (fun s => s.pins.resetN = false ∧ s.startup.stopped = false
        ∧ (s.glb.thermalHold = false ∨ s.coolEnough = true))) 3 true bootOk State.reset) ∧
    ((fun h => Meets .thermalTrip (fun s => s.hottest = some h ∧ 1920 ≤ h)) 1920
        ({ up with glb := { temps := [1920] } })) :=
  ⟨by decide +kernel,
    by show Meets _ _ _; decide +kernel,
    by show Meets _ _ _; decide +kernel⟩

/-- Every clause of StartUpRows that has a condition is met somewhere. -/
theorem witness_StartUpRows :
    ((fun b since => Meets (.deviceResetRouterDie b) (fun s => s.boot.firing = some (.device, since) ∧ s.routerDue since
        = true)) bootOk 11976000000 ({ up with boot := { firing := some (.device, 11976000000) } })) ∧
    ((fun b since => Meets (.ccOnlyResetRelease b) (fun s => s.boot.firing = some (.ccOnly, since) ∧ s.passed since
        (tuUs 10) = true ∧ b.romOk = true ∧ (State.clusterTests { s with boot := { s.boot with firing := none } }
        b).startup.stopped = false)) bootOk 11999880000 ({ up with boot := { firing := some (.ccOnly, 11999880000) } }))
        ∧
    (Meets .ucieTrainTimeout (fun s => s.startup.stage = 3 ∧ s.startup.stopped = false ∧ s.passed s.startup.upSince
        (tuMs 200) = true) ({ up with startup := { stage := 3, upSince := 9600000000 } })) ∧
    ((fun v => Meets (.bootGo v) (fun s => s.startup.stage = 4 ∧ s.startup.stopped = false ∧ bit v.toNat 0 = true)) 1
        ({ up with startup := { stage := 4 } })) ∧
    ((fun img => Meets (.imageAccept img) (fun s => s.startup.stage = 5 ∧ s.startup.stopped = false ∧ s.imageStop img =
        none)) (⟨65536, true, true, 1⟩) ({ up with startup := { stage := 5, bootLen := 65536 } })) ∧
    ((fun img code => Meets (.imageAccept img) (fun s => s.startup.stage = 5 ∧ s.startup.stopped = false ∧ s.imageStop
        img = some code)) (⟨65536, true, false, 1⟩) 6 ({ up with startup := { stage := 5, bootLen := 65536 } })) ∧
    ((fun hbm => Meets (.ready hbm) (fun s => s.startup.stage = 6 ∧ s.startup.stopped = false ∧ s.startup.ccOnly = false
        ∧ (trained hbm 0 || trained hbm 2) = true ∧ (trained hbm 1 || trained hbm 3) = true)) ([true, true, true, true])
        ({ up with startup := { stage := 6 } })) ∧
    ((fun hbm => Meets (.ready hbm) (fun s => s.startup.stage = 6 ∧ s.startup.stopped = false ∧ s.startup.ccOnly = true
        ∧ s.pr.state = .frozen)) ([])
        ({ up with startup := { stage := 6, ccOnly := true }, pr := { state := .frozen } })) :=
  ⟨by show Meets _ _ _; decide +kernel,
    by show Meets _ _ _; decide +kernel,
    by decide +kernel,
    by show Meets _ _ _; decide +kernel,
    by show Meets _ _ _; decide +kernel,
    by show Meets _ _ _; decide +kernel,
    by show Meets _ _ _; decide +kernel,
    by show Meets _ _ _; decide +kernel⟩

/-- Every clause of PowerRows that has a condition is met somewhere. -/
theorem witness_PowerRows :
    ((fun d => Meets (.pwrDomainIdle d) (fun s => 7 ≤ d ∧ d < 48 ∧ s.live d = true)) 47
        ({ up with dt := [(2, { state := .up112, partner := 3 })] })) ∧
    ((fun d => Meets (.pwrDomainIdle d) (fun s => 7 ≤ d ∧ d < 48 ∧ s.live d = false ∧ (s.pdom d).idleSince = none)) 8
        up) ∧
    ((fun d => Meets (.pwrDomainIdle d) (fun s => 7 ≤ d ∧ d < 48 ∧ s.live d = false ∧ (s.pdom d).idleSince ≠ none ∧
        s.idleLong d = true)) 8 ({ up with pw := [(8, { idleSince := some 0 })] })) ∧
    ((fun d us => Meets (.pwrWakeComplete d us) (fun s => (s.pdom d).waking = true ∧ s.clk ≤ (s.pdom d).wakeAt)) 47
        10000 ({ up with pw := [(47, { waking := true, wakeAt := 12000000000 })] })) ∧
    ((fun d => Meets (.pwrWakeTimeout d) (fun s => (s.pdom d).waking = true ∧ (s.pdom d).wakeAt < s.clk ∧ (s.pdom
        d).second = false)) 47 ({ up with pw := [(47, { waking := true, wakeAt := 11999999999 })] })) ∧
    ((fun d => Meets (.pwrWakeTimeout d) (fun s => (s.pdom d).waking = true ∧ (s.pdom d).wakeAt < s.clk ∧ (s.pdom
        d).second = true)) 7 ({ up with pw := [(7, { waking := true, wakeAt := 11999999999, second := true })] })) ∧
    ((fun d n => Meets (.pwrDomainEntryComplete d) (fun s => (s.pdom d).entering = some n)) 8 3
        ({ up with pw := [(8, { entering := some 3 })] })) ∧
    (Meets .pwrfailAssert (fun s => s.pins.pwrfail = false ∧ s.pins.resetN = true) up) ∧
    (Meets .pwrfailSeal (fun s => s.pins.pwrfail = true ∧ s.gr.stopped = false)
        ({ up with pins := { pwrfail := true } })) ∧
    (Meets .pwrfailDeassert (fun s => s.pins.pwrfail = true ∧ (State.level
        { s with pins := { s.pins with pwrfail := false } } 210 false 0xFFFF).gr.stopped = false)
        ({ up with pins := { pwrfail := true } })) ∧
    ((fun l h => Meets (.temperatureSample l) (fun s => l.length = 32 ∧ State.hottest
        { s with glb := { s.glb with temps := l } } = some h)) temps32 0 up) :=
  ⟨by show Meets _ _ _; decide +kernel,
    by show Meets _ _ _; decide +kernel,
    by show Meets _ _ _; decide +kernel,
    by show Meets _ _ _; decide +kernel,
    by show Meets _ _ _; decide +kernel,
    by show Meets _ _ _; decide +kernel,
    by show Meets _ _ _; decide +kernel,
    by decide +kernel,
    by decide +kernel,
    by decide +kernel,
    by show Meets _ _ _; decide +kernel⟩

/-- Every clause of FetchAndPostRows that has a condition is met somewhere. -/
theorem witness_FetchAndPostRows :
    ((fun n cs => Meets .commandFetch (fun s => s.balixUp = true ∧ s.nextVisit = some n ∧ s.visit n = .commands cs)) 0
        ([cmd [(0, 2, 0x0105)]])
        ({ up with mb := [(0, { en := true, cmdTail := 1, stamps := [(0, 5)] })], hostMem := Memory.writeBytes [] 0 (cmd [(0, 2, 0x0105)]).bytes }))
        ∧
    ((fun n => Meets .commandFetch (fun s => s.balixUp = true ∧ s.nextVisit = some n ∧ s.visit n = .unreadable)) 0
        ({ up with mb := [(0, { en := true, cmdTail := 1, stamps := [(0, 5)] })], hostBad := [(63, 1)] })) ∧
    ((fun id f => Meets (.completionPost id) (fun s => s.flight? id = some f ∧ s.balixUp = true ∧ s.mayPost f = true)) 1
        ({ flight with reply := some {} }) ({ up with bx := { flights := [{ flight with reply := some {} }] } })) :=
  ⟨by show Meets _ _ _; decide +kernel,
    by show Meets _ _ _; decide +kernel,
    by show Meets _ _ _; decide +kernel⟩

/-- Every clause of TickAndAudioRows that has a condition is met somewhere. -/
theorem witness_TickAndAudioRows :
    ((fun d => Meets (.tdTick d) (fun s => d < 8 ∧ (s.dom d).hasTicks = true ∧ (s.dom d).next ≤ s.clk)) 7
        ({ up with td := [(7, { rate := some 5, next := 12000000000 })] })) ∧
    ((fun d => Meets (.tickCutoff d) (fun s => d < 8 ∧ (s.dom d).hasTicks = true ∧ (s.dom d).cutoff (s.dom d).nextTick ≤
        s.nowNs ∧ (∀ k, (s.dom d).cutDone = some k → k < (s.dom d).nextTick) ∧ s.balixUp = true)) 0
        ({ up with td := [(0, { rate := some 5, count := 100, started := true, last := 11772000000, next := 12012000000 })] }))
        ∧
    ((fun d => Meets (.domainArming d) (fun s => d < 8 ∧ (s.dom d).hasTicks = true ∧ (s.dom d).armTick ≤ (s.dom
        d).nextTick ∧ s.armInstant d (s.dom d).armTick ≤ s.clk ∧ s.boot.freeze = false)) 0
        ({ up with td := [(0, { rate := some 5, count := 100, started := true, last := 12000000000, next := 12240000000 })] }))
        ∧
    ((fun p => Meets (.mitreFlip p) (fun s => p < 1024 ∧ (s.dest p).kind ≠ 0 ∧ (s.dom (s.dest p).td).bankArmed = true ∧
        ((s.out p).pend = true ∨ s.takeOpen (s.dest p).td (s.dom (s.dest p).td).bankTick p = true) ∧ s.boot.freeze =
        false ∧ s.mitreStart (s.dest p) (s.dom (s.dest p).td).bankTick ≤ s.clk)) 1023
        ({ up with td := [(0, { rate := some 5, count := 100, started := true, last := 11900000000, next := 12140000000, bankArmed := true, bankTick := 100 })], de := [(1023, { kind := 1, fmt := 69 })], xp := [(1023, { pend := true })] }))
        ∧
    ((fun id f => Meets (.veneerWaitExpiry id) (fun s => s.flight? id = some f ∧ f.waitsFence = true ∧ f.lastTick ≤
        (s.dom f.cmd.td).count)) 1 ({ flight with cmd := cmd [(0, 2, 0x0802)], data := [1, 0], start := 99 })
        ({ up with bx := { flights := [{ flight with cmd := cmd [(0, 2, 0x0802)], data := [1, 0], start := 99 }] } })) ∧
    (Meets .keyTick (fun s => s.ks.lastTick + 125000 ≤ s.nowNs) ({ up with ks := { lastTick := 999875000 } })) ∧
    (Meets .drbgReseed (fun s => reseedAfter ≤ s.ks.drbg.requests)
        ({ up with ks := { drbg := { requests := 1048576 } } })) ∧
    ((fun inp => Meets (.audioBlockBoundary inp) (fun s => s.startup.ready = true ∧ ∀ p, s.au.boundary = some p → p <
        s.boundaryNow)) (⟨[], [], [], []⟩) up) ∧
    ((fun ai ao r => Meets (.rampEnd ai ao) (fun s => s.ramp (4096 * ao + ai) = some r ∧ ai < 4096 ∧ r.ended s.elapsed =
        true)) 4095 1023 ({ base := 0, goal := 1, len := 64, pos := 64 })
        ({ up with au := { ramps := [(4096 * 1023 + 4095, some { base := 0, goal := 1, len := 64, pos := 64 })] } })) :=
  ⟨by show Meets _ _ _; decide +kernel,
    by show Meets _ _ _; exact ⟨by decide, by decide, by decide, fun k h => absurd (show none = some k from h) (by
        simp), by decide⟩,
    by show Meets _ _ _; decide +kernel,
    by show Meets _ _ _; decide +kernel,
    by show Meets _ _ _; decide +kernel,
    by decide +kernel,
    by decide +kernel,
    by show Meets _ _ _; exact ⟨by decide, fun p h => absurd (show none = some p from h) (by simp)⟩,
    by show Meets _ _ _; decide +kernel⟩

/-- Every clause of ReferenceRows that has a condition is met somewhere. -/
theorem witness_ReferenceRows :
    ((fun m => Meets (.refEvaluation m) (fun s => ∀ t, s.rf.lastEval = some t → s.passed t (tuMs 1) = true)) (⟨[], 0, 0,
        []⟩) up) ∧
    ((fun c => Meets (.candidateQualify c) (fun s => c ≤ 16 ∧ (s.cand c).qualified = false ∧ s.candBlocked c = false ∧
        s.passed ((s.cand c).cleanSince.getD s.startup.upSince) (tuMs (100 * (s.cand c).qual)) = true)) 16
        ({ up with rf := { cands := [(16, { event := some 0, cleanSince := some 0, qual := 10 })] }, group := { set := true, master := 1 } }))
        ∧
    ((fun c why => Meets (.candidateDisqualify c why) (fun s => c ≤ 16 ∧ disqApplies why c = true ∧ s.disqHolds why c =
        true)) 16 .groupLost up) ∧
    ((fun t => Meets .pullEnd (fun s => s.rf.pullEnd = some t ∧ t ≤ s.clk)) 12000000000
        ({ up with rf := { pullEnd := some 12000000000 } })) ∧
    ((fun t c => Meets .lockDwellExpiry (fun s => s.rf.state = .acquiring ∧ s.rf.dwellSince = some t ∧ s.rf.cand = some
        c ∧ s.passed t (4000 * 12000000000 / s.candBw c) = true)) 0 0
        ({ up with clk := 480000000000000, rf := { state := .acquiring, dwellSince := some 0, cand := some 0 } })) ∧
    ((fun t => Meets .holdoverHistoryValid (fun s => s.rf.state = .locked ∧ s.rf.lockedSince = some t ∧ s.passed t (tuMs
        60000) = true)) 0 ({ up with clk := 720000000000, rf := { state := .locked, lockedSince := some 0 } })) ∧
    ((fun t => Meets .holdoverLimit (fun s => s.rf.state = .holdover ∧ s.rf.holdSince = some t ∧ s.passed t (tuMs (1000
        * s.rf.hold)) = true)) 0
        ({ up with clk := 1036800000000000, rf := { state := .holdover, holdSince := some 0 } })) :=
  ⟨by show Meets _ _ _; exact fun t h => absurd (show none = some t from h) (by simp),
    by show Meets _ _ _; decide +kernel,
    by show Meets _ _ _; decide +kernel,
    by show Meets _ _ _; decide +kernel,
    by show Meets _ _ _; decide +kernel,
    by show Meets _ _ _; decide +kernel,
    by show Meets _ _ _; decide +kernel⟩

/-- Every clause of TimeRows that has a condition is met somewhere. -/
theorem witness_TimeRows :
    ((fun n k theta gm => Meets (.ptpOffset n k theta gm) (fun s => n < 4 ∧ (s.inst n).used = true ∧ s.following n =
        true ∧ (s.inst n).gm = gm ∧ (s.base (s.inst n).base).configured = true ∧ (s.base (s.inst n).base).source = some
        n)) 3 0 (-5) 7
        ({ up with ptp := [(3, { used := true, slave := true, gm := 7 })], tb := [(0, { state := .freeRunAtLast, source := some 3 })] }))
        ∧
    ((fun b t => Meets (.masterTimeout b) (fun s => (s.base b).state = .tracking ∧ (s.base b).lastAt = some t ∧ s.passed
        t (tuMs (100 * (s.base b).timeout)) = true)) 7 0
        ({ up with clk := 36000000000, tb := [(7, { state := .tracking, lastAt := some 0 })] })) ∧
    ((fun n g => Meets (.grandmasterChange n g) (fun s => n < 4 ∧ (s.inst n).used = true)) 3 (⟨true, 7, 6, 0x20, 0, 0,
        [], none, []⟩) ({ up with ptp := [(3, { used := true })] })) ∧
    ((fun n port q => Meets (.ptpSyncSend n port) (fun s => n < 4 ∧ (s.inst n).ports[port]? = some q ∧ (s.inst n).used =
        true ∧ (s.inst n).boundary = true ∧ s.following n = true ∧ q.state = 6 ∧ s.ptpMaster = true ∧ s.dueSince
        q.lastSync (logInterval (s.inst n).logSync) = true ∧ s.dueSince q.lastAnn (logInterval (s.inst n).logAnn) = true
        ∧ (s.ptpSend n q.coded [.sync, .followUp, .announce]).2 = true)) 0 0 ({ coded := 0, state := 6 })
        ({ up with ptp := [(0, { used := true, boundary := true, slave := true, ports := [{ coded := 0, state := 6 }] })] }))
        ∧
    ((fun n port q => Meets (.delayReqSend n port) (fun s => n < 4 ∧ (s.inst n).ports[port]? = some q ∧ (s.inst n).used
        = true ∧ s.following n = true ∧ q.state = 9 ∧ s.dueSince q.lastDreq (logInterval (s.inst n).logDreq) = true ∧
        (s.ptpSend n q.coded [.delayReq]).2 = true)) 0 0 ({ coded := 0, state := 9 })
        ({ up with ptp := [(0, { used := true, slave := true, ports := [{ coded := 0, state := 9 }] })] })) ∧
    ((fun n => Meets .ppsOutPulse (fun s => s.pins.ppsTb = some n ∧ (s.base n).configured = true ∧ (s.base n).sec ≠
        s.pins.ppsSec ∧ ∀ k, s.pins.ppsLast = some k → k + 125000000 ≤ s.cycles)) 7
        ({ up with tb := [(7, { state := .freeRunAtLast, time := 4294967296000000000 })], pins := { ppsTb := some 7 } }))
        ∧
    ((fun port sub id => Meets (.txTimestamp port sub id) (fun s => port < 16 ∧ sub < 8 ∧ (s.balixQueue port = true ∨
        (sub, id) ∈ (s.port port).stampReqs))) 15 7 0xFFFF ({ up with ep := [(15, { stampReqs := [(7, 0xFFFF)] })] }))
        :=
  ⟨by show Meets _ _ _; decide +kernel,
    by show Meets _ _ _; decide +kernel,
    by show Meets _ _ _; decide +kernel,
    by show Meets _ _ _; decide +kernel,
    by show Meets _ _ _; decide +kernel,
    by show Meets _ _ _; exact ⟨by decide, by decide, by decide, fun k h => absurd (show none = some k from h) (by simp)⟩,
    by show Meets _ _ _; decide +kernel⟩

/-- Every clause of SdiRows that has a condition is met somewhere. -/
theorem witness_SdiRows :
    ((fun l => Meets (.sdiHuntDwell l) (fun s => s.hunting l = true ∧ s.passed (s.lane l).huntSince (tuMs 2) = true))
        128 ({ up with ln := [(128, { role := 1, huntSince := 11976000000 })] })) ∧
    ((fun l family ctle => Meets (.sdiLaneLock l family ctle) (fun s => s.hunting l = true)) 383 1 15
        ({ up with ln := [(383, { role := 1 })] })) ∧
    ((fun l => Meets (.sdiLockLoss l) (fun s => isSdiLane l = true ∧ (s.lane l).locked = true)) 383
        ({ up with ln := [(383, { locked := true })] })) ∧
    ((fun n sig => Meets (.formatValid n sig) (fun s => n < 1024 ∧ s.isSdi n = true ∧ 0 < (s.source n).candFrames ∧
        (s.source n).candidate = some ({ sig with pid := none }, (resolveFormat sig ((s.source n).kind == 2)).1,
        (resolveFormat sig ((s.source n).kind == 2)).2.1))) 1023 (⟨1, false, 5280, 1125, true, none⟩)
        ({ up with ln := [(128, { locked := true })], sr := [(1023, { kind := 1, state := .detecting, candidate := some (⟨1, false, 5280, 1125, true, none⟩, 66, 2), candFrames := 1 })] }))
        ∧
    ((fun n sig => Meets (.formatValid n sig) (fun s => n < 1024 ∧ s.isSdi n = true ∧ (s.source n).candidate ≠ some
        ({ sig with pid := none }, (resolveFormat sig ((s.source n).kind == 2)).1, (resolveFormat sig ((s.source n).kind
        == 2)).2.1))) 1023 (⟨1, false, 5280, 1125, true, none⟩)
        ({ up with ln := [(128, { locked := true })], sr := [(1023, { kind := 1, state := .detecting })] })) :=
  ⟨by show Meets _ _ _; decide +kernel,
    by show Meets _ _ _; decide +kernel,
    by show Meets _ _ _; decide +kernel,
    by show Meets _ _ _; decide +kernel,
    by show Meets _ _ _; decide +kernel⟩

/-- Every clause of LineRows that has a condition is met somewhere. -/
theorem witness_LineRows :
    ((fun n l => Meets (.lineArrival n l) (fun s => n < 1024 ∧ s.isSdi n = true ∧ (s.source n).state = .valid ∧
        ((s.source n).kind = 2 → l.skew ≤ 2))) 1023 lineIn
        ({ up with ln := [(128, { locked := true })], sr := [(1023, { kind := 1, state := .valid })] })) ∧
    ((fun n l => Meets (.lineArrival n l) (fun s => n < 1024 ∧ s.isSdi n = true ∧ (s.source n).state = .linkSkew ∧
        ((s.source n).kind = 2 → l.skew ≤ 2))) 0 ({ lineIn with skew := 2 })
        ({ up with ln := [(128, { locked := true }), (129, { locked := true }), (130, { locked := true }), (131, { locked := true })], sr := [(0, { kind := 2, lanes2 := 0x000300020001, state := .linkSkew })] }))
        ∧
    ((fun n l => Meets (.lineArrival n l) (fun s => n < 1024 ∧ s.isSdi n = true ∧ ((s.source n).state = .valid ∨
        (s.source n).state = .linkSkew) ∧ (s.source n).kind = 2 ∧ 2 < l.skew)) 0 ({ lineIn with skew := 3 })
        ({ up with ln := [(128, { locked := true }), (129, { locked := true }), (130, { locked := true }), (131, { locked := true })], sr := [(0, { kind := 2, lanes2 := 0x000300020001, state := .valid })] }))
        ∧
    ((fun n l => Meets (.lineArrival n l) (fun s => n < 1024 ∧ s.isSdi n = true ∧ (s.source n).state ≠ .valid ∧
        (s.source n).state ≠ .linkSkew)) 1023 ({ lineIn with crcError := true })
        ({ up with ln := [(128, { locked := true })], sr := [(1023, { kind := 1, state := .detecting })] })) ∧
    ((fun n => Meets (.outOfWindow n) (fun s => n < 1024 ∧ 8 ≤ (s.source n).oowRun ∧ (s.source n).outOfWindow = false))
        1023 ({ up with sr := [(1023, { kind := 1, oowRun := 8 })] })) ∧
    ((fun n at' l rest => Meets (.lineRelease n) (fun s => n < 1024 ∧ (s.source n).kind ≠ 0 ∧ (s.source n).classF =
        false ∧ (s.dom (s.source n).td).started = true ∧ (s.source n).waiting = (at', l) :: rest ∧ at' ≤ s.clk)) 1023
        12000000000 fabLine ([]) ({ up with sr := [(1023, { kind := 1, waiting := [(12000000000, fabLine)] })] })) ∧
    ((fun n pic => Meets (.lineRelease n) (fun s => n < 1024 ∧ (s.source n).kind ≠ 0 ∧ (s.source n).classF = false ∧
        (s.dom (s.source n).td).started = true ∧ (s.source n).waiting = [] ∧ ((s.source n).state ≠ .valid ∨ (s.source
        n).kind = 4) ∧ s.blackPic n = some pic)) 1023 ((69, 0, 10))
        ({ up with sr := [(1023, { kind := 1, lastFmt := 69, depth := 10 })] })) ∧
    ((fun n line o pic => Meets (.lineClose n line) (fun s => n < 1024 ∧ s.srcPic n = some pic ∧ s.closing n pic.1 line
        = some o ∧ s.closeDue n o pic = true)) 1023 1
        ({ line := 1, tick := 100, second := false, filled := [], anc := [], opened := 0 }) ((69, 0, 10))
        ({ up with sr := [(1023, { kind := 3, lastFmt := 69, depth := 10, openLines := [{ line := 1, tick := 100, second := false, filled := [], anc := [], opened := 0 }] })] }))
        ∧
    ((fun n leg last => Meets (.legTimeout n leg) (fun s => n < 1024 ∧ (if leg = 0 then (s.source n).legA else (s.source
        n).legB) = some last ∧ s.passed last (2 * ratePeriod (fmtRate (s.shownFormat n).1)) = true)) 1023 1 11040000000
        ({ up with sr := [(1023, { kind := 3, fmt := 69, legB := some 11040000000 })] })) :=
  ⟨by show Meets _ _ _; decide +kernel,
    by show Meets _ _ _; decide +kernel,
    by show Meets _ _ _; decide +kernel,
    by show Meets _ _ _; decide +kernel,
    by show Meets _ _ _; decide +kernel,
    by show Meets _ _ _; decide +kernel,
    by show Meets _ _ _; decide +kernel,
    by show Meets _ _ _; decide +kernel,
    by show Meets _ _ _; decide +kernel⟩

/-- Every clause of EthernetRows that has a condition is met somewhere. -/
theorem witness_EthernetRows :
    ((fun port f => Meets (.ethFrameReceive port f) (fun s => s.hasSub port f.sub = true ∧ (s.subport (8 * port +
        f.sub)).up = true ∧ f.bytes.length + 4 ≤ (s.port port).mtu ∧ f.sec = none ∧ bit (s.port port).macsecReq f.sub =
        false)) 15 ({ ethFrame with sub := 7 })
        ({ up with ep := [(15, { mode := 4, mtu := 64 })], sub := [(127, { up := true })] })) ∧
    ((fun port f => Meets (.ethFrameReceive port f) (fun s => s.hasSub port f.sub = true ∧ (s.subport (8 * port +
        f.sub)).up = true ∧ f.bytes.length + 4 ≤ (s.port port).mtu ∧ f.sec = none ∧ bit (s.port port).macsecReq f.sub =
        true)) 15 ethFrame
        ({ up with ep := [(15, { mode := 1, mtu := 64, macsecReq := 1 })], sub := [(120, { up := true })] })) ∧
    ((fun port f tag => Meets (.ethFrameReceive port f) (fun s => s.hasSub port f.sub = true ∧ (s.subport (8 * port +
        f.sub)).up = true ∧ f.bytes.length + 4 ≤ (s.port port).mtu ∧ f.sec = some tag)) 0
        ({ ethFrame with sec := some ⟨3, 1, true, true⟩ }) (⟨3, 1, true, true⟩)
        ({ up with ep := [(0, { mode := 1, mtu := 64 })], sub := [(0, { up := true })] })) ∧
    ((fun port => Meets (.hpTxPoll port) (fun s => port < 16 ∧ (s.port port).mode ≠ 0 ∧ bit (byteAt (s.hbmRead (hpArea
        port + 32 * ((s.port port).txHead % 512)) 32) 0) 0 = true)) 15
        ({ up with ep := [(15, { mode := 1, txHead := 511 })], hbm := Memory.writeBytes [] (hpArea 15 + 32 * 511) [1], hbm2 := Memory.writeBytes [] (hpArea 15 + 32 * 511) [1] }))
        ∧
    ((fun port sub => Meets (.ethSubportLinkUp port sub) (fun s => s.hasSub port sub = true ∧ (s.subport (8 * port +
        sub)).up = false)) 15 7 ({ up with ep := [(15, { mode := 4 })] })) ∧
    ((fun port sub f => Meets (.ethSubportLinkDown port sub f) (fun s => s.hasSub port sub = true)) 15 7 (⟨true, false⟩)
        ({ up with ep := [(15, { mode := 4 })] })) :=
  ⟨by show Meets _ _ _; decide +kernel,
    by show Meets _ _ _; decide +kernel,
    by show Meets _ _ _; decide +kernel,
    by show Meets _ _ _; decide +kernel,
    by show Meets _ _ _; decide +kernel,
    by show Meets _ _ _; decide +kernel⟩

/-- Every clause of FrameStoreRows that has a condition is met somewhere. -/
theorem witness_FrameStoreRows :
    ((fun n d r pic => Meets (.readoutFrameStart n d) (fun s => s.readout? n d = some r ∧ s.srcPic n = some pic ∧ (s.dom
        d).started = true ∧ r.frameStart < (s.frameStart d pic.1).2.2 ∧ r.startTick ≤ (s.frameStart d pic.1).1)) 0 0
        readout ((69, 0, 10))
        ({ up with readouts := [readout], sr := [(0, { kind := 1, lastFmt := 69, depth := 10 })] })) ∧
    ((fun n d r => Meets (.lossHoldExpiry n d) (fun s => s.readout? n d = some r ∧ s.stopped n = true ∧ (s.source
        n).lossHold < r.repeats ∧ (s.source n).lossHold ≠ 65535)) 0 0 ({ readout with repeats := 51 })
        ({ up with readouts := [{ readout with repeats := 51 }] })) ∧
    ((fun n d line r l => Meets (.readoutLineRelease n d line) (fun s => s.lineOfRead n d line = some (r, l))) 0 0 1
        readoutAt (((shown.lineOfRead 0 0 1).map (fun p => p.2)).getD fabLine) shown) ∧
    ((fun k e => Meets (.hbmReadError k e) (fun _ => k < 4)) 3 .controller up) ∧
    ((fun k => Meets (.stackReturnComplete k) (fun s => k < 4 ∧ (s.stack k).state = 2 ∧ s.copied k = true ∧ s.ringsBack
        k = true)) 3 ({ up with hbmStacks := [(3, { state := 2, rejoinAt := some 0 })] })) ∧
    ((fun k => Meets (.hbmScrub k none) (fun _ => k < 4)) 3 up) ∧
    ((fun k e => Meets (.hbmScrub k (some e)) (fun _ => k < 4)) 3 .oneCopy up) :=
  ⟨by show Meets _ _ _; decide +kernel,
    by show Meets _ _ _; decide +kernel,
    by show Meets _ _ _; decide +kernel,
    by show Meets _ _ _; decide +kernel,
    by show Meets _ _ _; decide +kernel,
    by show Meets _ _ _; decide +kernel,
    by show Meets _ _ _; decide +kernel⟩

/-- Every clause of DestinationAndMarquetryRows that has a condition is met somewhere. -/
theorem witness_DestinationAndMarquetryRows :
    ((fun p n h at' => Meets (.dstFrameStart p) (fun s => s.destFrame (s.dest p) = some (n, h, at') ∧ (s.dest p).kind ≠
        0 ∧ (s.dom (s.dest p).td).started = true ∧ ((s.dest p).frameAt : Int) < at')) 1023 100 false 11900000000
        ({ up with de := [(1023, { kind := 1, fmt := 69 })] })) ∧
    ((fun p a b l => Meets (.egressLineReceive p a b) (fun s => p < 1024 ∧ (s.dest p).state = 2 ∧ (s.slotOf p a b).line
        = some l)) 1023 ({ copyOk with flips := [(0, 1)] }) copyOk fabLine
        ({ up with de := [(1023, { kind := 1, fmt := 69, state := 2 })], xp := [(1023, livePort)], inPorts := [(5, some fabLine)] }))
        ∧
    ((fun p a b => Meets (.egressLineReceive p a b) (fun s => 1024 ≤ p ∧ (s.copyComes p false || s.copyComes p true) =
        true)) 1024 copyOk copyOk ({ up with xp := [(1024, livePort)], inPorts := [(5, some fabLine)] })) ∧
    ((fun p k at' l again rest => Meets (.egressLineSend p k) (fun s => p < 1024 ∧ (s.dest p).kind ≠ 0 ∧ (s.dest
        p).frameAt ≠ 0 ∧ (s.dest p).state = 2 ∧ (s.dest p).replay = (at', l, again) :: rest ∧ at' + linePeriod (s.dest
        p).fmt ≤ s.clk)) 1023 0 11000000000 fabLine false ([])
        ({ up with de := [(1023, { kind := 1, fmt := 69, state := 2, frameAt := 1, replay := [(11000000000, fabLine, false)] })] }))
        ∧
    ((fun p k => Meets (.egressLineSend p k) (fun s => p < 1024 ∧ (s.dest p).kind ≠ 0 ∧ (s.dest p).frameAt ≠ 0 ∧ (s.dest
        p).state ≠ 2 ∧ (s.blackDue p).hdr.line ≠ (s.dest p).line)) 1023 0
        ({ up with de := [(1023, { kind := 1, fmt := 69, state := 1, frameAt := 11900000000 })] })) ∧
    ((fun i => Meets (.audioPacketSend i) (fun s => i < 1024 ∧ ((s.txFlow (2048 + i)).kind = 2 ∨ (s.txFlow (2048 +
        i)).kind = 3) ∧ s.packetIndex (s.txFlow (2048 + i)).image ≠ (s.txFlow (2048 + i)).slot ∧ s.secondLeg (2048 + i)
        = false)) 1023
        ({ up with tx := [(3071, { image := audioFlow, slot := 1 })], ep := [(0, { mode := 1 })], sub := [(0, { up := true })] }))
        ∧
    ((fun p f rest => Meets (.frameDigest p) (fun s => (s.dest p).witDone = f :: rest)) 1023
        ({ start := 0, tick := 100, second := false, src := 1, repeated := false, video := true, lines := [] }) ([])
        ({ up with de := [(1023, { witDone := [{ start := 0, tick := 100, second := false, src := 1, repeated := false, video := true, lines := [] }] })] }))
        ∧
    ((fun m => Meets (.mqFrameStart m) (fun s => m < 8 ∧ (s.dom (s.engine m).timing.1).started = true ∧ (s.engine
        m).frameAt < (s.frameStart (s.engine m).timing.1 (s.engine m).timing.2).2.2)) 7
        ({ up with mq := [(7, { mode := 1, fmt := 69 })] })) ∧
    ((fun m q => Meets (.mqCompareReport m q.1 q.2) (fun s => m < 8 ∧ (s.engine m).cmp.nextKey (s.dom (s.engine m).td)
        s.clk = some q ∧ (s.engine m).mode = 3 ∧ (s.engine m).cmp.running = true)) 7 ((100, false))
        ({ up with mq := [(7, { mode := 3, cmp := { running := true, start := 100, loop0 := [tapEnd], loop1 := [tapEnd] } })] }))
        :=
  ⟨by show Meets _ _ _; decide +kernel,
    by show Meets _ _ _; decide +kernel,
    by show Meets _ _ _; decide +kernel,
    by show Meets _ _ _; decide +kernel,
    by show Meets _ _ _; decide +kernel,
    by show Meets _ _ _; decide +kernel,
    by show Meets _ _ _; decide +kernel,
    by show Meets _ _ _; decide +kernel,
    by show Meets _ _ _; decide +kernel⟩

/-- Every clause of FaultRows that has a condition is met somewhere. -/
theorem witness_FaultRows :
    ((fun n l => Meets (.faultLatch n l) (fun _ => l.rise = true ∧ n ≠ 177)) 0 (⟨true, 0, 0, 0⟩) up) ∧
    ((fun l => Meets (.faultLatch 177 l) (fun _ => l.rise = true)) (⟨true, 0, 0, 7⟩) up) ∧
    ((fun n l => Meets (.faultLatch n l) (fun _ => l.rise = false)) 255 (⟨false, 0, 0, 0⟩) up) ∧
    ((fun n t => Meets (.injectedHoldExpiry n) (fun s => (s.fault n).holdEnd = some t ∧ t ≤ s.clk)) 255 12000000000
        ({ up with fc := [(255, { holdEnd := some 12000000000 })] })) ∧
    (Meets (.ccFailure 0) (fun s => s.startup.ready = true ∧ s.boot.cc0Failed = false ∧ s.boot.cc1Failed = false ∧
        s.boot.cc1 = false) up) ∧
    (Meets (.ccFailure 1) (fun s => s.startup.ready = true ∧ s.boot.cc0Failed = true ∧ s.boot.cc1Failed = false)
        ({ up with boot := { cc0Failed := true, cc1 := true } })) ∧
    (Meets .ccTakeover (fun s => s.boot.ccFailAt.isSome = true ∧ s.boot.cc1Failed = false ∧ s.boot.freeze = false)
        ({ up with boot := { cc0Failed := true, ccFailAt := some 0 } })) :=
  ⟨by show Meets _ _ _; decide +kernel,
    by show Meets _ _ _; decide +kernel,
    by show Meets _ _ _; decide +kernel,
    by show Meets _ _ _; decide +kernel,
    by decide +kernel,
    by decide +kernel,
    by decide +kernel⟩

/-- Every clause of QueueRoom that has a condition is met somewhere. -/
theorem witness_QueueRoom :
    ((fun c => Meets (.dmaDescriptorStart c) (fun s => c < 16 ∧ ((s.chan c).state = 1 ∨ (s.chan c).state = 2) ∧ (s.chan
        c).image = [] ∧ (s.chan c).pause = false ∧ (s.chan c).done < (s.chan c).budgetIn ∧ ((s.chan c).cqTail + 65536 -
        (s.chan c).cqHead) % 65536 < 2 ^ (s.chan c).cqSize ∧ s.dmaOk c (s.chan c).cur 32 = true)) 15
        ({ up with dma := [(15, { state := 2, desc := 0x1000, cur := 0x1000 })] })) ∧
    ((fun c => Meets (.dmaDescriptorStart c) (fun s => c < 16 ∧ ((s.chan c).state = 1 ∨ (s.chan c).state = 2) ∧ (s.chan
        c).image = [] ∧ (s.chan c).pause = false ∧ (s.chan c).done < (s.chan c).budgetIn ∧ 2 ^ (s.chan c).cqSize ≤
        ((s.chan c).cqTail + 65536 - (s.chan c).cqHead) % 65536)) 15
        ({ up with dma := [(15, { state := 2, desc := 0x1000, cur := 0x1000, cqTail := 65535 })] })) :=
  ⟨by show Meets _ _ _; decide +kernel,
    by show Meets _ _ _; decide +kernel⟩

/-- Every clause of DmaRows that has a condition is met somewhere. -/
theorem witness_DmaRows :
    ((fun c => Meets (.dmaBlock c) (fun s => s.serves = some c ∧ (c = 7 → s.uploads = false))) 6
        ({ up with dma := [(6, { state := 1, image := descriptor })] })) ∧
    (Meets (.dmaBlock 7) (fun s => s.serves = some 7 ∧ s.uploads = true)
        ({ up with gr := { started := true, upload := true, staged := [1], hostLen := 4096, hostAddr := 0 } })) ∧
    ((fun c => Meets (.dmaDescriptorComplete c) (fun s => c < 16 ∧ (s.chan c).image ≠ [] ∧ (s.chan c).moved = (s.chan
        c).len ∧ (s.chan c).state = 1)) 15
        ({ up with dma := [(15, { state := 1, image := descriptor, moved := 64 })] })) ∧
    ((fun c e => Meets (.dmaHalt c e) (fun s => c < 16 ∧ (s.chan c).image ≠ [] ∧ ((s.chan c).state = 1 ∨ (s.chan
        c).state = 2 ∨ (s.chan c).state = 3))) 15 (⟨true, false, 0x1000⟩)
        ({ up with dma := [(15, { state := 3, image := descriptor })] })) ∧
    ((fun c => Meets (.dmaLoopSuspect c) (fun s => c < 16 ∧ ((s.chan c).state = 1 ∨ (s.chan c).state = 2) ∧ (s.chan
        c).image = [] ∧ (s.chan c).budgetIn ≤ (s.chan c).done ∧ (s.chan c).room = true)) 15
        ({ up with dma := [(15, { state := 1, done := 65536 })] })) ∧
    ((fun c n => Meets (.dmaPaceRequest c n) (fun s => c < 16 ∧ (c = 7 → s.gr.started = false) ∧ (s.chan c).pace ≠ 0)) 7
        64 ({ up with dma := [(7, { pace := 1 })] })) ∧
    ((fun n => Meets (.dmaPaceRequest 7 n) (fun s => s.gr.started = true)) 64 ({ up with gr := { started := true } })) :=
  ⟨by show Meets _ _ _; decide +kernel,
    by decide +kernel,
    by show Meets _ _ _; decide +kernel,
    by show Meets _ _ _; decide +kernel,
    by show Meets _ _ _; decide +kernel,
    by show Meets _ _ _; decide +kernel,
    by show Meets _ _ _; decide +kernel⟩

/-- Every clause of TestAndPlaneRows that has a condition is met somewhere. -/
theorem witness_TestAndPlaneRows :
    ((fun l k => Meets (.prbsCheckerLock l k) (fun s => 2 ≤ (s.lane l).test)) 479 (⟨[true, false], 1437⟩)
        ({ up with ln := [(479, { test := 2 })] })) ∧
    ((fun l e d f => Meets (.eyescanComplete l e) (fun s => (s.lane l).eyeDwell = some d ∧ s.bx.flights.find? (fun g =>
        g.cmd.opcode == 0x0F05 && g.cmd.u16 16 == l && g.reply.isNone) = some f)) 479 (⟨[1], [0], 5⟩) 3
        ({ flight with cmd := cmd [(0, 2, 0x0F05), (16, 2, 479)] })
        ({ up with ln := [(479, { eyeDwell := some 3 })], bx := { flights := [{ flight with cmd := cmd [(0, 2, 0x0F05), (16, 2, 479)] }] } }))
        ∧
    ((fun id f t => Meets (.selftestComplete id t) (fun s => s.flight? id = some f ∧ f.cmd.opcode = 0x0B05 ∧ f.reply =
        none ∧ f.phase = .begun)) 1 ({ flight with cmd := cmd [(0, 2, 0x0B05)] }) (⟨true, 100, 0⟩)
        ({ up with bx := { flights := [{ flight with cmd := cmd [(0, 2, 0x0B05)] }] } })) ∧
    ((fun p => Meets (.planeOfflineComplete p) (fun s => p < 2 ∧ (s.plane (p == 1)).state = .inService ∧
        s.bx.flights.any (fun f => f.cmd.opcode == 0x0507 && f.cmd.u8 16 == p && f.cmd.u8 17 == 0 && f.reply.isNone) =
        true)) 1 ({ up with bx := { flights := [{ flight with cmd := cmd [(0, 2, 0x0507), (16, 1, 1)] }] } })) ∧
    ((fun p => Meets (.planeLoaded p) (fun s => p < 2 ∧ (s.plane (p == 1)).state = .loading)) 1
        ({ up with planeB := { state := .loading } })) ∧
    ((fun p => Meets (.planeShadowPass p) (fun s => p < 2 ∧ (s.plane (p == 1)).state = .shadow ∧ s.wholeFrames ((s.plane
        (p == 1)).shadowFrom.getD s.clk) = true)) 1
        ({ up with planeB := { state := .shadow, shadowFrom := some 11000000000 } })) :=
  ⟨by show Meets _ _ _; decide +kernel,
    by show Meets _ _ _; decide +kernel,
    by show Meets _ _ _; decide +kernel,
    by show Meets _ _ _; decide +kernel,
    by show Meets _ _ _; decide +kernel,
    by show Meets _ _ _; decide +kernel⟩

/-- Every clause of LinkRows that has a condition is met somewhere. -/
theorem witness_LinkRows :
    ((fun k r => Meets (.dtNegotiationRecord k r) (fun s => k < 3 ∧ (s.link k).state = .negotiate ∧ s.inStep k = true ∧
        s.negRefusal k r = none)) 2 negRecord
        ({ up with dt := [(2, { state := .negotiate, stepStart := 11760000000 })] })) ∧
    ((fun k r why => Meets (.dtNegotiationRecord k r) (fun s => k < 3 ∧ (s.link k).state = .negotiate ∧ s.inStep k =
        true ∧ s.negRefusal k r = some why)) 2 ({ negRecord with tag := 1 }) 3
        ({ up with dt := [(2, { state := .negotiate, stepStart := 12000000000 })] })) ∧
    ((fun k lanes => Meets (.dtTrainingResult k lanes) (fun s => k < 3 ∧ ((s.link k).state = .train56 ∨ (s.link k).state
        = .train112) ∧ s.inStep k = true ∧ 30 ≤ (lanes.eraseDups.filter (fun x => decide (x < 32) && !(s.link
        k).excluded.contains x)).length)) 2 (range 2 32)
        ({ up with dt := [(2, { state := .train112, stepStart := 9600000000 })] })) ∧
    ((fun k ms => Meets (.dtStepTimeout k) (fun s => k < 3 ∧ stepLimit (s.link k).state = some ms ∧ s.passed (s.link
        k).stepStart (tuMs ms) = true)) 2 20
        ({ up with dt := [(2, { state := .negotiate, stepStart := 11760000000 })] })) ∧
    ((fun k f => Meets (.dtLinkFrame k f) (fun s => k < 3 ∧ (s.link k).isUp = true ∧ s.linkRevoked k (s.link k).rxSlot =
        false ∧ f.crcOk = true ∧ ((s.link k).crypt = true → f.authOk = true) ∧ f.seq = (s.link k).rxSeq)) 2 (⟨7, 0,
        true, false, 10, []⟩) ({ up with dt := [(2, { state := .up56, rxSeq := 7 })] })) ∧
    ((fun k f => Meets (.dtLinkFrame k f) (fun s => k < 3 ∧ (s.link k).isUp = true ∧ s.linkRevoked k (s.link k).rxSlot =
        false ∧ (f.crcOk = false ∨ ((s.link k).crypt = true ∧ f.authOk = false) ∨ f.seq ≠ (s.link k).rxSeq))) 2 (⟨7, 0,
        true, false, 512, []⟩) ({ up with dt := [(2, { state := .up112, rxSeq := 7, crypt := true })] })) ∧
    ((fun k f => Meets (.dtLinkFrame k f) (fun s => k < 3 ∧ (s.link k).isUp = true ∧ s.linkRevoked k (s.link k).rxSlot =
        true)) 2 (⟨7, 0, true, true, 0, []⟩)
        ({ up with dt := [(2, { state := .up112, rxSeq := 7, crypt := true, rxSlot := 1023 })], ks := { slots := [(1023, { state := .revoked })] } }))
        ∧
    ((fun k => Meets (.dtAuthFailLimit k) (fun s => k < 3 ∧ (s.link k).isUp = true ∧ 8 ≤ (s.link k).authFails)) 2
        ({ up with dt := [(2, { state := .up112, authFails := 8 })] })) ∧
    ((fun k => Meets (.dtKeyRenewal k false) (fun s => k < 3 ∧ (s.link k).isUp = true ∧ (s.link k).crypt = true ∧
        (s.link k).txSlot = 0xFFFF ∧ 4294967295 ≤ (s.link k).txFrames)) 2
        ({ up with dt := [(2, { state := .up112, crypt := true, txSlot := 0xFFFF, txFrames := 4294967295 })] })) ∧
    ((fun k => Meets (.dtKeyRenewal k true) (fun s => k < 3 ∧ (s.link k).isUp = true ∧ (s.link k).crypt = true ∧ (s.link
        k).txSlot = 0xFFFF ∧ 4294967295 ≤ (s.link k).rxFrames)) 2
        ({ up with dt := [(2, { state := .up112, crypt := true, txSlot := 0xFFFF, rxFrames := 4294967295 })] })) ∧
    ((fun k receive => Meets (.dtKeyRenewal k receive) (fun s => k < 3 ∧ (s.link k).isUp = true ∧ (s.link k).crypt =
        true ∧ (s.link k).txSlot ≠ 0xFFFF ∧ 9223372036854775808 ≤ (if receive then (s.link k).rxFrames else (s.link
        k).txFrames))) 2 true
        ({ up with dt := [(2, { state := .up112, crypt := true, txSlot := 1023, rxFrames := 9223372036854775808 })] }))
        ∧
    ((fun k n => Meets (.dtLaneFailNoSpare k n) (fun s => k < 3 ∧ (s.link k).isUp = true ∧ (s.link k).active.contains n
        = true ∧ (s.link k).spareLanes = [])) 2 31 ({ up with dt := [(2, { state := .up112, active := [30, 31] })] })) ∧
    ((fun k => Meets (.dtLinkDown k) (fun s => k < 3 ∧ (s.link k).isUp = true)) 2
        ({ up with dt := [(2, { state := .up56 })] })) :=
  ⟨by show Meets _ _ _; decide +kernel,
    by show Meets _ _ _; decide +kernel,
    by show Meets _ _ _; decide +kernel,
    by show Meets _ _ _; decide +kernel,
    by show Meets _ _ _; decide +kernel,
    by show Meets _ _ _; decide +kernel,
    by show Meets _ _ _; decide +kernel,
    by show Meets _ _ _; decide +kernel,
    by show Meets _ _ _; decide +kernel,
    by show Meets _ _ _; decide +kernel,
    by show Meets _ _ _; decide +kernel,
    by show Meets _ _ _; decide +kernel,
    by show Meets _ _ _; decide +kernel⟩

/-- Every clause of TieRows that has a condition is met somewhere. -/
theorem witness_TieRows :
    ((fun k i => Meets (.dtGroupTickStamp k i) (fun s => k < 3 ∧ (s.link k).isUp = true ∧ s.refLink k = true)) 2
        12000000000 ({ up with dt := [(2, { state := .up112 })], group := { set := true, members := 9, master := 3 } }))
        ∧
    ((fun k d r => Meets (.dtAlignExchange k d r) (fun s => k < 3 ∧ d < 8 ∧ (s.link k).isUp = true ∧ ¬(s.pr.link = k ∧
        s.pairLink k = true))) 2 7 (⟨some 5, true, 100, 0, 5, [], [5], []⟩)
        ({ up with dt := [(2, { state := .up112 })] })) ∧
    ((fun k d r => Meets (.dtAlignExchange k d r) (fun s => k < 3 ∧ d < 8 ∧ (s.link k).isUp = true ∧ s.pr.link = k ∧
        s.pairLink k = true)) 0 0 (⟨some 5, true, 100, 3, 0, [], [], []⟩)
        ({ up with dt := [(0, { state := .up112 })], group := { set := true, pairLinks := 1 }, pr := { state := .active, link := 0 } }))
        ∧
    ((fun k q p => Meets (.dtReservation k q) (fun s => k < 3 ∧ (s.link k).isUp = true ∧ q.td < 8 ∧ s.linkTo q.dev = k ∧
        (s.localOf q.src).isSome = true ∧ s.depart.find? (fun t => t.src == q.src && t.td == q.td && t.dev == q.dev) =
        none ∧ (s.dom q.td).hasTicks = true ∧ s.alignedWith q.dev q.td = true ∧ (s.classOf q.src).isSome = true ∧
        s.otherDomain q.src q.td = false ∧ s.otherRate q.src q.td = false ∧ s.departFor k q.src = some p)) 2 (⟨5, 0,
        102, 3⟩) 1664 ({ up with dt := [(2, { state := .up112, aligned := 1 })], sr := [(5, { kind := 1 })] })) ∧
    ((fun k q => Meets (.dtReservation k q) (fun s => k < 3 ∧ (s.link k).isUp = true ∧ q.td < 8 ∧ s.linkTo q.dev = k ∧
        (s.localOf q.src).isSome = true ∧ s.depart.find? (fun t => t.src == q.src && t.td == q.td && t.dev == q.dev) =
        none ∧ ((s.dom q.td).hasTicks = false ∨ s.alignedWith q.dev q.td = false ∨ s.classOf q.src = none ∨
        s.otherDomain q.src q.td = true ∨ s.otherRate q.src q.td = true ∨ s.departFor k q.src = none))) 2 (⟨5, 0, 102,
        3⟩) ({ up with dt := [(2, { state := .up112, aligned := 1 })] })) ∧
    ((fun k q t => Meets (.dtReservation k q) (fun s => k < 3 ∧ (s.link k).isUp = true ∧ q.td < 8 ∧ s.linkTo q.dev = k ∧
        (s.localOf q.src).isSome = true ∧ s.depart.find? (fun t => t.src == q.src && t.td == q.td && t.dev == q.dev) =
        some t)) 2 (⟨5, 0, 102, 3⟩) ({ src := 5, td := 0, dev := 3, port := 1664 })
        ({ up with dt := [(2, { state := .up112, aligned := 1 })], depart := [{ src := 5, td := 0, dev := 3, port := 1664 }] }))
        ∧
    ((fun k a t tick port => Meets (.dtReservationConfirm k a) (fun s => s.tie? a.src a.td = some t ∧ k < 3 ∧ (s.link
        k).isUp = true ∧ s.linkTo t.dev = k ∧ t.confirmed = false ∧ a.result = some (tick, port))) 2 (⟨3077, 0, some
        (102, 1920), 0⟩) ({ src := 3077, td := 0, dev := 3, port := 1920 }) 102 1920
        ({ up with dt := [(2, { state := .up112 })], ties := [{ src := 3077, td := 0, dev := 3, port := 1920 }] })) ∧
    ((fun k src d n => Meets (.dtTieRelease k src d n) (fun s => k < 3 ∧ (s.link k).isUp = true)) 2 5 0 102
        ({ up with dt := [(2, { state := .up112 })] })) ∧
    ((fun k src d l t => Meets (.dtTieLineRelease k src d (some l)) (fun s => s.tie? src d = some t ∧ k < 3 ∧ (s.link
        k).isUp = true ∧ s.linkTo t.dev = k ∧ t.confirmed = true ∧ s.tieDue t l.fmt l.hdr = l.hdr ∧ t.last.map (fun v =>
        v.hdr) ≠ some l.hdr)) 2 3077 0 dueLine tie ({ up with dt := [(2, { state := .up112 })], ties := [tie] })) ∧
    ((fun k src d t l => Meets (.dtTieLineRelease k src d (some l)) (fun s => s.tie? src d = some t ∧ k < 3 ∧ (s.link
        k).isUp = true ∧ s.linkTo t.dev = k ∧ t.confirmed = true ∧ s.tieDue t l.fmt l.hdr = l.hdr ∧ t.last.map (fun v =>
        v.hdr) = some l.hdr)) 2 3077 0 ({ tie with last := some dueLine }) dueLine
        ({ up with dt := [(2, { state := .up112 })], ties := [{ tie with last := some dueLine }] })) ∧
    ((fun k src d t l => Meets (.dtTieLineRelease k src d none) (fun s => s.tie? src d = some t ∧ k < 3 ∧ (s.link
        k).isUp = true ∧ s.linkTo t.dev = k ∧ t.confirmed = true ∧ t.last = some l)) 2 3077 0
        ({ tie with last := some fabLine }) fabLine
        ({ up with dt := [(2, { state := .up112 })], ties := [{ tie with last := some fabLine }] })) ∧
    ((fun k src d t w l => Meets (.dtTieLineRelease k src d (some w)) (fun s => s.tie? src d = some t ∧ k < 3 ∧ (s.link
        k).isUp = true ∧ s.linkTo t.dev = k ∧ t.confirmed = true ∧ s.tieDue t w.fmt w.hdr ≠ w.hdr ∧ t.last = some l)) 2
        3077 0 ({ tie with last := some fabLine }) fabLine fabLine
        ({ up with dt := [(2, { state := .up112 })], ties := [{ tie with last := some fabLine }] })) :=
  ⟨by show Meets _ _ _; decide +kernel,
    by show Meets _ _ _; decide +kernel,
    by show Meets _ _ _; decide +kernel,
    by show Meets _ _ _; decide +kernel,
    by show Meets _ _ _; decide +kernel,
    by show Meets _ _ _; decide +kernel,
    by show Meets _ _ _; decide +kernel,
    by show Meets _ _ _; decide +kernel,
    by show Meets _ _ _; decide +kernel,
    by show Meets _ _ _; decide +kernel,
    by show Meets _ _ _; decide +kernel,
    by show Meets _ _ _; decide +kernel⟩

/-- Every clause of PairAndMirrorRows that has a condition is met somewhere. -/
theorem witness_PairAndMirrorRows :
    (Meets .heartbeatSend (fun s => s.pr.state ≠ .off ∧ s.pr.lastBeat = none)
        ({ up with pr := { state := .isolated } })) ∧
    ((fun p bs => Meets (.heartbeatReceive p bs) (fun s => s.hears p bs = true)) .dowel beatBytes
        ({ up with pr := { state := .standby } })) ∧
    (Meets (.pairingPathLost .dowel) (fun s => s.pr.state ≠ .off ∧ s.silent s.pr.heardDowel = true ∧ s.heardNow
        s.pr.heardLink = true ∧ (s.fault 128).persists = false)
        ({ up with pr := { state := .active, heardDowel := some 11988000000, heardLink := some 12000000000 } })) ∧
    (Meets (.pairingPathLost .link) (fun s => s.pr.state ≠ .off ∧ s.pr.link < 3 ∧ s.silent s.pr.heardLink = true ∧
        s.heardNow s.pr.heardDowel = true ∧ (s.fault 128).persists = false)
        ({ up with pr := { state := .active, link := 2, heardLink := some 11988000000, heardDowel := some 11988000001 } }))
        ∧
    (Meets .partnerLost (fun s => s.pr.state ≠ .off ∧ s.silent s.pr.heardDowel = true ∧ s.silent s.pr.heardLink = true ∧
        s.pr.partnerLost = false) ({ up with pr := { state := .standby } })) ∧
    ((fun n => Meets (.peerNotAlive n) (fun s => 10 ≤ n ∧ s.pins.peerNotAlive = false ∧ s.pins.resetN = true ∧
        s.pr.state ≠ .active)) 10 ({ up with pr := { state := .standby } })) ∧
    (Meets .clampGntStable (fun s => s.pins.resetN = true ∧ s.pr.state ≠ .off ∧ s.pins.clampGnt = false)
        ({ up with pr := { state := .standby } })) ∧
    (Meets .clampGntDeassert (fun s => s.pins.clampGnt = true ∧ s.pr.state ≠ .off)
        ({ up with pins := { clampGnt := true }, pr := { state := .active } })) ∧
    ((fun i => Meets (.mirrorReceive i) (fun s => (s.pr.state = .standby ∨ s.pr.state = .joining) ∧ s.pairUp = true))
        (.protect 5 (some 16)) ({ paired with pr := { state := .standby, link := 0 } })) ∧
    ((fun i => Meets (.mirrorReceive i) (fun s => s.pr.followed = true ∧ isChoice i = true ∧ s.pairUp = true)) (.readout
        5 0 0) ({ paired with pr := { state := .frozen, link := 0, followed := true } })) ∧
    ((fun d n => Meets (.mirrorAck d n) (fun s => ((s.dom d).waitAck.isSome = true ∨ (s.dom d).auWait.isSome = true) ∧
        (s.dom d).bankTick = n)) 7 101
        ({ up with td := [(7, { rate := some 5, waitAck := some 0, bankTick := 101 })] })) ∧
    ((fun d t => Meets (.mirrorAckTimeout d) (fun s => s.pr.state ≠ .standby ∧ (s.dom d).ackSince = some t ∧ s.passed t
        (tuUs 200) = true)) 7 11997600000 ({ up with td := [(7, { rate := some 5, waitAck := some 11997600000 })] })) ∧
    ((fun d => Meets (.mirrorAckTimeout d) (fun s => s.pr.state = .standby)) 7
        ({ up with pr := { state := .standby } })) ∧
    ((fun b k theta => Meets (.mirrorTbOffset b k theta) (fun s => (s.pr.state = .standby ∨ s.pr.state = .joining) ∧
        s.pairUp = true ∧ b < 8 ∧ (s.base b).configured = true ∧ (s.base b).source = none)) 7 0 (-5)
        ({ paired with pr := { state := .joining, link := 0 }, tb := [(7, { state := .freeRunAtLast })] })) ∧
    ((fun m => Meets (.divergeReceive m) (fun s => s.pr.state = .frozen)) 1 ({ up with pr := { state := .frozen } })) ∧
    (Meets .joinComplete (fun s => s.pr.state = .joining ∧ s.pr.snapReq = true ∧ s.pairUp = true ∧ s.pairAligned = true)
        ({ paired with pr := { state := .joining, link := 0, snapReq := true, aligned := 1 }, de := [(0, { kind := 1, pairMode := 1 })] }))
        ∧
    (Meets .mirrorSnapshotRequest (fun s => s.pr.state = .active ∧ s.pairUp = true) paired) :=
  ⟨by decide +kernel,
    by show Meets _ _ _; decide +kernel,
    by decide +kernel,
    by decide +kernel,
    by decide +kernel,
    by show Meets _ _ _; decide +kernel,
    by decide +kernel,
    by decide +kernel,
    by show Meets _ _ _; decide +kernel,
    by show Meets _ _ _; decide +kernel,
    by show Meets _ _ _; decide +kernel,
    by show Meets _ _ _; decide +kernel,
    by show Meets _ _ _; decide +kernel,
    by show Meets _ _ _; decide +kernel,
    by show Meets _ _ _; decide +kernel,
    by decide +kernel,
    by decide +kernel⟩

/-- Every clause of GrainRows that has a condition is met somewhere. -/
theorem witness_GrainRows :
    ((fun r rest => Meets .grainRecord (fun s => s.gr.inbox = r :: rest)) grainRec ([])
        ({ up with gr := { started := true, inbox := [grainRec] } })) ∧
    ((fun r => Meets (.grainForwardReceive r) (fun s => s.pairUp = true ∧ s.pr.state ≠ .off ∧ s.signer = true ∧
        s.gr.started = true ∧ s.gr.stopped = false ∧ bit r.flags 2 = false ∧ s.gr.fill + recLen
        { r with flags := r.flags + 4, flight := none } ≤ grainRing)) grainRec
        ({ paired with gr := { started := true }, pr := { state := .active, link := 0, hold := true, roles := 2 } })) ∧
    ((fun r rest => Meets .grainForwardAck (fun s => s.gr.unchained = r :: rest ∧ s.pairUp = true ∧ s.signer = false ∧
        s.gr.started = true)) grainRec ([])
        ({ paired with gr := { started := true, unchained := [grainRec] }, pr := { state := .standby, link := 0 } })) ∧
    ((fun i => Meets .grainPeriodicSeal (fun s => s.periodicDue = some (i, none) ∧ s.signer = true ∧ s.gr.started = true
        ∧ s.gr.stopped = false)) 12000000000 ({ up with gr := { started := true, sealTd := 1 } })) ∧
    ((fun i d n => Meets .grainPeriodicSeal (fun s => s.periodicDue = some (i, some (d, n)) ∧ s.signer = true ∧
        s.gr.started = true ∧ s.gr.stopped = false)) 11900000000 0 100 ({ up with gr := { started := true } })) :=
  ⟨by show Meets _ _ _; decide +kernel,
    by show Meets _ _ _; decide +kernel,
    by show Meets _ _ _; decide +kernel,
    by show Meets _ _ _; decide +kernel,
    by show Meets _ _ _; decide +kernel⟩

/-! ## Conditions of the statements about every row -/

/-- A command with FLAGS and a tick. -/
def timed (flags tick : Nat) : Cmd := cmd [(5, 1, flags), (8, 8, tick), (18, 2, 0xFFFF)]

/-- A device with a bound destination. -/
def bound : State := { up with de := [(0, { kind := 1 })] }

theorem witness_StepRunsFrontCommand :
    ({ up with pending := [.keyTick, .drbgReseed] } : State).pending = .keyTick :: [.drbgReseed] := rfl

theorem witness_IdleStepPassesTime : State.reset.pending = [] := rfl

theorem witness_StepTakesOneCommand :
    ∃ t, step { State.reset with pending := [.resetNRelease 1 false bootOk] } = .next t := ⟨_, rfl⟩

theorem witness_RefusedCommandsComplete :
    ∃ r, commandOf (.nopEcho 0 (cmd [(63, 1, 1)])) = some (0, cmd [(63, 1, 1)], cmdNopEcho) ∧
      Fetched cmdNopEcho 0 (cmd [(63, 1, 1)]) up ∧
      judge cmdNopEcho (entered cmdNopEcho 0 (cmd [(63, 1, 1)]) up) (context cmdNopEcho 0 (cmd [(63, 1, 1)]) up)
        = some r :=
  ⟨repBadArg 63, rfl, ⟨by decide, by decide, by decide, by decide⟩, by decide +kernel⟩

theorem witness_UnfetchedCommandsWait :
    commandOf (.nopEcho 0 (cmd [])) = some (0, cmd [], cmdNopEcho) ∧ State.reset.balixUp = false ∧
    commandOf (.nopEcho 16 (cmd [])) = some (16, cmd [], cmdNopEcho) ∧
    (let s : State := { up with mb := [(0, { en := true, cplTail := 256 })] }
     256 < s.inflightOf 0 + s.unconsumed 0 + 1) ∧
    (let s : State := { up with bx := { flights := List.replicate 512 flight } }; 512 < s.inflight + 1) ∧
    (let f : Flight := { flight with cmd := cmd [(0, 2, 0x0C01), (16, 2, 5)], reply := some (repDone []) }
     let s : State := { up with bx := { flights := [f] } }
     ∃ g r, g ∈ s.bx.flights ∧ (g.cmd.opcode = 0x0C01 ∨ g.cmd.opcode = 0x0C02) ∧ g.reply = some r ∧ r.ok = true
       ∧ g.cmd.u16 16 ∈ namedSlots (ran cmdKeyInfo (cmd [(16, 2, 5)]))) :=
  ⟨rfl, by decide, rfl, by decide +kernel, by decide +kernel, _, repDone [], List.mem_cons_self .., by decide, rfl, rfl,
      by decide⟩

theorem witness_LateCommands :
    commandOf (.xptTake 0 (timed 1 50)) = some (0, timed 1 50, cmdXptTake) ∧ cmdXptTake.isTick = true ∧
    Passes cmdXptTake 0 (timed 1 50) bound ∧ (ran cmdXptTake (timed 1 50)).atTick = true ∧
    (ran cmdXptTake (timed 1 50)).lateOk = false ∧
    (ran cmdXptTake (timed 1 50)).tick < (bound.dom 0).windowTick bound.nowNs ∧
    (bound.dom 0).windowTick bound.nowNs ≤ (ran cmdXptTake (timed 1 50)).tick + 16777216 :=
  ⟨rfl, rfl, (accepted_of (by decide +kernel)).1, by decide +kernel, by decide +kernel, by decide +kernel,
    by decide +kernel⟩

theorem witness_LateCommands_assigned :
    let x := context cmdXptTake 0 (timed 3 50) bound
    x.cmd.atTick = true ∧ x.cmd.lateOk = true ∧ x.cmd.tick < (bound.dom x.cmd.td).windowTick x.stamp ∧
      (bound.dom x.cmd.td).windowTick x.stamp ≤ x.cmd.tick + 16777216 := by decide +kernel

theorem witness_LateCommands_completed :
    ({ flight with late := true, total := 2, lost := 1 } : Flight).late = true ∧
      (({ flight with late := true, total := 2, lost := 1 } : Flight).total = 0 ∨
        ({ flight with late := true, total := 2, lost := 1 } : Flight).lost ≠
          ({ flight with late := true, total := 2, lost := 1 } : Flight).total) := by decide

theorem witness_RowsKeepWhatTheyDoNotReach :
    reach (.sdiLockLoss 128) = .control ∧ (∃ t, exec (.sdiLockLoss 128) State.reset = .next t) ∧
    reach .commandFetch = .memory ∧ (∃ t, exec .commandFetch State.reset = .next t) := ⟨rfl, ⟨_, rfl⟩, rfl, ⟨_, rfl⟩⟩

theorem witness_EpochOnlyRises :
    (∃ t, step { State.reset with pending := [.powerOnReset [true]] } = .next t) ∧ State.reset.fuses.epoch ≤ 4096 ∧
    (∃ t, step up = .next t) ∧ up.startup.burns = none ∧
    ∀ burns rest, State.reset.pending ≠ .powerOnReset burns :: rest :=
  ⟨⟨_, rfl⟩, by decide, ⟨_, rfl⟩, rfl, by intro _ _ h; cases h⟩

theorem witness_EpochOnlyRises_burn : State.reset.burnEpoch.fuses ≠ State.reset.fuses := by decide

theorem witness_ResetPinRows_burn :
    State.reset.startup.burns = some [true] ∧ State.reset.fuses.epoch < 4096 ∧
    ([true].take (burnable State.reset.fuses.epoch)).any id = true ∧
    ([false, false, false, true].take (burnable State.reset.fuses.epoch)).any id = false ∧
    4096 ≤ ({ up with fuses := { up.fuses with epoch := 4096 } } : State).fuses.epoch ∧ up.startup.burns = none ∧
    ({ bootOk with fuseOk := false } : BootTests).fuseOk = false := by decide

theorem witness_StrapsSampledAtRelease :
    State.reset.pins.resetN = false ∧ (∃ t, exec (.resetNRelease 3 true bootOk) State.reset = .next t) ∧
    (∃ t, step State.reset = .next t) ∧
    ∀ index pid b rest, State.reset.pending ≠ .resetNRelease index pid b :: rest :=
  ⟨rfl, ⟨_, rfl⟩, ⟨_, rfl⟩, by intro _ _ _ _ h; cases h⟩

theorem witness_LocksClearOnlyInResets :
    (∃ t, step { up with pending := [.drbgReseed] } = .next t) ∧ Instr.wf .drbgReseed = true ∧ up.startup.bootLock =
        true ∧ up.startup.mapSwap = true :=
  ⟨⟨_, rfl⟩, rfl, rfl, rfl⟩

theorem witness_StepKeepsSound : Sound up ∧ ∃ t, step up = .next t := ⟨by unfold Sound StartOk; decide, ⟨_, rfl⟩⟩

theorem witness_SessionGenerations :
    Accepted cmdSessionOpen 0 (cmd [(4, 1, 0), (17, 1, 1)]) { up with mb := [(0, { gen := 15 })] } :=
  accepted_of (by decide +kernel)

/-- A device with an entry in the time-stamp queue of EP15. -/
def stamped : State := { up with tsq := [(15, { entries := [⟨[1, 2, 3, 4]⟩] })] }

theorem witness_StampsLeaveInOrder :
    stamped.queueShut .host 15 = false ∧ (stamped.queue 15).entries = ⟨[1, 2, 3, 4]⟩ :: [] ∧
    stamped.mayRead .host = true ∧ (stamped.queue 0).entries = [] := by decide

/-- A flight whose mailbox has faulted. -/
def muted : Flight := { flight with mute := true, reply := some {} }

theorem witness_EnableWrites_idle : (up.mbox 15).en = false := rfl

theorem witness_EnableWrites_faulted :
    ∃ f ∈ (({ up with bx := { flights := [flight] } } : State).faultRing 0).bx.flights, f.mb = 0 := by decide +kernel

theorem witness_EnableWrites_unwritten :
    let s : State := { up with bx := { flights := [muted] } }
    s.flight? 1 = some muted ∧ s.balixUp = true ∧ s.mayPost muted = true ∧ ∀ g ∈ s.chainOf muted, g.mute = true := by
  decide +kernel

theorem witness_EnableWrites_taken : up.bx.tookWait = false := rfl

theorem witness_RegisterReadRows_returned :
    0x4013DC % 4 = 0 ∧ up.queueShut .host 15 = false ∧ up.queueShut .cc1 15 = false := by decide

theorem witness_RegisterWriteRows_one :
    MayWrite up .host (up.hostMay 0x100000 = true) ∧ up.ucieUp = true ∧ up.hostMay 0 = false ∧ isRegister 0 = true ∧
    State.reset.ucieUp = false ∧ ({ up with ic := { cc0Closed := true, cc1Closed := true } } : State).ic.cc0Closed =
        true ∧
    ({ up with ic := { cc0Closed := true, cc1Closed := true } } : State).ic.cc1Closed = true ∧
    up.startup.bootLock = true := by
  simp only [MayWrite]; decide

theorem witness_SessionBytes :
    commandOf (.fwStatus 0 (cmd [(4, 1, 0x20)])) = some (0, cmd [(4, 1, 0x20)], cmdFwStatus) ∧ cmdFwStatus.opcode ≠
        0x0103 ∧
    Fetched cmdFwStatus 0 (cmd [(4, 1, 0x20)]) up ∧ (ran cmdFwStatus (cmd [(4, 1, 0x20)])).flags < 16 ∧
    (ran cmdFwStatus (cmd [(4, 1, 0x20)])).u8 7 = 0 ∧
    (ran cmdFwStatus (cmd [(4, 1, 0x20)])).session ≠ 16 * (up.mbox 0).gen + 0 ∧ (up.mbox 15).isOpen = false ∧
    (up.mbox 15).gen < 16 ∧ up.inflightOf 15 < 65536 :=
  ⟨rfl, by decide, ⟨by decide, by decide, by decide, by decide⟩, by decide +kernel, by decide +kernel,
    by decide +kernel, rfl, by decide, by decide⟩

/-- A device whose base 0 follows instance 3 with a step threshold of 1 ns. -/
def following : State :=
  { up with
    ptp := [(3, { used := true, slave := true, gm := 7 })]
    tb := [(0, { state := .tracking, source := some 3, stepcnt := 255, stepThr := some 1 })] }

theorem witness_StepCounts :
    Accepted cmdTbStep 0 (cmd []) { up with tb := [(0, { state := .freeRunAtLast, stepcnt := 255 })] } ∧
    (following.inst 3).used = true ∧ following.following 3 = true ∧ (following.inst 3).gm = 7 ∧
    (following.base 0).configured = true ∧ (following.base 0).source = some 3 ∧ 0 ≠ (following.base 0).stepcnt ∧
    Accepted cmdTbOffset 0 (cmd [(17, 1, 9)]) { up with tb := [(0, { state := .freeRunAtLast })] } ∧
    (ran cmdTbOffset (cmd [(17, 1, 9)])).u8 17 ≠ 0 :=
  ⟨accepted_of (by decide +kernel), by decide, by decide, by decide, by decide, by decide, by decide,
    accepted_of (by decide +kernel), by decide +kernel⟩

theorem witness_TimeSnapshots : (up.seenDebug .host).mayRead .host = true ∧ (up.seenDebug .cc1).mayRead .cc1 = true := by
  decide

/-- A channel that has moved all of a descriptor with FLUSH. -/
def flushing : State :=
  { up with dma := [(15, { state := 1, image := buffer 32 [(16, 4, 64), (20, 1, 4)], moved := 64, flushCnt := 4294967295 })] }

theorem witness_FlushFences :
    (flushing.chan 15).image ≠ [] ∧ (flushing.chan 15).moved = (flushing.chan 15).len ∧ (flushing.chan 15).state = 1 ∧
    flushing.dmaOk 15 ((flushing.chan 15).cqBase + 16 * ((flushing.chan 15).cqTail % 2 ^ (flushing.chan 15).cqSize)) 16
      = true ∧ (ran cmdMqVeneer (cmd [])).opcode = 0x0802 ∧ (ran cmdMqFenceGroup (cmd [(16, 1, 8)])).opcode = 0x0803 := by
  decide +kernel

theorem witness_RoleGenerations :
    ({ up with pr := { state := .standby, roleGen := 65535, pGen := 3 } } : State).pr.state ≠ .active ∧
    ({ up with pr := { state := .active } } : State).hears .dowel beatBytes = true ∧
    ({ up with pr := { state := .active, pState := some 4, roleGen := 5, pGen := 5 } } : State).pr.pState = some 4 :=
  ⟨by decide, by decide +kernel, rfl⟩

/-- A device with three sources latched, one of which persists. -/
def faulted : State :=
  { up with fc := [(32, { latched := true, count := 3 }), (33, { latched := true, persists := true, count := 1 }),
    (63, { latched := true, count := 1 })] }

theorem witness_AcknowledgedFaults :
    Accepted cmdFaultAck 0 (cmd [(16, 1, 1), (20, 4, 3)]) faulted ∧
    (let c := ran cmdFaultAck (cmd [(16, 1, 1), (20, 4, 3)])
     32 / 32 = c.u8 16 ∧ bit (c.u32 20) (32 % 32) = true ∧ (faulted.fault 32).latched = true ∧
     (faulted.fault 32).caused = false ∧ (faulted.fault 33).caused = true ∧ bit (c.u32 20) (63 % 32) = false ∧
     (faulted.fault 34).latched = false) :=
  ⟨accepted_of (by decide +kernel), by decide +kernel⟩

theorem witness_ChainOrder :
    (let s : State := { up with gr := { inbox := [grainRec], started := true } }
     s.gr.inbox = grainRec :: [] ∧ s.pr.state ≠ .frozen ∧ s.gr.stopped = false ∧ s.signer = true ∧ s.gr.started = true ∧
       (grainRec.type = 0x30 → s.gr.shedding = false) ∧ s.gr.fill + recLen grainRec ≤ grainRing) ∧
    (let s : State := { paired with gr := { started := true }, pr := { paired.pr with hold := true, roles := 2 } }
     s.pairUp = true ∧ s.pr.state ≠ .off ∧ s.signer = true ∧ s.gr.started = true ∧ s.gr.stopped = false ∧
       bit grainRec.flags 2 = false ∧ s.gr.fill + recLen grainRec ≤ grainRing) ∧
    up.pr.state ≠ .frozen ∧ up.startup.ready = true ∧ up.pins.pwrfail = false := by decide +kernel

/-- A device whose queue of EP15 is full. -/
def stampedFull : State := { up with tsq := [(15, { entries := List.replicate 64 ⟨[]⟩, drops := 65535 })] }

theorem witness_StampsLeaveInOrder_full :
    ({ up with ptp := [(0, { used := true, ports := [{ coded := 240, state := 9 }] })] } : State).balixQueue 15 = true ∧
    (7, 0xFFFF) ∈ (({ up with ep := [(15, { stampReqs := [(7, 0xFFFF)] })] } : State).port 15).stampReqs ∧
    64 ≤ (stampedFull.queue 15).entries.length ∧ (up.queue 15).entries.length < 64 ∧ up.stampBase 15 7 < 8 ∧
    (up.seenDebug .cc0).mayRead .cc0 = true ∧ (stampedFull.queue 15).drops < 65536 ∧
    (stampedFull.queue 15).entries.length ≤ 64 := by decide +kernel

theorem witness_StartUpSetsItsLocks :
    (let s : State := { up with startup := { stage := 5, bootLen := 65536 } }
     s.startup.stage = 5 ∧ s.startup.stopped = false ∧ s.imageStop ⟨65536, true, true, 1⟩ = none ∧
       ∃ t, exec (.imageAccept ⟨65536, true, true, 1⟩) s = .next t) ∧
    (let s : State := { up with startup := { stage := 6 } }
     s.startup.ready = false ∧ ∃ t, exec (.ready []) s = .next t ∧ t.startup.ready = true) :=
  ⟨⟨rfl, rfl, by decide, ⟨_, rfl⟩⟩, ⟨rfl, ⟨_, rfl, by decide +kernel⟩⟩⟩

/-! ## Ill-formed commands are refused -/

theorem test_wf_mailbox : Instr.wf (.mbEnableSet 16) = false ∧ Instr.wf (.mbEnableSet 15) = true := by decide

theorem test_wf_cmd : Instr.wf (.fwStatus 0 ⟨[]⟩) = false ∧ Instr.wf (.fwStatus 0 (cmd [])) = true := by decide +kernel

theorem test_wf_domain : Instr.wf (.tdTick 8) = false := by decide

theorem test_wf_dst : Instr.wf (.mitreFlip 1024) = false := by decide

theorem test_wf_src : Instr.wf (.outOfWindow 1024) = false := by decide

theorem test_wf_channel : Instr.wf (.dmaStart .host 16) = false := by decide

theorem test_wf_port_sub : Instr.wf (.txTimestamp 16 0 0) = false ∧ Instr.wf (.txTimestamp 15 8 0) = false := by decide

theorem test_wf_lane : Instr.wf (.sdiLockLoss 480) = false := by decide

theorem test_wf_engine : Instr.wf (.mqFrameStart 8) = false := by decide

theorem test_wf_link : Instr.wf (.dtLinkDown 3) = false := by decide

theorem test_wf_power : Instr.wf (.pwrDomainIdle 48) = false := by decide

theorem test_wf_plane : Instr.wf (.planeLoaded 2) = false := by decide

theorem test_wf_stack : Instr.wf (.stackReturnComplete 4) = false := by decide

theorem test_wf_base : Instr.wf (.masterTimeout 8) = false := by decide

theorem test_wf_instance : Instr.wf (.ptpSyncSend 4 0) = false := by decide

theorem test_wf_cluster : Instr.wf (.ccFailure 2) = false := by decide

theorem test_wf_source : Instr.wf (.injectedHoldExpiry 256) = false := by decide

theorem test_wf_leg : Instr.wf (.legTimeout 0 2) = false := by decide

theorem test_wf_flow : Instr.wf (.audioPacketSend 4096) = false := by decide

theorem test_wf_ramp : Instr.wf (.rampEnd 4096 0) = false ∧ Instr.wf (.rampEnd 0 4096) = false := by decide

theorem test_wf_candidate : Instr.wf (.candidateQualify 17) = false := by decide

theorem test_wf_index : Instr.wf (.resetNRelease 4 false bootOk) = false := by decide

theorem test_wf_offset : Instr.wf (.registerWrite .host ⟨0x4000000, 4⟩ 0) = false := by decide

theorem test_wf_heartbeat : Instr.wf (.heartbeatReceive .dowel []) = false := by decide

/-! ## Words -/

/-- The table gives no row any bits, so no word spells a command. -/
theorem test_decode_none : decodeTableWord 0 0 = none ∧ up.withFetchWord 0 0 = up := ⟨rfl, rfl⟩

/-! ## Examples of the spec -/

/-- 10 Worked example: the multipliers of three gain codes. -/
theorem test_gain_codes :
    gainMul (codeUnits 0xF000) = 2097152 ∧ gainMul (codeUnits 0xEA00) = 1051066 ∧
      gainMul (codeUnits 0xFA00) = 6631777 := by decide +kernel

/-- 10 Worked example: the first sample's sum, and a later one that is limited. -/
theorem test_mix_example :
    accOut (product 2000000 2097152 + product (-3000000) 1051066 + product 1500000 6631777) = 5239855 ∧
      limit24 (accOut (product 2000000 2097152 + product (-3000000) 1051066 + product 3000000 6631777)) = 8388607 := by
  decide

/-- 10 Worked example: a ramp from -6 dB to mute over 480 samples is at -51 dB at sample 240. -/
theorem test_ramp_example :
    Ramp.at { base := codeUnits 0xEA00, goal := 0, len := 480, pos := 0 } 240 = (240 - 51) * 65536 := by decide

/-- TB3 of 05 Worked example: TRACKING, I = 1,200 ppb, STEPCNT 6, default parameters. -/
def servoState : State :=
  { up with
    ptp := [(1, { used := true, slave := true, gm := 7 })]
    tb := [(3, { state := .tracking, source := some 1, integral := 1200 * 17179869184, stepcnt := 6,
                 time := 4294967296000000000 })] }

/-- 05 Worked example: an offset of +40 ns gives RATE 20,238; free run then 20,581; an offset of +25.3 us steps the
    base. -/
theorem test_servo_example :
    ((servoState.servo 3 (40 * 65536)).1.base 3).rate = 20238 ∧
      (((servoState.servo 3 (40 * 65536)).1.freeRun 3).base 3).rate = 20581 ∧
      ((servoState.servo 3 (25300 * 65536)).1.base 3).stepcnt = 7 ∧
      (servoState.servo 3 (25300 * 65536)).2 = 1 := by decide +kernel

/-- 09 Worked example: line 100 of 625i is due 6,336 us after the frame start, h is 32 us, H is 64 us. -/
theorem test_line_example :
    lineOffset 0x22 100 = tuUs 6336 ∧ halfLine 0x22 = tuUs 32 ∧ linePeriod 0x22 = tuUs 64 := by decide

/-- 14 Worked example: source 33 escalates from DEGRADE to SERVICE while source 12 is latched at DEGRADE. -/
theorem test_escalation_example :
    let s := (up.level 12 true 0xFFFF).level 33 true 2
    (s.fault 12).effClass = 1 ∧ (s.fault 33).latchedClass = 1 ∧ (s.fault 33).effClass = 2 ∧ (s.fault 33).escalated =
        true := by
  decide +kernel

/-- The check value of CRC-32C for the digits 1 to 9 (log 11). -/
theorem test_crc32c : crc32c [0x31, 0x32, 0x33, 0x34, 0x35, 0x36, 0x37, 0x38, 0x39] = 0xE3069283 := by decide +kernel

/-- 17 R75, R449: a command posts no completion until it is due; NOP_ECHO completes DONE. -/
theorem test_nop_echo_done :
    ∃ t, exec (.nopEcho 0 (cmd [(16, 1, 7)])) up = .next t ∧
      (t.flight? 0).map (fun f => (f.reply.map Rep.status)) = some (some 0) := ⟨_, rfl, by decide +kernel⟩

/-- A doorbell on a disabled mailbox sets ERR and takes no tail (R60). -/
theorem test_doorbell_disabled :
    ∃ t, exec (.mbDoorbell 3 1) up = .next t ∧ (t.mbox 3).err = true ∧ (t.mbox 3).cmdTail = 0 :=
  ⟨_, rfl, by decide +kernel, by decide +kernel⟩

/-- THERMAL_TRIP needs 120 degrees (R604). -/
theorem test_thermal_below : exec .thermalTrip { up with glb := { temps := [1919] } }
    = .next { up with glb := { temps := [1919] } } := rfl

/-- R606: a write of fewer than 4 bytes has no effect, and one of 8 bytes is two writes, the lower address first. -/
theorem test_narrow_write :
    (up.writeAcc .host ⟨0x100000, 2⟩ 0x1000).mb = up.mb ∧ Access.words ⟨0x100000, 8⟩ = [0x100000, 0x100004] ∧
      Access.words ⟨0x100003, 1⟩ = [0x100000] := by
  decide +kernel

/-- R145: 1,485 Mb/s, 5,280 words a line, 1,125 lines and a field bit that changes are 1080i at 25 frames a second on
    HD-SDI. -/
theorem test_structure : structResolve ⟨1, false, 5280, 1125, true, none⟩ false = (0x42, 2, true, false) := by
  decide +kernel

/-- R521, Table PRBS patterns: PRBS7 has a period of 127 bits, and its first 7 bits do not come again before it. -/
theorem test_prbs7 :
    (prbsBits (prbsTaps 0) 134 1).drop 127 = (prbsBits (prbsTaps 0) 134 1).take 7 ∧
      (range 1 126).all (fun k => ((prbsBits (prbsTaps 0) 134 1).drop k).take 7 != (prbsBits (prbsTaps 0) 134 1).take 7)
          := by
  decide +kernel

/-- R543, example: SL072 is PL200, with TX_P and TX_N at row 46 and RX_P and RX_N at row 48. -/
theorem test_lane_balls : laneBalls 200 = [(46, 83), (46, 84), (48, 82), (48, 83)] := by
  decide +kernel

/-- R523: at a loop delay of 1,437 bit periods a checker with OP 3 can lock with a DELAY of 17 and a slip of 77 only. -/
theorem test_loop_delay :
    ({ test := 3, slip := 77, testCtrl := 0x110000 } : Lane).canLock 1437 = true ∧
      ({ test := 3, slip := 77, testCtrl := 0x120000 } : Lane).canLock 1437 = false := by
  decide +kernel

/-- FIPS 180-4, example: SHA-384 of "abc". -/
theorem test_sha384 : sha384 [0x61, 0x62, 0x63]
    = 0xcb00753f45a35e8bb5a03d699ac65007272c32ab0eded1631a8b605a43ff5bed8086072ba1e7cc2358baeca134c825a7 := by
  decide +kernel

/-- FIPS 197, C.3: AES-256 of the block 00 11 .. FF under the key 00 01 .. 1F. -/
theorem test_aes256 : aesEncrypt (beBytes 32 0x000102030405060708090a0b0c0d0e0f101112131415161718191a1b1c1d1e1f)
    (beBytes 16 0x00112233445566778899aabbccddeeff) = beBytes 16 0x8ea2b7ca516745bfeafc49904b496089 := by
  decide +kernel

end Sys2Proof.Tests
end

/-! PROOFS. Tick-applied commands, Balix's own events, the ticks of a domain, and Bramble's block boundary and ramps. -/
namespace Sys2Proof.Machine

open Sys2Proof.Safety

/-! ## Tick-applied commands fetched alone: held for their tick, or late (R40 to R47) -/

/-- A command whose target lies before the window of its stamp: LATE_OK decides what becomes of it (R41). -/
theorem State.assign_of_late {s : State} {x : Ctx} (hat : x.cmd.atTick = true)
    (hlate : x.cmd.tick < (s.dom x.cmd.td).windowTick x.stamp) :
    s.assign x = if x.cmd.lateOk then .ok ((s.dom x.cmd.td).windowTick x.stamp, true) else .error repRejectedLate := by
  have hnear : ¬(s.dom x.cmd.td).windowTick x.stamp + 16777216 < x.cmd.tick := by omega
  have hgone : ¬(s.dom x.cmd.td).windowTick x.stamp ≤ x.cmd.tick := by omega
  simp only [State.assign, hat, Bool.not_true, Bool.false_eq_true, if_false, if_neg hnear, if_neg hgone]

/-- A tick-applied command that passes its checks but is given no tick completes with the status of that refusal. -/
theorem runCommand_unassigned {p : CmdSpec} {mb : Nat} {c : Cmd} {s : State} {r : Rep} (hp : p.isTick = true)
    (h : Passes p mb c s) (ha : (entered p mb c s).assign (context p mb c s) = .error r) :
    runCommand p mb c s = (entered p mb c s).settle s.newId r := by
  obtain ⟨hf, hj⟩ := h
  have hid : (context p mb c s).id = s.newId := rfl
  rw [runCommand_fetched hf]
  unfold State.acceptOne
  cases he : p.effect with
  | tick parts onStage =>
    simp only [State.tickUnit, List.map_cons, List.map_nil, State.stageAll, hid, entered_afterMembers, hj, ha]
  | atOnce act => simp [CmdSpec.isTick, he] at hp
  | later start => simp [CmdSpec.isTick, he] at hp

/-- A command that enters and completes at once touches nothing but Balix's work in flight. -/
theorem entered_settle_frame (p : CmdSpec) (mb : Nat) (c : Cmd) (s : State) (id : Nat) (r : Rep) :
    (entered p mb c s).settle id r = { s with bx := ((entered p mb c s).settle id r).bx } := rfl

/-- A late command some entry of which has not lost completes DONE_LATE (R41, R83). -/
theorem Flight.final_late {f : Flight} (hl : f.late = true) (h : f.total = 0 ∨ f.lost ≠ f.total) :
    f.final = repLate f.res := by
  have hkept : ¬(f.total ≠ 0 ∧ f.lost = f.total) := fun ⟨hne, heq⟩ => h.elim hne (fun k => k heq)
  rw [Flight.final, if_neg hkept, if_pos hl]

/-- A row of a tick-applied command holds what its specification stages. -/
theorem onTick_of_row {p : CmdSpec} {row : Nat → Cmd → Instr} {E : State → Ctx → List (Nat × List Entry)}
    {G : State → Ctx → State} (hp : p.effect = .tick E G)
    (hr : ∀ mb c, commandOf (row mb c) = some (mb, c, p)) : OnTick p row E G :=
  onTick_of hp (fun mb c s => exec_command (hr mb c) s)

/-- Settles O11: each row runs its command, whose specification stages the entries that the statement gives. -/
theorem tickCommandsHeld : Obligations.TickCommandsHeld := by
  unfold Obligations.TickCommandsHeld
  exact ⟨
    onTick_of_row (p := cmdXptTake) rfl fun _ _ => rfl,
    onTick_of_row (p := cmdXptSalvoFire) rfl fun _ _ => rfl,
    onTick_of_row (p := cmdXptProtect) rfl fun _ _ => rfl,
    onTick_of_row (p := cmdXptLock) rfl fun _ _ => rfl,
    onTick_of_row (p := cmdAudGainSet) rfl fun _ _ => rfl,
    onTick_of_row (p := cmdAudGainBlock) rfl fun _ _ => rfl,
    onTick_of_row (p := cmdAudMapIn) rfl fun _ _ => rfl,
    onTick_of_row (p := cmdAudMapOut) rfl fun _ _ => rfl,
    onTick_of_row (p := cmdAudFollow) rfl fun _ _ => rfl,
    onTick_of_row (p := cmdFpRealign) rfl fun _ _ => rfl,
    onTick_of_row (p := cmdCutoffSet) rfl fun _ _ => rfl,
    onTick_of_row (p := cmdMqVeneer) rfl fun _ _ => rfl,
    onTick_of_row (p := cmdMqFenceGroup) rfl fun _ _ => rfl,
    onTick_of_row (p := cmdKeyLoad) rfl fun _ _ => rfl,
    onTick_of_row (p := cmdKeyDerive) rfl fun _ _ => rfl,
    onTick_of_row (p := cmdGrainSeal) rfl fun _ _ => rfl⟩

/-- Settles O44: a target before the window is refused or moved to the window as LATE_OK says, and a refusal leaves only a
completion. -/
theorem lateCommands : Obligations.LateCommands := by
  refine ⟨?refused, ?assigned, fun f hl h => Flight.final_late hl h⟩
  case refused =>
    intro i mb c p s hi hp h hat hok hlate _
    have ha : (entered p mb c s).assign (context p mb c s) = .error repRejectedLate := by
      rw [State.assign_of_late (s := entered p mb c s) (x := context p mb c s) hat hlate]
      exact if_neg (by rw [show (context p mb c s).cmd = ran p c from rfl, hok]; decide)
    refine ⟨_, ?_, rfl, entered_settle_frame p mb c s s.newId repRejectedLate⟩
    rw [exec_command hi, runCommand_unassigned hp h ha]
  case assigned =>
    intro s x hat hok hlate _
    rw [State.assign_of_late hat hlate, if_pos hok]

/-! ## Balix's own events, the ticks of a domain, and the audio engine, as rows -/

/-- COMMAND_FETCH while Balix runs and commands wait at the next mailbox in turn (R61). -/
theorem execCommandFetch_commands {s : State} {n : Nat} {cs : List Cmd} (hup : s.balixUp = true)
    (hn : s.nextVisit = some n) (hv : s.visit n = .commands cs) :
    execCommandFetch s = .next (State.fetch { s with bx := { s.bx with lastMb := n } } n cs) := by
  simp only [execCommandFetch, hup, hn, hv, if_true]

/-- COMMAND_FETCH while Balix runs and the ring of the next mailbox in turn cannot be read (R621). -/
theorem execCommandFetch_unreadable {s : State} {n : Nat} (hup : s.balixUp = true) (hn : s.nextVisit = some n)
    (hv : s.visit n = .unreadable) :
    execCommandFetch s = .next (State.faultRing { s with bx := { s.bx with lastMb := n } } n) := by
  simp only [execCommandFetch, hup, hn, hv, if_true]

/-- TICK_CUTOFF once the cutoff of the next tick has come and no cutoff of it or of a later tick has been made (R49). -/
theorem execTickCutoff_due {s : State} {d : Nat} (hd : d < 8) (ht : (s.dom d).hasTicks = true)
    (hcut : (s.dom d).cutoff (s.dom d).nextTick ≤ s.nowNs)
    (hdone : ∀ k, (s.dom d).cutDone = some k → k < (s.dom d).nextTick) (hup : s.balixUp = true) :
    execTickCutoff d s = .next (s.cutoffAt d (s.dom d).nextTick) := by
  refine if_pos ⟨hd, ht, hcut, ?_, hup⟩
  cases hc : (s.dom d).cutDone with
  | none => rfl
  | some m => simpa using hdone m hc

/-- VENEER_WAIT_EXPIRY of a flight that still waits for its fence at its last tick (R309). -/
theorem execVeneerWaitExpiry_due {s : State} {id : Nat} {f : Flight} (hf : s.flight? id = some f)
    (hw : f.waitsFence = true) (hl : f.lastTick ≤ (s.dom f.cmd.td).count) :
    execVeneerWaitExpiry id s = .next (s.settle id (repByte 0x12 1)) := by
  simp only [execVeneerWaitExpiry, hf, hw, hl, decide_true, Bool.and_self, if_true]

/-- RAMP_END of a ramp that has ended (R278, R286). -/
theorem execRampEnd_ended {s : State} {ai ao : Nat} {r : Ramp} (hr : s.ramp (4096 * ao + ai) = some r) (hai : ai < 4096)
    (he : r.ended s.elapsed = true) : execRampEnd ai ao s = .next (s.setRamp (4096 * ao + ai) none) := by
  simp only [execRampEnd, hr, hai, he, and_self, if_true]

/-- Settles O22: what is found at the next mailbox decides a fetch; a chain with nothing left to come is posted. -/
theorem fetchAndPostRows : Obligations.FetchAndPostRows := by
  refine ⟨?commands, ?unreadable, ?post⟩
  case commands => exact fun n cs s ⟨hup, hn, hv⟩ => execCommandFetch_commands hup hn hv
  case unreadable => exact fun n s ⟨hup, hn, hv⟩ => execCommandFetch_unreadable hup hn hv
  case post =>
    intro id f s ⟨hf, hup, hm⟩
    show execCompletionPost id s = _
    simp only [execCompletionPost, hf, hup, hm, Bool.and_self, if_true]

/-- Settles O23, row by row: the condition of each clause is the guard of its row. -/
theorem tickAndAudioRows : Obligations.TickAndAudioRows := by
  refine ⟨?tick, ?cutoff, ?arming, ?flip, ?fence, ?keyTick, ?reseed, ?boundary, ?ramp⟩
  case tick => exact fun d s h => if_pos h
  case cutoff => exact fun d s ⟨hd, ht, hcut, hdone, hup⟩ => execTickCutoff_due hd ht hcut hdone hup
  case arming => exact fun d s ⟨hd, ht, hn, hi, hz⟩ => if_pos ⟨hd, ht, hn, hi, by rw [hz]; rfl⟩
  case flip =>
    exact fun p s ⟨hp, hkind, harmed, hopen, hz, hi⟩ => if_pos ⟨hp, hkind, harmed, hopen, by rw [hz]; rfl, hi⟩
  case fence => exact fun id f s ⟨hf, hw, hl⟩ => execVeneerWaitExpiry_due hf hw hl
  case keyTick => exact fun s h => if_pos h
  case reseed => exact fun s h => if_pos h
  case boundary =>
    intro inp s ⟨hr, hb⟩
    refine if_pos ?_
    rw [hr, Bool.true_and]
    cases hc : s.au.boundary with
    | none => rfl
    | some p => exact decide_eq_true (hb p hc)
  case ramp => exact fun ai ao r s ⟨hr, hai, he⟩ => execRampEnd_ended hr hai he

end Sys2Proof.Machine

/-! PROOFS. The mailbox protocol: the system commands, the commands that Balix does not fetch or refuses for their
session byte, and the mailbox registers. -/
namespace Sys2Proof.Machine

open Sys2Proof.Safety

/-! ## Sessions (R66, R76 to R81) -/

/-- Changes one after another keep what each keeps. -/
theorem foldl_same {α β : Type} (φ : State → β) {f : State → α → State} (h : ∀ t x, φ (f t x) = φ t) (l : List α)
    (s : State) : φ (l.foldl f s) = φ s := by
  induction l generalizing s with
  | nil => rfl
  | cons a l ih => rw [List.foldl_cons, ih, h]

/-- A wake changes no mailbox. -/
@[simp] theorem State.startWake_mb (s : State) (n : Nat) : (s.startWake n).mb = s.mb := by
  simp only [State.startWake]
  split <;> rfl

/-- Wakes change no mailbox. -/
@[simp] theorem State.wakeAll_mb (s : State) (ns : List Nat) : (s.wakeAll ns).mb = s.mb := by
  refine foldl_same State.mb (fun t n => ?_) ns s
  exact t.startWake_mb n

/-- A command that enters, and the wake of the domains it needs, change no mailbox. -/
@[simp] theorem acting_mbox (p : CmdSpec) (mb : Nat) (c : Cmd) (s : State) (n : Nat) :
    (acting p mb c s).mbox n = s.mbox n := by
  simp only [State.mbox, acting, State.wakeAll_mb]
  rfl

/-- The session byte of a session just opened holds the count raised by 1 (R66, R77). -/
theorem State.sessionByte_openSession (s : State) (n rank roles : Nat) :
    (s.openSession n rank roles).sessionByte n = 16 * (((s.mbox n).gen + 1) % 16) + n := by
  simp only [State.sessionByte, State.openSession, State.updMbox_eq, State.mbox_setMbox]

/-- A row of a command that changes nothing answers with its result. -/
theorem answers_of_row {p : CmdSpec} {row : Nat → Cmd → Instr} {R : State → Ctx → List Byte}
    (hp : p.effect = .atOnce fun s x => (s, repDone (R s x))) (hm : plain p.opcode = true)
    (hr : ∀ mb c, commandOf (row mb c) = some (mb, c, p)) : Answers p row R :=
  atOnce_of hp hm (fun mb c s => exec_command (hr mb c) s) fun _ _ _ _ => rfl

/-- An accepted SESSION_OPEN opens the session and returns its byte (R76, R77). -/
theorem sessionOpen_completes :
    AtOnce cmdSessionOpen .sessionOpen
      (fun t x => t.setMbox x.mb { t.mbox x.mb with
        isOpen := true
        rank := x.cmd.u8 16
        roles := x.cmd.u8 17
        gen := ((t.mbox x.mb).gen + 1) % 16 })
      (fun t x => repDone (leBytes 1 (16 * (((t.mbox x.mb).gen + 1) % 16) + x.mb))) :=
  atOnce_of rfl rfl (fun _ _ s => exec_command rfl s) fun mb c s _ => by
    rw [← State.sessionByte_openSession _ _ ((context cmdSessionOpen mb c s).cmd.u8 16)
      ((context cmdSessionOpen mb c s).cmd.u8 17)]
    rfl

/-- Settles O1: each row runs its command, whose effect is that of the statement. -/
theorem systemCommandsComplete : Obligations.SystemCommandsComplete := by
  refine ⟨?info, ?status, sessionOpen_completes, ?close, ?echo⟩
  case info => exact answers_of_row rfl rfl fun _ _ => rfl
  case status => exact answers_of_row rfl rfl fun _ _ => rfl
  case close => exact begins_of rfl (fun _ _ s => exec_command rfl s) fun _ _ _ _ => rfl
  case echo => exact answers_of_row rfl rfl fun _ _ => rfl

/-- Settles O51: SESSION_OPEN writes its own mailbox alone, with the count raised by 1; the wake and the completion
around it touch no mailbox. -/
theorem sessionGenerations : Obligations.SessionGenerations := by
  refine ⟨fun mb c s h => ⟨_, sessionOpen_completes mb c s h, ?own, fun n hn => ?other⟩, fun _ => rfl⟩
  case own =>
    refine (congrArg Mailbox.gen (State.mbox_setMbox _ mb _)).trans ?_
    simp only [show (context cmdSessionOpen mb c s).mb = mb from rfl, acting_mbox]
  case other => exact congrArg Mailbox.gen ((State.mbox_setMbox_ne _ _ hn).trans (acting_mbox ..))

/-- Only SESSION_OPEN may come without a session (R66). -/
theorem role_ne_noSession {i : Instr} {mb : Nat} {c : Cmd} {p : CmdSpec} (h : commandOf i = some (mb, c, p)) :
    p.opcode ≠ 0x0103 → p.role ≠ .noSession := by
  cases i <;> cases h <;> decide

/-- The session checks come before all but those of the flags and byte 7 (R447): without a session, or with another session
byte, a command is refused BAD_STATE (R66). -/
theorem judge_badSession {p : CmdSpec} {s : State} {x : Ctx} (hr : p.role ≠ .noSession) (hf : x.cmd.flags < 16)
    (h7 : x.cmd.u8 7 = 0) (h : (s.mbox x.mb).isOpen = false ∨ x.cmd.session ≠ s.sessionByte x.mb) :
    judge p s x = some repBadState := by
  have hflags : decide (16 ≤ x.cmd.flags) = false := decide_eq_false (by omega)
  have hbyte : (x.cmd.u8 7 != 0) = false := by rw [h7]; rfl
  have hsess : (!(s.mbox x.mb).isOpen || x.cmd.session != s.sessionByte x.mb) = true := by
    simpa only [Bool.or_eq_true, Bool.not_eq_true', bne_iff_ne] using h
  simp only [judge, headChecks, sessionChecks, if_neg hr, badIf, List.cons_append, List.nil_append, firstFail, hflags,
    hbyte, hsess, Bool.false_eq_true, if_false, if_true]

/-- MB_STATE of a mailbox (R613). -/
theorem State.regRead_mbState (s : State) (m : Master) {mb : Nat} (hmb : mb < 16) :
    s.regRead m (0x100038 + 0x1000 * mb)
      = BitVec.ofNat 32 (2147483648 * flag (s.mbox mb).isOpen + 268435456 * (s.mbox mb).roles
          + 33554432 * (s.mbox mb).rank + 65536 * s.sessionByte mb + s.inflightOf mb) := by
  have hlow : lowHalf (0x100038 + 0x1000 * mb - 4) = false := by
    simp only [lowHalf, Bool.or_eq_false_iff, Bool.and_eq_false_iff, beq_eq_false_iff_ne, decide_eq_false_iff_not]
    omega
  have hblock : (0x100038 + 0x1000 * mb - 0x100000) / 0x1000 = mb := by omega
  have hreg : (0x100038 + 0x1000 * mb) % 0x1000 = 0x38 := by omega
  have hnow : s.regNow m (0x100038 + 0x1000 * mb) = s.mailboxReg mb 0x38 := by
    unfold State.regNow
    rw [if_neg (by omega), if_pos (by omega), hblock, hreg]
  unfold State.regRead
  rw [hlow, if_neg (by simp), hnow]
  rfl

/-- Settles O54: the session check is the first that can refuse such a command, and bits 23 to 16 of MB_STATE are the byte
it compares with. -/
theorem sessionBytes : Obligations.SessionBytes := by
  refine ⟨?refused, ?shown⟩
  case refused =>
    intro i mb c p s hi hop hf hflags h7 hs
    rw [exec_command hi, runCommand_refused hf (judge_badSession (role_ne_noSession hi hop) hflags h7 hs)]
  case shown =>
    intro s m mb hmb hgen hin
    rw [State.regRead_mbState s m hmb, BitVec.toNat_ofNat, State.sessionByte]
    omega

/-! ## Commands that wait to be fetched (R61, R62, R393, R422) -/

/-- A mailbox with room has places of its own and of the device's left (R61, R62). -/
theorem State.places_of_hasRoom {s : State} {mb k : Nat} (h : s.hasRoom mb k = true) :
    s.inflightOf mb + s.unconsumed mb + k ≤ 256 ∧ s.inflight + k ≤ 512 := by
  simp only [State.hasRoom, Bool.and_eq_true, decide_eq_true_eq] at h
  exact h.1

/-- A load or derive that has completed and is not posted owes the KEY_EVENT of its slot (R422). -/
theorem State.eventOwed_of_unposted {s : State} {f : Flight} {r : Rep} (hf : f ∈ s.bx.flights)
    (hop : f.cmd.opcode = 0x0C01 ∨ f.cmd.opcode = 0x0C02) (hr : f.reply = some r) (hok : r.ok = true) :
    s.eventOwed (f.cmd.u16 16) = true := by
  refine List.any_eq_true.2 ⟨f, hf, ?_⟩
  simpa [hr, hok] using hop

/-- Settles O43: each case contradicts one part of what a fetch requires. -/
theorem unfetchedCommandsWait : Obligations.UnfetchedCommandsWait := by
  intro i mb c p s hi hcases
  rw [exec_command hi, runCommand_idle]
  rintro ⟨hup, hmb, hroom, hkeys⟩
  obtain ⟨hown, hdevice⟩ := State.places_of_hasRoom hroom
  rcases hcases with h | h | h | h | ⟨f, r, hf, hop, hr, hok, hslot⟩
  · exact Bool.false_ne_true (h.symm.trans hup)
  · omega
  · omega
  · omega
  · have hfree := List.all_eq_true.1 hkeys _ hslot
    rw [State.eventOwed_of_unposted hf hop hr hok] at hfree
    exact Bool.false_ne_true hfree

/-! ## Writes of the host (R14) -/

/-- While the UCIe link is up, a row of a host's write to a mailbox is that write. -/
theorem does_of_up {i : Instr} {mb : Nat} {w E : State → State} {h : State → Prop}
    (hx : ∀ s, exec i s = .next (s.fromHost (w s))) (hE : mb < 16 → ∀ s, h s → w s = E s) :
    Does i (fun s => mb < 16 ∧ s.ucieUp = true ∧ h s) E := by
  intro s ⟨hmb, hup, hs⟩
  rw [hx, State.fromHost, if_pos hup, hE hmb s hs]

/-- While the UCIe link is down, a row of a host's write changes nothing. -/
theorem does_of_down {i : Instr} {w : State → State} (hx : ∀ s, exec i s = .next (s.fromHost (w s))) :
    Does i (fun s => s.ucieUp = false) (fun s => s) := fun s hs => by
  rw [hx, State.fromHost, if_neg (by rw [hs]; exact Bool.false_ne_true)]

/-! ## MB_DOORBELL (R58) -/

/-- A valid write takes the tail and stamps what it makes visible. -/
theorem State.doorbell_valid {s : State} {mb : Nat} {v : Word} (hmb : mb < 16) (hen : (s.mbox mb).en = true)
    (hpos : 0 < ahead (v.toNat % 65536) (s.mbox mb).cmdTail) (htail : ahead (v.toNat % 65536) (s.mbox mb).cmdTail ≤ 256)
    (hhead : ahead (v.toNat % 65536) (s.mbox mb).cmdHead ≤ 256) :
    s.doorbell mb v = s.setMbox mb { s.mbox mb with
      cmdTail := v.toNat % 65536
      stamps := (s.mbox mb).stamps ++ [(v.toNat % 65536, s.nowNs)] } := by
  unfold State.doorbell
  rw [if_neg (by omega)]
  simp only [hen, Bool.not_true, Bool.false_eq_true, if_false]
  exact if_neg (by omega)

/-- A write to a mailbox whose EN is 0 sets ERR with CAUSE 3. -/
theorem State.doorbell_disabled {s : State} {mb : Nat} {v : Word} (hmb : mb < 16) (hen : (s.mbox mb).en = false) :
    s.doorbell mb v = s.setErr mb 3 := by
  unfold State.doorbell
  rw [if_neg (by omega)]
  simp only [hen, Bool.not_false, if_true]

/-- An invalid write sets ERR with CAUSE 2. -/
theorem State.doorbell_invalid {s : State} {mb : Nat} {v : Word} (hmb : mb < 16) (hen : (s.mbox mb).en = true)
    (h : ahead (v.toNat % 65536) (s.mbox mb).cmdTail = 0 ∨ 256 < ahead (v.toNat % 65536) (s.mbox mb).cmdTail
      ∨ 256 < ahead (v.toNat % 65536) (s.mbox mb).cmdHead) : s.doorbell mb v = s.setErr mb 2 := by
  unfold State.doorbell
  rw [if_neg (by omega)]
  simp only [hen, Bool.not_true, Bool.false_eq_true, if_false]
  exact if_pos h

/-- ERR changes its mailbox in ERR and CAUSE alone (R57). -/
@[simp] theorem State.setErr_mbox (s : State) (n c : Nat) :
    (s.setErr n c).mbox n = { s.mbox n with err := true, cause := c } := by
  simp only [State.setErr]
  split <;> exact State.mbox_setMbox ..

/-- Settles O12: each clause is a case of the doorbell write. -/
theorem doorbellWrites : Obligations.DoorbellWrites := by
  refine ⟨fun mb v => ?valid, fun mb v => ?disabled, fun mb v => ?invalid, State.setErr_mbox,
    fun mb v => does_of_down fun _ => rfl⟩
  case valid =>
    exact does_of_up (fun _ => rfl) fun hmb _ ⟨hen, hpos, htail, hhead⟩ => State.doorbell_valid hmb hen hpos htail hhead
  case disabled =>
    exact does_of_up (fun _ => rfl) fun hmb _ hen => State.doorbell_disabled hmb hen
  case invalid =>
    exact does_of_up (fun _ => rfl) fun hmb _ ⟨hen, hbad⟩ => State.doorbell_invalid hmb hen hbad

/-! ## MB_ENABLE and the base and shadow registers (R57) -/

/-- A write of 1 while EN is 0: EN with heads and tails 0, or before READY an error (R57). -/
theorem State.enableSet_disabled {s : State} {mb : Nat} (hmb : mb < 16) (hen : (s.mbox mb).en = false) :
    s.enableSet mb = if s.startup.ready then
        s.updMbox mb (fun m => { m with
          en := true
          faulted := false
          cmdTail := 0
          cmdHead := 0
          cplTail := 0
          cplHead := 0
          stamps := [] })
      else s.setErr mb 8 := by
  unfold State.enableSet
  rw [if_neg (by simpa [hen] using hmb)]
  cases s.startup.ready <;> rfl

/-- A write of 1 while EN is 1 changes nothing. -/
theorem State.enableSet_enabled {s : State} {mb : Nat} (hen : (s.mbox mb).en = true) : s.enableSet mb = s :=
  if_pos (.inr hen)

/-- A write of 0 while EN is 1: EN is cleared, or commands in flight make it an error unless the mailbox has faulted. -/
theorem State.enableClear_enabled {s : State} {mb : Nat} (hmb : mb < 16) (hen : (s.mbox mb).en = true) :
    s.enableClear mb = if s.inflightOf mb ≠ 0 ∧ (s.mbox mb).faulted = false then s.setErr mb 7
      else s.setMbox mb { s.mbox mb with en := false } := by
  unfold State.enableClear
  rw [if_neg (by simpa [hen] using hmb)]
  simp only [Bool.not_eq_true']

/-- A write of a base or shadow register while EN is 0 takes effect. -/
theorem State.ringBase_disabled {s : State} {mb off : Nat} {v : Word} (hmb : mb < 16) (hoff : off ≤ 0x14)
    (halign : off % 4 = 0) (hen : (s.mbox mb).en = false) :
    s.ringBase mb off v = s.setMbox mb
      (if off < 8 then { s.mbox mb with cmdBase := setHalf (s.mbox mb).cmdBase (off % 8 == 4) 12 v }
       else if off < 16 then { s.mbox mb with cplBase := setHalf (s.mbox mb).cplBase (off % 8 == 4) 12 v }
       else { s.mbox mb with shadow := setHalf (s.mbox mb).shadow (off % 8 == 4) 3 v }) := by
  unfold State.ringBase
  rw [if_neg (by omega), if_neg (by rw [hen]; exact Bool.false_ne_true)]

/-- A write of a base or shadow register while EN is 1 sets ERR with CAUSE 1. -/
theorem State.ringBase_enabled {s : State} {mb off : Nat} {v : Word} (hmb : mb < 16) (hoff : off ≤ 0x14)
    (halign : off % 4 = 0) (hen : (s.mbox mb).en = true) : s.ringBase mb off v = s.setErr mb 1 := by
  unfold State.ringBase
  rw [if_neg (by omega), if_pos hen]

/-- A visit finds nothing in a mailbox whose EN is 0. -/
theorem State.visit_disabled {s : State} {n : Nat} (hen : (s.mbox n).en = false) : s.visit n = .nothing := by
  simp [State.visit, hen]

/-- The mailbox visited next has something to fetch (R63). -/
theorem State.fetchable_of_nextVisit {s : State} {n : Nat} (h : s.nextVisit = some n) : s.fetchable n = true :=
  List.find?_some h

/-- A fault of a mailbox leaves the completions of its commands in flight unwritten (R621). -/
theorem State.mute_of_faultRing {s : State} {n : Nat} {f : Flight} (hf : f ∈ (s.faultRing n).bx.flights)
    (hn : f.mb = n) : f.mute = true := by
  obtain ⟨g, _, rfl⟩ := List.mem_map.1 hf
  by_cases hg : g.mb = n
  · rw [if_pos hg]
  · rw [if_neg hg] at hn
    exact absurd hn hg

/-! ### The completions of a faulted mailbox -/

/-- The digest of the configuration is all that its extension changes (R424). -/
theorem State.extendDigest_eq (s : State) (f : Flight) (eff : List Byte) :
    ∃ d, s.extendDigest f eff = { s with bx := { s.bx with digest := d } } := by
  unfold State.extendDigest
  split
  · exact ⟨_, rfl⟩
  · exact ⟨s.bx.digest, rfl⟩

/-- A muted completion is not written (R621). -/
theorem State.writeCpl_muted (s : State) {f : Flight} (h : f.mute = true) : s.writeCpl f = s := by
  simp [State.writeCpl, h]

/-- A muted completion is posted without a write: of the state, the digest alone can change. -/
theorem State.postOne_muted (s : State) {f : Flight} (h : f.mute = true) :
    ∃ d, s.postOne f = { s with bx := { s.bx with digest := d } } := by
  obtain ⟨d, hd⟩ := s.extendDigest_eq f (s.effOf f)
  exact ⟨d, by simp [State.postOne, State.writeCpl_muted s h, State.afterPost, hd]⟩

/-- The same of the completions of a chain. -/
theorem State.postAll_muted (gs : List Flight) (s : State) (h : ∀ g ∈ gs, g.mute = true) :
    ∃ d, gs.foldl (fun u g => u.postOne g) s = { s with bx := { s.bx with digest := d } } := by
  induction gs generalizing s with
  | nil => exact ⟨s.bx.digest, rfl⟩
  | cons g gs ih =>
    obtain ⟨hg, hgs⟩ := List.forall_mem_cons.1 h
    obtain ⟨d, hd⟩ := s.postOne_muted hg
    rw [List.foldl_cons, hd]
    exact ih _ hgs

/-- TAKEOVER of a mailbox leaves the commands in flight (R86). -/
theorem State.setTakeover_bx (s : State) (n : Nat) : (s.setTakeover n).bx = s.bx := by
  simp only [State.setTakeover]
  split <;> rfl

/-- The end of a takeover leaves the commands in flight (R86). -/
theorem State.takeoverDone_flights (s : State) : s.takeoverDone.bx.flights = s.bx.flights := by
  unfold State.takeoverDone
  split
  · refine foldl_same (fun t => t.bx.flights) (fun t n => ?_) _ _
    split
    · rw [State.setTakeover_bx]
    · rfl
  · rfl

/-- No mailbox changes unless a TAKEOVER is still to be set (R86). -/
theorem State.takeoverDone_mb {s : State} (h : s.bx.tookWait = false) : s.takeoverDone.mb = s.mb := by
  simp [State.takeoverDone, h]

/-- The completions of a chain of a faulted mailbox are posted unwritten and free their places (R57, R621). -/
theorem completionPost_muted {s : State} {id : Nat} {f : Flight} (hf : s.flight? id = some f) (hup : s.balixUp = true)
    (hpost : s.mayPost f = true) (hmute : ∀ g ∈ s.chainOf f, g.mute = true) :
    ∃ t, exec (.completionPost id) s = .next t ∧ t.hostMem = s.hostMem ∧ (s.bx.tookWait = false → t.mb = s.mb)
      ∧ t.bx.flights = s.bx.flights.filter (fun g => !(g.id == f.id || f.chain.contains g.id)) := by
  obtain ⟨_, _, hrow⟩ := fetchAndPostRows
  obtain ⟨d, hd⟩ := State.postAll_muted (s.chainOf f) s hmute
  have hx := hrow id f s ⟨hf, hup, hpost⟩
  simp only [hd] at hx
  refine ⟨_, hx, ?memory, fun hw => ?mailboxes, State.takeoverDone_flights _⟩
  case memory => exact congrArg Still.hostMem (State.takeoverDone_still _)
  case mailboxes => exact State.takeoverDone_mb hw

/-- Settles O13: the writes are the cases of their operations, a disabled mailbox is never the one visited next, and a
muted completion is posted without a write. -/
theorem enableWrites : Obligations.EnableWrites := by
  refine ⟨fun mb => ?set, fun mb => ?again, fun mb => ?early, fun mb => ?clear, fun mb => ?busy, fun mb off v => ?base,
    fun mb off v => ?locked, fun _ => does_of_down fun _ => rfl, fun _ => does_of_down fun _ => rfl,
    fun _ _ _ => does_of_down fun _ => rfl, fun s n hen hn => ?idle, fun _ _ _ => State.mute_of_faultRing,
    fun _ _ _ hf hup hpost hmute => completionPost_muted hf hup hpost hmute⟩
  case set =>
    refine does_of_up (fun _ => rfl) fun hmb s ⟨hen, hready⟩ => ?_
    rw [State.enableSet_disabled hmb hen, if_pos hready]
  case again =>
    exact does_of_up (fun _ => rfl) fun _ _ hen => State.enableSet_enabled hen
  case early =>
    refine does_of_up (fun _ => rfl) fun hmb s ⟨hen, hready⟩ => ?_
    rw [State.enableSet_disabled hmb hen, hready]
    rfl
  case clear =>
    refine does_of_up (fun _ => rfl) fun hmb s ⟨hen, hfree⟩ => ?_
    rw [State.enableClear_enabled hmb hen, if_neg]
    rintro ⟨hbusy, hsound⟩
    exact hfree.elim hbusy fun h => Bool.false_ne_true (hsound.symm.trans h)
  case busy =>
    refine does_of_up (fun _ => rfl) fun hmb s ⟨hen, hbusy⟩ => ?_
    rw [State.enableClear_enabled hmb hen, if_pos hbusy]
  case base =>
    exact does_of_up (fun _ => rfl) fun hmb _ ⟨hoff, halign, hen⟩ => State.ringBase_disabled hmb hoff halign hen
  case locked =>
    exact does_of_up (fun _ => rfl) fun hmb _ ⟨hoff, halign, hen⟩ => State.ringBase_enabled hmb hoff halign hen
  case idle =>
    have hfetch := State.fetchable_of_nextVisit hn
    rw [State.fetchable, State.visit_disabled hen] at hfetch
    exact Bool.false_ne_true hfetch

/-! ## MB_CPL_HEAD, MB_IRQ_CTRL and MB_RESET (R84, R571, R612) -/

/-- A write to MB_CPL_HEAD: a move back or beyond the tail is an error. -/
theorem State.consumeCpl_mailbox {s : State} {mb : Nat} {v : Word} (hmb : mb < 16) :
    s.consumeCpl mb v =
      if ahead (s.mbox mb).cplTail (s.mbox mb).cplHead < ahead v.toNat (s.mbox mb).cplHead then s.setErr mb 5
      else s.setMbox mb { s.mbox mb with cplHead := v.toNat % 65536 } := by
  unfold State.consumeCpl
  rw [if_neg (by omega)]

/-- A write to MB_IRQ_CTRL: a CNT of 0 is an error. -/
theorem State.irqCtrl_mailbox {s : State} {mb : Nat} {v : Word} (hmb : mb < 16) :
    s.irqCtrl mb v =
      if bitsOf v.toNat 23 16 = 0 then s.setErr mb 4
      else s.updMbox mb (fun m => { m with
        tkoEn := bit v.toNat 26
        errEn := bit v.toNat 25
        cplEn := bit v.toNat 24
        cnt := bitsOf v.toNat 23 16
        holdoff := bitsOf v.toNat 15 0 }) := by
  unfold State.irqCtrl
  rw [if_neg (by omega)]

/-- The key of a write to MB_RESET is that of its value without the reserved bits (R10, R571). -/
theorem bitsOf_key (v : Word) : bitsOf (v.toNat / 65536 * 65536 + v.toNat % 4) 31 16 = bitsOf v.toNat 31 16 := by
  unfold bitsOf
  omega

/-- A write to MB_RESET with a wrong key, or without a session, disarms its reset and sets ERR with CAUSE 6 (R571). -/
theorem State.resetWrite_refused {s : State} {mb : Nat} {v : Word} (hfire : s.boot.firing = none)
    (h : bitsOf v.toNat 31 16 ≠ 0xD1A1 ∨ (s.mbox mb).isOpen = false) :
    s.resetWrite mb v
      = State.setErr { s with boot := { s.boot with armed := s.boot.armed.filter (fun a => a.1 != mb) } } mb 6 := by
  simp only [State.resetWrite, hfire, Option.isSome_none, Bool.false_eq_true, if_false, bitsOf_key]
  refine if_pos ?_
  rcases h with hkey | hclosed
  · simp [hkey]
  · simp [hclosed]

/-- The reserved bits of a write to MB_RESET have no effect (R10). -/
theorem State.resetWrite_congr (s : State) (mb : Nat) {v w : Word} (hkey : v.toNat / 65536 = w.toNat / 65536)
    (hkind : v.toNat % 4 = w.toNat % 4) : s.resetWrite mb v = s.resetWrite mb w := by
  simp only [State.resetWrite, hkey, hkind]

/-- A write to MB_RESET does not arrive while the UCIe link is down (R14). -/
theorem resetRow_down {mb : Nat} {v : Word} {s : State} (h : s.ucieUp = false) :
    (if mb < 16 then Host.Outcome.next (s.fromHost (s.resetWrite mb v)) else .next s)
      = (.next s : Host.Outcome State Fault Refusal) := by
  simp [State.fromHost, h]

/-- Settles O14: each clause is a case of its register's write. -/
theorem mailboxRegisterRows : Obligations.MailboxRegisterRows := by
  refine ⟨fun mb v => ?head, fun mb v => ?irq, fun mb t s ⟨ht, hpast⟩ => ?holdoff, fun mb v => ?headBad,
    fun mb v => ?irqBad, fun mb v s ⟨hmb, hup, hfire, hbad⟩ => ?reset, fun s mb _ _ => s.resetWrite_congr mb,
    fun _ _ => does_of_down fun _ => rfl, fun _ _ => does_of_down fun _ => rfl, fun _ _ _ => resetRow_down,
    fun _ _ _ => resetRow_down⟩
  case head =>
    refine does_of_up (fun _ => rfl) fun hmb s hle => ?_
    rw [State.consumeCpl_mailbox hmb, if_neg (Nat.not_lt.2 hle)]
  case headBad =>
    refine does_of_up (fun _ => rfl) fun hmb s hlt => ?_
    rw [State.consumeCpl_mailbox hmb, if_pos hlt]
  case irq =>
    refine does_of_up (fun _ => rfl) fun hmb s hcnt => ?_
    rw [State.irqCtrl_mailbox hmb, if_neg hcnt]
  case irqBad =>
    refine does_of_up (fun _ => rfl) fun hmb s hcnt => ?_
    rw [State.irqCtrl_mailbox hmb, if_pos hcnt]
  case holdoff =>
    show execCplHoldoffExpiry mb s = _
    simp only [execCplHoldoffExpiry, ht, hpast, if_true]
  case reset =>
    show execMbResetDevice mb v s = _
    rw [execMbResetDevice, if_pos hmb, State.fromHost, if_pos hup, State.resetWrite_refused hfire hbad]

end Sys2Proof.Machine

/-! PROOFS. The reference block: its commands and its events (chapter 04, 17 R457 to R460). -/
namespace Sys2Proof.Machine

open Sys2Proof.Safety

/-! ## The reference commands (R457 to R460, R361) -/

/-- The active mirrors REF_CONFIG, REF_PRIORITY and REF_FORCE as they are (R361). -/
theorem State.mirrorCommand_reference {op : Nat} (h : op = 0x0202 ∨ op = 0x0203 ∨ op = 0x0205) (s : State) (c : Cmd) :
    s.mirrorCommand op c = s.mirror 3 (.ref c) := if_pos h

/-- A row of a mirrored reference command with an empty result does what its effect says and then mirrors it. -/
theorem atOnceThen_reference {p : CmdSpec} {row : Nat → Cmd → Instr} {E : State → Ctx → State}
    (hp : p.effect = .atOnce fun s x => (E s x, repDone []))
    (hop : p.opcode = 0x0202 ∨ p.opcode = 0x0203 ∨ p.opcode = 0x0205)
    (hr : ∀ mb c, commandOf (row mb c) = some (mb, c, p)) :
    AtOnceThen p row E (fun _ _ => repDone []) (fun x t => t.mirror 3 (.ref x.cmd)) :=
  atOnceThen_of hp (fun mb c s => exec_command (hr mb c) s) (fun _ _ => rfl) (fun _ _ => rfl)
    fun _ _ _ t => t.mirrorCommand_reference hop _

/-- Settles O2: each row runs its command, whose effect is that of the statement; TD_CONFIG's result is empty at either kind
of rate, and the three commands that the active mirrors send their item after they complete. -/
theorem referenceCommandsComplete : Obligations.ReferenceCommandsComplete := by
  refine ⟨?domain, ?config, ?priority, ?force, ?status⟩
  case domain =>
    exact atOnce_of rfl rfl (fun _ _ s => exec_command rfl s) fun _ _ _ _ => (apply_ite (·, repDone []) ..).symm
  case config => exact atOnceThen_reference rfl (.inl rfl) fun _ _ => rfl
  case priority => exact atOnceThen_reference rfl (.inr (.inl rfl)) fun _ _ => rfl
  case force => exact atOnceThen_reference rfl (.inr (.inr rfl)) fun _ _ => rfl
  case status => exact answers_of_row rfl rfl fun _ _ => rfl

/-! ## The reference block's events (R87 to R101, R619) -/

/-- REF_EVALUATION once 1 ms has passed since the last evaluation, if there was one (R92 to R96). -/
theorem execRefEvaluation_due {s : State} (m : RefMeas)
    (h : ∀ t, s.rf.lastEval = some t → s.passed t (tuMs 1) = true) :
    execRefEvaluation m s =
      .next ((State.takeMeas { s with rf := { s.rf with lastEval := some s.clk } } m).clearAgreed.choose.track m) := by
  refine if_pos ?_
  cases hlast : s.rf.lastEval with
  | none => rfl
  | some t => exact h t hlast

/-- CANDIDATE_QUALIFY of a candidate that has been clean for its qualification time (R89). -/
theorem execCandidateQualify_clean {s : State} {c : Nat} (hc : c ≤ 16) (hnew : (s.cand c).qualified = false)
    (hclear : s.candBlocked c = false)
    (hclean : s.passed ((s.cand c).cleanSince.getD s.startup.upSince) (tuMs (100 * (s.cand c).qual)) = true) :
    execCandidateQualify c s = .next (s.setCand c { s.cand c with qualified := true, qualSince := some s.clk }) :=
  if_pos (by rw [decide_eq_true hc, hnew, hclear, hclean]; rfl)

/-- CANDIDATE_DISQUALIFY for a cause that applies to the candidate and holds (R87, R90). -/
theorem execCandidateDisqualify_holds {s : State} {c : Nat} {why : DisqCause} (hc : c ≤ 16)
    (happlies : disqApplies why c = true) (hholds : s.disqHolds why c = true) :
    execCandidateDisqualify c why s =
      .next (if endsEvents why then (s.disqualify c).forgetEvent c else s.disqualify c) :=
  if_pos (by rw [decide_eq_true hc, happlies, hholds]; rfl)

/-- PULL_END at or after the end of the pull (R101). -/
theorem execPullEnd_over {s : State} {t : Nat} (hend : s.rf.pullEnd = some t) (hpast : t ≤ s.clk) :
    execPullEnd s = .next { s with rf := { s.rf with
      pullEnd := none
      outMove := s.rf.outMove - s.rf.pullDelta
      pullDelta := 0
      dwellSince := if s.rf.state = .acquiring then some t else none } } := by
  simp only [execPullEnd, hend, if_pos hpast]

/-- LOCK_DWELL_EXPIRY once the dwell has lasted 4 / B seconds (R98). -/
theorem execLockDwellExpiry_passed {s : State} {t c : Nat} (hstate : s.rf.state = .acquiring)
    (hdwell : s.rf.dwellSince = some t) (hcand : s.rf.cand = some c)
    (hpast : s.passed t (4000 * 12000000000 / s.candBw c) = true) :
    execLockDwellExpiry s = .next (s.refGo .locked) := by
  simp only [execLockDwellExpiry, hstate, hdwell, hcand, if_pos hpast]

/-- HOLDOVER_HISTORY_VALID after 60 s of LOCKED (R99). -/
theorem execHoldoverHistoryValid_passed {s : State} {t : Nat} (hstate : s.rf.state = .locked)
    (hlocked : s.rf.lockedSince = some t) (hpast : s.passed t (tuMs 60000) = true) :
    execHoldoverHistoryValid s =
      .next { s with rf := { s.rf with histValid := true, histPpt := average s.rf.hist } } := by
  simp only [execHoldoverHistoryValid, hstate, hlocked, if_pos hpast]

/-- HOLDOVER_LIMIT once holdover has lasted its limit (R98). -/
theorem execHoldoverLimit_passed {s : State} {t : Nat} (hstate : s.rf.state = .holdover)
    (hhold : s.rf.holdSince = some t) (hpast : s.passed t (tuMs (1000 * s.rf.hold)) = true) :
    execHoldoverLimit s = .next (s.refGo .lost) := by
  simp only [execHoldoverLimit, hstate, hhold, if_pos hpast]

/-- Settles O24, row by row: the condition of each clause is the guard of its row. -/
theorem referenceRows : Obligations.ReferenceRows := by
  refine ⟨?evaluation, ?qualify, ?disqualify, ?pull, ?lock, ?history, ?limit⟩
  case evaluation => exact fun m s h => execRefEvaluation_due m h
  case qualify => exact fun c s ⟨hc, hnew, hclear, hclean⟩ => execCandidateQualify_clean hc hnew hclear hclean
  case disqualify => exact fun c why s ⟨hc, happlies, hholds⟩ => execCandidateDisqualify_holds hc happlies hholds
  case pull => exact fun t s ⟨hend, hpast⟩ => execPullEnd_over hend hpast
  case lock => exact fun t c s ⟨hstate, hdwell, hcand, hpast⟩ => execLockDwellExpiry_passed hstate hdwell hcand hpast
  case history => exact fun t s ⟨hstate, hlocked, hpast⟩ => execHoldoverHistoryValid_passed hstate hlocked hpast
  case limit => exact fun t s ⟨hstate, hhold, hpast⟩ => execHoldoverLimit_passed hstate hhold hpast

end Sys2Proof.Machine

/-! PROOFS. Network time (chapter 05, 17 R461 to R465): time that passes on an empty queue, the time-base commands and the
events of the time block. -/
namespace Sys2Proof.Machine

open Sys2Proof.Safety

/-! ## Time that passes (log 1) -/

/-- Settles O40: the empty queue is a case of the step. -/
theorem idleStepPassesTime : Obligations.IdleStepPassesTime := by
  intro s h
  simp only [step, h]

/-! ## The time-base commands (R116 to R123, R127, R132, R462 to R465) -/

/-- A row of a command that the active does not mirror and whose result is empty does what its effect says. -/
theorem atOnce_done {p : CmdSpec} {row : Nat → Cmd → Instr} {E : State → Ctx → State}
    (hp : p.effect = .atOnce fun s x => (E s x, repDone [])) (hm : plain p.opcode = true)
    (hr : ∀ mb c, commandOf (row mb c) = some (mb, c, p)) : AtOnce p row E (fun _ _ => repDone []) :=
  atOnce_of hp hm (fun mb c s => exec_command (hr mb c) s) fun _ _ _ _ => rfl

/-- What an offset does to the state: the servo treats it, or it is discarded (R119). -/
theorem State.offset_fst (s : State) (n stepcnt : Nat) (theta : Int) :
    (s.offset n stepcnt theta).1 = if (s.base n).stepcnt = stepcnt then (s.servo n theta).1 else s :=
  apply_ite Prod.fst ..

/-- An answer written into a host buffer: the bytes, or after a bus error undefined contents and an abort (R450). -/
theorem State.answer_eq (s : State) (a : Nat) (bs : List Byte) (r : Rep) :
    s.answer a bs r =
      (if s.hostOk a bs.length then { s with hostMem := s.hostMem.writeBytes a bs } else s.spoilHost a bs.length,
        if s.hostOk a bs.length then r else repAborted 3) := by
  unfold State.answer
  split <;> rfl

/-- Settles O3: each row runs its command, whose effect is that of the statement. -/
theorem timeCommandsComplete : Obligations.TimeCommandsComplete := by
  refine ⟨?config, ?offset, ?step, ?ptp, ?status⟩
  case config => exact atOnce_done rfl rfl fun _ _ => rfl
  case offset =>
    exact atOnce_of rfl rfl (fun _ _ s => exec_command rfl s) fun _ _ _ _ => by rw [← State.offset_fst]
  case step => exact atOnce_of rfl rfl (fun _ _ s => exec_command rfl s) fun _ _ _ _ => rfl
  case ptp => exact atOnce_done rfl rfl fun _ _ => rfl
  case status =>
    refine atOnce_of rfl rfl (fun _ _ s => exec_command rfl s) fun mb c s _ => ?_
    generalize acting cmdTbStatus mb c s = t
    generalize context cmdTbStatus mb c s = x
    by_cases hpage : x.cmd.u8 17 = 2
    · simp only [hpage, if_true]
      cases t.instOf (x.cmd.u8 16) with
      | none => rfl
      | some i => exact t.answer_eq ..
    · simp only [hpage, if_false]

/-! ## The events of the time block (R118, R124 to R131, R134, R137, R139) -/

/-- PTP_OFFSET where the base is configured and takes its time from the row, which follows its master (R118, R125). -/
theorem execPtpOffset_following {s : State} {n : Nat} (k : Nat) (theta : Int) {gm : BitVec 64} (hn : n < 4)
    (hused : (s.inst n).used = true) (hfollows : s.following n = true) (hgm : (s.inst n).gm = gm)
    (hconf : (s.base (s.inst n).base).configured = true) (hsrc : (s.base (s.inst n).base).source = some n) :
    execPtpOffset n k theta gm s = .next (s.offset (s.inst n).base k theta).1 := by
  refine if_pos ?_
  simp [hn, hused, hfollows, hgm, hconf, hsrc]

/-- MASTER_TIMEOUT once no offset has been accepted for the master timeout (R124). -/
theorem execMasterTimeout_passed {s : State} {b t : Nat} (hstate : (s.base b).state = .tracking)
    (hlast : (s.base b).lastAt = some t) (hpast : s.passed t (tuMs (100 * (s.base b).timeout)) = true) :
    execMasterTimeout b s = .next (s.freeRun b) := by
  simp only [execMasterTimeout, hstate, hlast, hpast, if_true]

/-- PTP_SYNC_SEND when Sync and Announce are both due and leave (R129 to R131). -/
theorem execPtpSyncSend_due {s : State} {n port : Nat} {q : PtpPort} (hn : n < 4)
    (hport : (s.inst n).ports[port]? = some q) (hused : (s.inst n).used = true) (hbound : (s.inst n).boundary = true)
    (hfollows : s.following n = true) (hstate : q.state = 6) (hrole : s.ptpMaster = true)
    (hsync : s.dueSince q.lastSync (logInterval (s.inst n).logSync) = true)
    (hann : s.dueSince q.lastAnn (logInterval (s.inst n).logAnn) = true)
    (hsent : (s.ptpSend n q.coded [.sync, .followUp, .announce]).2 = true) :
    execPtpSyncSend n port s =
      .next ((s.ptpSend n q.coded [.sync, .followUp, .announce]).1.updPtpPort n port (fun k => { k with
        lastSync := some s.clk
        syncs := k.syncs + 1
        lastAnn := some s.clk
        announces := k.announces + 1 })) := by
  simp [execPtpSyncSend, hn, hport, hused, hbound, hfollows, hstate, hrole, hsync, hann, hsent]

/-- DELAY_REQ_SEND when a Delay_Req is due and leaves (R131). -/
theorem execDelayReqSend_due {s : State} {n port : Nat} {q : PtpPort} (hn : n < 4)
    (hport : (s.inst n).ports[port]? = some q) (hused : (s.inst n).used = true) (hfollows : s.following n = true)
    (hstate : q.state = 9) (hdue : s.dueSince q.lastDreq (logInterval (s.inst n).logDreq) = true)
    (hsent : (s.ptpSend n q.coded [.delayReq]).2 = true) :
    execDelayReqSend n port s =
      .next ((s.ptpSend n q.coded [.delayReq]).1.updPtpPort n port (fun k => { k with
        lastDreq := some s.clk
        dreqs := k.dreqs + 1 })) := by
  simp [execDelayReqSend, hn, hport, hused, hfollows, hstate, hdue, hsent]

/-- PPS_OUT_PULSE of a base that has counted to a whole second, at least 125,000,000 cycles after the pulse before
(R139). -/
theorem execPpsOutPulse_apart {s : State} {n : Nat} (hbase : s.pins.ppsTb = some n)
    (hconf : (s.base n).configured = true) (hsec : (s.base n).sec ≠ s.pins.ppsSec)
    (hapart : ∀ k, s.pins.ppsLast = some k → k + 125000000 ≤ s.cycles) :
    execPpsOutPulse s = .next { s with pins := { s.pins with
      ppsSec := (s.base n).sec
      ppsLast := some s.cycles
      ppsPulses := s.pins.ppsPulses + 1 } } := by
  have hnew : ((s.base n).sec != s.pins.ppsSec) = true := bne_iff_ne.2 hsec
  cases hlast : s.pins.ppsLast with
  | none => simp [execPpsOutPulse, hbase, hconf, hnew, hlast]
  | some k => simp [execPpsOutPulse, hbase, hconf, hnew, hlast, Nat.not_lt.2 (hapart k hlast)]

/-- TX_TIMESTAMP in a queue of Balix's, or of a stamp that a descriptor asked for (R134, R135). -/
theorem execTxTimestamp_wanted {s : State} {port sub id : Nat} (hport : port < 16) (hsub : sub < 8)
    (hwant : s.balixQueue port = true ∨ (sub, id) ∈ (s.port port).stampReqs) :
    execTxTimestamp port sub id s =
      .next ((s.updPort port (fun p => { p with stampReqs := p.stampReqs.erase (sub, id) })).pushStamp port sub id) :=
  if_pos ⟨hport, hsub, hwant⟩

/-- Settles O25, row by row: the condition of each clause is the guard of its row. -/
theorem timeRows : Obligations.TimeRows := by
  refine ⟨?offset, ?timeout, ?grandmaster, ?sync, ?delay, ?pps, ?stamp⟩
  case offset =>
    exact fun n k theta gm s ⟨hn, hused, hfollows, hgm, hconf, hsrc⟩ =>
      execPtpOffset_following k theta hn hused hfollows hgm hconf hsrc
  case timeout => exact fun b t s ⟨hstate, hlast, hpast⟩ => execMasterTimeout_passed hstate hlast hpast
  case grandmaster =>
    intro n g s ⟨hn, hused⟩
    have hleaves : ((!g.slave || (s.inst n).gm != g.gm) = true) = (g.slave = false ∨ (s.inst n).gm ≠ g.gm) := by simp
    refine (if_pos (by simp [hn, hused])).trans ?_
    simp only [hleaves]
  case sync =>
    exact fun n port q s ⟨hn, hport, hused, hbound, hfollows, hstate, hrole, hsync, hann, hsent⟩ =>
      execPtpSyncSend_due hn hport hused hbound hfollows hstate hrole hsync hann hsent
  case delay =>
    exact fun n port q s ⟨hn, hport, hused, hfollows, hstate, hdue, hsent⟩ =>
      execDelayReqSend_due hn hport hused hfollows hstate hdue hsent
  case pps => exact fun n s ⟨hbase, hconf, hsec, hapart⟩ => execPpsOutPulse_apart hbase hconf hsec hapart
  case stamp => exact fun port sub id s ⟨hport, hsub, hwant⟩ => execTxTimestamp_wanted hport hsub hwant

end Sys2Proof.Machine

/-! PROOFS. The reads of registers with their effects: the time-stamp queues, the snapshots of the time bases and the fields
that a read clears (R136 to R138, R606 to R608, R616). -/
namespace Sys2Proof.Machine

open Sys2Proof.Safety

/-! ## Reads of registers and their effects (R136, R138, R606 to R608, R616) -/

/-- Data returned to a master is what its last read returned, and touches no queue (log 6). -/
@[simp] theorem State.dataOf_returnData (s : State) (m : Master) (bs : List Byte) : (s.returnData m bs).dataOf m = bs :=
  Tbl.get_set_self ..
@[simp] theorem State.returnData_queue (s : State) (m : Master) (bs : List Byte) (p : Nat) :
    (s.returnData m bs).queue p = s.queue p := rfl
@[simp] theorem State.returnData_queueShut (s : State) (m n : Master) (bs : List Byte) (p : Nat) :
    (s.returnData m bs).queueShut n p = s.queueShut n p := rfl

/-- The debug port's mark touches neither the queues and time bases nor the global registers. -/
@[simp] theorem State.seenDebug_queue (s : State) (m : Master) (p : Nat) : (s.seenDebug m).queue p = s.queue p := by
  unfold State.seenDebug
  split <;> rfl
@[simp] theorem State.seenDebug_queueShut (s : State) (m n : Master) (p : Nat) :
    (s.seenDebug m).queueShut n p = s.queueShut n p := by
  unfold State.seenDebug
  split <;> rfl
@[simp] theorem State.seenDebug_tbWords (s : State) (m : Master) (b : Nat) : (s.seenDebug m).tbWords b = s.tbWords b := by
  unfold State.seenDebug
  split <;> rfl
@[simp] theorem State.seenDebug_glb (s : State) (m : Master) : (s.seenDebug m).glb = s.glb := by
  unfold State.seenDebug
  split <;> rfl
@[simp] theorem State.seenDebug_mayRead (s : State) (m n : Master) : (s.seenDebug m).mayRead n = s.mayRead n := by
  unfold State.seenDebug
  split <;> rfl

/-- A master with a path to the registers reads the words of its access (R488, R606). -/
theorem State.readReg_mayRead {s : State} {m : Master} (a : Access) (hm : m ≠ .dma)
    (h : (s.seenDebug m).mayRead m = true) : s.readReg m a = readsOf m a (s.seenDebug m) := by
  simp only [State.readReg, hm, if_false, h, if_true]
  rfl

/-- A row of a register read whose guard holds, by a master with a path to the registers. -/
theorem readRow_mayRead {c : Prop} [Decidable c] {s : State} {m : Master} (a : Access) (hc : c) (hm : m ≠ .dma)
    (h : (s.seenDebug m).mayRead m = true) :
    (if c then .next (s.readReg m a) else .next s : Host.Outcome State Fault Refusal)
      = .next (readsOf m a (s.seenDebug m)) := by
  rw [if_pos hc, State.readReg_mayRead a hm h]

/-- Four bytes are the four bytes of their slice. -/
theorem slice_leBytes (v : Nat) : slice (leBytes 4 v) 0 4 = leBytes 4 v := rfl

/-- The register of an aligned 32-bit access. -/
theorem Access.words_one {o : Nat} (h : o % 4 = 0) : Access.words ⟨o, 4⟩ = [o] := by
  have hword : o / 4 * 4 + 4 * 0 = o := by omega
  simp only [Access.words, h, range, List.map_cons, List.map_nil, hword]

/-- An aligned 32-bit access names its register. -/
theorem Access.contains_words_one {o : Nat} (h : o % 4 = 0) : (Access.words ⟨o, 4⟩).contains o = true := by
  rw [Access.words_one h]
  exact List.contains_iff_mem.2 (List.mem_singleton_self o)

/-- An aligned 32-bit read takes the register's value, has its effect, and returns the value (R606, R607). -/
theorem readsOf_one (m : Master) {o : Nat} (s : State) (h : o % 4 = 0) :
    readsOf m ⟨o, 4⟩ s =
      (((s.returnData m []).readEffect m o).returnData m (leBytes 4 ((s.returnData m []).regRead m o).toNat)).returnData m
        (leBytes 4 ((s.returnData m []).regRead m o).toNat) := by
  simp only [readsOf, Access.words_one h, h, State.readAll, List.foldl_cons, List.foldl_nil, State.readOne,
    State.dataOf_returnData, List.nil_append, slice_leBytes]

/-- No register of TIME, nor the word before it, is an _L register (R608). -/
theorem lowHalf_time {o : Nat} (hlo : 0x3FFFFC ≤ o) (hhi : o < 0x401400) : lowHalf o = false := by
  simp only [lowHalf, Bool.or_eq_false_iff, Bool.and_eq_false_iff, beq_eq_false_iff_ne, decide_eq_false_iff_not]
  omega

/-- A read of TSQ_ENTRY3 removes the oldest stamp, unless the queue is closed to the master (R135, R136). -/
theorem State.readEffect_entry3 (s : State) (m : Master) {p : Nat} (hp : p < 16) :
    s.readEffect m (0x40101C + 0x40 * p) =
      if s.queueShut m p then s else s.setQueue p { s.queue p with entries := (s.queue p).entries.drop 1 } := by
  have hport : (0x40101C + 0x40 * p - 0x401000) / 0x40 = p := by omega
  unfold State.readEffect
  rw [if_pos (by omega), hport]
  rfl

/-- A read of TB_SEC_L takes the snapshot of the master (R138). -/
theorem State.readEffect_secL (s : State) (m : Master) {b : Nat} (hb : b < 8) :
    s.readEffect m (0x400000 + 0x100 * b) =
      { s with glb := { s.glb with tbSnap := Tbl.set [] s.glb.tbSnap (8 * Master.code m + b) (s.tbWords b) } } := by
  have hbase : (0x400000 + 0x100 * b - 0x400000) / 0x100 = b := by omega
  unfold State.readEffect
  rw [if_neg (by omega), if_pos (by omega), hbase]

/-- A read of TSQ_STAT clears OVERFLOW and DROPS (R137, R607). -/
theorem State.readEffect_tsqStat (s : State) (m : Master) {p : Nat} (hp : p < 16) :
    s.readEffect m (0x401000 + 0x40 * p) = s.setQueue p { s.queue p with overflow := false, drops := 0 } := by
  have hport : (0x401000 + 0x40 * p - 0x401000) / 0x40 = p := by omega
  have hlow : lowHalf (0x401000 + 0x40 * p) = false := lowHalf_time (by omega) (by omega)
  unfold State.readEffect
  rw [if_neg (by omega), if_neg (by omega), if_neg (by omega), hlow, if_neg Bool.false_ne_true]
  unfold State.clearRead
  rw [if_neg (by omega), if_neg (by omega), if_pos (by omega), hport]
  rfl

/-- An aligned 32-bit read of TSQ_ENTRY3 of an open queue removes its oldest stamp (R136). -/
theorem readsOf_entry3_queue (m : Master) {p : Nat} (s : State) (hp : p < 16) (hopen : s.queueShut m p = false) :
    (readsOf m ⟨0x40101C + 0x40 * p, 4⟩ s).queue p
      = { s.queue p with entries := (s.queue p).entries.drop 1 } := by
  rw [readsOf_one m s (by omega), State.readEffect_entry3 _ m hp]
  simp [hopen]

/-- An aligned 32-bit read of TSQ_STAT clears OVERFLOW and DROPS of its queue (R137). -/
theorem readsOf_tsqStat_queue (m : Master) {p : Nat} (s : State) (hp : p < 16) :
    (readsOf m ⟨0x401000 + 0x40 * p, 4⟩ s).queue p = { s.queue p with overflow := false, drops := 0 } := by
  rw [readsOf_one m s (by omega), State.readEffect_tsqStat _ m hp]
  simp

/-- An aligned 32-bit read of TB_SEC_L writes the snapshot of its master and base, and no other (R138). -/
theorem readsOf_secL_tbSnap (m : Master) {base : Nat} (s : State) (hbase : base < 8) :
    (readsOf m ⟨0x400000 + 0x100 * base, 4⟩ s).glb.tbSnap
      = Tbl.set [] s.glb.tbSnap (8 * Master.code m + base) (s.tbWords base) := by
  rw [readsOf_one m s (by omega), State.readEffect_secL _ m hbase]
  rfl

/-- An aligned 32-bit read of GRAIN_LAST_SEAL0 takes the snapshot of its master (R616). -/
theorem readsOf_lastSeal0_sealSnap (m : Master) (s : State) :
    (readsOf m ⟨0x2800100, 4⟩ s).glb.sealSnap = Tbl.set [] s.glb.sealSnap (Master.code m) s.gr.lastSeal := by
  rw [readsOf_one m s (by decide)]
  rfl

/-- Settles O15: each row reads the words of its access, and the effect of one read is that of its register. -/
theorem registerReadRows : Obligations.RegisterReadRows := by
  refine ⟨?entry3, ?secL, ?lastSeal, ?low, ?clear, ?value, fun m _ s => readsOf_entry3_queue m s, ?latched, ?sealTaken⟩
  case entry3 => exact fun m q s ⟨hunit, hword, hm, hmay⟩ => readRow_mayRead q.acc ⟨hunit, hword⟩ hm hmay
  case secL => exact fun m q s ⟨hunit, hword, hm, hmay⟩ => readRow_mayRead q.acc ⟨hunit, hword⟩ hm hmay
  case lastSeal => exact fun r s ⟨hword, hm, hmay⟩ => readRow_mayRead r.acc hword hm hmay
  case low => exact fun m a s ⟨hword, hm, hmay⟩ => readRow_mayRead a hword hm hmay
  case clear => exact fun m a s ⟨hword, hm, hmay⟩ => readRow_mayRead a hword hm hmay
  case value =>
    intro m o s ho
    rw [readsOf_one m s ho, State.dataOf_returnData]
  case latched =>
    intro m base s hbase
    rw [readsOf_secL_tbSnap m s hbase, Tbl.get_set_self]
  case sealTaken =>
    intro m s
    rw [readsOf_lastSeal0_sealSnap, Tbl.get_set_self]

/-! ## The time-stamp queues (R134 to R137) -/

/-- The registers of TIME hold no half of a latched register: their reads return them as they are (R608). -/
theorem State.regRead_time (s : State) (m : Master) {o : Nat} (ho : o < 0x1400) :
    s.regRead m (0x400000 + o) = BitVec.ofNat 32 (s.timeReg m o) := by
  have hlow : lowHalf (0x400000 + o - 4) = false := lowHalf_time (by omega) (by omega)
  have hoff : 0x400000 + o - 0x400000 = o := by omega
  have hnow : s.regNow m (0x400000 + o) = s.timeReg m o := by
    unfold State.regNow
    rw [if_neg (by omega), if_neg (by omega), if_neg (by omega), if_neg (by omega), if_neg (by omega),
      if_pos (by omega), hoff]
  unfold State.regRead
  rw [hlow, if_neg (by simp), hnow]

/-- A word of the oldest stamp, 0 when there is none. -/
def Tsq.front (q : Tsq) (k : Nat) : Word := ((q.entries.head?.map (fun e => e.words)).getD []).getD k 0

/-- TSQ_ENTRY0 to TSQ_ENTRY3 show the oldest stamp, and 0 to a master that the queue is closed to (R135, R136). -/
theorem State.regRead_entry (s : State) (m : Master) {p k : Nat} (hp : p < 16) (hk : k < 4) :
    s.regRead m (0x401010 + 0x40 * p + 4 * k) = if s.queueShut m p then 0 else (s.queue p).front k := by
  have hport : (0x1010 + 0x40 * p + 4 * k - 0x1000) / 0x40 = p := by omega
  have hreg : (0x1010 + 0x40 * p + 4 * k - 0x1000) % 0x40 = 0x10 + 4 * k := by omega
  have hword : (0x10 + 4 * k - 0x10) / 4 = k := by omega
  rw [show 0x401010 + 0x40 * p + 4 * k = 0x400000 + (0x1010 + 0x40 * p + 4 * k) by omega,
    State.regRead_time s m (by omega)]
  unfold State.timeReg
  simp only [hport, hreg, hword]
  rw [if_neg (by omega), if_pos (by omega), if_neg (by omega)]
  cases hshut : s.queueShut m p with
  | true => simp
  | false =>
    rw [if_pos ⟨by omega, by omega, rfl⟩, BitVec.ofNat_toNat, BitVec.setWidth_eq]
    rfl

/-- TSQ_STAT shows DROPS, whether Balix owns the queue, OVERFLOW and the number of stamps (R137). -/
theorem State.regRead_tsqStat (s : State) (m : Master) {p : Nat} (hp : p < 16) :
    s.regRead m (0x401000 + 0x40 * p) =
      BitVec.ofNat 32 (65536 * (s.queue p).drops + 32768 * flag (s.balixQueue p) + 256 * flag (s.queue p).overflow
        + (s.queue p).entries.length) := by
  have hport : (0x1000 + 0x40 * p - 0x1000) / 0x40 = p := by omega
  have hreg : (0x1000 + 0x40 * p - 0x1000) % 0x40 = 0 := by omega
  rw [show 0x401000 + 0x40 * p = 0x400000 + (0x1000 + 0x40 * p) by omega, State.regRead_time s m (by omega)]
  unfold State.timeReg
  rw [if_neg (by omega), if_pos (by omega), hport, hreg, if_pos rfl]

/-- TSQ_STAT has fields that a read clears (R137, R607). -/
theorem hasRc_tsqStat {p : Nat} (hp : p < 16) : hasRc (0x401000 + 0x40 * p) = true := by
  simp only [hasRc, Bool.or_eq_true, Bool.and_eq_true, beq_iff_eq, decide_eq_true_eq]
  omega

/-- A flag is at most 1. -/
theorem flag_le (b : Bool) : flag b ≤ 1 := by cases b <;> decide

/-- A stamp that finds a full queue is discarded, counted and flagged (R137). -/
theorem State.pushStamp_full {s : State} {p : Nat} (sub id : Nat) (h : 64 ≤ (s.queue p).entries.length) :
    (s.pushStamp p sub id).queue p =
      { s.queue p with overflow := true, drops := min 65535 ((s.queue p).drops + 1) } := by
  have hcore : (s.pushStamp p sub id).core
      = (s.setQueue p { s.queue p with overflow := true, drops := satAdd 65535 (s.queue p).drops 1 }).core := by
    unfold State.pushStamp
    rw [if_neg (Nat.not_lt.2 h)]
    exact State.strike_core ..
  have htsq := congrArg (fun c => Tbl.get ({} : Tsq) c.2.1 p) hcore
  exact htsq.trans (State.queue_setQueue s p _)

/-- A stamp that finds room is the newest of its queue (R134). -/
theorem State.pushStamp_room {s : State} {p : Nat} (sub id : Nat) (h : (s.queue p).entries.length < 64) :
    (s.pushStamp p sub id).queue p =
      { s.queue p with entries := (s.queue p).entries ++ [s.txStamp p sub id] } := by
  unfold State.pushStamp
  rw [if_pos h, State.queue_setQueue]

/-- The words of a transmit stamp hold its fields at their places (Tables TSQ_ENTRY0 and Time-stamp queue registers). -/
theorem State.txStamp_words (s : State) (port : Nat) {sub : Nat} (id : Nat) (hsub : sub < 8)
    (hbase : s.stampBase port sub < 8) :
    ((s.txStamp port sub id).words.getD 0 0).toNat
        = 2 ^ 29 * sub + 2 ^ 26 * s.stampBase port sub + 2 ^ 22 * ((s.base (s.stampBase port sub)).stepcnt % 16) + id % 65536
      ∧ (s.txStamp port sub id).words.getD 1 0 = BitVec.ofNat 32 (s.base (s.stampBase port sub)).sec
      ∧ ((s.txStamp port sub id).words.getD 2 0).toNat
        = 65536 * ((s.base (s.stampBase port sub)).frac / 65536)
          + (s.base (s.stampBase port sub)).sec / 4294967296 % 65536
      ∧ (s.txStamp port sub id).words.getD 3 0 = BitVec.ofNat 32 (s.base (s.stampBase port sub)).nanos := by
  have hfrac : (s.base (s.stampBase port sub)).frac < 4294967296 := Nat.mod_lt _ (by decide)
  refine ⟨(BitVec.toNat_ofNat ..).trans ?_, rfl, (BitVec.toNat_ofNat ..).trans ?_, rfl⟩
  · omega
  · omega

/-- Settles O52: the reads of TIME, the effects of TSQ_ENTRY3 and TSQ_STAT, and the two outcomes of a stamp. -/
theorem stampsLeaveInOrder : Obligations.StampsLeaveInOrder := by
  obtain ⟨hentry3, _, _, _, hclear, _⟩ := registerReadRows
  refine ⟨?oldest, ?empty, ?removed, ?full, ?room, ?cleared, ?stat⟩
  case oldest =>
    intro s m port k e rest hport hk hopen hentries
    rw [State.regRead_entry s m hport hk, hopen, Tsq.front, hentries]
    rfl
  case empty =>
    intro s m port k hport hk hentries
    rw [State.regRead_entry s m hport hk, Tsq.front, hentries]
    exact ite_self _
  case removed =>
    intro s m port e rest hport hm hmay hopen hentries
    have hwords := Access.contains_words_one (o := 0x40101C + 0x40 * port) (by omega)
    refine ⟨_, hentry3 m _ s ⟨hport, hwords, hm, by rwa [State.seenDebug_mayRead]⟩, ?_⟩
    simp only [readsOf_entry3_queue m _ hport ((s.seenDebug_queueShut m m port).trans hopen), State.seenDebug_queue,
      hentries, List.drop_one, List.tail_cons]
  case full =>
    intro s port sub id hport hsub hwant hfull
    refine ⟨_, execTxTimestamp_wanted hport hsub hwant, ?_⟩
    rw [State.pushStamp_full]
    · exact ⟨rfl, rfl, rfl⟩
    · exact hfull
  case room =>
    intro s port sub id hport hsub hwant hroom
    refine ⟨_, s.txStamp port sub id, execTxTimestamp_wanted hport hsub hwant, ?_⟩
    rw [State.pushStamp_room]
    · exact ⟨rfl, rfl, rfl, s.txStamp_words port id hsub⟩
    · exact hroom
  case cleared =>
    intro s m port hport hm hmay
    have hrc : (Access.words ⟨0x401000 + 0x40 * port, 4⟩).any hasRc = true := by
      rw [Access.words_one (by omega), List.any_cons, hasRc_tsqStat hport]
      rfl
    refine ⟨_, hclear m _ s ⟨hrc, hm, hmay⟩, ?_⟩
    simp only [readsOf_tsqStat_queue m _ hport, State.seenDebug_queue]
  case stat =>
    intro s m port hport hdrops hlen
    have hown := flag_le (s.balixQueue port)
    have hover := flag_le (s.queue port).overflow
    rw [State.regRead_tsqStat s m hport, BitVec.toNat_ofNat]
    omega

/-! ## The snapshots of a time base (R138) -/

/-- TB_SEC_H, TB_NS, TB_FRAC and TB_STAT read as in the snapshot of the reading master. -/
theorem State.regRead_snapshot (s : State) (m : Master) {b k : Nat} (hb : b < 8) (hk : k = 1 ∨ k = 2 ∨ k = 3 ∨ k = 5) :
    s.regRead m (0x400000 + 0x100 * b + 4 * k) = (Tbl.get [] s.glb.tbSnap (8 * Master.code m + b)).getD k 0 := by
  have hbase : (0x100 * b + 4 * k) / 0x100 = b := by omega
  have hword : (0x100 * b + 4 * k) % 0x100 / 4 = k := by omega
  rw [Nat.add_assoc, State.regRead_time s m (by omega)]
  unfold State.timeReg
  rw [if_pos (by omega), hbase, hword]
  simp only
  rw [if_neg (by omega), if_pos (by omega), BitVec.ofNat_toNat, BitVec.setWidth_eq]

/-- No two masters share a code. -/
theorem Master.code_injective {m n : Master} : Master.code m = Master.code n → m = n := by
  cases m <;> cases n <;> decide

/-- Settles O56: the read writes one snapshot, that of its master and base, and these registers read snapshots alone. -/
theorem timeSnapshots : Obligations.TimeSnapshots := by
  obtain ⟨_, hsecL, _⟩ := registerReadRows
  intro s m base hbase hm hmay
  have hwords := Access.contains_words_one (o := 0x400000 + 0x100 * base) (by omega)
  refine ⟨_, hsecL m _ s ⟨hbase, hwords, hm, hmay⟩, fun k hk => ?own, fun m' b k hb hother hk => ?other⟩
  case own =>
    rw [State.regRead_snapshot _ m hbase hk, readsOf_secL_tbSnap m _ hbase, Tbl.get_set_self, State.seenDebug_tbWords]
  case other =>
    have hkey : 8 * Master.code m' + b ≠ 8 * Master.code m + base := by
      intro h
      have hcode : Master.code m' = Master.code m := by omega
      exact hother.elim (fun hne => hne (Master.code_injective hcode)) fun hne => hne (by omega)
    rw [State.regRead_snapshot _ m' hb hk, readsOf_secL_tbSnap m _ hbase, Tbl.get_set_ne _ _ hkey, State.seenDebug_glb,
      State.regRead_snapshot s m' hb hk]

end Sys2Proof.Machine

/-! PROOFS. Ingress (chapter 06, 17 R466 to R468): the source and receive-flow commands, the SDI inputs, the lines of sources,
and the Ethernet ports. -/
namespace Sys2Proof.Machine
open Sys2Proof.Safety

/-! ## The ingress commands (R142, R153, R154, R172, R178, R466 to R468) -/

/-- Settles O4: each row runs its command, whose effect is that of the statement. -/
theorem ingressCommandsComplete : Obligations.IngressCommandsComplete := by
  refine ⟨?bind, ?status, ?flowSet, ?flowClear, ?syncMode⟩
  case bind => exact atOnce_done rfl rfl fun _ _ => rfl
  case status => exact atOnce_of rfl rfl (fun _ _ s => exec_command rfl s) fun _ _ _ _ => rfl
  case flowSet => exact atOnce_done rfl rfl fun _ _ => rfl
  case flowClear => exact atOnce_done rfl rfl fun _ _ => rfl
  case syncMode => exact atOnce_done rfl rfl fun _ _ => rfl

/-! ## SDI lanes and formats (R145 to R148, R513, R514) -/

/-- What FORMAT_VALID compares of a measured frame with that of the frame before: its structure without the payload ID, and the
format and transport that it resolves to (R145 to R147). -/
def State.measured (s : State) (n : Nat) (sig : Structure) : Structure × Nat × Nat :=
  ({ sig with pid := none }, (resolveFormat sig ((s.source n).kind == 2)).1, (resolveFormat sig ((s.source n).kind == 2)).2.1)

/-- FORMAT_VALID with a second consecutive frame of one structure: its format becomes valid (R147, R148). -/
theorem execFormatValid_again {s : State} {n : Nat} {sig : Structure} (hn : n < 1024) (hsdi : s.isSdi n = true)
    (hfirst : 0 < (s.source n).candFrames) (hsame : (s.source n).candidate = some (s.measured n sig)) :
    execFormatValid n sig s = .next (
      let r := resolveFormat sig ((s.source n).kind == 2)
      let t := s.setSource n { s.source n with
        candFrames := 2
        pidAbsent := r.2.2.1
        pidMismatch := r.2.2.2 }
      if (s.source n).state = .linkSkew then t
      else t.takeFormat n (r.1, 0, 10) (if (s.source n).kind = 3 then (if r.2.1 = 5 then 0 else 11) else r.2.1)) := by
  have hframes : min 2 ((s.source n).candFrames + 1) = 2 := by omega
  simp only [execFormatValid, hn, hsdi, and_self, if_true, hsame, State.measured, beq_self_eq_true, hframes]

/-- FORMAT_VALID with the first frame of another structure: the source is DETECTING (R147). -/
theorem execFormatValid_new {s : State} {n : Nat} {sig : Structure} (hn : n < 1024) (hsdi : s.isSdi n = true)
    (hother : (s.source n).candidate ≠ some (s.measured n sig)) :
    execFormatValid n sig s = .next (
      let r := resolveFormat sig ((s.source n).kind == 2)
      (s.setSource n { s.source n with
        candidate := some (s.measured n sig)
        candFrames := 1
        pidAbsent := r.2.2.1
        pidMismatch := r.2.2.2 }).srcGo n .detecting) := by
  have hne : ((s.source n).candidate == some (s.measured n sig)) = false := beq_false_of_ne hother
  simp only [State.measured] at hne
  have hone : (1 : Nat) = 2 ↔ False := iff_false_intro (by decide)
  simp only [execFormatValid, hn, hsdi, and_self, if_true, hne, Bool.false_eq_true, if_false, hone, State.measured]

/-- Settles O26, row by row: the condition of each clause is the guard of its row. -/
theorem sdiRows : Obligations.SdiRows := by
  refine ⟨?hunt, ?lock, ?loss, ?again, ?new, ?resume⟩
  case hunt => exact fun l s ⟨hhunt, hdwell⟩ => if_pos (by rw [hhunt, hdwell]; rfl)
  case lock => exact fun l family ctle s h => if_pos h
  case loss => exact fun l s ⟨hlane, hlocked⟩ => if_pos (by rw [hlane, hlocked]; rfl)
  case again => exact fun n sig s ⟨hn, hsdi, hfirst, hsame⟩ => execFormatValid_again hn hsdi hfirst hsame
  case new => exact fun n sig s ⟨hn, hsdi, hother⟩ => execFormatValid_new hn hsdi hother
  case resume => exact fun s _ => rfl

/-! ## Lines at ingress (R149, R160 to R163, R173, R175, R176, R200) -/

/-- The state after the CRC of a line of a source is checked: an error is counted and shown, whatever the source's state
(R149). -/
def State.crcChecked (s : State) (n : Nat) (l : LineIn) : State :=
  if l.crcError then s.setSource n { s.source n with
    crcErrors := satAdd 65535 (s.source n).crcErrors 1
    crcSeen := true } else s

/-- LINE_ARRIVAL of an SDI source: the state of the source and the skew of its links decide what becomes of the line (R150,
R175). -/
theorem execLineArrival_sdi {s : State} {n : Nat} (l : LineIn) (hn : n < 1024) (hsdi : s.isSdi n = true) :
    execLineArrival n l s =
      if (s.source n).state = .valid ∨ (s.source n).state = .linkSkew then
        if (s.source n).kind = 2 ∧ 2 < l.skew then .next ((s.crcChecked n l).srcGo n .linkSkew)
        else .next (((if (s.source n).state = .linkSkew then (s.crcChecked n l).srcGo n .valid
          else s.crcChecked n l).sdiLine n ((s.source n).fmt, 0, 10) l).deembed n l.anc)
      else .next (s.crcChecked n l) :=
  if_pos ⟨hn, hsdi⟩

/-- A line whose links are within 2 line periods of each other, wherever that counts, does not break alignment (R150). -/
theorem not_skewed {k : Source} {l : LineIn} (h : k.kind = 2 → l.skew ≤ 2) : ¬(k.kind = 2 ∧ 2 < l.skew) :=
  fun ⟨hquad, hskew⟩ => Nat.not_lt.2 (h hquad) hskew

/-- LINE_RELEASE of a class T source in a domain that has started, once the oldest line that waits is due (R200). -/
theorem execLineRelease_waiting {s : State} {n at' : Nat} {l : FabLine} {rest : List (Nat × FabLine)} (hn : n < 1024)
    (hkind : (s.source n).kind ≠ 0) (hclass : (s.source n).classF = false)
    (hstart : (s.dom (s.source n).td).started = true) (hwait : (s.source n).waiting = (at', l) :: rest)
    (hdue : at' ≤ s.clk) :
    execLineRelease n s = .next ((s.setSource n { s.source n with waiting := rest }).deliver n l) := by
  unfold execLineRelease
  simp only [hn, hclass, hstart, hwait, and_true, true_and]
  rw [if_pos hkind, if_pos hdue]

/-- LINE_RELEASE of a class T source without waiting lines that delivers lines of its own: black, or its engine's (R151,
R315). -/
theorem execLineRelease_own {s : State} {n : Nat} {pic : Nat × Nat × Nat} (hn : n < 1024)
    (hkind : (s.source n).kind ≠ 0) (hclass : (s.source n).classF = false)
    (hstart : (s.dom (s.source n).td).started = true) (hwait : (s.source n).waiting = [])
    (hown : (s.source n).state ≠ .valid ∨ (s.source n).kind = 4) (hpic : s.blackPic n = some pic) :
    execLineRelease n s = .next (
      let q := s.lineDue n pic.1
      s.deliver n ⟨s.lineHdr n pic.1 ((streamClass pic.1 pic.2.1 pic.2.2).getD 0) q.2.2 q.1 q.2.1, pic.1, pic.2.1, pic.2.2,
        s.ownSamples n pic q.2.2, []⟩) := by
  have hsignal : ¬((s.source n).state = .valid ∧ (s.source n).kind ≠ 4) := fun ⟨hvalid, hext⟩ =>
    hown.elim (fun h => h hvalid) hext
  unfold execLineRelease
  simp only [hn, hclass, hstart, hwait, hpic, and_true, true_and]
  rw [if_pos hkind, if_neg hsignal]

/-- LEG_TIMEOUT of a leg that has been silent for two frame periods (R163). -/
theorem execLegTimeout_silent {s : State} {n leg last : Nat} (hn : n < 1024)
    (hlast : (if leg = 0 then (s.source n).legA else (s.source n).legB) = some last)
    (hpast : s.passed last (2 * ratePeriod (fmtRate (s.shownFormat n).1)) = true) :
    execLegTimeout n leg s = .next (
      let k := if leg = 0 then { s.source n with legA := none } else { s.source n with legB := none }
      let u := s.setSource n k
      if k.legA.isNone ∧ k.legB.isNone ∧ (s.source n).kind = 3 then u.noSignal n else u) := by
  simp only [execLegTimeout, hlast, hn, hpast, decide_true, Bool.and_self, if_true]

/-- Settles O27, row by row: the state of a source decides what becomes of an arriving line; the other conditions are the
guards of their rows. -/
theorem lineRows : Obligations.LineRows := by
  refine ⟨?valid, ?aligned, ?skewed, ?unlocked, ?window, ?waiting, ?own, ?close, ?leg⟩
  case valid =>
    intro n l s ⟨hn, hsdi, hstate, hskew⟩
    refine (execLineArrival_sdi l hn hsdi).trans ?_
    rw [if_pos (.inl hstate), if_neg (not_skewed hskew), if_neg (by rw [hstate]; decide)]
    rfl
  case aligned =>
    intro n l s ⟨hn, hsdi, hstate, hskew⟩
    refine (execLineArrival_sdi l hn hsdi).trans ?_
    rw [if_pos (.inr hstate), if_neg (not_skewed hskew), if_pos hstate]
    rfl
  case skewed =>
    intro n l s ⟨hn, hsdi, hstate, hskew⟩
    refine (execLineArrival_sdi l hn hsdi).trans ?_
    rw [if_pos hstate, if_pos hskew]
    rfl
  case unlocked =>
    intro n l s ⟨hn, hsdi, hvalid, hskew⟩
    exact (execLineArrival_sdi l hn hsdi).trans (if_neg (not_or.2 ⟨hvalid, hskew⟩))
  case window => exact fun n s h => if_pos h
  case waiting =>
    exact fun n at' l rest s ⟨hn, hkind, hclass, hstart, hwait, hdue⟩ =>
      execLineRelease_waiting hn hkind hclass hstart hwait hdue
  case own =>
    exact fun n pic s ⟨hn, hkind, hclass, hstart, hwait, hown, hpic⟩ =>
      execLineRelease_own hn hkind hclass hstart hwait hown hpic
  case close =>
    intro n line o pic s ⟨hn, hpic, hclosing, hdue⟩
    have hfound : ((s.srcPic n).bind fun pic => (s.closing n pic.1 line).map fun o => (o, pic)) = some (o, pic) := by
      rw [hpic, Option.bind_some, hclosing, Option.map_some]
    show execLineClose n line s = _
    unfold execLineClose
    rw [hfound]
    exact if_pos ⟨hn, hdue⟩
  case leg => exact fun n leg last s ⟨hn, hlast, hpast⟩ => execLegTimeout_silent hn hlast hpast

/-! ## The Ethernet ports (R157, R529 to R533, R538) -/

/-- A frame within the MTU on a subport that is up is not dropped (R529, R530). -/
theorem State.not_dropped {s : State} {port : Nat} {f : EthFrame} (hsub : s.hasSub port f.sub = true)
    (hup : (s.subport (8 * port + f.sub)).up = true) (hmtu : f.bytes.length + 4 ≤ (s.port port).mtu) :
    ¬(!(s.hasSub port f.sub && (s.subport (8 * port + f.sub)).up)
      || decide ((s.port port).mtu < f.bytes.length + 4)) = true := by
  simp [hsub, hup, hmtu]

/-- ETH_FRAME_RECEIVE of a frame without protection: taken unless its subport requires MACsec (R157, R538). -/
theorem execEthFrameReceive_plain {s : State} {port : Nat} {f : EthFrame} (hsub : s.hasSub port f.sub = true)
    (hup : (s.subport (8 * port + f.sub)).up = true) (hmtu : f.bytes.length + 4 ≤ (s.port port).mtu)
    (hsec : f.sec = none) :
    execEthFrameReceive port f s =
      if bit (s.port port).macsecReq f.sub then .next (s.secFail (8 * port + f.sub) 0) else .next (s.classify port f) := by
  unfold execEthFrameReceive
  rw [if_neg (State.not_dropped hsub hup hmtu), hsec]

/-- ETH_FRAME_RECEIVE of a protected frame: verified, and taken if it passes (R538). -/
theorem execEthFrameReceive_protected {s : State} {port : Nat} {f : EthFrame} {tag : SecTag}
    (hsub : s.hasSub port f.sub = true) (hup : (s.subport (8 * port + f.sub)).up = true)
    (hmtu : f.bytes.length + 4 ≤ (s.port port).mtu) (hsec : f.sec = some tag) :
    execEthFrameReceive port f s = .next (
      let r := s.verifyFrame (8 * port + f.sub) tag
      if r.2 then r.1.classify port f else r.1) := by
  unfold execEthFrameReceive
  rw [if_neg (State.not_dropped hsub hup hmtu), hsec]
  exact (apply_ite Host.Outcome.next ..).symm

/-- Settles O28, row by row: the condition of each clause is the guard of its row. -/
theorem ethernetRows : Obligations.EthernetRows := by
  refine ⟨?plain, ?unprotected, ?verified, ?transmit, ?linkUp, ?linkDown⟩
  case plain =>
    exact fun port f s ⟨hsub, hup, hmtu, hsec, hreq⟩ =>
      (execEthFrameReceive_plain hsub hup hmtu hsec).trans (if_neg (by rw [hreq]; exact Bool.false_ne_true))
  case unprotected =>
    exact fun port f s ⟨hsub, hup, hmtu, hsec, hreq⟩ => (execEthFrameReceive_plain hsub hup hmtu hsec).trans (if_pos hreq)
  case verified =>
    exact fun port f tag s ⟨hsub, hup, hmtu, hsec⟩ => execEthFrameReceive_protected hsub hup hmtu hsec
  case transmit =>
    intro port s ⟨hport, hmode, howned⟩
    exact if_pos (by simp [hport, hmode, howned])
  case linkUp => exact fun port sub s ⟨hsub, hdown⟩ => if_pos (by rw [hsub, hdown]; rfl)
  case linkDown => exact fun port sub f s h => if_pos h

end Sys2Proof.Machine

/-! PROOFS. The frame store (chapter 07 R187 to R196, 14 R398): the read-outs of class F sources, and the errors, the return and
the scrub of the HBM stacks. -/
namespace Sys2Proof.Machine
open Sys2Proof.Safety

/-! ## Read-outs (R15, R187, R188, R190) -/

/-- READOUT_FRAME_START at a frame start that the read-out has not taken, from the tick of the take that created it on (R187,
R188). -/
theorem execReadoutFrameStart_due {s : State} {n d : Nat} {r : Readout} {pic : Nat × Nat × Nat}
    (hr : s.readout? n d = some r) (hpic : s.srcPic n = some pic) (hstart : (s.dom d).started = true)
    (hnew : r.frameStart < (s.frameStart d pic.1).2.2) (htick : r.startTick ≤ (s.frameStart d pic.1).1) :
    execReadoutFrameStart n d s = .next
      (s.readoutTake n d (s.frameStart d pic.1).1 (s.frameStart d pic.1).2.1 (s.frameStart d pic.1).2.2) := by
  simp only [execReadoutFrameStart, hr, hpic]
  exact if_pos ⟨hstart, hnew, htick⟩

/-- LOSS_HOLD_EXPIRY of a read-out that has repeated more than LOSS_HOLD frames of a source that has stopped writing, where
LOSS_HOLD is not the value that holds without limit (R190). -/
theorem execLossHoldExpiry_past {s : State} {n d : Nat} {r : Readout} (hr : s.readout? n d = some r)
    (hstop : s.stopped n = true) (hpast : (s.source n).lossHold < r.repeats) (hlimit : (s.source n).lossHold ≠ 65535) :
    execLossHoldExpiry n d s = .next (s.updReadout n d (fun q => { q with black := true })) := by
  simp only [execLossHoldExpiry, hr]
  exact if_pos (by rw [hstop, decide_eq_true hpast, bne_iff_ne.2 hlimit]; rfl)

/-- READOUT_LINE_RELEASE of a line that is due: of the frame that a read-out finishes, else of its present one (R15, R187). -/
theorem execReadoutLineRelease_due {s : State} {n d line : Nat} {r : Readout} {l : FabLine}
    (hline : s.lineOfRead n d line = some (r, l)) :
    execReadoutLineRelease n d line s = .next (
      let t := s.updReads r.tail n d (fun q => { q with lastLine := line, badRead := false, last := some l })
      let t := if r.tail then t.updReadout n d (fun q => { q with last := some l }) else t
      let t : State := { t with readouts := t.readouts.filter (fun q => !q.tail || t.readsOn q) }
      { t with inPorts := Tbl.set none t.inPorts r.port (some l) }) := by
  simp only [execReadoutLineRelease, hline]

/-! ## Stacks (R195, R196, R398) -/

/-- STACK_RETURN_COMPLETE of a rejoining stack, once the regions of its pair are copied and every ring of the pair has
completed three frames (R196). -/
theorem execStackReturnComplete_back {s : State} {k : Nat} (hk : k < 4) (hstate : (s.stack k).state = 2)
    (hcopied : s.copied k = true) (hrings : s.ringsBack k = true) :
    execStackReturnComplete k s = .next
      (((((s.copyTo k).copyPackets k).updStack k (fun q => { q with state := 0, rejoinAt := none })).fall (25 + 4 * k)).fall
        (26 + 4 * k)) :=
  if_pos (by rw [decide_eq_true hk, hstate, hcopied, hrings]; rfl)

/-- HBM_SCRUB of a stack counts the location; an error that it finds is treated as one that a read-out finds (R398). -/
theorem execHbmScrub_stack {s : State} {k : Nat} (e : Option HbmError) (hk : k < 4) :
    execHbmScrub k e s = .next (
      let t := s.updStack k (fun q => { q with scrubs := q.scrubs + 1 })
      e.elim t (t.hbmError k)) := by
  refine (if_pos hk).trans ?_
  cases e with
  | none => rfl
  | some e => rfl

/-- Settles O29, row by row: the condition of each clause is the guard of its row. -/
theorem frameStoreRows : Obligations.FrameStoreRows := by
  refine ⟨?frameStart, ?lossHold, ?line, ?readError, ?stackReturn, ?clean, ?found⟩
  case frameStart =>
    exact fun n d r pic s ⟨hr, hpic, hstart, hnew, htick⟩ => execReadoutFrameStart_due hr hpic hstart hnew htick
  case lossHold => exact fun n d r s ⟨hr, hstop, hpast, hlimit⟩ => execLossHoldExpiry_past hr hstop hpast hlimit
  case line => exact fun n d line r l s hline => execReadoutLineRelease_due hline
  case readError => exact fun k e s hk => if_pos hk
  case stackReturn =>
    exact fun k s ⟨hk, hstate, hcopied, hrings⟩ => execStackReturnComplete_back hk hstate hcopied hrings
  case clean => exact fun k s hk => execHbmScrub_stack none hk
  case found => exact fun k e s hk => execHbmScrub_stack (some e) hk

end Sys2Proof.Machine

/-! PROOFS. The crosspoint fabric and the egress (chapters 08 and 09): their commands, the frames and lines of destinations, the
Marquetry engines' frames and reports (chapter 11), and the ends of tests and of plane work. -/
namespace Sys2Proof.Machine
open Sys2Proof.Safety

/-! ## The fabric and egress commands (R220, R236 to R244, R251, R252, R257 to R260, R268) -/

/-- Settles O5: each row runs its command, whose effect is that of the statement. -/
theorem fabricAndEgressCommandsComplete : Obligations.FabricAndEgressCommandsComplete := by
  refine ⟨?load, ?query, ?plane, ?planes, ?bind, ?flow, ?status, ?mitre⟩
  case load => exact atOnce_done rfl rfl fun _ _ => rfl
  case query => exact atOnce_of rfl rfl (fun _ _ s => exec_command rfl s) fun _ _ _ _ => rfl
  case plane => exact begins_of rfl (fun _ _ s => exec_command rfl s) fun _ _ _ _ => rfl
  case planes => exact atOnce_of rfl rfl (fun _ _ s => exec_command rfl s) fun _ _ _ _ => rfl
  case bind => exact atOnce_done rfl rfl fun _ _ => rfl
  case flow => exact atOnce_done rfl rfl fun _ _ => rfl
  case status => exact atOnce_of rfl rfl (fun _ _ s => exec_command rfl s) fun _ _ _ _ => rfl
  case mitre => exact atOnce_done rfl rfl fun _ _ => rfl

/-! ## Frames and lines of destinations (R231 to R234, R245 to R249) -/

/-- DST_FRAME_START at a frame start that a bound destination has not taken, in a domain that has started (R245, R246,
R260). -/
theorem execDstFrameStart_due {s : State} {p n : Nat} {h : Bool} {at' : Int}
    (hframe : s.destFrame (s.dest p) = some (n, h, at')) (hkind : (s.dest p).kind ≠ 0)
    (hstart : (s.dom (s.dest p).td).started = true) (hnew : ((s.dest p).frameAt : Int) < at') :
    execDstFrameStart p s = .next (
      let t := State.latchFlows (State.destJudge (s.setDest p { s.dest p with
        frameAt := at'.toNat
        frameTick := n
        frameSecond := h }) p) p
      let u := if (t.dest p).state = 3 then t.updDest p (fun k => { k with clash := satAdd 65535 k.clash 1 }) else t
      if (u.dest p).silent then u.witClose p false else u) := by
  simp only [execDstFrameStart, hframe]
  exact if_pos ⟨hkind, hstart, hnew⟩

/-- EGRESS_LINE_RECEIVE at a LIVE destination whose slot has a line: both copies are merged into it (R232 to R234). -/
theorem execEgressLineReceive_merged {s : State} {p : Nat} {a b : CopyFault} {l : FabLine} (hp : p < 1024)
    (hlive : (s.dest p).state = 2) (hline : (s.slotOf p a b).line = some l) :
    execEgressLineReceive p a b s = .next (
      let x := s.slotOf p a b
      let good := x.whole s.bx.free
      let t := s.readEntries p a b
      let t := (if x.mixed then t.drawFree else t).slotLine p
        (if s.copyComes p false && !a.missing then s.clk else s.clk - planeLag) (x.content l) good
      t.reportCopies s p a b good) := by
  unfold execEgressLineReceive
  rw [if_neg (Nat.not_le.2 hp), if_pos hlive]
  simp only [hline]

/-- EGRESS_LINE_RECEIVE at a departure port or a tap to which a plane delivers a copy (R201, R232, R234). -/
theorem execEgressLineReceive_port {s : State} {p : Nat} {a b : CopyFault} (hp : 1024 ≤ p)
    (hcomes : (s.copyComes p false || s.copyComes p true) = true) :
    execEgressLineReceive p a b s = .next (s.portReceive p a b) := by
  unfold execEgressLineReceive
  rw [if_pos hp, if_pos hcomes]

/-- EGRESS_LINE_SEND of a LIVE destination, one line period after word 0 of its oldest line came (R249). -/
theorem execEgressLineSend_received {s : State} {p k at' : Nat} {l : FabLine} {again : Bool}
    {rest : List (Nat × FabLine × Bool)} (hp : p < 1024) (hkind : (s.dest p).kind ≠ 0) (hframe : (s.dest p).frameAt ≠ 0)
    (hlive : (s.dest p).state = 2) (hreplay : (s.dest p).replay = (at', l, again) :: rest)
    (hdue : at' + linePeriod (s.dest p).fmt ≤ s.clk) :
    execEgressLineSend p k s = .next (s.sendLine p l again k) := by
  unfold execEgressLineSend
  simp only [hreplay, List.head?_cons]
  rw [if_pos ⟨hp, hkind, hframe⟩, if_pos hlive, if_pos hdue]

/-- EGRESS_LINE_SEND of a destination without a picture, once its timing has reached another line: black (R247, R248). -/
theorem execEgressLineSend_black {s : State} {p k : Nat} (hp : p < 1024) (hkind : (s.dest p).kind ≠ 0)
    (hframe : (s.dest p).frameAt ≠ 0) (hdark : (s.dest p).state ≠ 2)
    (hnew : (s.blackDue p).hdr.line ≠ (s.dest p).line) :
    execEgressLineSend p k s = .next (s.sendLine p (s.blackDue p) false k) := by
  unfold execEgressLineSend
  rw [if_pos ⟨hp, hkind, hframe⟩, if_neg hdark]
  exact if_pos hnew

/-- FRAME_DIGEST of a destination with a witnessed frame that has ended (R434). -/
theorem execFrameDigest_oldest {s : State} {p : Nat} {f : WitFrame} {rest : List WitFrame}
    (hdone : (s.dest p).witDone = f :: rest) :
    execFrameDigest p s = .next
      ((s.giveRecord 0x30 f.start (some ((s.dest p).td, f.tick)) (s.digestBody p f) none).setDest p
        { s.dest p with witDone := rest, witMissed := 0 }) := by
  simp only [execFrameDigest, hdone]

/-! ## Marquetry reports (R316 to R320) -/

/-- MQ_COMPARE_REPORT of the frame that a running comparator reports next (R318 to R320). -/
theorem execMqCompareReport_next {s : State} {m : Nat} {q : Nat × Bool} (hm : m < 8)
    (hnext : (s.engine m).cmp.nextKey (s.dom (s.engine m).td) s.clk = some q) (hmode : (s.engine m).mode = 3)
    (hrun : (s.engine m).cmp.running = true) :
    execMqCompareReport m q.1 q.2 s = .next (
      let g := s.engine m
      let d := s.dom g.td
      let tick := d.tickOf q.1
      let r := compareReport m g.cmp d tick q
      let t := s.setEngine m { g with
        writes := g.writes + 1
        newestTick := tick
        cmp := g.cmp.after d q r }
      let u := (t.hbmWrite (engineArea m + 0x16000000 + g.cmp.seq % 1024 * 320) r).reportFill m 320
      if byteAt r 13 % 2 = 1 then u else u.strike (52 + m) 0xFFFF) := by
  simp only [execMqCompareReport, hnext]
  exact if_pos ⟨hm, trivial, hmode, hrun⟩

/-- Settles O30, row by row: the condition of each clause is the guard of its row. -/
theorem destinationAndMarquetryRows : Obligations.DestinationAndMarquetryRows := by
  refine ⟨?frame, ?merged, ?port, ?received, ?black, ?audio, ?digest, ?engine, ?report⟩
  case frame => exact fun p n h at' s ⟨hframe, hkind, hstart, hnew⟩ => execDstFrameStart_due hframe hkind hstart hnew
  case merged => exact fun p a b l s ⟨hp, hlive, hline⟩ => execEgressLineReceive_merged hp hlive hline
  case port => exact fun p a b s ⟨hp, hcomes⟩ => execEgressLineReceive_port hp hcomes
  case received =>
    exact fun p k at' l again rest s ⟨hp, hkind, hframe, hlive, hreplay, hdue⟩ =>
      execEgressLineSend_received hp hkind hframe hlive hreplay hdue
  case black =>
    exact fun p k s ⟨hp, hkind, hframe, hdark, hnew⟩ => execEgressLineSend_black hp hkind hframe hdark hnew
  case audio => exact fun i s h => if_pos h
  case digest => exact fun p f rest s hdone => execFrameDigest_oldest hdone
  case engine => exact fun m s h => if_pos h
  case report => exact fun m q s ⟨hm, hnext, hmode, hrun⟩ => execMqCompareReport_next hm hnext hmode hrun

/-! ## The ends of tests and of plane work (R236, R238, R396, R485, R523, R526, R527) -/

/-- EYESCAN_COMPLETE of a lane under scan whose LANE_EYESCAN is in flight: the grid goes to the command's buffer, and the
command completes (R485, R527). -/
theorem execEyescanComplete_found {s : State} {l d : Nat} {f : Flight} (e : EyeScan)
    (hdwell : (s.lane l).eyeDwell = some d)
    (hflight : s.bx.flights.find? (fun g => g.cmd.opcode == 0x0F05 && g.cmd.u16 16 == l && g.reply.isNone) = some f) :
    execEyescanComplete l e s = .next (
      let n := s.eyes l
      let row := fun i => e.samplerRow.getD i 32
      let width := minEye n (fun i => zeroRun (eyePoint e i (row i)) 32)
      let height := minEye n (fun i => zeroRun (fun r => eyePoint e i r 32) (row i))
      let bytes := (range 0 (4096 * n)).flatMap (fun i => leBytes 4 (min 4294967295 (e.points.getD i 4294967295)))
      let r := (s.updLane l (fun k => { k with eyeDwell := none })).answer (f.cmd.u64 24) bytes
        (repDone (leBytes 4 bytes.length ++ leBytes 2 width ++ leBytes 2 height ++ leBytes 4 e.ms))
      r.1.settle f.id r.2) := by
  unfold execEyescanComplete
  rw [hdwell, hflight]

/-- SELFTEST_COMPLETE of a SELFTEST_RUN that has begun and has no reply (R396). -/
theorem execSelftestComplete_begun {s : State} {id : Nat} {f : Flight} (r : TestResult) (hf : s.flight? id = some f)
    (hop : f.cmd.opcode = 0x0B05) (hreply : f.reply = none) (hphase : f.phase = .begun) :
    execSelftestComplete id r s = .next ((s.testEnd (f.cmd.u8 16) (f.cmd.u16 18) r.pass).settle id
      (repDone (testResult r.pass r.us (leBytes 8 r.detail.toNat)))) := by
  simp only [execSelftestComplete, hf]
  exact if_pos ⟨hop, by rw [hreply]; rfl, hphase⟩

/-- Settles O34, row by row: the condition of each clause is the guard of its row. -/
theorem testAndPlaneRows : Obligations.TestAndPlaneRows := by
  refine ⟨?prbs, ?eye, ?selftest, ?offline, ?loaded, ?shadow⟩
  case prbs => exact fun l k s h => if_pos h
  case eye => exact fun l e d f s ⟨hdwell, hflight⟩ => execEyescanComplete_found e hdwell hflight
  case selftest =>
    exact fun id f t s ⟨hf, hop, hreply, hphase⟩ => execSelftestComplete_begun t hf hop hreply hphase
  case offline => exact fun p s ⟨hp, hstate, hasked⟩ => if_pos (by rw [decide_eq_true hp, hstate, hasked]; rfl)
  case loaded => exact fun p s ⟨hp, hstate⟩ => if_pos (by rw [decide_eq_true hp, hstate]; rfl)
  case shadow => exact fun p s ⟨hp, hstate, hframes⟩ => if_pos (by rw [decide_eq_true hp, hstate, hframes]; rfl)

end Sys2Proof.Machine

/-! PROOFS. Bramble audio and Marquetry (chapters 10 and 11, 17 R471, R472): the commands that no tick applies. -/
namespace Sys2Proof.Machine
open Sys2Proof.Safety

/-! ## The audio and Marquetry commands (R271, R286, R303 to R306, R316 to R319, R361, R471, R472) -/

/-- The active mirrors AUD_RAMP_SET of OP 0 as ramp lengths, and does not mirror the settings of OP 1 (R361). -/
theorem State.mirrorCommand_rampSet (s : State) (c : Cmd) :
    s.mirrorCommand 0x0705 c =
      if c.u8 16 = 0 then s.mirror 1 (.rampLen (c.u16 18) (c.u16 20) (c.u16 22)) else s := by
  unfold State.mirrorCommand
  rw [if_neg (by decide)]
  simp only [true_and]

/-- Settles O6: each row runs its command, whose effect is that of the statement. AUD_RAMP_SET of OP 0 sends its item
after it completes; AUD_STATUS splits by its OP, and only one past 1 writes into the host buffer, which may fail. -/
theorem audioAndMarquetryCommandsComplete : Obligations.AudioAndMarquetryCommandsComplete := by
  refine ⟨?rampSet, ?audStatus, ?output, ?layout, ?compare, ?mqStatus⟩
  case rampSet =>
    exact atOnceThen_of rfl (fun _ _ s => exec_command rfl s) (fun _ _ => rfl) (fun _ _ => rfl)
      fun _ _ _ t => t.mirrorCommand_rampSet _
  case audStatus =>
    refine atOnce_of rfl rfl (fun _ _ s => exec_command rfl s) fun mb c s _ => ?_
    generalize acting cmdAudStatus mb c s = t
    generalize context cmdAudStatus mb c s = x
    match hop : x.cmd.u8 16 with
    | 0 => simp only [hop, if_true, true_or]
    | 1 => simp only [hop, Nat.one_ne_zero, if_false, if_true, or_true]
    | n + 2 =>
      have hpast : ¬(n + 2 = 0 ∨ n + 2 = 1) := by omega
      obtain ⟨hne0, hne1⟩ := not_or.1 hpast
      simp only [hop, State.answer_eq, if_neg hpast, if_neg hne0, if_neg hne1]
  case output => exact atOnce_done rfl rfl fun _ _ => rfl
  case layout => exact atOnce_done rfl rfl fun _ _ => rfl
  case compare => exact atOnce_done rfl rfl fun _ _ => rfl
  case mqStatus => exact answers_of_row rfl rfl fun _ _ => rfl

end Sys2Proof.Machine

/-! PROOFS. Marquetry's fences (chapter 11 R307): FLUSHCNT of a DMA channel over the end of a descriptor (chapter 18 R503),
the test of a fence, and the flip that a command names. -/
namespace Sys2Proof.Machine

/-! ## What the engine's writes leave of the channels (R503) -/

/-- A write of the HBM window changes no channel. -/
@[simp] theorem State.hbmWrite_chan (s : State) (a : Nat) (bs : List Byte) (k : Nat) :
    (s.hbmWrite a bs).chan k = s.chan k := by
  induction bs generalizing s a with
  | nil => rfl
  | cons b bs ih => exact ih (s.hbmPut a b) (a + 1)

/-- A write of the engine, into whichever memory, changes no channel. -/
@[simp] theorem State.dmaPut_chan (s : State) (ch a : Nat) (bs : List Byte) (k : Nat) :
    (s.dmaPut ch a bs).chan k = s.chan k := by
  unfold State.dmaPut State.dmaWrite
  split
  · rfl
  split
  · exact State.hbmWrite_chan ..
  split <;> rfl

/-- A field of the channels that an update of a channel keeps is that of every channel afterwards. -/
theorem State.chan_updChan_field {α : Type} (g : Chan → α) {f : Chan → Chan} (hf : ∀ c, g (f c) = g c) (s : State)
    (i k : Nat) : g ((s.updChan i f).chan k) = g (s.chan k) := by
  rw [State.updChan_eq]
  by_cases hk : k = i
  · rw [hk, State.chan_setChan, hf]
  · rw [State.chan_setChan_ne s _ hk]

/-- The memory of a channel's completion queue answers at the place of its next entry. -/
def State.queueAnswers (s : State) (ch : Nat) : Prop :=
  s.dmaOk ch ((s.chan ch).cqBase + 16 * ((s.chan ch).cqTail % 2 ^ (s.chan ch).cqSize)) 16 = true

/-- A completion for which the queue's memory answers changes nothing of a channel but its queue's tail and its sequence
number. -/
theorem State.dmaComplete_field {α : Type} (g : Chan → α)
    (hg : ∀ (c : Chan) (tail seq : Nat), g { c with cqTail := tail, seq := seq } = g c) {s : State} {ch : Nat}
    (hok : s.queueAnswers ch) (id status flags done k : Nat) :
    g ((s.dmaComplete ch id status flags done).chan k) = g (s.chan k) := by
  simp only [State.dmaComplete, if_pos (show s.dmaOk ch _ 16 = true from hok)]
  exact (State.chan_updChan_field g (fun c => hg c _ _) _ ch k).trans (congrArg g (s.dmaPut_chan ..))

/-- IRQ of a channel changes no FLUSHCNT. -/
@[simp] theorem State.dmaIrq_flushCnt (s : State) (ch k : Nat) :
    ((s.dmaIrq ch).chan k).flushCnt = (s.chan k).flushCnt := by
  have hirq : ((s.updChan ch (fun c => { c with irq := true })).chan k).flushCnt = (s.chan k).flushCnt :=
    State.chan_updChan_field Chan.flushCnt (fun _ => by rfl) s ch k
  unfold State.dmaIrq
  split <;> exact hirq

/-! ## The end of a descriptor (R503) -/

/-- FLUSHCNT of a channel once its descriptor is complete: FLUSH adds 1 modulo 2^32. -/
def Chan.flushed (c : Chan) : Nat := if bit c.flags 2 then (c.flushCnt + 1) % 4294967296 else c.flushCnt

/-- A channel counts the descriptor in progress and appends its completion. -/
def State.flushAndPost (s : State) (ch : Nat) : State :=
  let c := s.chan ch
  (s.setChan ch { c with flushCnt := c.flushed }).dmaComplete ch (c.le 22 2) 0
    (flag (bit c.flags 2) + 2 * flag (bit c.flags 3)) c.len

/-- A channel leaves the descriptor that it held as `c`: it ends at LAST or goes on to NEXT, with IRQ when the descriptor asks
for it (R503, R505). -/
def State.leaveDescriptor (s : State) (ch : Nat) (c : Chan) : State :=
  let t := s.updChan ch (fun k => { k with
    image := []
    moved := 0
    done := k.done + 1
    cur := if bit c.flags 3 then k.cur else c.le 24 8
    state := if bit c.flags 3 then 0 else if k.pause then 4 else 1 })
  if bit c.flags 4 then t.dmaIrq ch else t

@[simp] theorem State.leaveDescriptor_flushCnt (s : State) (ch : Nat) (c : Chan) (k : Nat) :
    ((s.leaveDescriptor ch c).chan k).flushCnt = (s.chan k).flushCnt := by
  unfold State.leaveDescriptor
  dsimp only
  split
  · exact (State.dmaIrq_flushCnt ..).trans (State.chan_updChan_field Chan.flushCnt (fun _ => by rfl) s ch k)
  · exact State.chan_updChan_field Chan.flushCnt (fun _ => by rfl) s ch k

section Post
variable {s : State} {ch : Nat} (hok : s.queueAnswers ch)
include hok

/-- Counting a descriptor and appending its completion change nothing of the channels but FLUSHCNT, the queue's tail and the
sequence number. -/
theorem State.flushAndPost_field {α : Type} (g : Chan → α)
    (hg : ∀ (c : Chan) (tail seq : Nat), g { c with cqTail := tail, seq := seq } = g c) (k : Nat) :
    g ((s.flushAndPost ch).chan k) =
      g ((s.setChan ch { s.chan ch with flushCnt := (s.chan ch).flushed }).chan k) := by
  refine State.dmaComplete_field g hg ?_ ..
  rw [State.queueAnswers, State.chan_setChan]
  exact hok

theorem State.flushAndPost_state : ((s.flushAndPost ch).chan ch).state = (s.chan ch).state := by
  rw [State.flushAndPost_field hok Chan.state (fun _ _ _ => rfl), State.chan_setChan]

theorem State.flushAndPost_flushCnt : ((s.flushAndPost ch).chan ch).flushCnt = (s.chan ch).flushed := by
  rw [State.flushAndPost_field hok Chan.flushCnt (fun _ _ _ => rfl), State.chan_setChan]

theorem State.flushAndPost_flushCnt_ne {k : Nat} (hk : k ≠ ch) :
    ((s.flushAndPost ch).chan k).flushCnt = (s.chan k).flushCnt := by
  rw [State.flushAndPost_field hok Chan.flushCnt (fun _ _ _ => rfl), State.chan_setChan_ne s _ hk]

/-- DMA_DESCRIPTOR_COMPLETE of a channel that has moved all of its descriptor while it runs, waits or pauses, on a queue that
answers. -/
theorem execDmaDescriptorComplete_moved (hch : ch < 16) (himage : (s.chan ch).image ≠ [])
    (hmoved : (s.chan ch).moved = (s.chan ch).len)
    (hstate : (s.chan ch).state = 1 ∨ (s.chan ch).state = 2 ∨ (s.chan ch).state = 3) :
    execDmaDescriptorComplete ch s = .next ((s.flushAndPost ch).leaveDescriptor ch (s.chan ch)) := by
  have hguard : ¬(16 ≤ ch ∨ (s.chan ch).image.isEmpty ∨ (s.chan ch).moved ≠ (s.chan ch).len ∨ (s.chan ch).state = 0
      ∨ (s.chan ch).state = 4 ∨ (s.chan ch).state = 5) := by
    simp only [List.isEmpty_iff, himage, false_or]
    omega
  have hpost : ((s.flushAndPost ch).chan ch).state ≠ 5 := by
    rw [State.flushAndPost_state hok]
    omega
  exact (if_neg hguard).trans (if_neg hpost)

end Post

/-! ## Fences and flips (R307) -/

/-- A fence value of 32 bits is compared with FLUSHCNT modulo 2^32: adding 2^32 first keeps the difference natural. -/
theorem State.fenceMet_iff (s : State) (ch : Nat) {v : Nat} (hv : v < 4294967296) :
    s.fenceMet ch v = true ↔ ch = 0 ∨ (((s.chan ch).flushCnt : Int) - (v : Int)) % 4294967296 < 2147483648 := by
  simp only [State.fenceMet, Bool.or_eq_true, beq_iff_eq, decide_eq_true_eq]
  omega

/-- The numbers of the model's ranges are those of the library's. -/
theorem range_eq_range' (a n : Nat) : range a n = List.range' a n := by
  induction n generalizing a with
  | zero => rfl
  | succ n ih => rw [range, ih, List.range'_succ]

/-- The member of an MQ_FENCE_GROUP with a number: 3 bytes from byte 24 on. -/
def groupMember (c : Cmd) (i : Nat) : Nat × Nat × Nat := (c.u8 (24 + 3 * i), c.u8 (25 + 3 * i), c.u8 (26 + 3 * i))

theorem flipOf_veneer {c : Cmd} (hop : c.opcode = 0x0802) :
    flipOf c = ⟨[(c.u8 16, c.u8 17, c.u8 18)], c.u8 19, c.u32 20, c.u8 24⟩ := if_pos hop

theorem flipOf_group {c : Cmd} (hop : c.opcode = 0x0803) :
    flipOf c = ⟨(List.range' 0 (c.u8 16)).map (groupMember c), c.u8 17, c.u32 20, c.u8 18⟩ := by
  rw [← range_eq_range']
  exact if_neg (by rw [hop]; decide)

/-- A group names as many members as COUNT says, each by its own 3 bytes. -/
theorem flipOf_group_getElem? {c : Cmd} (hop : c.opcode = 0x0803) {i : Nat} (hi : i < c.u8 16) :
    (flipOf c).members[i]? = some (groupMember c i) := by
  rw [flipOf_group hop, List.getElem?_map, List.getElem?_range' hi, Nat.one_mul, Nat.zero_add]
  rfl

/-- Settles O57: a descriptor's end counts its FLUSH in its own channel, a fence compares modulo 2^32, and the two commands
name their flips by their fields. -/
theorem flushFences : Obligations.FlushFences := by
  refine ⟨?counts, ?fence, ?veneer, ?group⟩
  case counts =>
    intro s ch hch himage hmoved hstate hok
    refine ⟨_, execDmaDescriptorComplete_moved hok hch himage hmoved hstate, ?_, fun k hk => ?_⟩
    · exact (State.leaveDescriptor_flushCnt ..).trans (State.flushAndPost_flushCnt hok)
    · exact (State.leaveDescriptor_flushCnt ..).trans (State.flushAndPost_flushCnt_ne hok hk)
  case fence => exact fun s ch v hv => s.fenceMet_iff ch hv
  case veneer => exact fun c hop => flipOf_veneer hop
  case group =>
    intro c hop
    refine ⟨?_, ?_, ?_, ?_, fun i hi => flipOf_group_getElem? hop hi⟩
    · rw [flipOf_group hop, List.length_map, List.length_range']
    · rw [flipOf_group hop]
    · rw [flipOf_group hop]
    · rw [flipOf_group hop]

end Sys2Proof.Machine

/-! PROOFS. Dovetail (chapter 12, 17 R473): its commands and those of pairing (17 R474), the straps that give a device its index
(R321, R341), the links' bring-up and frames, and the group's exchange and ties. -/
namespace Sys2Proof.Machine
open Sys2Proof.Safety

/-! ## The Dovetail and pairing commands (R322, R325 to R332, R342 to R346, R367 to R371, R473, R474) -/

/-- A row of a command that begins does so as its specification says. -/
theorem begins_of_row {p : CmdSpec} {row : Nat → Cmd → Instr} {E : State → Ctx → State} (hp : p.effect = .later E)
    (hr : ∀ mb c, commandOf (row mb c) = some (mb, c, p)) : Begins p row E :=
  begins_of hp (fun mb c s => exec_command (hr mb c) s) fun _ _ _ _ => rfl

/-- A row of a command that the active does not mirror does what its specification says and answers as that says. -/
theorem atOnce_of_row {p : CmdSpec} {row : Nat → Cmd → Instr} {E : State → Ctx → State} {R : State → Ctx → Rep}
    (hp : p.effect = .atOnce fun s x => (E s x, R s x)) (hm : plain p.opcode = true)
    (hr : ∀ mb c, commandOf (row mb c) = some (mb, c, p)) : AtOnce p row E R :=
  atOnce_of hp hm (fun mb c s => exec_command (hr mb c) s) fun _ _ _ _ => rfl

/-- Settles O7: each row runs its command, whose effect is that of the statement. -/
theorem dovetailAndPairCommandsComplete : Obligations.DovetailAndPairCommandsComplete := by
  refine ⟨?linkUp, ?status, ?group, ?tie, ?config, ?pairStatus, ?mirror, ?switch, ?resync⟩
  case linkUp => exact begins_of_row rfl fun _ _ => rfl
  case status => exact atOnce_of_row rfl rfl fun _ _ => rfl
  case group => exact atOnce_done rfl rfl fun _ _ => rfl
  case tie => exact begins_of_row rfl fun _ _ => rfl
  case config => exact atOnce_done rfl rfl fun _ _ => rfl
  case pairStatus => exact atOnce_of_row rfl rfl fun _ _ => rfl
  case mirror => exact atOnce_done rfl rfl fun _ _ => rfl
  case switch => exact begins_of_row rfl fun _ _ => rfl
  case resync => exact begins_of_row rfl fun _ _ => rfl

/-! ## The straps (R321, R341, R547) -/

/-- What keeps the whole part keeps the straps. -/
theorem State.straps_of_still {s t : State} (h : t.still = s.still) : t.straps = s.straps :=
  congrArg Fixed.straps (congrArg Still.fixed h)

/-- A step that takes no RESET_N_RELEASE from the queue changes no strap. -/
theorem step_straps {s t : State} (h : step s = .next t)
    (hne : ∀ index pid b rest, s.pending ≠ .resetNRelease index pid b :: rest) : t.straps = s.straps := by
  obtain ⟨_, htime⟩ | ⟨i, rest, hfront, hexec⟩ := step_cases h
  · exact State.straps_of_still ((congrArg State.still htime).trans s.advance_still)
  · refine exec_straps i { s with pending := rest } t (fun index pid b hi => ?_) hexec
    exact hne index pid b rest (hi ▸ hfront)

/-- The first byte of page 1 of DEVICE_INFO is the device index. -/
theorem State.byteAt_deviceInfo (s : State) : byteAt (s.deviceInfo 1) 0 = s.straps.groupIdx % 256 :=
  BitVec.toNat_ofNat ..

/-- Settles O47: a step is time passing or the front command, and of all rows RESET_N_RELEASE alone moves the straps. -/
theorem strapsSampledAtRelease : Obligations.StrapsSampledAtRelease := by
  refine ⟨fun s t h hne => step_straps h hne, ?sampled, State.byteAt_deviceInfo⟩
  case sampled =>
    intro s t index pid b hlow h
    obtain ⟨_, hstraps⟩ := execResetNRelease_moves index pid b s t h
    rw [hstraps, hlow, if_neg Bool.false_ne_true]

/-! ## A link's bring-up (R322 to R324) -/

/-- DT_NEGOTIATION_RECORD of a record that R324 does not refuse, in a NEGOTIATE within its limit: training begins. -/
theorem execDtNegotiationRecord_accepted {s : State} {k : Nat} {r : NegRecord} (hk : k < 3)
    (hstate : (s.link k).state = .negotiate) (hstep : s.inStep k = true) (hr : s.negRefusal k r = none) :
    execDtNegotiationRecord k r s = .next ((s.linkGo k .train56).updLink k (fun l => { l with
      partner := r.index
      peer := if l.derives then r.share else [] })) := by
  unfold execDtNegotiationRecord
  rw [if_pos ⟨hk, hstate, hstep⟩, hr]

/-- DT_NEGOTIATION_RECORD of a record that R324 refuses, in a NEGOTIATE within its limit: bring-up fails for that reason. -/
theorem execDtNegotiationRecord_refused {s : State} {k why : Nat} {r : NegRecord} (hk : k < 3)
    (hstate : (s.link k).state = .negotiate) (hstep : s.inStep k = true) (hr : s.negRefusal k r = some why) :
    execDtNegotiationRecord k r s = .next (s.linkFail k why) := by
  unfold execDtNegotiationRecord
  rw [if_pos ⟨hk, hstate, hstep⟩, hr]

/-- DT_TRAINING_RESULT of a training step within its limit in which 30 lanes pass: 112 Gb/s ends bring-up, and so does 56 Gb/s
where no more is asked for or 112 Gb/s has failed (R323). -/
theorem execDtTrainingResult_passed {s : State} {k : Nat} {lanes : List Nat} (hk : k < 3)
    (hstate : (s.link k).state = .train56 ∨ (s.link k).state = .train112) (hstep : s.inStep k = true)
    (hlanes : 30 ≤ (lanes.eraseDups.filter (fun x => decide (x < 32) && !(s.link k).excluded.contains x)).length) :
    execDtTrainingResult k lanes s = .next (
      let l := s.link k
      let ok := lanes.eraseDups.filter (fun x => decide (x < 32) && !l.excluded.contains x)
      let t := (s.adapt (ok.map (fun x => 384 + 32 * k + x)) true).updLink k
        (fun q => { q with active := ok.take 30, spareLanes := ok.drop 30 })
      if l.state = .train112 then t.linkUp k .up112
      else if l.maxRate = 1 ∨ l.retried = true then t.linkUp k .up56
      else t.linkGo k .train112) := by
  refine (if_pos ⟨hk, hstate, hstep, hlanes⟩).trans ?_
  dsimp only
  split
  · rfl
  · split <;> rfl

/-- DT_STEP_TIMEOUT of a step whose limit has passed: 112 Gb/s falls back to 56 Gb/s, any other step fails (R323, R324). -/
theorem execDtStepTimeout_passed {s : State} {k ms : Nat} (hk : k < 3) (hlimit : stepLimit (s.link k).state = some ms)
    (hpassed : s.passed (s.link k).stepStart (tuMs ms) = true) :
    execDtStepTimeout k s = .next (
      if (s.link k).state = .train112 then
        (s.linkGo k .train56).updLink k (fun l => { l with retried := true })
      else s.linkFail k (if (s.link k).state = .negotiate then 1 else 5)) := by
  simp only [execDtStepTimeout, hlimit]
  rw [if_pos ⟨hk, hpassed⟩, apply_ite Host.Outcome.next]

/-! ## Frames and keys of a link that is up (R333 to R339) -/

/-- DT_LINK_FRAME that needs a REVOKED slot: it is dropped and counted (R418). -/
theorem execDtLinkFrame_revoked {s : State} {k : Nat} (f : LinkFrame) (hk : k < 3) (hup : (s.link k).isUp = true)
    (hrevoked : s.linkRevoked k (s.link k).rxSlot = true) :
    execDtLinkFrame k f s = .next (s.dropUnder (s.link k).rxSlot) := by
  unfold execDtLinkFrame
  rw [if_pos ⟨hk, hup⟩, if_pos hrevoked]

/-- DT_LINK_FRAME that passes its checks with the number expected: it is taken, and what it asks for is sent again (R333, R337,
R338). -/
theorem execDtLinkFrame_taken {s : State} {k : Nat} {f : LinkFrame} (hk : k < 3) (hup : (s.link k).isUp = true)
    (hslot : s.linkRevoked k (s.link k).rxSlot = false) (hcrc : f.crcOk = true)
    (hauth : (s.link k).crypt = true → f.authOk = true) (hseq : f.seq = (s.link k).rxSeq) :
    execDtLinkFrame k f s = .next ((s.setLink k { s.link k with
      authFails := 0
      rxSeq := ((s.link k).rxSeq + 1) % 65536
      rxCount := fullCount (s.link k).rxFrames f.low
      rxFrames := fullCount (s.link k).rxFrames f.low + 1 }).resendFrames k f.asks) := by
  have hgood : (f.crcOk && (!(s.link k).crypt || f.authOk) && f.seq == (s.link k).rxSeq) = true := by
    cases hcrypt : (s.link k).crypt with
    | false => simp [hcrc, hseq]
    | true => simp [hcrc, hauth hcrypt, hseq]
  unfold execDtLinkFrame
  rw [if_pos ⟨hk, hup⟩, hslot, if_neg Bool.false_ne_true]
  exact if_pos hgood

/-- DT_LINK_FRAME that fails a check or comes out of order: it is asked for again, and a failed authentication counts (R333,
R338). -/
theorem execDtLinkFrame_discarded {s : State} {k : Nat} {f : LinkFrame} (hk : k < 3) (hup : (s.link k).isUp = true)
    (hslot : s.linkRevoked k (s.link k).rxSlot = false)
    (hbad : f.crcOk = false ∨ ((s.link k).crypt = true ∧ f.authOk = false) ∨ f.seq ≠ (s.link k).rxSeq) :
    execDtLinkFrame k f s = .next ((s.updLink k (fun l => { l with
      authFails := if l.crypt && !f.authOk && f.crcOk then l.authFails + 1 else l.authFails })).askAgain k f) := by
  have hfail : ¬(f.crcOk && (!(s.link k).crypt || f.authOk) && f.seq == (s.link k).rxSeq) = true := by
    rcases hbad with hcrc | ⟨hcrypt, hauth⟩ | hseq
    · simp [hcrc]
    · simp [hcrypt, hauth]
    · simp [hseq]
  unfold execDtLinkFrame
  rw [if_pos ⟨hk, hup⟩, hslot, if_neg Bool.false_ne_true]
  exact if_neg hfail

/-- DT_KEY_RENEWAL of a derived key whose count is about to reach 2^32: the next derived key comes into use (R336). -/
theorem execDtKeyRenewal_derived {s : State} {k : Nat} {receive : Bool} (hk : k < 3) (hup : (s.link k).isUp = true)
    (hcrypt : (s.link k).crypt = true) (hslot : (s.link k).txSlot = 0xFFFF)
    (hcount : 4294967295 ≤ (if receive then (s.link k).rxFrames else (s.link k).txFrames)) :
    execDtKeyRenewal k receive s = .next (
      let l := s.link k
      (s.setLink k (if receive then { l with rxFrames := 0, rxRenewed := l.rxRenewed + 1 }
        else { l with txFrames := 0, txRenewed := l.txRenewed + 1 })).setLinkKey (2 * k + flag receive)
        (l.derivedKey receive ((if receive then l.rxRenewed else l.txRenewed) + 1))) := by
  unfold execDtKeyRenewal
  rw [if_pos ⟨hk, hup, hcrypt⟩, if_pos hslot, if_pos hcount]

/-- DT_KEY_RENEWAL of a loaded key whose count has reached 2^63: bring-up runs again (R337). -/
theorem execDtKeyRenewal_loaded {s : State} {k : Nat} {receive : Bool} (hk : k < 3) (hup : (s.link k).isUp = true)
    (hcrypt : (s.link k).crypt = true) (hslot : (s.link k).txSlot ≠ 0xFFFF)
    (hcount : 9223372036854775808 ≤ (if receive then (s.link k).rxFrames else (s.link k).txFrames)) :
    execDtKeyRenewal k receive s = .next (s.linkBegin k) := by
  unfold execDtKeyRenewal
  rw [if_pos ⟨hk, hup, hcrypt⟩, if_neg hslot, if_pos hcount]

/-- Settles O35, row by row: the condition of each clause is the guard of its row. -/
theorem linkRows : Obligations.LinkRows := by
  refine ⟨?accepted, ?refused, ?training, ?timeout, ?taken, ?discarded, ?revoked, ?authFails, ?sendKey, ?receiveKey,
    ?loadedKey, ?laneFail, ?down⟩
  case accepted => exact fun k r s ⟨hk, hstate, hstep, hr⟩ => execDtNegotiationRecord_accepted hk hstate hstep hr
  case refused => exact fun k r why s ⟨hk, hstate, hstep, hr⟩ => execDtNegotiationRecord_refused hk hstate hstep hr
  case training =>
    exact fun k lanes s ⟨hk, hstate, hstep, hlanes⟩ => execDtTrainingResult_passed hk hstate hstep hlanes
  case timeout => exact fun k ms s ⟨hk, hlimit, hpassed⟩ => execDtStepTimeout_passed hk hlimit hpassed
  case taken =>
    exact fun k f s ⟨hk, hup, hslot, hcrc, hauth, hseq⟩ => execDtLinkFrame_taken hk hup hslot hcrc hauth hseq
  case discarded => exact fun k f s ⟨hk, hup, hslot, hbad⟩ => execDtLinkFrame_discarded hk hup hslot hbad
  case revoked => exact fun k f s ⟨hk, hup, hrevoked⟩ => execDtLinkFrame_revoked f hk hup hrevoked
  case authFails => exact fun k s h => if_pos h
  case sendKey =>
    exact fun k s ⟨hk, hup, hcrypt, hslot, hcount⟩ => execDtKeyRenewal_derived hk hup hcrypt hslot hcount
  case receiveKey =>
    exact fun k s ⟨hk, hup, hcrypt, hslot, hcount⟩ => execDtKeyRenewal_derived hk hup hcrypt hslot hcount
  case loadedKey =>
    exact fun k receive s ⟨hk, hup, hcrypt, hslot, hcount⟩ => execDtKeyRenewal_loaded hk hup hcrypt hslot hcount
  case laneFail => exact fun k n s h => if_pos h
  case down => exact fun k s h => if_pos h

/-! ## Alignment (R327, R365) -/

/-- DT_ALIGN_EXCHANGE on a link that is up: the link takes up what the far end tells of the domain, and on the pairing link the
pair takes up its alignment and departures too (R327, R365, R369). -/
theorem execDtAlignExchange_up {s : State} {k d : Nat} (r : AlignRecord) (hk : k < 3) (hd : d < 8)
    (hup : (s.link k).isUp = true) :
    execDtAlignExchange k d r s = .next (
      let t := s.dom d
      let skew : Int := (t.last : Int) - (s.link k).instantOf r.instant
      let ok := r.timeBase && t.ref.isSome && t.hasTicks && r.rate == t.rate && r.count == t.count
        && decide (skew.natAbs ≤ 1200)
      let u := s.updLink k (fun l => { l with
        aligned := setBit l.aligned d ok
        tbOffset := r.offset
        wanted := r.imports
        sources := l.sources.filter (fun q => q.td != d) ++ r.sources.filter (fun q => q.td == d) })
      if s.pr.link = k ∧ s.pairLink k = true then u.pairExchange d ok r.departs else u) :=
  if_pos ⟨hk, hd, hup⟩

/-! ## Reservations (R226 to R228, R328 to R330) -/

/-- DT_RESERVATION for a tie that is in place goes on with it (R226). -/
theorem execDtReservation_kept {s : State} {k : Nat} {q : TieRequest} {t : Tie} (hk : k < 3)
    (hup : (s.link k).isUp = true) (htd : q.td < 8) (hlink : s.linkTo q.dev = k) (hsrc : (s.localOf q.src).isSome = true)
    (hfind : s.depart.find? (fun t => t.src == q.src && t.td == q.td && t.dev == q.dev) = some t) :
    execDtReservation k q s = .next (s.keepTie q t) := by
  unfold execDtReservation
  rw [if_pos ⟨hk, hup, htd, hlink, hsrc⟩, hfind]

/-- DT_RESERVATION for a tie that is not in place, in a domain that ticks and is aligned and may take the source, with room on a
departure port: it is placed there for the tick asked for or the next that can take it (R226 to R228, R329). -/
theorem execDtReservation_placed {s : State} {k p : Nat} {q : TieRequest} (hk : k < 3)
    (hup : (s.link k).isUp = true) (htd : q.td < 8) (hlink : s.linkTo q.dev = k) (hsrc : (s.localOf q.src).isSome = true)
    (hfind : s.depart.find? (fun t => t.src == q.src && t.td == q.td && t.dev == q.dev) = none)
    (hticks : (s.dom q.td).hasTicks = true) (haligned : s.alignedWith q.dev q.td = true)
    (hclass : (s.classOf q.src).isSome = true) (hdomain : s.otherDomain q.src q.td = false)
    (hrate : s.otherRate q.src q.td = false) (hport : s.departFor k q.src = some p) :
    execDtReservation k q s =
      .next (s.placeTie q p (s.takeTick q.td 256 (max q.tick (s.openTick q.td 0)))) := by
  unfold execDtReservation
  rw [if_pos ⟨hk, hup, htd, hlink, hsrc⟩, hfind]
  have hmay : (!(s.dom q.td).hasTicks || !s.alignedWith q.dev q.td || (s.classOf q.src).isNone
      || s.otherDomain q.src q.td || s.otherRate q.src q.td) = false := by
    rw [hticks, haligned, hdomain, hrate, ← Option.not_isSome, hclass]
    rfl
  rw [hmay, hport]
  rfl

/-- DT_RESERVATION for a tie that is not in place and that the domain or the link cannot take: it is refused (R172, R211, R228,
R328, R329). -/
theorem execDtReservation_refused {s : State} {k : Nat} {q : TieRequest} (hk : k < 3)
    (hup : (s.link k).isUp = true) (htd : q.td < 8) (hlink : s.linkTo q.dev = k) (hsrc : (s.localOf q.src).isSome = true)
    (hfind : s.depart.find? (fun t => t.src == q.src && t.td == q.td && t.dev == q.dev) = none)
    (hcause : (s.dom q.td).hasTicks = false ∨ s.alignedWith q.dev q.td = false ∨ s.classOf q.src = none
      ∨ s.otherDomain q.src q.td = true ∨ s.otherRate q.src q.td = true ∨ s.departFor k q.src = none) :
    execDtReservation k q s = .next (s.sendTie q.dev (.refuse q.src q.td)) := by
  unfold execDtReservation
  rw [if_pos ⟨hk, hup, htd, hlink, hsrc⟩, hfind]
  dsimp only
  split
  · rfl
  · next hmay =>
    have hport : s.departFor k q.src = none := by
      simp only [Bool.or_eq_true, Bool.not_eq_true', Option.isNone_iff_eq_none, not_or] at hmay
      obtain ⟨⟨⟨⟨hticks, haligned⟩, hclass⟩, hdomain⟩, hrate⟩ := hmay
      exact ((((hcause.resolve_left hticks).resolve_left haligned).resolve_left hclass).resolve_left
        hdomain).resolve_left hrate
    rw [hport]

/-! ## Confirmations and lines of ties (R226 to R228, R330, R331) -/

/-- DT_RESERVATION_CONFIRM of a tie that waits for it: the tie has its tick and its arrival port, and the DT_TIE_RESERVE commands
that asked for it complete (R228, R330). -/
theorem execDtReservationConfirm_granted {s : State} {k tick port : Nat} {a : TieAnswer} {t : Tie}
    (ht : s.tie? a.src a.td = some t) (hk : k < 3) (hup : (s.link k).isUp = true) (hlink : s.linkTo t.dev = k)
    (hwait : t.confirmed = false) (hres : a.result = some (tick, port)) :
    execDtReservationConfirm k a s = .next (
      let t' : Tie := { t with
        tick := tick
        port := arrivalBase k + port % 320
        confirmed := true
        align := a.align }
      (s.updTie a.src a.td (fun _ => t')).settleWhere (fun f => f.cmd.opcode == 0x0904 && f.data == [a.src, a.td])
        (tieResult t')) := by
  simp only [execDtReservationConfirm, ht, hres]
  exact if_pos ⟨hk, hup, hlink, hwait⟩

/-- DT_TIE_LINE_RELEASE with the line due arrived whole: it is released, once (R331). -/
theorem execDtTieLineRelease_arrived {s : State} {k src d : Nat} {l : FabLine} {t : Tie} (ht : s.tie? src d = some t)
    (hk : k < 3) (hup : (s.link k).isUp = true) (hlink : s.linkTo t.dev = k) (hconf : t.confirmed = true)
    (hdue : s.tieDue t l.fmt l.hdr = l.hdr) :
    execDtTieLineRelease k src d (some l) s = .next (
      if t.last.map (fun v => v.hdr) = some l.hdr then s else s.updTie src d (fun q => { q with last := some l })) := by
  have hwhole : (some l).filter (fun w => s.tieDue t w.fmt w.hdr == w.hdr) = some l := by simp [hdue]
  simp only [execDtTieLineRelease, ht, hwhole]
  rw [if_pos ⟨hk, hup, hlink, hconf⟩, apply_ite Host.Outcome.next]

/-- DT_TIE_LINE_RELEASE without the line due: the line last released stands in for it, counted, unless it is itself the line due
(R331). -/
theorem execDtTieLineRelease_missing {s : State} {k src d : Nat} {w : Option FabLine} {t : Tie} {l : FabLine}
    (ht : s.tie? src d = some t) (hk : k < 3) (hup : (s.link k).isUp = true) (hlink : s.linkTo t.dev = k)
    (hconf : t.confirmed = true) (hmissing : w.filter (fun v => s.tieDue t v.fmt v.hdr == v.hdr) = none)
    (hlast : t.last = some l) :
    execDtTieLineRelease k src d w s = .next (
      let h := s.tieDue t l.fmt l.hdr
      if h = l.hdr then s
      else (s.updTie src d (fun q => { q with last := some { l with hdr := h, anc := [] } })).updLink k
        (fun q => { q with held := satAdd 65535 q.held 1 })) := by
  simp only [execDtTieLineRelease, ht, hmissing, hlast]
  rw [if_pos ⟨hk, hup, hlink, hconf⟩, apply_ite Host.Outcome.next]

/-- Settles O36, row by row: the condition of each clause is the guard of its row. -/
theorem tieRows : Obligations.TieRows := by
  refine ⟨?stamp, ?groupAlign, ?pairAlign, ?placed, ?refused, ?kept, ?confirm, ?release, ?arrived, ?again, ?none, ?late⟩
  case stamp => exact fun k i s h => if_pos h
  case groupAlign =>
    exact fun k d r s ⟨hk, hd, hup, hgroup⟩ =>
      (execDtAlignExchange_up r hk hd hup).trans (congrArg Host.Outcome.next (if_neg hgroup))
  case pairAlign =>
    exact fun k d r s ⟨hk, hd, hup, hpair⟩ =>
      (execDtAlignExchange_up r hk hd hup).trans (congrArg Host.Outcome.next (if_pos hpair))
  case placed =>
    exact fun k q p s ⟨hk, hup, htd, hlink, hsrc, hfind, hticks, haligned, hclass, hdomain, hrate, hport⟩ =>
      execDtReservation_placed hk hup htd hlink hsrc hfind hticks haligned hclass hdomain hrate hport
  case refused =>
    exact fun k q s ⟨hk, hup, htd, hlink, hsrc, hfind, hcause⟩ =>
      execDtReservation_refused hk hup htd hlink hsrc hfind hcause
  case kept =>
    exact fun k q t s ⟨hk, hup, htd, hlink, hsrc, hfind⟩ => execDtReservation_kept hk hup htd hlink hsrc hfind
  case confirm =>
    exact fun k a t tick port s ⟨ht, hk, hup, hlink, hwait, hres⟩ =>
      execDtReservationConfirm_granted ht hk hup hlink hwait hres
  case release => exact fun k src d n s h => if_pos h
  case arrived =>
    exact fun k src d l t s ⟨ht, hk, hup, hlink, hconf, hdue, hnew⟩ =>
      (execDtTieLineRelease_arrived ht hk hup hlink hconf hdue).trans (congrArg Host.Outcome.next (if_neg hnew))
  case again =>
    exact fun k src d t l s ⟨ht, hk, hup, hlink, hconf, hdue, hsame⟩ =>
      (execDtTieLineRelease_arrived ht hk hup hlink hconf hdue).trans (congrArg Host.Outcome.next (if_pos hsame))
  case none =>
    exact fun k src d t l s ⟨ht, hk, hup, hlink, hconf, hlast⟩ =>
      execDtTieLineRelease_missing ht hk hup hlink hconf rfl hlast
  case late =>
    intro k src d t w l s ⟨ht, hk, hup, hlink, hconf, hearly, hlast⟩
    exact execDtTieLineRelease_missing ht hk hup hlink hconf (by simp [hearly]) hlast

end Sys2Proof.Machine

/-! PROOFS. The pair and the mirror (chapter 13): heartbeats, what is lost, the clamp's grant, and what passes between the active
and the standby. -/
namespace Sys2Proof.Machine

/-! ## Heartbeats and their loss (R344 to R350) -/

/-- HEARTBEAT_SEND before any heartbeat was sent: it is due at once, and no period lies behind it to count in MISSED (R344, R345). -/
theorem execHeartbeatSend_first {s : State} (hon : s.pr.state ≠ .off) (hfirst : s.pr.lastBeat = none) :
    execHeartbeatSend s = .next (
      let t : State := { s with pr := { s.pr with
        seq := (s.pr.seq + 1) % 4294967296
        lastBeat := some s.clk } }
      t.sendBeat (t.beat 1)) := by
  have hdue : (decide (s.pr.state ≠ .off) && true) = true := by simpa using hon
  simp only [execHeartbeatSend, hfirst, if_pos hdue, Option.isSome_none, Bool.false_and, Bool.false_eq_true, if_false]

/-- PAIRING_PATH_LOST of a path in use that is silent while the other delivers, with source 128 not yet driven (R347). -/
theorem execPairingPathLost_silent {s : State} {path : PairPath} (hon : s.pr.state ≠ .off)
    (hpath : path = .dowel ∨ s.pr.link < 3)
    (hmine : s.silent (if path = .dowel then s.pr.heardDowel else s.pr.heardLink) = true)
    (hother : s.heardNow (if path = .dowel then s.pr.heardLink else s.pr.heardDowel) = true)
    (hnew : (s.fault 128).persists = false) :
    execPairingPathLost path s =
      .next ((s.pairEvent 1 s.pr.state.code s.pr.state.code []).level 128 true 0xFFFF) :=
  if_pos (by simp [hon, hpath, hmine, hother, hnew])

/-- PARTNER_LOST when both paths are silent for the first time (R341, R348, R350). -/
theorem execPartnerLost_silent {s : State} (hon : s.pr.state ≠ .off) (hdowel : s.silent s.pr.heardDowel = true)
    (hlink : s.silent s.pr.heardLink = true) (hnew : s.pr.partnerLost = false) :
    execPartnerLost s = .next ((State.level { s with pr := { s.pr with partnerLost := true, conflict := false } } 130 false
      0xFFFF).lostMove 0) :=
  if_pos (by simp [hon, hdowel, hlink, hnew])

/-- PEER_NOT_ALIVE after ten high samples, on a device that is not ACTIVE: the partner is not alive (R349, R350). -/
theorem execPeerNotAlive_ten {s : State} {n : Nat} (hten : 10 ≤ n) (halive : s.pins.peerNotAlive = false)
    (hreset : s.pins.resetN = true) (hstate : s.pr.state ≠ .active) :
    execPeerNotAlive n s = .next (State.lostMove { s with pins := { s.pins with peerNotAlive := true } } 1) := by
  have hsome : n ≠ 0 := by omega
  have htaken : ¬(n < 10 ∨ s.pins.peerNotAlive ∨ !s.pins.resetN) := by simp [hten, halive, hreset]
  unfold execPeerNotAlive
  rw [if_neg hsome, if_neg htaken]
  exact congrArg Host.Outcome.next (if_neg hstate)

/-! ## The clamp's grant (R355, R356) -/

/-- CLAMP_GNT_STABLE of a grant that is new to a device in a pair: it is told at once, and the roles may be held (R344, R355). -/
theorem execClampGntStable_new {s : State} (hreset : s.pins.resetN = true) (hon : s.pr.state ≠ .off)
    (hnew : s.pins.clampGnt = false) :
    execClampGntStable s =
      .next (State.eventBeat { s with pins := { s.pins with clampGnt := true } }).tryHold := by
  simp only [execClampGntStable, hreset, hnew, if_neg hon, Bool.not_true, Bool.false_eq_true, if_false]

/-- CLAMP_GNT_DEASSERT on a device in a pair: every arbitrated role is dropped, and the partner told (R344, R356). -/
theorem execClampGntDeassert_granted {s : State} (hgrant : s.pins.clampGnt = true) (hon : s.pr.state ≠ .off) :
    execClampGntDeassert s =
      .next (State.dropRoles { s with pins := { s.pins with clampGnt := false } }).eventBeat :=
  (if_pos hgrant).trans (congrArg Host.Outcome.next (if_neg hon))

/-! ## The mirror (R361 to R366, R371) -/

/-- MIRROR_RECEIVE over the pairing link, on a device that follows its partner, or of a read-out's choice on a standby that froze
(R361 to R364, R393). -/
theorem execMirrorReceive_applied {s : State} {i : MirrorItem}
    (hfollows : (s.pr.state = .standby ∨ s.pr.state = .joining) ∨ (s.pr.followed = true ∧ isChoice i = true))
    (hup : s.pairUp = true) : execMirrorReceive i s = .next (s.applyItem i) :=
  if_pos (by simpa only [Bool.and_eq_true, Bool.or_eq_true, decide_eq_true_eq] using ⟨hfollows, hup⟩)

/-- A domain waits for an acknowledgement when the mirror of its fabric bank or of its Bramble bank does. -/
theorem Domain.ackSince_isSome_iff (k : Domain) :
    k.ackSince.isSome = true ↔ k.waitAck.isSome = true ∨ k.auWait.isSome = true := by
  simp only [Domain.ackSince, Option.orElse_eq_orElse, Option.orElse_eq_or, Option.isSome_or, Bool.or_eq_true]

/-- MIRROR_ACK of the bank that is awaited (R363). -/
theorem execMirrorAck_awaited {s : State} {d n : Nat}
    (hwait : (s.dom d).waitAck.isSome = true ∨ (s.dom d).auWait.isSome = true) (htick : (s.dom d).bankTick = n) :
    execMirrorAck d n s = .next (s.bankAcked d) :=
  if_pos ⟨(s.dom d).ackSince_isSome_iff.mpr hwait, htick⟩

/-- MIRROR_ACK_TIMEOUT 200 us after the mirror of a bank was sent: the bank is ready, the standby out of step (R363). -/
theorem execMirrorAckTimeout_late {s : State} {d t : Nat} (hstate : s.pr.state ≠ .standby)
    (hsince : (s.dom d).ackSince = some t) (hpast : s.passed t (tuUs 200) = true) :
    execMirrorAckTimeout d s = .next ((s.bankAcked d).level 129 true 0xFFFF) := by
  simp only [execMirrorAckTimeout, if_neg hstate, hsince, if_pos hpast]

/-- MIRROR_TB_OFFSET for a configured base whose source is HOST, on a device that follows its partner (R361). -/
theorem execMirrorTbOffset_host {s : State} {b : Nat} (k : Nat) (theta : Int)
    (hstate : s.pr.state = .standby ∨ s.pr.state = .joining) (hup : s.pairUp = true) (hb : b < 8)
    (hconf : (s.base b).configured = true) (hhost : (s.base b).source = none) :
    execMirrorTbOffset b k theta s = .next (s.offset b k theta).1 :=
  if_pos (by simp [hstate, hup, hb, hconf, hhost])

/-- JOIN_COMPLETE with the snapshot asked for, the pairing link up and every paired domain aligned (R365, R366, R371). -/
theorem execJoinComplete_aligned {s : State} (hstate : s.pr.state = .joining) (hsnap : s.pr.snapReq = true)
    (hup : s.pairUp = true) (haligned : s.pairAligned = true) :
    execJoinComplete s = .next ((s.pairEnter .standby).completeAll 0x0A05 (repDone [])) :=
  if_pos (by simp [hstate, hsnap, hup, haligned])

/-- Settles O37, row by row: the condition of each clause is the guard of its row. -/
theorem pairAndMirrorRows : Obligations.PairAndMirrorRows := by
  refine ⟨?send, ?hear, ?dowelLost, ?linkLost, ?partnerLost, ?notAlive, ?alive, ?granted, ?grantLost, ?follow, ?choice, ?ack,
    ?ackLate, ?outOfStep, ?offset, ?diverge, ?joined, ?snapshot⟩
  case send => exact fun s ⟨hon, hfirst⟩ => execHeartbeatSend_first hon hfirst
  case hear => exact fun p bs s h => if_pos h
  case dowelLost =>
    exact fun s ⟨hon, hmine, hother, hnew⟩ => execPairingPathLost_silent hon (.inl rfl) hmine hother hnew
  case linkLost =>
    exact fun s ⟨hon, hlink, hmine, hother, hnew⟩ => execPairingPathLost_silent hon (.inr hlink) hmine hother hnew
  case partnerLost => exact fun s ⟨hon, hdowel, hlink, hnew⟩ => execPartnerLost_silent hon hdowel hlink hnew
  case notAlive => exact fun n s ⟨hten, halive, hreset, hstate⟩ => execPeerNotAlive_ten hten halive hreset hstate
  case alive => exact fun s _ => rfl
  case granted => exact fun s ⟨hreset, hon, hnew⟩ => execClampGntStable_new hreset hon hnew
  case grantLost => exact fun s ⟨hgrant, hon⟩ => execClampGntDeassert_granted hgrant hon
  case follow => exact fun i s ⟨hstate, hup⟩ => execMirrorReceive_applied (.inl hstate) hup
  case choice => exact fun i s ⟨hfollowed, hchoice, hup⟩ => execMirrorReceive_applied (.inr ⟨hfollowed, hchoice⟩) hup
  case ack => exact fun d n s ⟨hwait, htick⟩ => execMirrorAck_awaited hwait htick
  case ackLate => exact fun d t s ⟨hstate, hsince, hpast⟩ => execMirrorAckTimeout_late hstate hsince hpast
  case outOfStep => exact fun d s h => if_pos h
  case offset =>
    exact fun b k theta s ⟨hstate, hup, hb, hconf, hhost⟩ => execMirrorTbOffset_host k theta hstate hup hb hconf hhost
  case diverge => exact fun m s h => if_pos h
  case joined => exact fun s ⟨hstate, hsnap, hup, haligned⟩ => execJoinComplete_aligned hstate hsnap hup haligned
  case snapshot => exact fun s h => if_pos h

end Sys2Proof.Machine
/-! PROOFS. What every step keeps and how the fixed part may move: the queue, the boot epoch, the invariant `Sound`, the frame
of every row, refused commands, and the locks that start-up sets (15 R405, 17 R447, 18 R491, 21 R579 to R582). -/
namespace Sys2Proof.Machine

open Sys2Proof.Safety

/-! ## One step and the queue -/

/-- Settles O39: a nonempty queue is a case of the step. -/
theorem stepRunsFrontCommand : Obligations.StepRunsFrontCommand := by
  intro c rest s h
  simp only [step, h]

/-- A row leaves the rest of the queue as it is. -/
theorem exec_pending {i : Instr} {s t : State} (h : exec i s = .next t) : t.pending = s.pending := (exec_moves i s t h).pending

/-- Settles O41: an idle step leaves the empty queue empty, and a row leaves the queue that its command was taken from. -/
theorem stepTakesOneCommand : Obligations.StepTakesOneCommand := by
  intro s t h
  obtain ⟨hidle, hpassed⟩ | ⟨c, rest, hfront, hrow⟩ := step_cases h
  · obtain ⟨⟨hpending, -⟩, -⟩ := s.advance_fields
    rw [hpassed, hpending, hidle, List.tail_nil]
  · rw [exec_pending hrow, hfront, List.tail_cons]

/-! ## The boot epoch (R405) -/

/-- What a step may do to the fuses `f` and the bits `b` that wait to be burned. -/
structure EpochMoves (f g : Fuses) (b c : Option (List Bool)) : Prop where
  rises : f.epoch ≤ g.epoch
  bound : g.epoch ≤ max 4096 f.epoch
  one : g.epoch ≤ f.epoch + 1
  others : g = { f with epoch := g.epoch }
  idle : b = none → g = f
  spent : g ≠ f → c = none

/-- Fuses that stay have moved in no way. -/
theorem EpochMoves.refl (f : Fuses) (b c : Option (List Bool)) : EpochMoves f f b c :=
  ⟨Nat.le_refl _, Nat.le_max_right _ _, Nat.le_succ _, rfl, fun _ => rfl, fun h => absurd rfl h⟩

/-- A row moves the fuses by the burn of the bit that waits, or not at all. -/
theorem exec_epoch {i : Instr} {s t : State} (h : exec i s = .next t) :
    EpochMoves s.fuses t.fuses s.startup.burns t.startup.burns := by
  by_cases hpower : ∃ l, i = .powerOnReset l
  · obtain ⟨l, rfl⟩ := hpower
    obtain ⟨-, -, hkept⟩ := execPowerOnReset_moved l s t h
    rw [hkept]
    exact .refl ..
  · obtain ⟨hkept, -⟩ | ⟨hwaits, hspent, hothers, hrises, hone, hbound⟩ := exec_burned i s t (fun l e => hpower ⟨l, e⟩) h
    · rw [show t.fuses = s.fuses from hkept]
      exact .refl ..
    · exact ⟨hrises, hbound, hone, hothers, fun hnone => absurd hnone hwaits, fun _ => hspent⟩

/-- A step moves the fuses as its row does, and time that passes moves none. -/
theorem step_epoch {s t : State} (h : step s = .next t) :
    EpochMoves s.fuses t.fuses s.startup.burns t.startup.burns := by
  obtain ⟨-, hpassed⟩ | ⟨c, rest, -, hrow⟩ := step_cases h
  · obtain ⟨⟨-, hfuses, -, -⟩, -⟩ := s.advance_fields
    rw [hpassed, hfuses]
    exact .refl ..
  · exact exec_epoch (s := { s with pending := rest }) hrow

/-- No step but a power-on's leaves a bit to burn. -/
theorem step_burns {s t : State} (h : step s = .next t) (hi : ∀ burns rest, s.pending ≠ .powerOnReset burns :: rest) :
    t.startup.burns = s.startup.burns ∨ t.startup.burns = none := by
  obtain ⟨-, hpassed⟩ | ⟨c, rest, hfront, hrow⟩ := step_cases h
  · obtain ⟨⟨-, -, -, hstart⟩, -⟩ := s.advance_fields
    rw [hpassed, hstart]
    exact .inl rfl
  · exact (exec_burned c _ t (fun l e => hi l rest (e ▸ hfront)) hrow).waits

/-- Settles O46: the fuses move only by the burn of a waiting bit, and only a power-on lets one wait. -/
theorem epochOnlyRises : Obligations.EpochOnlyRises := by
  intro s t h
  obtain ⟨hrises, hbound, hone, hothers, hidle, hspent⟩ := step_epoch h
  exact ⟨hrises, fun hle => Nat.le_trans hbound (Nat.max_le.2 ⟨Nat.le_refl _, hle⟩), hothers, hidle, step_burns h, hspent,
    hone⟩

/-! ## The invariant of the block -/

/-- Soundness is said of the fixed part and of the memories. -/
theorem sound_iff {s : State} : Sound s ↔ StartOk s.startup ∧ s.fuses.epoch ≤ 4096 ∧ MemOk s.still := Iff.rfl

/-- A row keeps the invariant. -/
theorem exec_sound {i : Instr} {s t : State} (hs : Sound s) (h : exec i s = .next t) : Sound t := by
  obtain ⟨hstart, hepoch, hmem⟩ := sound_iff.1 hs
  have hmoves := exec_moves i s t h
  have hbound : t.fuses.epoch ≤ max 4096 s.fuses.epoch := hmoves.bound
  exact sound_iff.2 ⟨hmoves.startOk hstart, by omega, (exec_mem i s t h).keeps hmem⟩

/-- Settles O49: time that passes touches nothing that the invariant speaks of, and every row keeps it. -/
theorem stepKeepsSound : Obligations.StepKeepsSound := by
  intro s t hs h
  obtain ⟨-, hpassed⟩ | ⟨c, rest, -, hrow⟩ := step_cases h
  · obtain ⟨hstart, hepoch, hmem⟩ := sound_iff.1 hs
    obtain ⟨⟨-, hfuses, -, hstartup⟩, -⟩ := s.advance_fields
    rw [hpassed, sound_iff, hstartup, hfuses]
    exact ⟨hstart, hepoch, (KeepsMem.of_eq s.advance_still).keeps hmem⟩
  · exact exec_sound (s := { s with pending := rest }) hs hrow

/-- Settles O50: start-up is at its first step, 15 bits are blown, and the memories are empty. -/
theorem resetIsSound : Obligations.ResetIsSound := by
  refine sound_iff.2 ⟨?start, ?epoch, ?memories⟩
  case start => exact ⟨by decide, by decide, by decide⟩
  case epoch => decide
  case memories => exact ⟨rfl, rfl, rfl, rfl⟩

/-! ## The frame of every row -/

/-- Settles O45: the fields of what a row of each reach keeps. -/
theorem rowsKeepWhatTheyDoNotReach : Obligations.RowsKeepWhatTheyDoNotReach := by
  refine ⟨fun i s t hi h => ?control, fun i s t hi h => ?memory⟩
  case control =>
    obtain ⟨⟨hpending, hfuses, hstraps, hstartup⟩, hhost, hhbm, hhbm2, hsram, -⟩ := State.still_fields (exec_still hi s t h)
    exact ⟨hpending, hfuses, hstraps, hstartup, hhost, hhbm, hhbm2, hsram⟩
  case memory => exact State.fixed_fields (exec_fixed hi s t h)

/-! ## Commands refused (R447) -/

/-- Settles O42: a refused command enters and completes, which is all in Balix's work in flight. -/
theorem refusedCommandsComplete : Obligations.RefusedCommandsComplete := by
  intro i mb c p s r hi hf hj
  refine ⟨_, ?_, rfl, entered_settle_frame p mb c s s.newId r⟩
  rw [exec_command hi, runCommand_refused hf hj]

/-! ## The locks that start-up sets (R491, R579, R582) -/

/-- IMAGE_ACCEPT of an image that nothing refuses: it is measured, and MAP_SWAP is set (R579). -/
theorem execImageAccept_accepted {s : State} {img : Image} (hstage : s.startup.stage = 5) (hrun : s.startup.stopped = false)
    (hok : s.imageStop img = none) :
    execImageAccept img s = .next { s with
      startup := { s.startup with stage := 6, mBalix := sha384 s.bootImage, mapSwap := true }
      glb := { s.glb with balixVer := img.version }
      bx := { s.bx with digest := if s.startup.ccOnly then s.bx.digest else sha384 s.bootImage } } := by
  simp only [execImageAccept, hstage, hrun, hok, Bool.not_false, and_self, if_true]

/-- What follows READY's mark leaves start-up as the mark left it. -/
theorem State.readyUp_kept {s t : State} (h : t.still = s.readyUp.still) :
    t.startup.bootLock = true ∧ t.startup.stage = 7 := by
  obtain ⟨⟨-, -, -, hstartup⟩, -⟩ := State.still_fields h
  rw [hstartup]
  exact ⟨rfl, rfl⟩

/-- READY sets BOOT_LOCK with STAGE 7, or leaves READY as it was: it is not due, or HBM holds start-up (R581, R582). -/
theorem execReady_locks {s t : State} {hbm : List Bool} (h : execReady hbm s = .next t) :
    t.startup.ready = s.startup.ready ∨ t.startup.bootLock = true ∧ t.startup.stage = 7 := by
  unfold execReady at h
  split at h
  next => exact .inl (Host.Outcome.next.inj h ▸ rfl)
  next =>
    split at h
    next =>
      cases h
      exact .inr (State.readyUp_kept ((State.clusterSources_still _).trans (State.thaw_still _)))
    next =>
      split at h
      next => exact .inl (Host.Outcome.next.inj h ▸ rfl)
      next =>
        cases h
        exact .inr (State.readyUp_kept ((State.clusterSources_still _).trans (State.refreshClamp_still _)))

/-- Settles O53: the accepted image sets MAP_SWAP in the step that takes it, and nothing but READY's mark makes the device
READY. -/
theorem startUpSetsItsLocks : Obligations.StartUpSetsItsLocks := by
  refine ⟨fun s t img hstage hrun hok h => ?image, fun s t hbm h hwas his => ?ready⟩
  case image =>
    cases (execImageAccept_accepted hstage hrun hok).symm.trans h
    exact ⟨rfl, rfl⟩
  case ready =>
    exact (execReady_locks h).resolve_left fun hsame => by
      rw [his, hwas] at hsame
      cases hsame

end Sys2Proof.Machine
/-! PROOFS. Faults, keys and the Grain log (chapters 14 to 16): their commands, the rows of error lines and of the control
clusters, and how records enter the chain. -/
namespace Sys2Proof.Machine

open Sys2Proof.Safety

/-! ## The fault commands (R378 to R391, R396, R397, R475) -/

/-- Settles O8: each row runs its command, whose effect is that of the statement. -/
theorem faultCommandsComplete : Obligations.FaultCommandsComplete := by
  refine ⟨?read, ?ack, ?map, ?inject, ?test⟩
  case read => exact answers_of_row rfl rfl fun _ _ => rfl
  case ack => exact atOnce_of_row rfl rfl fun _ _ => rfl
  case map => exact atOnce_done rfl rfl fun _ _ => rfl
  case inject => exact atOnce_done rfl rfl fun _ _ => rfl
  case test => exact begins_of_row rfl fun _ _ => rfl

/-! ## Error lines, clusters and timeouts (R85, R379, R380, R391, R392, R496, R497) -/

/-- FAULT_LATCH of a line that rises: its source fires, and the tag of the slot that source 177 names fails (R379, R408). -/
theorem execFaultLatch_rise {s : State} {n : Nat} {l : FaultLine} (hrise : l.rise = true) :
    execFaultLatch n l s = .next (
      let t := s.fire n l.syndrome l.address l.subject
      if n = 177 then t.tagFails l.subject else t) := if_pos hrise

/-- FAULT_LATCH of a line that falls ends the cause of its source (R380). -/
theorem execFaultLatch_fall {s : State} {n : Nat} {l : FaultLine} (hfall : l.rise = false) :
    execFaultLatch n l s = .next (s.fall n) := if_neg (by rw [hfall]; decide)

/-- INJECTED_HOLD_EXPIRY once the hold has run out (R391). -/
theorem execInjectedHoldExpiry_past {s : State} {n t : Nat} (hhold : (s.fault n).holdEnd = some t) (hpast : t ≤ s.clk) :
    execInjectedHoldExpiry n s = .next (s.updFault n (fun f => { f with holdEnd := none })) := by
  simp only [execInjectedHoldExpiry, hhold, if_pos hpast]

/-- CC_FAILURE of CC0 in control with CC1 good: its port closes, and control is lost until CC1 takes over (R392, R497). -/
theorem execCcFailure_first {s : State} (hready : s.startup.ready = true) (hcc0 : s.boot.cc0Failed = false)
    (hcc1 : s.boot.cc1Failed = false) (hcontrol : s.boot.cc1 = false) :
    execCcFailure 0 s = .next (State.level { s with
      boot := { s.boot with cc0Failed := true, ccFailAt := some s.clk }
      ic := { s.ic with cc0Closed := true } } 0 true 0xFFFF) := by
  simp [execCcFailure, hready, hcc0, hcc1, hcontrol]

/-- CC_FAILURE of CC1 with CC0 failed before: control is lost for good (R392). -/
theorem execCcFailure_last {s : State} (hready : s.startup.ready = true) (hcc0 : s.boot.cc0Failed = true)
    (hcc1 : s.boot.cc1Failed = false) :
    execCcFailure 1 s = .next ((State.level { s with
      boot := { s.boot with cc1Failed := true }
      ic := { s.ic with cc1Closed := true } } 1 true 0xFFFF).level 2 true 0xFFFF) := by
  simp [execCcFailure, hready, hcc0, hcc1]

/-- Settles O31, row by row: the condition of each clause is the guard of its row. -/
theorem faultRows : Obligations.FaultRows := by
  refine ⟨?rise, ?tag, ?fall, ?hold, ?first, ?last, ?takeover, ?timeout⟩
  case rise =>
    exact fun n l s ⟨hrise, hn⟩ => (execFaultLatch_rise hrise).trans (congrArg Host.Outcome.next (if_neg hn))
  case tag => exact fun l s hrise => (execFaultLatch_rise hrise).trans (congrArg Host.Outcome.next (if_pos rfl))
  case fall => exact fun n l s hfall => execFaultLatch_fall hfall
  case hold => exact fun n t s ⟨hhold, hpast⟩ => execInjectedHoldExpiry_past hhold hpast
  case first => exact fun s ⟨hready, hcc0, hcc1, hcontrol⟩ => execCcFailure_first hready hcc0 hcc1 hcontrol
  case last => exact fun s ⟨hready, hcc0, hcc1⟩ => execCcFailure_last hready hcc0 hcc1
  case takeover => exact fun s h => if_pos h
  case timeout => exact fun m w sp a s _ => rfl

/-! ## The key and Grain commands (R410 to R425, R433, R440, R441, R446, R476, R477) -/

/-- A command that answers into a host buffer writes the bytes or spoils the buffer, and completes as the buffer answers
(R450). -/
theorem atOnce_answer {p : CmdSpec} {row : Nat → Cmd → Instr} {A : Ctx → Nat} {B : State → Ctx → List Byte}
    {R : State → Ctx → Rep} (hp : p.effect = .atOnce fun s x => s.answer (A x) (B s x) (R s x))
    (hm : plain p.opcode = true) (hr : ∀ mb c, commandOf (row mb c) = some (mb, c, p)) :
    AtOnce p row (fun t x => (t.answer (A x) (B t x) (repDone [])).1)
      (fun t x => if t.hostOk (A x) (B t x).length then R t x else repAborted 3) :=
  atOnce_of hp hm (fun mb c s => exec_command (hr mb c) s) fun _ _ _ _ => by simp only [State.answer_eq]

/-- A choice of HOST_HEAD leaves the chain and its fill as they are (R477). -/
theorem grainStatus_completes :
    AtOnce cmdGrainStatus .grainStatus
      (fun t x => if bit (x.cmd.u8 20) 0 then { t with gr := { t.gr with hostHead := x.cmd.u32 16 } } else t)
      (fun t x =>
        let u : State := if bit (x.cmd.u8 20) 0 then { t with gr := { t.gr with hostHead := x.cmd.u32 16 } } else t
        repDone (leBytes 8 t.gr.count ++ leBytes 4 t.gr.fill ++ leBytes 2 u.witnessed.length ++ leBytes 1 u.grainBits)) :=
  atOnce_of rfl rfl (fun _ _ s => exec_command rfl s) fun mb c s _ => by
    generalize acting cmdGrainStatus mb c s = t
    generalize context cmdGrainStatus mb c s = x
    dsimp only
    cases bit (x.cmd.u8 20) 0 with
    | true => rfl
    | false => rfl

/-- Settles O9: each row runs its command, whose effect is that of the statement. -/
theorem keyAndGrainCommandsComplete : Obligations.KeyAndGrainCommandsComplete := by
  refine ⟨?invalidate, ?info, ?attest, ?certificate, ?config, ?witness, grainStatus_completes⟩
  case invalidate => exact begins_of_row rfl fun _ _ => rfl
  case info => exact atOnce_of_row rfl rfl fun _ _ => rfl
  case attest => exact atOnce_answer rfl rfl fun _ _ => rfl
  case certificate => exact atOnce_answer rfl rfl fun _ _ => rfl
  case config => exact atOnce_done rfl rfl fun _ _ => rfl
  case witness => exact atOnce_done rfl rfl fun _ _ => rfl

/-! ## Records and seals (R427, R430, R436) -/

/-- GRAIN_FORWARD_RECEIVE on a signer whose log runs and has room: the record enters with FLAGS bit 2 set and is acknowledged
(R427). -/
theorem execGrainForwardReceive_room {s : State} {r : GrainRec} (hup : s.pairUp = true) (hon : s.pr.state ≠ .off)
    (hsigner : s.signer = true) (hstarted : s.gr.started = true) (hrun : s.gr.stopped = false)
    (hflag : bit r.flags 2 = false) (hroom : s.gr.fill + recLen r ≤ grainRing) :
    execGrainForwardReceive r s = .next (
      let t := s.chainNext { r with flags := r.flags + 4, flight := none }
      State.sendFrame { t with gr := { t.gr with acks := t.gr.acks + 1 } } t.pr.link .recordAck) := by
  have hlen : recLen { r with flags := r.flags + 4, flight := none } = recLen r := rfl
  simp [execGrainForwardReceive, hup, hon, hsigner, hstarted, hrun, hflag, hlen, hroom]

/-- GRAIN_FORWARD_ACK of the oldest record forwarded (R427). -/
theorem execGrainForwardAck_oldest {s : State} {r : GrainRec} {rest : List GrainRec} (hsent : s.gr.unchained = r :: rest)
    (hup : s.pairUp = true) (hsigner : s.signer = false) (hstarted : s.gr.started = true) :
    execGrainForwardAck s = .next (
      let t : State := { s with gr := { s.gr with unchained := rest } }
      (t.setFill (t.gr.fill - recLen r)).released r.flight) := by
  simp [execGrainForwardAck, hsent, hup, hsigner, hstarted]

/-- GRAIN_PERIODIC_SEAL of a seal that is due, on a signer whose log runs (R436). -/
theorem execGrainPeriodicSeal_due {s : State} {i : Nat} {tick : Option (Nat × Nat)} (hdue : s.periodicDue = some (i, tick))
    (hsigner : s.signer = true) (hstarted : s.gr.started = true) (hrun : s.gr.stopped = false) :
    execGrainPeriodicSeal s = .next (
      let t : State := { s with gr := { s.gr with lastPeriodic := some i } }
      match tick with
      | some (d, n) => t.sealAtTick 0 i d n
      | none => t.writeSeal 0 i none) := by
  simp only [execGrainPeriodicSeal, hdue, hsigner, hstarted, hrun, Bool.not_false, Bool.and_self, if_true]
  cases tick <;> rfl

/-- GRAIN_RECORD with records given: the oldest is received (R430). -/
theorem execGrainRecord_oldest {s : State} {r : GrainRec} {rest : List GrainRec} (hin : s.gr.inbox = r :: rest) :
    execGrainRecord s = .next (State.receive { s with gr := { s.gr with inbox := rest } } r) := by
  simp only [execGrainRecord, hin]

/-- Settles O38, row by row: the condition of each clause is the guard of its row. -/
theorem grainRows : Obligations.GrainRows := by
  refine ⟨?record, ?forward, ?ack, ?clock, ?tick⟩
  case record => exact fun r rest s hin => execGrainRecord_oldest hin
  case forward =>
    exact fun r s ⟨hup, hon, hsigner, hstarted, hrun, hflag, hroom⟩ =>
      execGrainForwardReceive_room hup hon hsigner hstarted hrun hflag hroom
  case ack => exact fun r rest s ⟨hsent, hup, hsigner, hstarted⟩ => execGrainForwardAck_oldest hsent hup hsigner hstarted
  case clock => exact fun i s ⟨hdue, hsigner, hstarted, hrun⟩ => execGrainPeriodicSeal_due hdue hsigner hstarted hrun
  case tick => exact fun i d n s ⟨hdue, hsigner, hstarted, hrun⟩ => execGrainPeriodicSeal_due hdue hsigner hstarted hrun

/-! ## The chain (R428, R430) -/

/-- The chain's part of the core: its head, its newest record's COUNT and the bytes staged. -/
theorem State.chain_of_core {s t : State} (h : t.core = s.core) :
    t.gr.head = s.gr.head ∧ t.gr.count = s.gr.count ∧ t.gr.staged = s.gr.staged := by
  simp only [State.core, Prod.mk.injEq] at h
  obtain ⟨-, -, hhead, hcount, hstaged⟩ := h
  exact ⟨hhead, hcount, hstaged⟩

/-- A command that waits no longer for its record touches nothing of the chain. -/
theorem State.released_core (s : State) (id : Option Nat) : (s.released id).core = s.core := by
  cases id <;> rfl

/-- The fill and its source touch nothing of the chain (R439). -/
theorem State.setFill_core (s : State) (n : Nat) : (s.setFill n).core = s.core := State.level_core ..

/-- An item of the mirror touches nothing of the chain (R361). -/
theorem State.mirror_core (s : State) (k : Nat) (i : MirrorItem) : (s.mirror k i).core = s.core := by
  unfold State.mirror
  split
  · exact State.sendFrame_core ..
  · rfl

/-- A record appended after a COUNT and a CHAIN: the head is the SHA-384 of its bytes, which are staged (R428, R430). -/
theorem State.chainAt_chain (s : State) (r : GrainRec) (n : Nat) (h : BitVec 384) :
    (s.chainAt r n h).gr.head = sha384 (recBytes r n h) ∧ (s.chainAt r n h).gr.count = n
      ∧ (s.chainAt r n h).gr.staged = s.gr.staged ++ recBytes r n h :=
  State.chain_of_core
    (s := { s with gr := { s.gr with head := sha384 (recBytes r n h), count := n, staged := s.gr.staged ++ recBytes r n h } })
    ((State.mirror_core ..).trans ((State.released_core ..).trans (State.setFill_core ..)))

/-- A record received by a signer whose log runs and has room enters the chain (R426, R430). -/
theorem State.receive_room {s : State} {r : GrainRec} (hthawed : s.pr.state ≠ .frozen) (hrun : s.gr.stopped = false)
    (hsigner : s.signer = true) (hstarted : s.gr.started = true) (hkept : r.type = 0x30 → s.gr.shedding = false)
    (hroom : s.gr.fill + recLen r ≤ grainRing) : s.receive r = s.chainNext r := by
  have hshed : ¬(r.type = 0x30 ∧ s.gr.shedding = true) := fun ⟨htype, hon⟩ => by simp [hkept htype] at hon
  simp [State.receive, hthawed, hrun, hsigner, hstarted, hshed, Nat.not_lt.2 hroom]

/-! ## The layout of a record (Table Record header) -/

/-- A number takes as many bytes as are written for it. -/
@[simp] theorem length_leBytes (n v : Nat) : (leBytes n v).length = n := by
  induction n generalizing v with
  | zero => rfl
  | succ n ih => rw [leBytes, List.length_cons, ih]

@[simp] theorem length_beBytes (n v : Nat) : (beBytes n v).length = n := by
  rw [beBytes, List.length_reverse, length_leBytes]

/-- The bytes before a place are not read from it on. -/
theorem slice_append_right (a b : List Byte) (i n : Nat) : slice (a ++ b) (a.length + i) n = slice b i n := by
  induction n generalizing i with
  | zero => rfl
  | succ n ih =>
    rw [slice, slice, Nat.add_assoc, ih (i + 1), List.getD_eq_getElem?_getD, List.getD_eq_getElem?_getD,
      List.getElem?_append_right (Nat.le_add_right _ _), Nat.add_sub_cancel_left]

/-- The first bytes are those of what comes first. -/
theorem slice_append_left (a b : List Byte) : slice (a ++ b) 0 a.length = a := by
  induction a with
  | nil => rfl
  | cons x a ih =>
    have hshift : slice (x :: (a ++ b)) (0 + 1) a.length = slice (a ++ b) 0 a.length := by
      simpa [Nat.add_comm] using slice_append_right [x] (a ++ b) 0 a.length
    rw [List.cons_append, List.length_cons, slice, hshift, ih]
    rfl

/-- A field reads back as written: the bytes between those before it and those after it. -/
theorem slice_field {i n : Nat} (a f b : List Byte) (hi : a.length = i) (hn : f.length = n) :
    slice (a ++ (f ++ b)) i n = f := by
  rw [← hi, ← hn]
  exact (slice_append_right a (f ++ b) 0 f.length).trans (slice_append_left f b)

/-- A record is as long as its LENGTH says (R428). -/
theorem length_recBytes (r : GrainRec) (n : Nat) (h : BitVec 384) : (recBytes r n h).length = recLen r := by
  simp only [recBytes, recLen, List.length_append, length_leBytes, length_beBytes]

/-- LENGTH stands in bytes 2 and 3, COUNT in bytes 8 to 15 and CHAIN in bytes 16 to 63 (Table Record header). -/
theorem recBytes_fields (r : GrainRec) (n : Nat) (h : BitVec 384) :
    slice (recBytes r n h) 2 2 = leBytes 2 (recLen r) ∧ slice (recBytes r n h) 8 8 = leBytes 8 n
      ∧ slice (recBytes r n h) 16 48 = beBytes 48 h.toNat := by
  refine ⟨?length, ?count, ?chain⟩
  case length =>
    rw [recBytes]
    simp only [List.append_assoc]
    rw [← List.append_assoc]
    exact slice_field _ _ _ (by simp) (by simp)
  case count =>
    rw [recBytes, List.append_assoc, List.append_assoc]
    exact slice_field _ _ _ (by simp) (by simp)
  case chain =>
    rw [recBytes, List.append_assoc]
    exact slice_field _ _ _ (by simp) (by simp)

/-- A record given to a Grain block that takes it is the newest (R427, R430, R443). -/
theorem State.giveRecord_inbox {s : State} (type inst : Nat) (tick : Option (Nat × Nat)) (body : List Byte)
    (id : Option Nat) (hthawed : s.pr.state ≠ .frozen) (hready : s.startup.ready = true) (hpower : s.pins.pwrfail = false) :
    ∃ r : GrainRec, r.type = type ∧ (s.giveRecord type inst tick body id).gr.inbox = s.gr.inbox ++ [r] := by
  refine ⟨⟨type, s.grainFlags, s.fuses.epoch, s.straps.groupIdx + 4 * flag s.straps.pairId, s.grainStamp inst tick ++ body, id⟩,
    rfl, ?_⟩
  unfold State.giveRecord
  rw [if_neg (by simp [hthawed, hready]), if_neg (by simp [hpower])]
  cases id <;> rfl

/-- Settles O60: a record that enters is chained after the newest, its bytes hold its position, and the inbox is a queue. -/
theorem chainOrder : Obligations.ChainOrder := by
  refine ⟨?received, ?forwarded, ?layout, ?given⟩
  case received =>
    intro s r rest hin hthawed hrun hsigner hstarted hkept hroom
    refine ⟨_, execGrainRecord_oldest hin, ?_⟩
    rw [State.receive_room (s := { s with gr := { s.gr with inbox := rest } }) hthawed hrun hsigner hstarted hkept hroom]
    exact State.chainAt_chain _ r _ _
  case forwarded =>
    intro s r hup hon hsigner hstarted hrun hflag hroom
    refine ⟨_, execGrainForwardReceive_room hup hon hsigner hstarted hrun hflag hroom, ?_⟩
    obtain ⟨hhead, hcount, -⟩ := s.chainAt_chain { r with flags := r.flags + 4, flight := none } (s.gr.count + 1) s.gr.head
    dsimp only
    rw [State.sendFrame_gr]
    exact ⟨hhead, hcount⟩
  case layout =>
    intro r n h
    rw [length_recBytes]
    exact ⟨rfl, recBytes_fields r n h⟩
  case given =>
    exact fun s type inst tick body id hthawed hready hpower => s.giveRecord_inbox type inst tick body id hthawed hready hpower

end Sys2Proof.Machine
/-! PROOFS. The register writes of every master and the debug port (18 R488, R489, 23 R605 to R609), and the DMA engine (18 R499
to R511). -/
namespace Sys2Proof.Machine

open Sys2Proof.Safety

/-! ## Writes of registers (R12, R14, R488, R489, R497, R605, R606, R609) -/

/-- A write by a master with the path acts, after the debug port's mark (R489). -/
theorem State.writeReg_may {s : State} {m : Master} {P : Prop} {may : Bool} (h : MayWrite s m P) (hP : P → may = true)
    (o : Nat) (act : State → State) : s.writeReg m o may act = act (s.seenDebug m) := by
  cases m with
  | host =>
    obtain ⟨hup, hhost⟩ := h
    simp only [State.writeReg, hup, hP hhost, Bool.not_true, Bool.false_eq_true, if_false, if_true]
  | cc0 => simp only [State.writeReg, show s.ic.cc0Closed = false from h, Bool.false_eq_true, if_false]
  | cc1 => simp only [State.writeReg, show s.ic.cc1Closed = false from h, Bool.false_eq_true, if_false]
  | debug => simp only [State.writeReg, show s.startup.bootLock = false from h, Bool.false_eq_true, if_false]
  | dma => exact h.elim

/-- A row of a write to one of several units: the unit exists, and the master has the path. -/
theorem writeRow_may {s : State} {m : Master} {P c : Prop} [Decidable c] {may : Bool} (hc : c) (h : MayWrite s m P)
    (hP : P → may = true) (o : Nat) (act : State → State) :
    (if c then .next (s.writeReg m o may act) else .next s : Host.Outcome State Fault Refusal)
      = .next (act (s.seenDebug m)) := by
  rw [if_pos hc, State.writeReg_may h hP]

/-- The debug port's mark touches no lane. -/
@[simp] theorem State.seenDebug_lane (s : State) (m : Master) (l : Nat) : (s.seenDebug m).lane l = s.lane l := by
  unfold State.seenDebug
  split <;> rfl

/-- A write to PL_TEST_CTRL of a lane in test (R522, R524). -/
theorem State.testCtrlWrite_inTest {s : State} {l : Nat} (v : Word) (htest : (s.lane l).test ≠ 0) :
    s.testCtrlWrite l v = s.updLane l (fun k => { k with
      testCtrl := testCtrlOf l k.testCtrl v
      inject := min 65535 (k.inject + flag (bit v.toNat 8)) }) := if_neg htest

/-- A write to DMA_CTRL with none of ABORT, CONTINUE and START sets IRQ_EN and PAUSE alone (R505, R511). -/
theorem State.dmaCtrl_pauseOnly (s : State) (ch : Nat) {v : Nat} (hstart : bit v 31 = false) (hcontinue : bit v 29 = false)
    (habort : bit v 28 = false) :
    s.dmaCtrl ch v = (s.updChan ch (fun c => { c with irqEn := bit v 0 })).steer ch
      (fun c => if bit v 30 then c.paused else c.resumed) := by
  simp only [State.dmaCtrl, hstart, hcontinue, habort, Bool.false_eq_true, if_false]

/-- DMA_CTRL written with PAUSE 1 (R505). -/
theorem State.dmaCtrl_pause (s : State) (ch : Nat) (e : Bool) :
    s.dmaCtrl ch (1073741824 + flag e) = (s.updChan ch (fun c => { c with irqEn := e })).steer ch Chan.paused := by
  cases e <;> exact s.dmaCtrl_pauseOnly ch (by decide) (by decide) (by decide)

/-- DMA_CTRL written with PAUSE 0 (R505). -/
theorem State.dmaCtrl_resume (s : State) (ch : Nat) (e : Bool) :
    s.dmaCtrl ch (flag e) = (s.updChan ch (fun c => { c with irqEn := e })).steer ch Chan.resumed := by
  cases e <;> exact s.dmaCtrl_pauseOnly ch (by decide) (by decide) (by decide)

/-- One write by a master with the path: a whole word is written, and fewer bytes have no effect (R606). -/
theorem State.writeOne_may {s : State} {m : Master} {o : Nat} (h : MayWrite s m (s.hostMay o = true)) (whole : Bool)
    (v : Word) : s.writeOne m whole o v = if whole then (s.seenDebug m).regWrite o v else s.seenDebug m :=
  State.writeReg_may h (fun hmay => by rw [hmay, Bool.true_or]) ..

/-- An aligned 32-bit access is one write of its register (R606). -/
theorem State.writeAcc_one (s : State) (m : Master) {o : Nat} (v : Nat) (ho : o % 4 = 0) :
    s.writeAcc m ⟨o, 4⟩ v = s.writeOne m true o (BitVec.ofNat 32 v) := by
  simp [State.writeAcc, Access.words_one ho]

/-- REGISTER_WRITE outside the debug unit, or by a master that does not reach it, writes its words. -/
theorem execRegisterWrite_clear {s : State} {m : Master} {a : Access} {v : Nat}
    (h : (a.words.any inDebugBlock && s.reachesDebug m) = false) : execRegisterWrite m a v s = .next (s.writeAcc m a v) :=
  if_neg (by rw [h]; decide)

/-- A register that the host may not write refuses its write and counts it (R609). -/
theorem State.writeOne_denied {s : State} {o : Nat} (whole : Bool) (v : Word) (hup : s.ucieUp = true)
    (hmay : s.hostMay o = false) (hreg : isRegister o = true) : s.writeOne .host whole o v = s.denied o := by
  have hrefused : (s.hostMay o || !(isRegister o || inDebugBlock o)) = false := by rw [hmay, hreg]; rfl
  simp only [State.writeOne, State.writeReg, hup, hrefused, Bool.not_true, Bool.false_eq_true, if_false]
  rfl

/-- Settles O16: a master with the path gets its write done; every other case is one of `State.writeReg`. -/
theorem registerWriteRows : Obligations.RegisterWriteRows := by
  refine ⟨?start, ?pause, ?resume, ?goOn, ?abort, ?cqHead, ?testCtrl, ?inject, ?wide, ?one, ?part, ?denied, ?down,
    ?closed0, ?closed1, ?engine, ?locked⟩
  case start => exact fun m ch s ⟨hch, hm⟩ => writeRow_may hch hm decide_eq_true ..
  case pause =>
    exact fun m ch s ⟨hch, hm⟩ => (writeRow_may hch hm decide_eq_true ..).trans
      (congrArg Host.Outcome.next (State.dmaCtrl_pause ..))
  case resume =>
    exact fun m ch s ⟨hch, hm⟩ => (writeRow_may hch hm decide_eq_true ..).trans
      (congrArg Host.Outcome.next (State.dmaCtrl_resume ..))
  case goOn => exact fun m ch s ⟨hch, hm⟩ => writeRow_may hch hm decide_eq_true ..
  case abort => exact fun m ch s ⟨hch, hm⟩ => writeRow_may hch hm decide_eq_true ..
  case cqHead => exact fun m ch v s ⟨hch, hm⟩ => writeRow_may hch hm decide_eq_true ..
  case testCtrl =>
    exact fun m l v s ⟨hl, htest, hm⟩ => (writeRow_may hl hm (fun _ => bne_iff_ne.2 htest) ..).trans
      (congrArg Host.Outcome.next (State.testCtrlWrite_inTest v (by rwa [State.seenDebug_lane])))
  case inject =>
    intro m l s ⟨hl, htest, hm⟩
    refine (writeRow_may hl hm (fun _ => bne_iff_ne.2 htest) ..).trans ?_
    rw [State.seenDebug_lane]
  case wide => exact fun m a v s h => execRegisterWrite_clear h
  case one =>
    intro m off v hoff s ⟨hm, hclear⟩
    refine (execRegisterWrite_clear ?_).trans ?_
    · rw [Access.words_one hoff]
      obtain hout | rfl := hclear
      · simp [hout]
      · simp [State.reachesDebug]
    · rw [State.writeAcc_one s m v hoff, State.writeOne_may hm, if_pos rfl]
  case part => exact fun s m off v hm => State.writeOne_may hm false v
  case denied => exact fun s whole off v hup hmay hreg => State.writeOne_denied whole v hup hmay hreg
  case down => exact fun s whole off v hdown => if_pos (by rw [hdown]; rfl)
  case closed0 => exact fun s whole off v hclosed => if_pos hclosed
  case closed1 => exact fun s whole off v hclosed => if_pos hclosed
  case engine => exact fun s whole off v => rfl
  case locked => exact fun s whole off v hlock => if_pos hlock

/-! ## The debug port (R488, R489) -/

/-- DEBUG_PORT_TRANSACTION at a register outside the debug unit, or a write once BOOT_LOCK is set, is that access. -/
theorem execDebugPortTransaction_register {s : State} {w : Bool} {o n : Nat} (v : Nat) (ho : o < 0x4000000)
    (hclear : (⟨o, n⟩ : Access).words.any inDebugBlock = false ∨ w = true ∧ s.startup.bootLock = true) :
    execDebugPortTransaction w ⟨0x40000000 + o, n⟩ v s =
      .next (if w then s.writeAcc .debug ⟨o, n⟩ v else s.readReg .debug ⟨o, n⟩) := by
  have hrange : 0x40000000 ≤ 0x40000000 + o ∧ 0x40000000 + o < 0x44000000 := by omega
  have hopen : ((⟨o, n⟩ : Access).words.any inDebugBlock && (!w || !s.startup.bootLock)) = false := by
    obtain hout | ⟨hw, hlock⟩ := hclear
    · rw [hout, Bool.false_and]
    · rw [hw, hlock, Bool.not_true, Bool.or_self, Bool.and_false]
  simp only [execDebugPortTransaction, if_pos hrange, Nat.add_sub_cancel_left, hopen, Bool.false_eq_true, if_false]

/-- DEBUG_PORT_TRANSACTION below the registers on a path of the port is an access of a memory (R488). -/
theorem execDebugPortTransaction_memory {s : State} {w : Bool} {a : Access} (v : Nat) (ha : a.off < 0x40000000)
    (hpath : s.debugPath w a.off a.size = true) :
    execDebugPortTransaction w a v s = .next (if w then (s.seenDebug .debug).dmaWrite false a.off (leBytes a.size v)
      else (s.seenDebug .debug).drawFree.returnData .debug ((s.seenDebug .debug).debugBytes a.off a.size)) :=
  (if_neg (by omega)).trans (if_pos hpath)

/-- DEBUG_PORT_TRANSACTION above the registers on no path of the port is a decode error (R488). -/
theorem execDebugPortTransaction_decode {s : State} {w : Bool} {a : Access} (v : Nat) (ha : 0x44000000 ≤ a.off)
    (hpath : s.debugPath w a.off a.size = false) :
    execDebugPortTransaction w a v s = .next ((s.seenDebug .debug).icError .debug false w false a.off) :=
  (if_neg (by omega)).trans (if_neg (by rw [hpath]; decide))

/-- Settles O17: each clause is a region of the device's addresses. -/
theorem debugPortRow : Obligations.DebugPortRow := by
  refine ⟨?write, ?one, ?read, ?store, ?load, ?decode⟩
  case write =>
    exact fun o n v s ⟨ho, hclear⟩ => execDebugPortTransaction_register v ho (hclear.imp_right fun hlock => ⟨rfl, hlock⟩)
  case one =>
    intro o v hword s ⟨ho, hout, hfree⟩
    refine (execDebugPortTransaction_register v ho (.inl ?_)).trans ?_
    · rw [Access.words_one hword]
      simp [hout]
    · have hmay : MayWrite s .debug (s.hostMay o = true) := hfree
      rw [if_pos rfl, State.writeAcc_one s .debug v hword, State.writeOne_may hmay, if_pos rfl]
  case read =>
    intro o n v s ⟨ho, hout⟩
    refine (execDebugPortTransaction_register v ho (.inl hout)).trans ?_
    rw [if_neg Bool.false_ne_true, State.readReg_mayRead ⟨o, n⟩ (by decide) rfl]
  case store => exact fun a v s ⟨ha, hpath⟩ => execDebugPortTransaction_memory v ha hpath
  case load => exact fun a v s ⟨ha, hpath⟩ => execDebugPortTransaction_memory v ha hpath
  case decode => exact fun w a v s ⟨ha, hpath⟩ => execDebugPortTransaction_decode v ha hpath

/-! ## Descriptors (R500 to R503, R508, R509) -/

/-- A channel between descriptors, whose chain goes on: it holds none and is not paused, and its budget is not spent (R502,
R505, R509). -/
structure Chan.Between (c : Chan) : Prop where
  state : c.state = 1 ∨ c.state = 2
  image : c.image = []
  pause : c.pause = false
  budget : c.done < c.budgetIn

/-- DMA_DESCRIPTOR_START of a channel between descriptors waits for room, then fetches (R500, R502). -/
theorem execDmaDescriptorStart_between {s : State} {ch : Nat} (hch : ch < 16) (h : (s.chan ch).Between) :
    execDmaDescriptorStart ch s =
      if !(s.chan ch).room then .next (s.updChan ch (fun k => { k with state := 2 }))
      else if !s.dmaOk ch (s.chan ch).cur 32 then
        .next ((s.noPath ch (s.chan ch).cur false).dmaError ch (s.chan ch).cur false 1)
      else .next (
        let t := s.updChan ch (fun k => { k with
          state := 1
          image := s.dmaRead (decide (8 ≤ ch)) (s.chan ch).cur 32
          moved := 0 })
        if t.badDescriptor ch (t.chan ch) then t.dmaHalted ch 4
        else t.updChan ch (fun k => { k with remain := k.len })) := by
  obtain ⟨hstate, himage, hpause, hbudget⟩ := h
  have hguard : ¬(16 ≤ ch ∨ ((s.chan ch).state ≠ 1 ∧ (s.chan ch).state ≠ 2) ∨ !(s.chan ch).image.isEmpty
      ∨ (s.chan ch).pause ∨ (s.chan ch).budgetIn ≤ (s.chan ch).done) := by
    simp only [himage, hpause, List.isEmpty_nil, Bool.not_true, Bool.false_eq_true, false_or]
    omega
  rw [apply_ite Host.Outcome.next]
  exact if_neg hguard

/-- Settles O32: room in the completion queue is the first thing that a channel between descriptors needs. -/
theorem queueRoom : Obligations.QueueRoom := by
  refine ⟨fun c s ⟨hc, hstate, himage, hpause, hbudget, hroom, hok⟩ => ?fetched,
    fun c s ⟨hc, hstate, himage, hpause, hbudget, hfull⟩ => ?waiting⟩
  case fetched =>
    refine (execDmaDescriptorStart_between hc ⟨hstate, himage, hpause, hbudget⟩).trans ?_
    rw [show (s.chan c).room = true from decide_eq_true hroom, hok]
    rfl
  case waiting =>
    refine (execDmaDescriptorStart_between hc ⟨hstate, himage, hpause, hbudget⟩).trans ?_
    rw [show (s.chan c).room = false from decide_eq_false (Nat.not_lt.2 hfull)]
    rfl

/-- DMA_DESCRIPTOR_COMPLETE of a channel that has moved all of its descriptor while it runs: the chain goes on, unless the
completion's queue has halted it (R503, R508). -/
theorem execDmaDescriptorComplete_running {s : State} {ch : Nat} (hch : ch < 16) (himage : (s.chan ch).image ≠ [])
    (hmoved : (s.chan ch).moved = (s.chan ch).len) (hstate : (s.chan ch).state = 1) :
    execDmaDescriptorComplete ch s = .next (
      if ((s.flushAndPost ch).chan ch).state = 5 then s.flushAndPost ch
      else (s.flushAndPost ch).leaveDescriptor ch (s.chan ch)) := by
  have hguard : ¬(16 ≤ ch ∨ (s.chan ch).image.isEmpty ∨ (s.chan ch).moved ≠ (s.chan ch).len ∨ (s.chan ch).state = 0
      ∨ (s.chan ch).state = 4 ∨ (s.chan ch).state = 5) := by
    simp only [List.isEmpty_iff, himage, false_or]
    omega
  rw [apply_ite Host.Outcome.next]
  exact if_neg hguard

/-- DMA_HALT of a channel with a descriptor in progress (R508). -/
theorem execDmaHalt_inProgress {s : State} {ch : Nat} (e : DmaError) (hch : ch < 16) (himage : (s.chan ch).image ≠ [])
    (hstate : (s.chan ch).state = 1 ∨ (s.chan ch).state = 2 ∨ (s.chan ch).state = 3) :
    execDmaHalt ch e s = .next (s.dmaError ch e.addr e.write (if e.timeout then 2 else 1)) := by
  refine if_neg ?_
  simp only [List.isEmpty_iff, himage, false_or]
  omega

/-- DMA_LOOP_SUSPECT of a channel between descriptors whose budget is spent, with room for its completion (R509). -/
theorem execDmaLoopSuspect_spent {s : State} {ch : Nat} (hch : ch < 16)
    (hstate : (s.chan ch).state = 1 ∨ (s.chan ch).state = 2) (himage : (s.chan ch).image = [])
    (hspent : (s.chan ch).budgetIn ≤ (s.chan ch).done) (hroom : (s.chan ch).room = true) :
    execDmaLoopSuspect ch s = .next (s.dmaHalted ch 3) := by
  refine if_neg ?_
  simp only [himage, hroom, List.isEmpty_nil, Bool.not_true, Bool.false_eq_true, false_or, or_false]
  omega

/-- DMA_PACE_REQUEST of a paced channel that does not follow the staging ring (R506). -/
theorem execDmaPaceRequest_paced {s : State} {ch : Nat} (n : Nat) (hch : ch < 16) (hown : ch = 7 → s.gr.started = false)
    (hpace : (s.chan ch).pace ≠ 0) : execDmaPaceRequest ch n s = .next (s.updChan ch (fun k => k.filled n)) := by
  have hring : ¬(ch = 7 ∧ s.gr.started = true) := fun ⟨hseven, hstarted⟩ => by
    rw [hown hseven] at hstarted
    cases hstarted
  exact (if_neg (Nat.not_le.2 hch)).trans ((if_neg hring).trans (if_neg hpace))

/-- DMA_PACE_REQUEST of channel 7 while the log runs follows the staging ring, whatever fill is named (R438). -/
theorem execDmaPaceRequest_ring {s : State} (n : Nat) (hstarted : s.gr.started = true) :
    execDmaPaceRequest 7 n s = .next (
      let on := pacing s.gr.upload s.gr.highWm s.gr.lowWm s.gr.fill
      State.updChan { s with gr := { s.gr with upload := on } } 7 (fun c => { c with
        fill := s.gr.fill
        req := on || s.gr.drain })) :=
  (if_neg (by decide)).trans (if_pos ⟨rfl, hstarted⟩)

/-- Settles O33, row by row: the condition of each clause is the guard of its row. -/
theorem dmaRows : Obligations.DmaRows := by
  refine ⟨?block, ?upload, ?complete, ?halt, ?loop, ?pace, ?ring⟩
  case block =>
    intro c s ⟨hserves, hown⟩
    have hring : ¬(c = 7 ∧ s.uploads = true) := fun ⟨hseven, huploads⟩ => by
      rw [hown hseven] at huploads
      cases huploads
    exact (if_pos hserves).trans (congrArg Host.Outcome.next (if_neg hring))
  case upload =>
    exact fun s ⟨hserves, huploads⟩ => (if_pos hserves).trans (congrArg Host.Outcome.next (if_pos ⟨rfl, huploads⟩))
  case complete =>
    exact fun c s ⟨hc, himage, hmoved, hstate⟩ => execDmaDescriptorComplete_running hc himage hmoved hstate
  case halt => exact fun c e s ⟨hc, himage, hstate⟩ => execDmaHalt_inProgress e hc himage hstate
  case loop =>
    exact fun c s ⟨hc, hstate, himage, hspent, hroom⟩ => execDmaLoopSuspect_spent hc hstate himage hspent hroom
  case pace => exact fun c n s ⟨hc, hown, hpace⟩ => execDmaPaceRequest_paced n hc hown hpace
  case ring => exact fun n s hstarted => execDmaPaceRequest_ring n hstarted

end Sys2Proof.Machine
/-! PROOFS. Power, lanes and ports, resets and start-up (17 R479 to R487, chapters 19 and 21): their commands, the resets by
command and by pin, start-up's steps, and the observations of the power controller. -/
namespace Sys2Proof.Machine

open Sys2Proof.Safety

/-! ## The power, lane and port commands (R361, R479 to R487, R511 to R540, R584 to R589) -/

/-- Settles O10: each row runs its command, whose effect is that of the statement. -/
theorem powerLaneAndPortCommandsComplete : Obligations.PowerLaneAndPortCommandsComplete := by
  refine ⟨?tolerance, ?pin, ?status, ?lane, ?eq, ?slip, ?prbs, ?eye, ?port, ?macsec⟩
  case tolerance => exact atOnce_done rfl rfl fun _ _ => rfl
  case pin => exact atOnce_done rfl rfl fun _ _ => rfl
  case status => exact atOnce_of_row rfl rfl fun _ _ => rfl
  case lane => exact atOnce_done rfl rfl fun _ _ => rfl
  case eq => exact atOnce_done rfl rfl fun _ _ => rfl
  case slip => exact atOnce_done rfl rfl fun _ _ => rfl
  case prbs => exact atOnce_of_row rfl rfl fun _ _ => rfl
  case eye => exact begins_of_row rfl fun _ _ => rfl
  case port => exact atOnce_done rfl rfl fun _ _ => rfl
  case macsec => exact atOnce_of_row rfl rfl fun _ _ => rfl

/-! ## The power controller (R585 to R589) -/

/-- PWR_DOMAIN_IDLE of a domain that may leave ON, by what it finds (R586). -/
theorem execPwrDomainIdle_managed {s : State} {d : Nat} (hlo : 7 ≤ d) (hhi : d < 48) :
    execPwrDomainIdle d s =
      if s.live d then .next (s.wakeAll [d])
      else if (s.pdom d).idleSince.isNone then .next (s.updPdom d (fun k => { k with idleSince := some s.clk }))
      else if s.idleLong d then .next (s.settlePower d)
      else .next s := if_neg (by omega)

/-- PWR_WAKE_TIMEOUT of a wake that has not ended in its time: source 212 fires, and the domain wakes once more or stays OFF
(R589). -/
theorem execPwrWakeTimeout_late {s : State} {d : Nat} (hwaking : (s.pdom d).waking = true)
    (hlate : (s.pdom d).wakeAt < s.clk) :
    execPwrWakeTimeout d s =
      if (s.pdom d).second then
        .next ((((s.losePower d).strike 212 0xFFFF).setPdom d { s.pdom d with
          state := 3
          waking := false
          second := false
          failed := true }).wakeFailed d)
      else .next (((s.losePower d).strike 212 0xFFFF).setPdom d { s.pdom d with
        state := 3
        second := true
        wakeFrom := s.clk
        wakeAt := s.clk + tuUs (offWakeUs d) }) := if_pos ⟨hwaking, hlate⟩

/-- PWR_DOMAIN_ENTRY_COMPLETE of an entry under way (R585). -/
theorem execPwrDomainEntryComplete_entering {s : State} {d n : Nat} (hentering : (s.pdom d).entering = some n) :
    execPwrDomainEntryComplete d s = .next (
      let t := s.updPdom d (fun k => { k with state := n, entering := none })
      if n = 3 then t.losePower d else t) := by
  simp only [execPwrDomainEntryComplete, hentering]

/-! ## PWRFAIL_N and the sensors (R443, R444, R549, R603) -/

/-- PWRFAIL_DEASSERT while the log has not stopped ends the cause of source 210 and no more (R444). -/
theorem execPwrfailDeassert_running {s : State} (hfail : s.pins.pwrfail = true)
    (hrun : (State.level { s with pins := { s.pins with pwrfail := false } } 210 false 0xFFFF).gr.stopped = false) :
    execPwrfailDeassert s = .next (State.level { s with pins := { s.pins with pwrfail := false } } 210 false 0xFFFF) :=
  (if_pos hfail).trans (if_neg (by rw [hrun]; decide))

/-- TEMPERATURE_SAMPLE of the 32 sensors: sources 208 and 209 follow the hottest of the router die (R603). -/
theorem execTemperatureSample_read {s : State} {l : List Int} {h : Int} (hlen : l.length = 32)
    (hhot : State.hottest { s with glb := { s.glb with temps := l } } = some h) :
    execTemperatureSample l s =
      .next ((State.thermal { s with glb := { s.glb with temps := l } } 208 100 h).thermal 209 105 h) := by
  simp only [execTemperatureSample, if_pos hlen, hhot]

/-- Settles O21, row by row: the condition of each clause is the guard of its row. -/
theorem powerRows : Obligations.PowerRows := by
  refine ⟨?serving, ?noted, ?idle, ?woken, ?again, ?failed, ?entered, ?powerFails, ?lastSeal, ?powerGood, ?osc, ?temps⟩
  case serving => exact fun d s ⟨hlo, hhi, hlive⟩ => (execPwrDomainIdle_managed hlo hhi).trans (if_pos hlive)
  case noted =>
    intro d s ⟨hlo, hhi, hidle, hnew⟩
    refine (execPwrDomainIdle_managed hlo hhi).trans ?_
    rw [hidle, hnew]
    rfl
  case idle =>
    intro d s ⟨hlo, hhi, hidle, hold, hlong⟩
    refine (execPwrDomainIdle_managed hlo hhi).trans ?_
    rw [if_neg (by rw [hidle]; decide), if_neg (by simpa using hold), if_pos hlong]
  case woken => exact fun d us s h => if_pos h
  case again =>
    exact fun d s ⟨hwaking, hlate, hfirst⟩ => (execPwrWakeTimeout_late hwaking hlate).trans
      (if_neg (by rw [hfirst]; decide))
  case failed => exact fun d s ⟨hwaking, hlate, hsecond⟩ => (execPwrWakeTimeout_late hwaking hlate).trans (if_pos hsecond)
  case entered => exact fun d n s hentering => execPwrDomainEntryComplete_entering hentering
  case powerFails => exact fun s ⟨hgood, hreset⟩ => if_neg (by rw [hgood, hreset]; decide)
  case lastSeal => exact fun s ⟨hfail, hrun⟩ => if_pos ⟨hfail, by rw [hrun]; rfl⟩
  case powerGood => exact fun s ⟨hfail, hrun⟩ => execPwrfailDeassert_running hfail hrun
  case osc => exact fun s _ => rfl
  case temps => exact fun l h s ⟨hlen, hhot⟩ => execTemperatureSample_read hlen hhot

/-! ## Resets by command (R571 to R573) -/

/-- A write to MB_RESET that R571 obeys: its key and its KIND, from an engineering session of rank 0, with source 2 latched for
a CC-only reset, while no reset fires. -/
structure ResetAsked (s : State) (mb : Nat) (v : Word) (kind : Nat) : Prop where
  free : s.boot.firing = none
  key : bitsOf v.toNat 31 16 = 0xD1A1
  named : v.toNat % 4 = kind
  session : (s.mbox mb).isOpen = true
  rank : (s.mbox mb).rank = 0
  role : bit (s.mbox mb).roles 1 = true
  cause : kind = 1 ∨ kind = 2 ∧ (s.fault 2).latched = true

section Reset
variable {s : State} {mb : Nat} {v : Word} {kind : Nat} (h : ResetAsked s mb v kind)
include h

/-- The value that arms: the key and the KIND, without the reserved bits (R10). -/
theorem ResetAsked.value : v.toNat / 65536 * 65536 + v.toNat % 4 = 0xD1A10000 + kind := by
  have hkey := h.key
  have hlt := v.isLt
  rw [h.named]
  unfold bitsOf at hkey
  omega

/-- The conditions of R571 hold of it. -/
theorem ResetAsked.allowed :
    (bitsOf (v.toNat / 65536 * 65536 + v.toNat % 4) 31 16 == 0xD1A1 && (v.toNat % 4 == 1 || v.toNat % 4 == 2)
      && (s.mbox mb).isOpen && (s.mbox mb).rank == 0 && bit (s.mbox mb).roles 1
      && (v.toNat % 4 == 1 || (s.fault 2).latched)) = true := by
  obtain ⟨-, hkey, hnamed, hsession, hrank, hrole, hcause⟩ := h
  rw [bitsOf_key, hkey, hnamed, hsession, hrank, hrole]
  obtain rfl | ⟨rfl, hlatched⟩ := hcause
  · rfl
  · rw [hlatched]
    rfl

/-- Such a write fires when its mailbox has armed the same less than 1 ms before, and arms otherwise (R571). -/
theorem State.resetWrite_asked :
    s.resetWrite mb v =
      if s.boot.armed.any (fun a => a.1 == mb && a.2.1 == 0xD1A10000 + kind && decide (s.clk < a.2.2 + tuMs 1)) then
        (if kind = 1 then s.fireDevice else s.fireCcOnly)
      else { s with boot := { s.boot with
        armed := s.boot.armed.filter (fun a => a.1 != mb) ++ [(mb, 0xD1A10000 + kind, s.clk)] } } := by
  have hok := h.allowed
  unfold State.resetWrite
  dsimp only
  rw [h.free, hok, h.value, h.named]
  rfl

/-- The first write arms (R571). -/
theorem State.resetWrite_first (hnone : s.boot.armed = []) :
    s.resetWrite mb v = { s with boot := { s.boot with armed := [(mb, 0xD1A10000 + kind, s.clk)] } } := by
  rw [State.resetWrite_asked h, hnone]
  rfl

/-- The second within 1 ms fires (R571). -/
theorem State.resetWrite_second {t : Nat} (harmed : s.boot.armed = [(mb, 0xD1A10000 + kind, t)]) (hsoon : s.clk < t + tuMs 1) :
    s.resetWrite mb v = if kind = 1 then s.fireDevice else s.fireCcOnly := by
  rw [State.resetWrite_asked h, harmed]
  exact if_pos (by simp [hsoon])

end Reset

/-- A write to MB_RESET arrives while the UCIe link is up (R14). -/
theorem resetRow_up {s : State} {mb : Nat} {v : Word} (hmb : mb < 16) (hup : s.ucieUp = true) :
    (if mb < 16 then Host.Outcome.next (s.fromHost (s.resetWrite mb v)) else .next s)
      = (.next (s.resetWrite mb v) : Host.Outcome State Fault Refusal) := by
  rw [if_pos hmb, State.fromHost, if_pos hup]

/-- Settles O18: the first write arms and the second fires, of either KIND. -/
theorem resetCommandRows : Obligations.ResetCommandRows := by
  refine ⟨?armDevice, ?fireDevice, ?armCcOnly, ?fireCcOnly, fun s _ => rfl⟩
  case armDevice =>
    intro mb v s ⟨hmb, hup, hkey, hkind, hsession, hrank, hrole, hfree, hnone⟩
    exact (resetRow_up hmb hup).trans (congrArg Host.Outcome.next
      (State.resetWrite_first ⟨hfree, hkey, hkind, hsession, hrank, hrole, .inl rfl⟩ hnone))
  case fireDevice =>
    intro mb v t s ⟨hmb, hup, hkey, hkind, hsession, hrank, hrole, hfree, harmed, hsoon⟩
    exact (resetRow_up hmb hup).trans (congrArg Host.Outcome.next
      (State.resetWrite_second ⟨hfree, hkey, hkind, hsession, hrank, hrole, .inl rfl⟩ harmed hsoon))
  case armCcOnly =>
    intro mb v s ⟨hmb, hup, hkey, hkind, hsession, hrank, hrole, hlatched, hfree, hnone⟩
    exact (resetRow_up hmb hup).trans (congrArg Host.Outcome.next
      (State.resetWrite_first ⟨hfree, hkey, hkind, hsession, hrank, hrole, .inr ⟨rfl, hlatched⟩⟩ hnone))
  case fireCcOnly =>
    intro mb v t s ⟨hmb, hup, hkey, hkind, hsession, hrank, hrole, hlatched, hfree, harmed, hsoon⟩
    exact (resetRow_up hmb hup).trans (congrArg Host.Outcome.next
      (State.resetWrite_second ⟨hfree, hkey, hkind, hsession, hrank, hrole, .inr ⟨rfl, hlatched⟩⟩ harmed hsoon))

/-! ## Power-on, RESET_N and THERMTRIP (R405, R546, R547, R570, R576, R604) -/

/-- The burn of a power-on with bits unblown: the epoch rises when one of the bits tried reads blown, and start-up is held
when none does (R405). -/
theorem State.burnEpoch_waiting {s : State} {burns : List Bool} (hwaits : s.startup.burns = some burns)
    (hroom : s.fuses.epoch < 4096) :
    s.burnEpoch = if (burns.take (burnable s.fuses.epoch)).any id then { s with
        fuses := { s.fuses with epoch := s.fuses.epoch + 1 }
        startup := { s.startup with burns := none } }
      else State.holdAt { s with startup := { s.startup with burns := none } } 1 2 := by
  simp only [State.burnEpoch, hwaits]
  exact if_neg (Nat.not_le.2 hroom)

/-- Nothing is burned when no bit waits or all are blown (R405, R406). -/
theorem State.burnEpoch_fuses {s : State} (h : 4096 ≤ s.fuses.epoch ∨ s.startup.burns = none) :
    s.burnEpoch.fuses = s.fuses := by
  cases hwaits : s.startup.burns with
  | none => simp only [State.burnEpoch, hwaits]
  | some burns =>
    have hfull : 4096 ≤ s.fuses.epoch := h.resolve_right (by rw [hwaits]; exact Option.some_ne_none _)
    simp only [State.burnEpoch, hwaits, if_pos hfull]

/-- Start-up that fuse sensing or the root check stops burns nothing and is held (R400, R405, R580). -/
theorem State.startUp_refused {s : State} {b : BootTests}
    (h : b.fuseOk = false ∨ b.rootOk = false ∨ s.fuses.rootGood = false) :
    (s.startUp b).fuses = s.fuses ∧ (s.startUp b).startup.stopped = true := by
  unfold State.startUp
  dsimp only
  generalize hu : State.boardLevels _ = u
  have hfuses : u.fuses = s.fuses := by
    rw [← hu]
    exact congrArg (fun k : Still => k.fixed.fuses) (State.boardLevels_still _)
  split
  next => exact ⟨hfuses, rfl⟩
  next hsensed =>
    have hbad : (!(b.rootOk && u.fuses.rootGood)) = true := by
      rw [hfuses, Bool.not_eq_true', Bool.and_eq_false_iff]
      exact h.resolve_left fun hfuse => hsensed (by rw [hfuse]; rfl)
    rw [if_pos hbad]
    exact ⟨hfuses, rfl⟩

/-- RESET_N_RELEASE of a device that start-up has not stopped and that is cool enough, or whose trip does not hold it: the straps
are sampled and start-up runs (R547, R576, R604). -/
theorem execResetNRelease_starts {s : State} (index : Nat) (pid : Bool) (b : BootTests) (hreset : s.pins.resetN = false)
    (hrun : s.startup.stopped = false) (hcool : s.glb.thermalHold = false ∨ s.coolEnough = true) :
    execResetNRelease index pid b s = .next (State.startUp { s with
      straps := { groupIdx := index % 4, pairId := pid }
      pins := { s.pins with resetN := true, pwrfail := false }
      glb := { s.glb with thermalHold := false } } b) := by
  have hhold : ¬(s.startup.stopped = true ∨ (s.glb.thermalHold = true ∧ (!s.coolEnough) = true)) := by
    rw [hrun]
    rcases hcool with hcold | hcool
    · simp [hcold]
    · simp [hcool]
  exact (if_neg (by rw [hreset]; decide)).trans (if_neg hhold)

/-- THERMAL_TRIP with a router-die sensor at 120 °C or more (R604). -/
theorem execThermalTrip_hot {s : State} {h : Int} (hhot : s.hottest = some h) (htrip : 1920 ≤ h) :
    execThermalTrip s = .next (
      let t := s.cleared .thermal
      { t with glb := { t.glb with tempTripped := true, thermalHold := true } }) := by
  simp only [execThermalTrip, hhot, if_pos htrip]

/-- Settles O19: each clause is a case of its row, or of the part of start-up that it speaks of. -/
theorem resetPinRows : Obligations.ResetPinRows := by
  refine ⟨?powerOn, ?burned, ?unread, ?unburned, ?refused, ?assert, ?release, ?trip⟩
  case powerOn => exact fun burns s _ => rfl
  case burned => exact fun s burns hwaits hroom hread => (State.burnEpoch_waiting hwaits hroom).trans (if_pos hread)
  case unread =>
    exact fun s burns hwaits hroom hnone => (State.burnEpoch_waiting hwaits hroom).trans (if_neg (by rw [hnone]; decide))
  case unburned => exact fun s h => State.burnEpoch_fuses h
  case refused => exact fun s b h => State.startUp_refused h
  case assert => exact fun s hhigh => if_pos hhigh
  case release => exact fun index pid b s ⟨hreset, hrun, hcool⟩ => execResetNRelease_starts index pid b hreset hrun hcool
  case trip => exact fun h s ⟨hhot, htrip⟩ => execThermalTrip_hot hhot htrip

/-! ## The steps of start-up (R572, R573, R578 to R582) -/

/-- DEVICE_RESET_ROUTER_DIE once the wait of R572 is over. -/
theorem execDeviceResetRouterDie_due {s : State} {since : Nat} (b : BootTests)
    (hfires : s.boot.firing = some (.device, since)) (hdue : s.routerDue since = true) :
    execDeviceResetRouterDie b s = .next ((s.cleared .device).startUp b) := by
  simp only [execDeviceResetRouterDie, hfires, if_pos hdue]

/-- CC_ONLY_RESET_RELEASE after 10 µs, with the ROM and a cluster good: start-up goes on at step 4 (R573, R580). -/
theorem execCcOnlyResetRelease_good {s : State} {b : BootTests} {since : Nat}
    (hfires : s.boot.firing = some (.ccOnly, since)) (hpast : s.passed since (tuUs 10) = true) (hrom : b.romOk = true)
    (hrun : (State.clusterTests { s with boot := { s.boot with firing := none } } b).startup.stopped = false) :
    execCcOnlyResetRelease b s = .next (
      let v := State.clusterTests { s with boot := { s.boot with firing := none } } b
      { v with startup := { v.startup with stage := 4 } }) := by
  simp only [execCcOnlyResetRelease, hfires, hpast, hrom, hrun, Bool.not_true, Bool.false_eq_true, if_false, if_true]

/-- IMAGE_ACCEPT of an image that is refused: start-up waits for another at step 4 (R574, R579). -/
theorem execImageAccept_refused {s : State} {img : Image} {code : Nat} (hstage : s.startup.stage = 5)
    (hrun : s.startup.stopped = false) (hstop : s.imageStop img = some code) :
    execImageAccept img s = .next { s with startup := { s.startup with
      stage := 4
      stop := code
      attempts := satAdd 255 s.startup.attempts 1 } } := by
  simp only [execImageAccept, hstage, hrun, hstop, Bool.not_false, and_self, if_true]

/-- READY at step 6, by the kind of reset (R573, R581, R582). -/
theorem execReady_due {s : State} (hbm : List Bool) (hstage : s.startup.stage = 6) (hrun : s.startup.stopped = false) :
    execReady hbm s =
      if s.startup.ccOnly then .next s.readyUp.thaw.clusterSources
      else if (!trained hbm 0 && !trained hbm 2) || (!trained hbm 1 && !trained hbm 3) then .next (s.holdAt 6 8)
      else .next (((s.untrained hbm).readyUp).refreshClamp.clusterSources) :=
  if_neg (by rw [hstage, hrun]; decide)

/-- Settles O20, row by row: the condition of each clause is the guard of its row. -/
theorem startUpRows : Obligations.StartUpRows := by
  refine ⟨?routerDie, ?clusters, ?ucie, ?go, ?accepted, ?refused, ?ready, ?thawed⟩
  case routerDie => exact fun b since s ⟨hfires, hdue⟩ => execDeviceResetRouterDie_due b hfires hdue
  case clusters => exact fun b since s ⟨hfires, hpast, hrom, hrun⟩ => execCcOnlyResetRelease_good hfires hpast hrom hrun
  case ucie => exact fun s ⟨hstage, hrun, hpast⟩ => if_pos ⟨hstage, by rw [hrun]; rfl, hpast⟩
  case go => exact fun v s ⟨hstage, hrun, hgo⟩ => if_pos ⟨hstage, by rw [hrun]; rfl, hgo⟩
  case accepted => exact fun img s ⟨hstage, hrun, hok⟩ => execImageAccept_accepted hstage hrun hok
  case refused => exact fun img code s ⟨hstage, hrun, hstop⟩ => execImageAccept_refused hstage hrun hstop
  case ready =>
    intro hbm s ⟨hstage, hrun, hfull, heven, hodd⟩
    have hpairs : ((!trained hbm 0 && !trained hbm 2) || (!trained hbm 1 && !trained hbm 3)) = false := by
      rw [← Bool.not_or, ← Bool.not_or, heven, hodd]
      rfl
    refine (execReady_due hbm hstage hrun).trans ?_
    rw [hfull, hpairs]
    rfl
  case thawed =>
    intro hbm s ⟨hstage, hrun, hcc, hfrozen⟩
    refine (execReady_due hbm hstage hrun).trans ((if_pos hcc).trans ?_)
    rw [State.thaw, if_pos (show s.readyUp.pr.state = .frozen from hfrozen)]

end Sys2Proof.Machine
